-- ==== Sys2Proof/Word.lean ====
section
/-!
DEFINITION. The bytes and words that travel on the part's ports, and the plainest arithmetic on them.
-/
namespace Sys2Proof

/-- A byte of a port or of a stored string. -/
abbrev Byte := BitVec 8

/-- An instruction word of the loop engine, or a 32-bit word of a container. -/
abbrev Word32 := BitVec 32

end Sys2Proof
end

