-- ==== Sys2Proof/Syntax.lean ====
section
/-!
DEFINITION. The commands: `Instr`, one constructor per row of the table of operations and events, and the plain data
they carry.
-/
namespace Sys2Proof

/-- The level at a channel's shunt in µV, or of its gate drive in mV (03_load_channels.md R129, R130). -/
structure ChannelLevel where
  channel : Fin 16
  level : Int
  deriving DecidableEq, Repr

/-- What ends a phase's low level: its current has come to zero (`crossed`), or 2 µs are up after a short (02_converter_core.md R93). -/
structure PhaseEnd where
  phase : Fin 16
  crossed : Bool
  deriving DecidableEq, Repr

/-- The converter that completes a conversion, and the entry of the slot table it is made for, none for the reserved schedule
(08_sensing_and_thermal.md R337, R340). -/
structure Conversion where
  converter : Fin 6
  entry : Option (Fin 256)
  deriving DecidableEq, Repr

/-- The level of a pin, and for how many ns the pin has held it. -/
structure PinLevel where
  high : Bool
  heldNs : Nat
  deriving DecidableEq, Repr

/-- The entries of a bundle. `cut`: a processor reset begins after so many of them, by a lockstep mismatch for `true` and a watchdog
expiry for `false` (01_architecture.md R19; 12_dictionary.md R506). -/
structure BundleEntries where
  list : List (BitVec 16 × BitVec 8 × List (BitVec 8))
  cut : Option (Fin 64 × Bool)
  deriving DecidableEq, Repr

/-- The CRC of a DOMAIN transfer. `cut`: a processor reset begins after its checks, by a lockstep mismatch for `true` and a watchdog
expiry for `false` (01_architecture.md R19; 12_dictionary.md R511). -/
structure TransferEnd where
  crc : BitVec 32
  cut : Option Bool
  deriving DecidableEq, Repr

/-- The times in ns that the offset from 802.1AS time is computed from: how much later than the upstream neighbour sent it the Sync came
by the timebase, and the same of the exchange that measures the path (13_links.md R544). -/
structure SyncTimes where
  late : Int
  trip : Int
  deriving DecidableEq, Repr

/-- What a two-wire port sees on its bus: a STOP or a repeated START of the transfer in progress, SCL and SDA both high for 50 µs, or a START or
STOP where a controller port does not drive one (13_links.md R561–R563, R568). -/
inductive BusEvent where
  | stop
  | restart
  | idle
  | stray
  deriving DecidableEq, Repr

/-- A two-wire port and what it sees on its bus. -/
structure BusEnd where
  port : Fin 3
  event : BusEvent
  deriving DecidableEq, Repr

/-- DWORDs 1 to 3 of a card's basic flash parameter table, and whether its 1-1-4 read needs a quad-enable bit
(14_images_and_security.md R600). -/
structure CardParameters where
  dword1 : BitVec 32
  dword2 : BitVec 32
  dword3 : BitVec 32
  qe : Bool
  deriving DecidableEq, Repr

/-- What a wake comes with: the seconds in STANDBY; of a pin its level, whether that is a change, and for how many ns it has held it; of
TW0 the address received (15_start_bist_standby.md R653, R654). -/
structure WakeEvent where
  seconds : Nat
  high : Bool
  changed : Bool
  heldNs : Nat
  address : Fin 128
  deriving DecidableEq, Repr

/-- The commands the block takes: one constructor per row of the table of operations and events. A command names the
unit it befalls and carries what the outside world supplies with it: a code on pins, a sample, an elapsed time, a
request's fields. -/
inductive Instr where
  /-- WATCHDOG_EXPIRY (10_faults_watchdog_resets.md R431): The watchdog count reaches its period, raises source 226 and starts a processor reset with CAUSE 0x03. -/
  | watchdogExpiry
  /-- WDT_SVC (10_faults_watchdog_resets.md R428): A service write is judged for key and window; it is accepted and restarts the count, or it is a violation that starts a processor reset with CAUSE 0x04. Key, and the count of the watchdog at the tick of the decision. -/
  | wdtSvc (key : BitVec 32) (e : Int)
  /-- WDT_PERIOD (10_faults_watchdog_resets.md R429): A write sets the watchdog period once after a reset; a second or out-of-range write is a violation. -/
  | wdtPeriod (v : BitVec 32)
  /-- LOCKSTEP_MISMATCH (10_faults_watchdog_resets.md R422): The deputy's lockstep cores disagree, raising source 228 and starting a processor reset with CAUSE 0x07. -/
  | lockstepMismatch
  /-- FOREIGN_WRITE (10_faults_watchdog_resets.md R423): A master other than the deputy writes a deputy-only register; the write has no effect, WD_FOREIGN increments and source 229 is raised. -/
  | foreignWrite
  /-- HEARTBEAT_MISSED (10_faults_watchdog_resets.md R424): The 1 ms heartbeat interval passes without an answer; after three misses source 230 is raised and a processor reset with CAUSE 0x06 is requested. `again`: the interval before was missed too; `halted`: a core is halted in debug. -/
  | heartbeatMissed (again halted : Bool)
  /-- CONFIG_CHECK (10_faults_watchdog_resets.md R424): Every 100 ms the deputy compares per-block configuration CRCs and, on a mismatch, raises source 231 and sets CFG_MISMATCH. First index whose CRC differs, 0 for none. -/
  | configCheck (mismatch : BitVec 16)
  /-- RESET_CMD (10_faults_watchdog_resets.md R435): A write of 0x0C1D starts a processor reset with CAUSE 0x05. -/
  | resetCmd (level : Fin 4)
  /-- PROC_RESET_END (10_faults_watchdog_resets.md R433): The 10 µs processor reset ends; the watchdog restarts at 64 ms and the deputy boots. The SECURE blocks read back as zero. -/
  | procResetEnd (zeroOk : Bool)
  /-- PLANE_READY (10_faults_watchdog_resets.md R425): The deputy completes its boot and sets PLANE_READY, which ends hold mode. Each bank as read verifies; the result of the configuration check. -/
  | planeReady (okA okB : Bool) (mismatch : BitVec 16)
  /-- HOLD_TIMEOUT (01_architecture.md R28): The hold timer reaches 200 ms with PLANE_READY clear, and source 225 is raised. -/
  | holdTimeout
  /-- POWER_ON_RESET (17_electrical.md R689): VSUP falls below its power-on level and a cold reset follows. -/
  | powerOnReset
  /-- RESET_N (01_architecture.md R24): A RESET_N low pulse longer than 10 µs causes a cold reset. Length of the low pulse, and seconds spent in STANDBY or OFF. -/
  | resetN (lowNs seconds : Nat)
  /-- CORE_SUPPLY_UNDERVOLTAGE (17_electrical.md R689): VCORE falls below its threshold, causing a cold reset with CAUSE 0x0A. -/
  | coreSupplyUndervoltage
  /-- PP_RESET_END (10_faults_watchdog_resets.md R436): The satellite frames are sent or 200 µs pass, and the device enters STARTING. -/
  | ppResetEnd
  /-- ROOT_CLOCK_LOSS (01_architecture.md R32): 160 ns pass without an XIN edge; the PLL switches to the backup RC and source 224 is raised. -/
  | rootClockLoss
  /-- CLK_RETURN (01_architecture.md R33): A write of 0x0001 switches the PLL back to the crystal. -/
  | clkReturn (level : Fin 4)
  /-- RAIL_TRIGGER (02_converter_core.md R48): The rail comparator trips and starts an on-time on the next active phase in order. Sensed output voltage, and the current of the phase next in order. -/
  | railTrigger (r : Fin 4) (vMv iMa : Int)
  /-- ON_TIME_END (02_converter_core.md R54): An on-time counter expires and the phase's PWM leaves the high level. Measured rise of the phase current. -/
  | onTimeEnd (p : Fin 16) (riseMa : Int)
  /-- FREQUENCY_LOCK_TRIM (02_converter_core.md R53): After every 64 triggers the frequency-lock factor is trimmed. -/
  | frequencyLockTrim (r : Fin 4)
  /-- ON_TIME_CLAMP (02_converter_core.md R54): The on-time has been held at a limit for 1 ms, and the clamp source is raised. -/
  | onTimeClamp (r : Fin 4)
  /-- VSEL_CODE_TAKEN (02_converter_core.md R58): A VSEL pin code held for VSEL_FILT_US becomes the selected set-point index. -/
  | vselCodeTaken (r : Fin 4) (code : Fin 8)
  /-- PHASE_SHED (02_converter_core.md R71): The per-phase current has stayed below SHED_MA for SHED_DWELL_US, and one phase is shed. -/
  | phaseShed (r : Fin 4)
  /-- PHASE_ADD (02_converter_core.md R72): The per-phase current exceeds ADD_MA, and a shed phase is added, one every 10 µs. -/
  | phaseAdd (r : Fin 4)
  /-- SHED_ROTATION (02_converter_core.md R73): The shed-order offset advances every ROT_MS. -/
  | shedRotation (r : Fin 4)
  /-- BURST_ENTRY (02_converter_core.md R74): With one phase active, the current has stayed below BURST_ENTRY_MA for 1 ms, and the rail enters BURST. -/
  | burstEntry (r : Fin 4)
  /-- BURST_REFRESH (02_converter_core.md R75): No trigger has occurred for SLEEP_MAX_US, and a refresh burst fires. Sensed output voltage in mV, and the current of the phase next in order in mA. -/
  | burstRefresh (r : Fin 4) (vMv iMa : Int)
  /-- BURST_EXIT (02_converter_core.md R76): The current exceeds BURST_EXIT_MA, and the rail leaves BURST for REG. -/
  | burstExit (r : Fin 4)
  /-- PILE_IN (02_converter_core.md R77): An undershoot by PILEIN_PERMILLE fires every assigned uncaged phase within 100 ns. `above`: phases whose current is above their valley limit. Sensed output voltage in mV. -/
  | pileIn (r : Fin 4) (vMv : Int) (above : List (Fin 16))
  /-- PILE_IN_REARM (02_converter_core.md R79): The voltage recovers above half the threshold and a further pile-in is armed. Sensed output voltage in mV. -/
  | pileInRearm (r : Fin 4) (vMv : Int)
  /-- OVERSHOOT_TRUNCATION (02_converter_core.md R80): An overshoot ends the on-times in progress, and with OVS_MODE 0b01 body-diode braking starts. Sensed output voltage in mV. -/
  | overshootTruncation (r : Fin 4) (vMv : Int)
  /-- BRAKING_END (02_converter_core.md R81): The sensed voltage falls below the release threshold and braking ends. Sensed output voltage in mV. -/
  | brakingEnd (r : Fin 4) (vMv : Int)
  /-- OFFSET_DECAY_END (02_converter_core.md R83): The feed-forward offset has decayed to 0 over FF_DECAY_US. -/
  | offsetDecayEnd (r : Fin 4)
  /-- VALLEY_LIMIT (02_converter_core.md R88): The phase current is above ILIM_VALLEY_MA, so its turn-on waits and the cycle counts as valley limited. Phase current in mA. -/
  | valleyLimit (p : Fin 16) (iMa : Int)
  /-- HICCUP_ENTRY (02_converter_core.md R89): HICCUP_N consecutive valley-limited cycles put the rail in HICCUP with its outputs at mid. -/
  | hiccupEntry (r : Fin 4)
  /-- SOFT_RETRY (02_converter_core.md R91): HICCUP_OFF_MS passes and the rail retries in START. -/
  | softRetry (r : Fin 4)
  /-- FAST_SHORT_CIRCUIT (02_converter_core.md R92): A phase current above ISC_MA drives every PWM of the rail low within 200 ns and leads to HICCUP. Phase current in mA. -/
  | fastShortCircuit (p : Fin 16) (iMa : Int)
  /-- PHASE_ZERO_CROSSING (02_converter_core.md R93): After a short, a phase goes to mid at the zero crossing or after 2 µs. -/
  | phaseZeroCrossing (x : PhaseEnd)
  /-- SLOW_OVERLOAD (02_converter_core.md R95): The averaged rail current exceeds OVL_LIMIT_MA and the rail enters LIMIT. Average of the rail current in mA. -/
  | slowOverload (r : Fin 4) (avgMa : Int)
  /-- DEGRADE_HOLD_EXPIRY (02_converter_core.md R98): DEGRADE_HOLD_MS passes in LIMIT and hiccup counting resumes. -/
  | degradeHoldExpiry (r : Fin 4)
  /-- LIMIT_EXIT (02_converter_core.md R99): No valley limit has acted for 100 µs and the current is within capacity, so the rail returns to REG. Average of the rail current in mA. -/
  | limitExit (r : Fin 4) (avgMa : Int)
  /-- PHASE_OPEN_DETECT (02_converter_core.md R101): OPEN_CNT consecutive ripple-less on-times cage the phase as open. -/
  | phaseOpenDetect (p : Fin 16)
  /-- PHASE_SENSE_RANGE (02_converter_core.md R102): A CS pin held out of range for 1 µs cages the phase. CS pin level. -/
  | phaseSenseRange (p : Fin 16) (mv : Int)
  /-- PHASE_CAGE_REQ (02_converter_core.md R103): A write of 1 to CAGE_REQ cages the phase. -/
  | phaseCageReq (level : Fin 4) (p : Fin 16)
  /-- CMD_ON (03_load_channels.md R117): CMD 1 presents an enable to the tally and, when granted, starts the pre-enable check and LEAD or INRUSH. -/
  | cmdOn (level : Fin 4) (n : Fin 512)
  /-- CMD_OFF (03_load_channels.md R142): CMD 0 turns the context off and clears RETRIES. -/
  | cmdOff (level : Fin 4) (n : Fin 512)
  /-- CTX_CAGE_REQ (03_load_channels.md R147): A write of 1 to CAGE_REQ cages the context. -/
  | ctxCageReq (level : Fin 4) (n : Fin 512)
  /-- BINDING_COMMIT (03_load_channels.md R113): A commit binds or unbinds a context to a satellite channel. -/
  | bindingCommit (level : Fin 4) (n : Fin 512) (value : BitVec 16)
  /-- LEAD_EXPIRY (03_load_channels.md R121): LEAD_US after the announcement the gate opens, or the on command is sent. -/
  | leadExpiry (n : Fin 512)
  /-- CHANNEL_SAMPLE (03_load_channels.md R152): The current, voltage and power of a channel are updated at each sample. Current, output voltage and supply voltage of the channel in mA and mV. -/
  | channelSample (n : Fin 16) (iMa vMv vinMv : Int)
  /-- OFF_DECAY_EXPIRY (03_load_channels.md R118): OFF_DECAY_MS after turn-off, a waiting pre-enable check is decided and classification begins. -/
  | offDecayExpiry (n : Fin 512)
  /-- INRUSH_TIMEOUT (03_load_channels.md R127): INRUSH lasts INRUSH_MAX_MS, and the context trips with CAUSE 0x4. -/
  | inrushTimeout (n : Fin 512)
  /-- GATE_DRIVE_FAULT (03_load_channels.md R130): The gate has not reached, or falls below, its on level, and the context trips with CAUSE 0xB. Gate drive voltage in mV. -/
  | gateDriveFault (x : ChannelLevel)
  /-- DIRECT_SHORT (03_load_channels.md R133): The shunt exceeds the ISC_MA level; the gate discharge begins within 2 µs and the context trips with CAUSE 0x1. Voltage on the shunt in µV. -/
  | directShort (x : ChannelLevel)
  /-- CURRENT_LIMIT_REACHED (03_load_channels.md R134): The current reaches ILIM_MA, and the context enters LIMIT with its fault timer running. Voltage on the shunt in µV. -/
  | currentLimitReached (x : ChannelLevel)
  /-- FAULT_TIMER_EXPIRY (03_load_channels.md R134): The fault timer reaches TFAULT_US, and the context trips with CAUSE 0x2. -/
  | faultTimerExpiry (n : Fin 512)
  /-- RETRY_TIMER_EXPIRY (03_load_channels.md R139): RETRY_MS ends; with CMD 1 the context waits for I²t at 500 or below and then takes the enable path, otherwise it enters OFF. -/
  | retryTimerExpiry (n : Fin 512)
  /-- RETRY_CLEAR (03_load_channels.md R141): RETRY_CLEAR_MS passes in ON or LIMIT and RETRIES clears. -/
  | retryClear (n : Fin 512)
  /-- TALLY_EVALUATION (06_tally_and_sharing.md R255): Every 100 µs the tally evaluates P_EFF against the budget, grants, sheds, limits and releases. -/
  | tallyEvaluation
  /-- TALLY_DISABLE (06_tally_and_sharing.md R256): A commit of ENABLE 0 undoes every tally action in force. -/
  | tallyDisable (level : Fin 4)
  /-- LIMIT_WINDOW_EDGE (06_tally_and_sharing.md R265): A duty-limited context's on- or off-window begins within its LIM_PERIOD_MS. `on_`: the on-window begins. -/
  | limitWindowEdge (n : Fin 512) (on_ : Bool)
  /-- BORROW_NO_ANSWER (06_tally_and_sharing.md R270): 10 ms pass without an answer and the next peer is asked. -/
  | borrowNoAnswer
  /-- BORROW_BACKOFF_END (06_tally_and_sharing.md R271): The 1 s pause after every peer has refused ends. -/
  | borrowBackoffEnd
  /-- LOAN_REQUEST_RECEIVED (06_tally_and_sharing.md R272): A REQUEST is granted, or refused when nothing can be lent. The peer, the transaction and the loan. -/
  | loanRequestReceived (src : Fin 63) (tid id : BitVec 16) (mw : BitVec 32)
  /-- LOAN_RENEW_RECEIVED (06_tally_and_sharing.md R274): A RENEW is renewed or declined. The peer, the transaction and the loan. -/
  | loanRenewReceived (src : Fin 63) (tid id : BitVec 16) (mw : BitVec 32)
  /-- LOAN_RETURN_RECEIVED (06_tally_and_sharing.md R273): A RETURN removes the reservation from LENT_MW. The peer, the transaction and the loan. -/
  | loanReturnReceived (src : Fin 63) (tid id : BitVec 16) (mw : BitVec 32)
  /-- LOAN_RESPONSE_RECEIVED (06_tally_and_sharing.md R274): A GRANT, REFUSE, RENEWED or DECLINED reaches the borrower. OP 2 GRANT, 3 REFUSE, 5 RENEWED, 6 DECLINED. -/
  | loanResponseReceived (peer : Fin 63) (op : Fin 256) (id : BitVec 16) (mw : BitVec 32)
  /-- LEASE_HALF (06_tally_and_sharing.md R274): At half the lease the borrower asks for a renewal. -/
  | leaseHalf (peer : Fin 63) (id : BitVec 16)
  /-- LEASE_END (06_tally_and_sharing.md R275): An unrenewed lease ends and its amount leaves BORROWED_MW. -/
  | leaseEnd (peer : Fin 63) (id : BitVec 16)
  /-- LOAN_RETURN_DUE (06_tally_and_sharing.md R276): The headroom has exceeded the loan for 1 s, and the loan is returned. -/
  | loanReturnDue (peer : Fin 63) (id : BitVec 16)
  /-- RESERVATION_END (06_tally_and_sharing.md R276): The lender's reservation ends and the amount leaves LENT_MW. -/
  | reservationEnd (peer : Fin 63) (id : BitVec 16)
  /-- ROUND_START (04_satellite_link.md R180): A satellite port sends its CYCLE or ENUM frame at its round instant. -/
  | roundStart (p : Fin 4)
  /-- ROUND_JUDGE (04_satellite_link.md R180): The reports of a round are judged at the EOF return or 100 µs after the SOF. The frame that returned, header and body, with none for a symbol received in error; empty when none returned. -/
  | roundJudge (p : Fin 4) (frame : List (Option (BitVec 8))) (rttNs errs : Nat)
  /-- POSITION_LOST (04_satellite_link.md R189): LOST_ROUNDS bad rounds, or an ORPHAN or UNCONFIG report, make the position LOST. -/
  | positionLost (q : Fin 32)
  /-- PORT_DOWN (04_satellite_link.md R190): LOST_ROUNDS rounds without a frame make the port DOWN. -/
  | portDown (p : Fin 4)
  /-- POSITION_RETURN (04_satellite_link.md R191): Four good report blocks return a LOST position to CONFIG. -/
  | positionReturn (q : Fin 32)
  /-- PORT_ENABLE (04_satellite_link.md R183): A commit of ENABLE 1 starts an enumeration. -/
  | portEnable (level : Fin 4) (p : Fin 4) (lostRounds : Fin 16)
  /-- RESCAN (04_satellite_link.md R196): A write of 0x01 clears the recorded identities and starts an enumeration. -/
  | rescan (level : Fin 4) (p : Fin 4)
  /-- PILOT_OUT_CHANGE (05_ring_and_holdup.md R202): The outward current or the ring-side undervoltage drives PLTO high or low. Port (0 East, 1 West), shunt voltage in µV, positive outward, and ring-side voltage in mV. -/
  | pilotOutChange (p : Fin 2) (shuntUv vrMv : Int)
  /-- PILOT_QUALIFIED (05_ring_and_holdup.md R203): PLTI has been high for 500 ns. With `high` false, PLTI has gone low. -/
  | pilotQualified (p : Fin 2) (high : Bool)
  /-- DIRECTIONAL_TRIP (05_ring_and_holdup.md R204): The outward current exceeds ISO_DIR_MA with a qualified pilot, and the port trips. Shunt voltage in µV, positive outward. -/
  | directionalTrip (p : Fin 2) (shuntUv : Int)
  /-- BACKUP_OUTWARD_TRIP (05_ring_and_holdup.md R205): The outward current has exceeded ISO_MAX_MA for 2 µs, and the port trips. Shunt voltage in µV, positive outward. -/
  | backupOutwardTrip (p : Fin 2) (shuntUv : Int)
  /-- INWARD_TRIP (05_ring_and_holdup.md R206): The inward current has exceeded ISO_IN_MA for 2 µs, and the port trips. Shunt voltage in µV, positive outward. -/
  | inwardTrip (p : Fin 2) (shuntUv : Int)
  /-- SWITCH_FAILED (05_ring_and_holdup.md R213): More than 5 A still flows 20 µs after the pull-down, and the port enters FAILED. Shunt voltage in µV, positive outward. -/
  | switchFailed (p : Fin 2) (shuntUv : Int)
  /-- TEST_PULSE_SEND (05_ring_and_holdup.md R209): Every 100 ms a 200 ns test pulse is sent on PLTO. -/
  | testPulseSend (p : Fin 2)
  /-- TEST_PULSE_RECEIVED (05_ring_and_holdup.md R210): A 100–400 ns pulse on PLTI sets PILOT_OK. Length of the high level. -/
  | testPulseReceived (p : Fin 2) (ns : Nat)
  /-- PILOT_MISS (05_ring_and_holdup.md R210): 350 ms pass without a test pulse and a miss is declared. -/
  | pilotMiss (p : Fin 2)
  /-- PILOT_STUCK (05_ring_and_holdup.md R211): PLTI has been high for 50 µs with a healthy ring side, and PILOT_STUCK sets. -/
  | pilotStuck (p : Fin 2) (vrMv : Int)
  /-- PILOT_STUCK_CLEAR (05_ring_and_holdup.md R211): PLTI has been low for 1 ms, and PILOT_STUCK clears. -/
  | pilotStuckClear (p : Fin 2)
  /-- RP_CMD_CLOSE (05_ring_and_holdup.md R214): Command 0x01 starts a pre-charge close of the port. Access level of the session that writes. -/
  | rpCmdClose (level : Fin 4) (p : Fin 2)
  /-- RP_CMD_OPEN (05_ring_and_holdup.md R212): Command 0x02 opens the port into OPEN. Access level of the session that writes. -/
  | rpCmdOpen (level : Fin 4) (p : Fin 2)
  /-- PRECHARGE_QUALIFIED (05_ring_and_holdup.md R216): |VL − VR| has been at or below 1 V for 100 µs, and the port enters CLOSED. Line and ring voltage of the last sample in mV. -/
  | prechargeQualified (p : Fin 2) (vlMv vrMv : Int)
  /-- PRECHARGE_TIMEOUT (05_ring_and_holdup.md R217): PRECHG_MAX_MS passes and the port trips with CAUSE 0x6. -/
  | prechargeTimeout (p : Fin 2)
  /-- FEED_SET (05_ring_and_holdup.md R224): The node falls below IFW_LEVEL or falls faster than the slope, and FEED sets. Voltage of the node and its fall, in mV. -/
  | feedSet (nodeMv fallMv : Int)
  /-- IFW_CONDITION_CLEAR (05_ring_and_holdup.md R224): A warning condition has not held for IFW_CLEAR_MS, and it clears. 0 FEED, 1 HOLD, 2 STORE. -/
  | ifwConditionClear (c : Fin 3)
  /-- IFW_BROADCAST (05_ring_and_holdup.md R226): A change of ANY is broadcast within 50 µs. -/
  | ifwBroadcast
  /-- IFW_BROADCAST_REPEAT (05_ring_and_holdup.md R227): While ANY is 1 the broadcast repeats every 100 ms. -/
  | ifwBroadcastRepeat
  /-- IFW_BROADCAST_RECEIVE (12_dictionary.md R530): A peer's IFW broadcast updates PEER and PEER_LAST. -/
  | ifwBroadcastReceive (src : Fin 64) (status : Fin 256) (timeNs : BitVec 64)
  /-- PEER_FORGET (05_ring_and_holdup.md R227): 350 ms without a broadcast from a sender forgets that sender's warning. -/
  | peerForget (src : Fin 64)
  /-- HOLD_ENTRY (05_ring_and_holdup.md R230): A node drop, a slope, a port trip or a reaction switches the prop converter to HOLD within 20 µs. Voltage of the node and its fall, in mV. -/
  | holdEntry (nodeMv fallMv : Int)
  /-- HOLD_EXIT (05_ring_and_holdup.md R233): The node stays above HOLD_EXIT_MV for HOLD_EXIT_US and the prop converter enters STANDBY. Voltage of the node in mV. -/
  | holdExit (nodeMv : Int)
  /-- STORAGE_EXHAUSTED (05_ring_and_holdup.md R234): STORE_MV falls below STORE_MIN_MV in HOLD, and switching stops. Voltage of the storage in mV. -/
  | storageExhausted (storeMv : Int)
  /-- CHARGE_ENTRY (05_ring_and_holdup.md R235): The charge conditions hold and the prop converter enters CHARGE. Voltage of the node in mV. -/
  | chargeEntry (nodeMv : Int)
  /-- CV_ENTRY (05_ring_and_holdup.md R236): STORE_MV reaches CHG_VMAX_MV and charging holds at constant voltage. Voltage of the storage in mV. -/
  | cvEntry (storeMv : Int)
  /-- CHARGE_DONE (05_ring_and_holdup.md R236): The CV current has stayed below CHG_TAPER_MA for 10 ms, and CHG_DONE sets. Current of the storage in mA. -/
  | chargeDone (storeMa : Int)
  /-- STORE_OVP (05_ring_and_holdup.md R239): The storage exceeds STORE_OVP_MV and charging stops. Voltage of the storage in mV. -/
  | storeOvp (storeMv : Int)
  /-- CHARGE_NODE_LOW (05_ring_and_holdup.md R240): The node falls below CHG_NODE_MIN_MV in CHARGE, and the prop converter enters STANDBY. Voltage of the node in mV. -/
  | chargeNodeLow (nodeMv : Int)
  /-- PROP_PHASE_CAGE (05_ring_and_holdup.md R241): A PCS pin out of range for 1 µs cages the prop phase. PCS pin level. -/
  | propPhaseCage (k : Fin 2) (mv : Int)
  /-- STORAGE_SAMPLE (05_ring_and_holdup.md R242): Every 10 µs the node and storage quantities and counters are updated. Voltages of the node and the storage; storage current, positive into the storage; then of East and of West the current, line voltage and ring voltage; in mV and mA. -/
  | storageSample (nodeMv storeMv storeMa eMa eVl eVr wMa wVl wVr : Int)
  /-- LANE_TRIGGER (07_loop_engine.md R293): A timer or scan trigger starts a frame of a lane, or counts an overrun. -/
  | laneTrigger (l : Fin 2)
  /-- SLOT_START (07_loop_engine.md R294): A slot's offset in the frame is reached and its run begins when due. `ecc`: what the run's fetches find, 0 no error, 1 single-bit, 2 uncorrectable. -/
  | slotStart (j : Fin 128) (ecc : List (Fin 3))
  /-- NOP (07_loop_engine.md R303): No operation. -/
  | nop (l : Fin 2)
  /-- END (07_loop_engine.md R306): Ends the run and commits the buffered writes. -/
  | endRun (l : Fin 2)
  /-- RAISE (07_loop_engine.md R303): Sets RAISED, and source 256+j is raised at the end of the run. -/
  | raise (l : Fin 2)
  /-- LDI (07_loop_engine.md R303): Loads an immediate into a register. -/
  | ldi (l : Fin 2) (d : Fin 16) (imm : BitVec 16)
  /-- MOV (07_loop_engine.md R303): Copies a register. -/
  | mov (l : Fin 2) (d a : Fin 16)
  /-- RDS (07_loop_engine.md R310): Reads a signal into a register. -/
  | rds (l : Fin 2) (d : Fin 16) (rel : Bool) (sig : Fin 1024)
  /-- RDP (07_loop_engine.md R307): Reads a latched slot parameter. -/
  | rdp (l : Fin 2) (d : Fin 16) (k : Fin 8)
  /-- WRA (07_loop_engine.md R312): Buffers a value for an actuator point. -/
  | wra (l : Fin 2) (rel : Bool) (act : Fin 512) (a : Fin 16)
  /-- WTG (07_loop_engine.md R303): Buffers a winder profile target. -/
  | wtg (l : Fin 2) (prof : Fin 32) (a b : Fin 16)
  /-- ADD (07_loop_engine.md R303): Saturating add. -/
  | add (l : Fin 2) (d a b : Fin 16)
  /-- SUB (07_loop_engine.md R303): Saturating subtract. -/
  | sub (l : Fin 2) (d a b : Fin 16)
  /-- ADDI (07_loop_engine.md R303): Saturating add of an immediate. -/
  | addi (l : Fin 2) (d a : Fin 16) (imm : BitVec 16)
  /-- MUL (07_loop_engine.md R303): Rounded Q15 multiply. -/
  | mul (l : Fin 2) (d a b : Fin 16)
  /-- NEG (07_loop_engine.md R303): Saturating negate. -/
  | neg (l : Fin 2) (d a : Fin 16)
  /-- ABS (07_loop_engine.md R303): Saturating absolute value. -/
  | abs (l : Fin 2) (d a : Fin 16)
  /-- MIN (07_loop_engine.md R303): Minimum of two registers. -/
  | min (l : Fin 2) (d a b : Fin 16)
  /-- MAX (07_loop_engine.md R303): Maximum of two registers. -/
  | max (l : Fin 2) (d a b : Fin 16)
  /-- CLMP (07_loop_engine.md R303): Clamps the destination between two registers. -/
  | clmp (l : Fin 2) (d a b : Fin 16)
  /-- SHL (07_loop_engine.md R303): Saturating shift left. -/
  | shl (l : Fin 2) (d a sh : Fin 16)
  /-- SHR (07_loop_engine.md R303): Arithmetic shift right. -/
  | shr (l : Fin 2) (d a sh : Fin 16)
  /-- LPF (07_loop_engine.md R303): First-order low-pass step. -/
  | lpf (l : Fin 2) (d a b : Fin 16)
  /-- CLRA (07_loop_engine.md R303): Clears an accumulator. -/
  | clra (l : Fin 2) (n : Fin 4)
  /-- LDA (07_loop_engine.md R303): Loads an accumulator from a register. -/
  | lda (l : Fin 2) (n : Fin 4) (a : Fin 16)
  /-- MAC (07_loop_engine.md R303): Saturating multiply-accumulate. -/
  | mac (l : Fin 2) (n : Fin 4) (a b : Fin 16)
  /-- MSU (07_loop_engine.md R303): Saturating multiply-subtract. -/
  | msu (l : Fin 2) (n : Fin 4) (a b : Fin 16)
  /-- ACCA (07_loop_engine.md R303): Adds a register to an accumulator. -/
  | acca (l : Fin 2) (n : Fin 4) (a : Fin 16)
  /-- SHRA (07_loop_engine.md R303): Shifts an accumulator right. -/
  | shra (l : Fin 2) (n : Fin 4) (sh : Fin 16)
  /-- SATA (07_loop_engine.md R303): Rounds and saturates an accumulator into a register. -/
  | sata (l : Fin 2) (d : Fin 16) (n : Fin 4) (sh : Fin 16)
  /-- ACLP (07_loop_engine.md R303): Clamps an accumulator and sets CLP. -/
  | aclp (l : Fin 2) (n : Fin 4) (a b : Fin 16)
  /-- SKP (07_loop_engine.md R304): Skips cnt instructions when the condition holds. -/
  | skp (l : Fin 2) (cond : Fin 8) (a b : Fin 16) (cnt : Fin 256)
  /-- FEL (07_loop_engine.md R316): Advances or resets the following-error timer. -/
  | fel (l : Fin 2) (a b : Fin 16)
  /-- SLOT_RESTART (07_loop_engine.md R318): A write of RESTART clears a stopped slot and lets it run again. -/
  | slotRestart (level : Fin 4) (j : Fin 128)
  /-- PRESET (07_loop_engine.md R323): A write of PRESET makes a pre-biased start of a profile. -/
  | preset (level : Fin 4) (w : Fin 32)
  /-- PROFILE_TARGET_WRITE (07_loop_engine.md R325): A host write of TARGET starts or retargets a move. -/
  | profileTargetWrite (level : Fin 4) (w : Fin 32) (target : BitVec 32)
  /-- WINDER_STEP (07_loop_engine.md R319): Every 1 µs each moving profile integrates one step. -/
  | winderStep
  /-- CONVERSION_RESULT (08_sensing_and_thermal.md R337): A conversion completes and its result is published. Conversion, input, and the level at the pins in counts of the full scale. -/
  | conversionResult (x : Conversion) (input : Fin 96) (code : Int)
  /-- SCAN_ROUND_START (08_sensing_and_thermal.md R340): A scan round begins at its period. -/
  | scanRoundStart
  /-- SCAN_ROUND_END (08_sensing_and_thermal.md R340): A scan round completes and gives the SCAN trigger. -/
  | scanRoundEnd
  /-- MONITOR_CROSSING (08_sensing_and_thermal.md R348): The input crosses a monitor threshold and OUT changes. Input level in µV. -/
  | monitorCrossing (m : Fin 48) (uv : Int)
  /-- MONITOR_FILTER (08_sensing_and_thermal.md R351): OUT has held for the filter time and OUT_F changes. -/
  | monitorFilter (m : Fin 48)
  /-- CMPO_CLEAR (08_sensing_and_thermal.md R353): A write of CLEAR releases a latched CMPO pin. -/
  | cmpoClear (level : Fin 4) (k : Fin 8)
  /-- CHECK_SWAP (08_sensing_and_thermal.md R354): Command 0x01 starts a swap self-check. -/
  | checkSwap (level : Fin 4) (m : Fin 48)
  /-- CHECK_KNOWN_LEVEL (08_sensing_and_thermal.md R354): Command 0x02 starts a known-level self-check. -/
  | checkKnownLevel (level : Fin 4) (m : Fin 48)
  /-- AUTO_CHECK (08_sensing_and_thermal.md R354): CHECK_PERIOD_MS passes and an automatic self-check starts. Swap, or known level. -/
  | autoCheck (m : Fin 48) (known : Bool)
  /-- CHECK_END (08_sensing_and_thermal.md R355): A self-check ends and the outputs take the live state. 0 passed, 1 failed, 2 inconclusive. -/
  | checkEnd (m : Fin 48) (result : Fin 3)
  /-- THERMAL_SAMPLE (08_sensing_and_thermal.md R360): A temperature sensor is sampled at 1 ms or 100 µs. Pin voltage in µV; for T0 the reading in 0.01 °C and whether it is in its calibrated range. -/
  | thermalSample (x : Fin 13) (v : Int) (good : Bool)
  /-- DIE_COMPARATOR (08_sensing_and_thermal.md R368): The analog comparator at 175 °C requests a power-plane reset and raises source 500. -/
  | dieComparator
  /-- STATE_CMD_OFF (09_sequencing_and_states.md R379): A STATE_CMD for OFF sets every target off, leading to the lamp check and power-down. -/
  | stateCmdOff (level : Fin 4)
  /-- STATE_CMD_STANDBY (09_sequencing_and_states.md R379): A STATE_CMD for STANDBY sets every target off, leading to the lamp check and standby. -/
  | stateCmdStandby (level : Fin 4)
  /-- STATE_CMD_CONFIGURED (09_sequencing_and_states.md R379): A STATE_CMD for CONFIGURED changes STATE and the node targets. -/
  | stateCmdConfigured (level : Fin 4)
  /-- STATE_CMD_RUN (09_sequencing_and_states.md R379): A STATE_CMD for RUN changes STATE and the node targets. -/
  | stateCmdRun (level : Fin 4)
  /-- STATE_CMD_ECONOMY (09_sequencing_and_states.md R379): A STATE_CMD for ECONOMY changes STATE and the node targets. -/
  | stateCmdEconomy (level : Fin 4)
  /-- STATE_CMD_PARK (09_sequencing_and_states.md R379): A STATE_CMD for PARK changes STATE and the node targets. -/
  | stateCmdPark (level : Fin 4)
  /-- NODE_HOST_OFF (09_sequencing_and_states.md R385): A write of HOST_OFF turns the node's target off or on. -/
  | nodeHostOff (level : Fin 4) (k : Fin 64) (off : Bool)
  /-- NODE_ON_DELAY_EXPIRY (09_sequencing_and_states.md R387): ON_DELAY_US passes; the node asserts its output and enters RAMP_UP. -/
  | nodeOnDelayExpiry (k : Fin 64)
  /-- NODE_POWER_GOOD (09_sequencing_and_states.md R387): Power-good becomes good in RAMP_UP and the node enters QUALIFY. `pin`: the PG pin that the node names. -/
  | nodePowerGood (k : Fin 64) (pin : PinLevel)
  /-- NODE_QUALIFIED (09_sequencing_and_states.md R390): PG_DELAY passes with power-good good and no fault, and the node is UP. -/
  | nodeQualified (k : Fin 64)
  /-- PG_TIMEOUT (09_sequencing_and_states.md R387): PG_TIMEOUT_MS passes in RAMP_UP and the node enters FAULT. -/
  | pgTimeout (k : Fin 64)
  /-- NODE_OFF_DELAY_EXPIRY (09_sequencing_and_states.md R388): OFF_DELAY_US passes; the node withdraws its output and enters RAMP_DOWN. -/
  | nodeOffDelayExpiry (k : Fin 64)
  /-- NODE_RAMP_DOWN_DONE (09_sequencing_and_states.md R388): The rail is OFF or DISCHARGE_US has passed, and the node enters OFF. `pin`: the PG pin that the node names. -/
  | nodeRampDownDone (k : Fin 64) (pin : PinLevel)
  /-- OFF_TIMEOUT (09_sequencing_and_states.md R388): OFF_TIMEOUT_MS passes in RAMP_DOWN and the node enters FAULT. -/
  | offTimeout (k : Fin 64)
  /-- NODE_FAULT_CONDITION (09_sequencing_and_states.md R390): A fault condition starts or clears the node's fault timer. `pin`: the PG pin that the node names. -/
  | nodeFaultCondition (k : Fin 64) (pin : PinLevel)
  /-- NODE_FAULT_TIMER_EXPIRY (09_sequencing_and_states.md R390): The fault timer reaches FAULT_US and the node enters FAULT. -/
  | nodeFaultTimerExpiry (k : Fin 64)
  /-- NODE_CLEAR (09_sequencing_and_states.md R395): A write of CLEAR moves a node from FAULT to OFF. -/
  | nodeClear (level : Fin 4) (k : Fin 64)
  /-- LOSS_SHUTDOWN (09_sequencing_and_states.md R398): A loss trigger starts an ordered power-down. 0 the length of HOLD, 1 the storage level, 2 no storage to hold with. -/
  | lossShutdown (trigger : Fin 3)
  /-- RESUME (09_sequencing_and_states.md R400): A write of RESUME brings the held nodes back up. -/
  | resume (level : Fin 4)
  /-- MARGIN_WRITE (09_sequencing_and_states.md R403): A write of MARGINr moves the rail target by the margin. -/
  | marginWrite (level : Fin 4) (r : Fin 4) (m : BitVec 16)
  /-- WINDOW_EXPIRY (10_faults_watchdog_resets.md R410): WINDOW_MS ends and the count resets or the source stays latched. -/
  | windowExpiry (f : Fin 1024)
  /-- SOURCE_CLEAR (10_faults_watchdog_resets.md R412): A write of CLEAR returns SEVERE, COUNT and the window to idle. -/
  | sourceClear (level : Fin 4) (f : Fin 1024)
  /-- SOURCE_FORCE (10_faults_watchdog_resets.md R416): A write of FORCE raises the source once through the collector only. -/
  | sourceForce (level : Fin 4) (f : Fin 1024)
  /-- CREDIT_REQUEST (11_shaft_and_pit_log.md R450): A producer asks its gallery for a block credit. Gallery, and the bytes of the block. -/
  | creditRequest (g : Fin 64) (data : List (BitVec 8))
  /-- BLOCK_RELEASE (11_shaft_and_pit_log.md R451): A consumer releases a block to the pool, zeroising SECURE blocks. -/
  | blockRelease (g : Fin 64)
  /-- PRODUCER_WAIT_TIMEOUT (11_shaft_and_pit_log.md R453): A producer has waited 10 ms and source 71 is raised. -/
  | producerWaitTimeout (g : Fin 64)
  /-- SCRUB (11_shaft_and_pit_log.md R458): The scrubber reads one Shaft block every 10 µs. Words corrected; whether the block has an uncorrectable error, and then the gallery and place of what it holds. -/
  | scrub (corrected : Nat) (bad : Bool) (g : Fin 64) (place : Nat)
  /-- STREAM_SAMPLE (11_shaft_and_pit_log.md R457): A signal stream gallery writes a sample every DEC_US. -/
  | streamSample (g : Fin 64)
  /-- CAPTURE_FRAME (11_shaft_and_pit_log.md R465): Every µs in ARMED or POST a capture frame is written. The five conversions of NODE_SNS, and the fast conversions of the scan sequencers. -/
  | captureFrame (node : List Int) (scan : List Int)
  /-- CAPTURE_TRIGGER (11_shaft_and_pit_log.md R467): A trigger puts an ARMED capture into POST. The code of TRIG_CAUSE. -/
  | captureTrigger (cause : Fin 2049)
  /-- CAPTURE_FREEZE (11_shaft_and_pit_log.md R467): POST_FRAMES frames after the trigger, the capture freezes. -/
  | captureFreeze
  /-- ARM (11_shaft_and_pit_log.md R470): A write of ARM empties the capture and arms it. -/
  | arm (level : Fin 4)
  /-- TRIG_HOST (11_shaft_and_pit_log.md R467): A write of TRIG_HOST triggers the capture. -/
  | trigHost (level : Fin 4)
  /-- PIT_LOG_TICK (11_shaft_and_pit_log.md R475): Each second the histograms and residence counters advance. -/
  | pitLogTick
  /-- LIVE_REFRESH (11_shaft_and_pit_log.md R477): Every REFRESH_MS the live image is refreshed under SEQ. -/
  | liveRefresh
  /-- EPOCH_PERIOD (11_shaft_and_pit_log.md R481): EPOCH_PERIOD_S passes and an epoch write starts. -/
  | epochPeriod
  /-- PL_CMD (11_shaft_and_pit_log.md R481): A write of 0x01 requests an epoch. -/
  | plCmd (level : Fin 4)
  /-- EPOCH_COMMIT (11_shaft_and_pit_log.md R480): COMMIT verifies; the epoch is committed and the staging deltas are subtracted. -/
  | epochCommit
  /-- EPOCH_FAIL (11_shaft_and_pit_log.md R483): An epoch fails to commit, and its slot is freed. `retired`: more than four sectors of the slot have failed. -/
  | epochFail (retired : Bool)
  /-- PDU_RECEIVE (12_dictionary.md R497): A received PDU is checked and discarded, forwarded or dispatched. Port code and the bytes that its link carried. -/
  | pduReceive (port : Fin 9) (bytes : List (BitVec 8))
  /-- READ (12_dictionary.md R505): Returns the value of a sub-index. Source, port of arrival, level of the session it comes under (0 none), TID, and the fields. -/
  | read (src : Fin 63) (port : Fin 9) (level : Fin 4) (tid : BitVec 16) (idx : BitVec 16) (sub : BitVec 8)
  /-- WRITE (12_dictionary.md R505): Writes a sub-index after the checks of R502 and records the outcome. Source, port of arrival, level of the session it comes under (0 none), TID, and the fields. -/
  | write (src : Fin 63) (port : Fin 9) (level : Fin 4) (tid : BitVec 16) (idx : BitVec 16) (sub : BitVec 8) (value : List (BitVec 8))
  /-- BUNDLE (12_dictionary.md R506): Applies entries in order and records APPLIED, PARTIAL or REJECTED. Source, port of arrival, level of the session it comes under (0 none), TID, and the fields. -/
  | bundle (src : Fin 63) (port : Fin 9) (level : Fin 4) (tid : BitVec 16) (entries : BundleEntries)
  /-- DESCRIBE (12_dictionary.md R505): Returns a sub-index's type, mode, levels and limits. Source, port of arrival, level of the session it comes under (0 none), TID, and the fields. -/
  | describe (src : Fin 63) (port : Fin 9) (level : Fin 4) (tid : BitVec 16) (idx : BitVec 16) (sub : BitVec 8)
  /-- DOMAIN_READ (12_dictionary.md R513): Returns a segment of a DOMAIN value. Source, port of arrival, level of the session it comes under (0 none), TID, and the fields. -/
  | domainRead (src : Fin 63) (port : Fin 9) (level : Fin 4) (tid : BitVec 16) (idx : BitVec 16) (sub : BitVec 8) (offset : BitVec 32) (count : BitVec 16)
  /-- DOMAIN_START (12_dictionary.md R509): Opens a DOMAIN transfer staged in G25. Source, port of arrival, level of the session it comes under (0 none), TID, and the fields. -/
  | domainStart (src : Fin 63) (port : Fin 9) (level : Fin 4) (tid : BitVec 16) (idx : BitVec 16) (sub : BitVec 8) (total : BitVec 32)
  /-- DOMAIN_DATA (12_dictionary.md R510): Adds a segment to an open transfer. Source, port of arrival, level of the session it comes under (0 none), TID, and the fields. -/
  | domainData (src : Fin 63) (port : Fin 9) (level : Fin 4) (tid : BitVec 16) (offset : BitVec 32) (data : List (BitVec 8))
  /-- DOMAIN_END (12_dictionary.md R511): Checks the CRC and commits the DOMAIN value on one edge. Source, port of arrival, level of the session it comes under (0 none), TID, and the fields. -/
  | domainEnd (src : Fin 63) (port : Fin 9) (level : Fin 4) (tid : BitVec 16) (fin : TransferEnd)
  /-- DOMAIN_TRANSFER_TIMEOUT (12_dictionary.md R512): An idle transfer is abandoned after 1 s. -/
  | domainTransferTimeout (src : Fin 63)
  /-- ASSIGN (12_dictionary.md R522): A matching device takes NEW_ADDR as its domain address. -/
  | assign (src : Fin 63) (port : Fin 9) (tid : BitVec 16) (unit : BitVec 64) (addr : BitVec 8)
  /-- NOTICE (12_dictionary.md R528): G19 events are sent as a NOTICE at 63 events or after NOTICE_MS. -/
  | notice
  /-- STREAM_SEND (12_dictionary.md R529): Every STREAM_MS the streamed gallery records are sent. -/
  | streamSend
  /-- CFG_SAVE (14_images_and_security.md R590): CFG_CMD 0x01 starts a save of the configuration copy. -/
  | cfgSave (level : Fin 4)
  /-- SAVE_COMPLETE (14_images_and_security.md R590): The new copy verifies, CFG_SAVES increments and SAVING clears. -/
  | saveComplete
  /-- CFG_DEFAULTS (12_dictionary.md R494): CFG_CMD 0x02 erases the stored configuration. -/
  | cfgDefaults (level : Fin 4)
  /-- FRAME_RECEIVE (13_links.md R537): A link frame enters its receive buffer or is dropped. Port code less one, CAN identifier, bytes (Ethernet: destination address to payload), and whether the FCS passes. -/
  | frameReceive (c : Fin 4) (id : BitVec 29) (bytes : List (BitVec 8)) (fcsOk : Bool)
  /-- BUFFER_TO_GALLERY (13_links.md R538): Buffered data moves to its gallery on a credit. Port code. -/
  | bufferToGallery (c : Fin 9)
  /-- BEACON_LOSS (13_links.md R540): 1 ms without a BEACON clears PLCA_ACTIVE. -/
  | beaconLoss
  /-- BEACON_RECEIVED (13_links.md R540): A BEACON sets PLCA_ACTIVE again. -/
  | beaconReceived
  /-- ETH_LINK_LOSS (13_links.md R543): LINK clears and source 234 is raised. -/
  | ethLinkLoss
  /-- AS_SYNC_RECEIVE (13_links.md R544): An 802.1AS Sync updates AS_OFFSET_NS and the lock. -/
  | asSyncReceive (times : SyncTimes)
  /-- AS_SYNC_LOSS (13_links.md R544): 3 s without Sync clears AS_LOCKED. -/
  | asSyncLoss
  /-- CAN_FRAME_RECEIVE (12_dictionary.md R520): A CAN FD frame is reassembled into its PDU. Controller, identifier and data bytes. -/
  | canFrameReceive (k : Fin 2) (id : BitVec 29) (data : List (BitVec 8))
  /-- CAN_REASSEMBLY_TIMEOUT (12_dictionary.md R520): 10 ms without the next frame discards the partial PDU. -/
  | canReassemblyTimeout (k : Fin 2) (id : BitVec 29)
  /-- CAN_BUS_OFF (13_links.md R549): The controller enters bus-off. -/
  | canBusOff (k : Fin 2)
  /-- CAN_RECOVER (13_links.md R549): 128 × 11 recessive bits let the controller rejoin. -/
  | canRecover (k : Fin 2)
  /-- READ_STATUS (13_links.md R553): SPI command 0x0F returns the fast status block. Bytes read after CMD. -/
  | readStatus (n : Nat)
  /-- WRITE_PDU (13_links.md R554): SPI command 0x51 takes in a PDU. Bytes after CMD. -/
  | writePdu (bytes : List (BitVec 8))
  /-- READ_PDU (13_links.md R555): SPI command 0xA3 delivers the waiting PDU. Bytes read after CMD. -/
  | readPdu (n : Nat)
  /-- SPI_UNKNOWN_CMD (13_links.md R553): An unknown CMD is answered with 0xFF. CMD, and bytes read after it. -/
  | spiUnknownCmd (cmd : BitVec 8) (n : Nat)
  /-- SPI_CS_RISE (13_links.md R554): SPI_CS_N rises and ends the transaction. -/
  | spiCsRise
  /-- TW_POINTER_WRITE (13_links.md R561): The first byte of a write sets the register pointer. Port, and the byte. -/
  | twPointerWrite (k : Fin 3) (v : BitVec 8)
  /-- IN_FIFO (13_links.md R562): PDU bytes are written to IN_FIFO. Port, and the bytes after the pointer. -/
  | inFifo (k : Fin 3) (bytes : List (BitVec 8))
  /-- OUT_FIFO (13_links.md R562): The waiting PDU is read from OUT_FIFO. Port, and how many bytes are read. -/
  | outFifo (k : Fin 3) (n : Nat)
  /-- TW_STRETCH_TIMEOUT (13_links.md R563): A grouped target's stretch reaches 25 ms and the port resets. -/
  | twStretchTimeout (k : Fin 3)
  /-- TW_CONTROLLER_TIMEOUT (13_links.md R564): A grouped controller abandons a transfer held for 25 ms. -/
  | twControllerTimeout (k : Fin 3)
  /-- IN_BAND_REQUEST (13_links.md R565): A target pulls SDA low to request service. -/
  | inBandRequest (k : Fin 3)
  /-- IN_BAND_ANSWER (13_links.md R566): A controller answers a request and reads the status and PDU. Port; at a controller the byte read from 0x0C, the status block and the PDU read. -/
  | inBandAnswer (k : Fin 3) (answer : BitVec 8) (status : List (BitVec 8)) (pdu : List (BitVec 8))
  /-- ARBITRATION_LOSS (13_links.md R568): A controller loses arbitration and retries after STOP. `own`: lost in the address, and the winner addresses this port. -/
  | arbitrationLoss (k : Fin 3) (own : Bool)
  /-- BUS_CLEAR (13_links.md R569): A controller clocks up to nine pulses to free SDA. `freed`: SDA was sampled high. -/
  | busClear (k : Fin 3) (freed : Bool)
  /-- WIHAN_RECEIVE (13_links.md R573): A share-link message is checked, acted on and forwarded or removed. TYPE to CRC; `bad`: it contains K30.7. -/
  | wihanReceive (bytes : List (BitVec 8)) (bad : Bool)
  /-- SYNC_SEND (13_links.md R575): A device sends SYNC every 100 µs. -/
  | syncSend
  /-- SYNC_RECEIVE (13_links.md R576): A SYNC drives the timebase servo and the position. ADDR, HOPS as received, T_MASTER, CORR. -/
  | syncReceive (addr : Fin 64) (hops : Fin 16) (tMaster : BitVec 64) (corr : BitVec 32)
  /-- SYNC_LOSS (13_links.md R576): 1 ms without SYNC clears SYNC_OK. -/
  | syncLoss
  /-- ELECTION_TIMEOUT (13_links.md R575): 1 ms without a lower SYNC restarts the device's own SYNC. -/
  | electionTimeout
  /-- SHARE_SEND (13_links.md R577): Every 10 µs a SHARE message is sent. -/
  | shareSend
  /-- SHARE_RECEIVE (06_tally_and_sharing.md R283): A member's share value updates the group sums. -/
  | shareReceive (pos : Fin 8) (addr : Fin 64) (payload : List (BitVec 8))
  /-- SHARE_TRIM_UPDATE (06_tally_and_sharing.md R285): Every 10 µs TRIM_MV is updated. -/
  | shareTrimUpdate (g : Fin 4)
  /-- MEMBER_LOSS (06_tally_and_sharing.md R288): Three periods without a value drop the member. -/
  | memberLoss (g : Fin 4) (addr : Fin 64)
  /-- MEMBER_REJOIN (06_tally_and_sharing.md R288): Ten good values return the member. -/
  | memberRejoin (g : Fin 4) (addr : Fin 64)
  /-- ANNOUNCE_RECEIVE (13_links.md R578): A member pre-positions for a remote announcement. -/
  | announceReceive (addr : Fin 64) (group : Fin 16) (ann : Fin 256) (stepMa : BitVec 32) (tGate : BitVec 32)
  /-- WITHDRAW_RECEIVE (13_links.md R578): A member withdraws the matching announcement. -/
  | withdrawReceive (addr : Fin 64) (group : Fin 16) (ann : Fin 256)
  /-- FAULT_RECEIVE (13_links.md R579): A group FAULT is recorded, and the member may follow into HICCUP. -/
  | faultReceive (addr : Fin 64) (group : Fin 16) (kind : Fin 16)
  /-- SHARE_LOAD_WINDOW (13_links.md R581): Each 10 µs window updates LOAD_PERMILLE. Symbols counted in the window. -/
  | shareLoadWindow (symbols : Nat)
  /-- WIHAN_IN_LOSS (13_links.md R582): The loss of valid symbols on IN clears IN_OK. -/
  | wihanInLoss
  /-- CARD_DETECT (14_images_and_security.md R600): UC_DET_N has been low for 10 ms; SFDP and the header are read. First four bytes of the SFDP, the card's parameter table, and its content. -/
  | cardDetect (signature : BitVec 32) (table : CardParameters) (content : List (BitVec 8))
  /-- CARD_REMOVAL (14_images_and_security.md R601): The card is pulled during work, which is abandoned. -/
  | cardRemoval
  /-- UPD_CMD_INSTALL (14_images_and_security.md R604): Command 0x01 installs the card image. -/
  | updCmdInstall (level : Fin 4)
  /-- UPD_CMD_ACTIVATE (14_images_and_security.md R611): Command 0x02 sets a VALID bank to TRIAL and resets. -/
  | updCmdActivate (level : Fin 4)
  /-- UPD_CMD_ABORT_TRIAL (14_images_and_security.md R615): Command 0x03 rejects the trial and resets. -/
  | updCmdAbortTrial (level : Fin 4)
  /-- UPD_CMD_ERASE_INACTIVE (14_images_and_security.md R619): Command 0x04 erases the inactive bank. -/
  | updCmdEraseInactive (level : Fin 4)
  /-- UPD_CMD_RELAY (14_images_and_security.md R608): Command 0x05 relays the card image to RELAY_TARGET. -/
  | updCmdRelay (level : Fin 4)
  /-- IMG_OFFER (14_images_and_security.md R606): A header is offered and checked, and an install starts or resumes. Source, port of arrival, level of the session it comes under (0 none), TID, and the fields. -/
  | imgOffer (src : Fin 63) (port : Fin 9) (level : Fin 4) (tid : BitVec 16) (header : List (BitVec 8))
  /-- IMG_DATA (14_images_and_security.md R607): Container bytes are staged for writing. Source, port of arrival, level of the session it comes under (0 none), TID, and the fields. -/
  | imgData (src : Fin 63) (port : Fin 9) (level : Fin 4) (tid : BitVec 16) (offset : BitVec 32) (data : List (BitVec 8))
  /-- IMG_END (14_images_and_security.md R607): The transfer ends and the install is judged. Source, port of arrival, level of the session it comes under (0 none), TID, and the fields. -/
  | imgEnd (src : Fin 63) (port : Fin 9) (level : Fin 4) (tid : BitVec 16)
  /-- IMG_QUERY (14_images_and_security.md R606): Returns the device's image identity and progress. Source, port of arrival, level of the session it comes under (0 none), TID, and the fields. -/
  | imgQuery (src : Fin 63) (port : Fin 9) (level : Fin 4) (tid : BitVec 16)
  /-- IMG_OFFER_TIMEOUT (14_images_and_security.md R607): An offer idle for 1 s is abandoned. -/
  | imgOfferTimeout
  /-- NVM_OPERATION_DONE (14_images_and_security.md R592): A flash program or erase verifies, and the record is set DONE or FAILED. Whether it verifies, and whose operation is started next. -/
  | nvmOperationDone (ok : Bool) (owner : Fin 6)
  /-- TRIAL_CONFIRM (14_images_and_security.md R614): The trial conditions hold for CONFIRM_DWELL_S, and the bank is confirmed. -/
  | trialConfirm
  /-- TRIAL_TIMEOUT (14_images_and_security.md R615): TRIAL_S reaches 300 and the trial is rejected. -/
  | trialTimeout
  /-- DOMAIN_EPOCH_WRITE (14_images_and_security.md R610): A write of DOMAIN_EPOCH sets the domain epoch. -/
  | domainEpochWrite (level : Fin 4) (v : BitVec 16)
  /-- SESSION_OPEN (14_images_and_security.md R622): Returns a nonce and proof for a session open. LEVEL and NONCE_R. -/
  | sessionOpen (src : Fin 63) (port : Fin 9) (tid : BitVec 16) (want : BitVec 8) (nonce : BitVec 64)
  /-- SESSION_PROVE (14_images_and_security.md R622): A passing tag opens the session. `pass`: the tag passes. -/
  | sessionProve (src : Fin 63) (port : Fin 9) (tid : BitVec 16) (pass : Bool)
  /-- SESSION_CLOSE (14_images_and_security.md R622): Closes a session. -/
  | sessionClose (src : Fin 63) (port : Fin 9) (tid : BitVec 16)
  /-- SESSION_OPEN_LAPSE (14_images_and_security.md R623): An unproved open lapses after 1 s. -/
  | sessionOpenLapse (src : Fin 63)
  /-- SESSION_IDLE (14_images_and_security.md R624): SESSION_IDLE_S without a PDU closes the session. -/
  | sessionIdle (src : Fin 63)
  /-- REVOKE (14_images_and_security.md R627): A public key slot is revoked for good. -/
  | revoke (level : Fin 4) (k : Fin 4)
  /-- LOCK (14_images_and_security.md R628): DEBUG_CMD 0x03 moves OPEN to LOCKED. `near`: from host SPI or TW0. -/
  | lock (level : Fin 4) (near : Bool)
  /-- RMA (14_images_and_security.md R628): DEBUG_CMD 0x04 moves LOCKED to RMA and erases the key slots. -/
  | rma (level : Fin 4)
  /-- DEBUG_ENTER (14_images_and_security.md R629): DEBUG_CMD 0x01 starts debug entry with zeroisation. `near`: from host SPI or TW0; `ok`: the read-backs pass. -/
  | debugEnter (level : Fin 4) (near : Bool) (ok : Bool)
  /-- SCAN_ENTER (14_images_and_security.md R631): DEBUG_CMD 0x02 starts scan entry when the device is quiet. `near`: from host SPI or TW0; `ok`: the read-backs pass. -/
  | scanEnter (level : Fin 4) (near : Bool) (ok : Bool)
  /-- DEBUG_PORT_REQUEST (14_images_and_security.md R628): A request on the debug port starts debug entry where it is allowed. `ok`: the read-backs pass. -/
  | debugPortRequest (ok : Bool)
  /-- DEBUG_WINDOW_EXPIRY (14_images_and_security.md R628): The 10 s window for a debug request closes. -/
  | debugWindowExpiry
  /-- CRYSTAL_TIMEOUT (15_start_bist_standby.md R639): 20 ms without a stable XIN, and the start continues on the backup RC. -/
  | crystalTimeout
  /-- START_HALT_RETRY (15_start_bist_standby.md R636): 1 s after a halted start the start repeats. -/
  | startHaltRetry
  /-- CONFIGURED_ENTRY (15_start_bist_standby.md R638): The start ends in CONFIGURED. What the tests of the start found: unit, element, word address and bit. -/
  | configuredEntry (fails : List (Fin 27 × Fin 4096 × BitVec 32 × BitVec 16))
  /-- LAMP_UNIT_DONE (15_start_bist_standby.md R646): A unit's lamp test completes, and the unit is re-initialised. Coverage read back, duration in µs, and the result of the unit under test: failing word addresses and bits, none for PASS. -/
  | lampUnitDone (coverage : BitVec 16) (durUs : Int) (fails : List (BitVec 32 × BitVec 16))
  /-- LAMP_TIMEOUT (15_start_bist_standby.md R647): The lamp check reaches 120 ms and BUDGET sets. -/
  | lampTimeout
  /-- WAKE (15_start_bist_standby.md R654): A filtered wake source starts a cold reset from STANDBY. 0–3 WAKE0–3, 4 TW0. -/
  | wake (k : Fin 5) (x : WakeEvent)
  /-- WAKE_PENDING_START (15_start_bist_standby.md R654): VSUP enters its range and a pending wake starts. -/
  | wakePendingStart (seconds : Nat)
  /-- SUPPLY_DIP (16_balls_and_supplies.md R675): VDDA, VDDIO1 or VREG5 low for 2 µs requests a power-plane reset. 0 VDDA, 1 VDDIO1, 2 VREG5. -/
  | supplyDip (k : Fin 3)
  /-- SUPPLY_HOLD_RELEASE (16_balls_and_supplies.md R674): The held supplies have been in range for 1 ms and the start continues. -/
  | supplyHoldRelease
  /-- IO_SUPPLY_LOSS (16_balls_and_supplies.md R676): VDDIO2 or VDDIO_RG leaves its range and its ports stop. 0 VDDIO2, 1 VDDIO_RG. -/
  | ioSupplyLoss (k : Fin 2)
  /-- IO_SUPPLY_RETURN (16_balls_and_supplies.md R676): The supply has been back in range for 1 ms and its ports restart. 0 VDDIO2, 1 VDDIO_RG. -/
  | ioSupplyReturn (k : Fin 2)
  /-- VKEEP_LOW (16_balls_and_supplies.md R677): VKEEP falls low and VKEEP_OK clears. -/
  | vkeepLow
  /-- VSUP_POWER_ON (17_electrical.md R689): VSUP rises above its rising power-on level and a start under R638 may begin. -/
  | vsupPowerOn (seconds : Nat)
  /-- ROOT_CLOCK_RETURN (01_architecture.md R33): XIN edges have been present for 10 ms after a loss and ROOT_OK sets, so CLK_RETURN can be accepted. -/
  | rootClockReturn
  /-- DIE_COMPARATOR_RELEASE (08_sensing_and_thermal.md R368): The die cools below 165 °C and the independent comparator releases the power plane from reset. -/
  | dieComparatorRelease
  /-- CURRENT_LIMIT_RELEASE (03_load_channels.md R134): The channel current falls below ILIM_MA, AT_LIMIT clears, the context returns from LIMIT to ON and its fault timer starts to drain. Voltage on the shunt in µV. -/
  | currentLimitRelease (x : ChannelLevel)
  /-- ETH_LINK_UP (13_links.md R542): The RGMII in-band status reports link, LINK sets and the MAC takes its speed. 0 10, 1 100, 2 1000 Mbit/s. -/
  | ethLinkUp (speed : Fin 3)
  /-- CAN_BUS_ERROR (13_links.md R547): A bus error changes TEC or REC, moving the controller between error-active and error-passive. The counters after it. -/
  | canBusError (k : Fin 2) (tec : Fin 256) (rec : Fin 256)
  /-- TW_STOP (13_links.md R562): A STOP or repeated START on a target port ends the transfer: it discards a partial IN_FIFO PDU or releases a PDU read whole from OUT_FIFO. -/
  | twStop (k : BusEnd)
  /-- TW_STATUS_READ (13_links.md R552): A two-wire read of registers 0x00–0x0F snapshots the fast status block at the address acknowledge and clears READY_NEW once all 16 bytes are delivered. Port, and how many bytes are read. -/
  | twStatusRead (k : Fin 3) (n : Nat)
  /-- WIHAN_IN_RETURN (13_links.md R582): Valid symbols arrive again on the share-link input and IN_OK sets. -/
  | wihanInReturn
  /-- VKEEP_RETURN (16_balls_and_supplies.md R677): VKEEP returns above its low threshold and VKEEP_OK sets again. -/
  | vkeepReturn
  /-- RELAY_RESPONSE_RECEIVED (14_images_and_security.md R608): A response from the relay target to the relayer's session, query, offer, data or end request advances the relay or fails it into RELAY_STATUS. ABORT, and the body after it. -/
  | relayResponseReceived (abort : BitVec 16) (body : List (BitVec 8))
  deriving DecidableEq, Repr

end Sys2Proof
end

