-- ==== Sys2Proof/Decode.lean ====
section
/-!
DEFINITION. The decoder over the table's bits. No row of the table of operations and events gives bits: the part takes commands,
not words, and the words that it does parse (share-link messages, PDUs, ring frames) are parsed in Machine/.
-/
namespace Sys2Proof

/-- The command a word spells by the table's bits: none, for no row gives bits (log entry 2: DESIGN CHOICE). -/
def decodeTableWord (_nbits _w : Nat) : Option Instr := none

end Sys2Proof
end

