-- ==== Sys2Proof/Machine/Crypto.lean ====
section
/-!
DEFINITION. The ciphers that 12_dictionary.md R500 and 14_images_and_security.md R622, R626 name: AES-128, the CMAC of NIST
SP 800-38B and the key unwrap of RFC 3394. The spec names them and does not print them: they are taken from those standards (PRESUMED,
log entry 20). Bytes are natural numbers below 256 here.
-/
namespace Sys2Proof.Machine

/-- Entry `i` of a byte list. -/
def nth (l : List Nat) (i : Nat) : Nat := l.getD i 0

/-- Multiplication by x in the AES field. -/
def aesX (a : Nat) : Nat := if a < 128 then 2 * a else Nat.xor (2 * a % 256) 0x1b

/-- Multiplication by a constant below 16 in the AES field. -/
def aesMul (k a : Nat) : Nat :=
  let a2 := aesX a
  let a4 := aesX a2
  let a8 := aesX a4
  Nat.xor (Nat.xor (if k % 2 = 1 then a else 0) (if k / 2 % 2 = 1 then a2 else 0))
    (Nat.xor (if k / 4 % 2 = 1 then a4 else 0) (if k / 8 % 2 = 1 then a8 else 0))

/-- The product of two elements of the AES field, over `n` bits of the first. -/
def aesProduct : Nat → Nat → Nat → Nat
  | 0, _, _ => 0
  | n + 1, a, b => Nat.xor (if a % 2 = 1 then b else 0) (aesProduct n (a / 2) (aesX b))

/-- The power 2ⁿ⁺¹ − 2 of an element of the AES field; with seven it is the inverse, and 0 of 0. -/
def aesPower (a : Nat) : Nat → Nat
  | 0 => 1
  | n + 1 =>
    let t := aesProduct 8 (aesPower a n) a
    aesProduct 8 t t

/-- The exclusive or of a byte turned left by each of the counts. -/
def turnedByte (a : Nat) (counts : List Nat) : Nat := counts.foldl (fun t n => Nat.xor t (a * 2 ^ n % 256 + a / 2 ^ (8 - n))) 0

/-- The S-box: the inverse in the AES field and an affine map. -/
def aesSub (a : Nat) : Nat := Nat.xor 99 (turnedByte (aesPower a 7) [0, 1, 2, 3, 4])

/-- The inverse S-box. -/
def aesUnsub (a : Nat) : Nat := aesPower (Nat.xor 5 (turnedByte a [1, 3, 6])) 7

/-- Byte-wise exclusive or. -/
def xorBytes (a b : List Nat) : List Nat := List.zipWith Nat.xor a b

/-- One column of MixColumns with the coefficients of its first row. -/
def aesMix (c0 c1 c2 c3 : Nat) (w : List Nat) : List Nat :=
  let a := nth w 0
  let b := nth w 1
  let c := nth w 2
  let d := nth w 3
  [Nat.xor (Nat.xor (aesMul c0 a) (aesMul c1 b)) (Nat.xor (aesMul c2 c) (aesMul c3 d)),
   Nat.xor (Nat.xor (aesMul c3 a) (aesMul c0 b)) (Nat.xor (aesMul c1 c) (aesMul c2 d)),
   Nat.xor (Nat.xor (aesMul c2 a) (aesMul c3 b)) (Nat.xor (aesMul c0 c) (aesMul c1 d)),
   Nat.xor (Nat.xor (aesMul c1 a) (aesMul c2 b)) (Nat.xor (aesMul c3 c) (aesMul c0 d))]

/-- A block's four columns. -/
def columns (b : List Nat) : List (List Nat) := [b.take 4, (b.drop 4).take 4, (b.drop 8).take 4, (b.drop 12).take 4]

/-- ShiftRows, as the place each byte of the result comes from. -/
def aesShift : List Nat := [0, 5, 10, 15, 4, 9, 14, 3, 8, 13, 2, 7, 12, 1, 6, 11]

/-- The inverse of ShiftRows. -/
def aesUnshift : List Nat := [0, 13, 10, 7, 4, 1, 14, 11, 8, 5, 2, 15, 12, 9, 6, 3]

/-- The next round key from the last. -/
def aesNextKey (k : List Nat) (rcon : Nat) : List Nat :=
  let w := k.drop 12
  let t := [Nat.xor (aesSub (nth w 1)) rcon, aesSub (nth w 2), aesSub (nth w 3), aesSub (nth w 0)]
  let a := xorBytes (k.take 4) t
  let b := xorBytes ((k.drop 4).take 4) a
  let c := xorBytes ((k.drop 8).take 4) b
  a ++ b ++ c ++ xorBytes w c

/-- The eleven round keys. -/
def aesKeys (k : List Nat) : List (List Nat) :=
  let step := fun (acc : List (List Nat) × List Nat) r => let n := aesNextKey acc.2 r; (acc.1 ++ [n], n)
  ([1, 2, 4, 8, 16, 32, 64, 128, 27, 54].foldl step ([k], k)).1

/-- AES-128 encryption of one block. -/
def aesEncrypt (key block : List Nat) : List Nat :=
  let ks := aesKeys key
  let round := fun (s : List Nat) (i : Nat) =>
    let sub := aesShift.map fun j => aesSub (nth s j)
    let mixed := if i = 10 then sub else ((columns sub).map (aesMix 2 3 1 1)).flatten
    xorBytes mixed (ks.getD i [])
  [1, 2, 3, 4, 5, 6, 7, 8, 9, 10].foldl round (xorBytes block (ks.getD 0 []))

/-- AES-128 decryption of one block. -/
def aesDecrypt (key block : List Nat) : List Nat :=
  let ks := aesKeys key
  let round := fun (s : List Nat) (i : Nat) =>
    let keyed := xorBytes s (ks.getD i [])
    let mixed := if i = 10 then keyed else ((columns keyed).map (aesMix 14 11 13 9)).flatten
    aesUnshift.map fun j => aesUnsub (nth mixed j)
  xorBytes ([10, 9, 8, 7, 6, 5, 4, 3, 2, 1].foldl round block) (ks.getD 0 [])

/-- A block as a number, most significant byte first. -/
def blockNat (b : List Nat) : Nat := b.foldl (fun t x => t * 256 + x) 0

/-- A number as `n` bytes, most significant first. -/
def beBytes : Nat → Nat → List Nat
  | 0, _ => []
  | n + 1, v => beBytes n (v / 256) ++ [v % 256]

/-- Doubling in the field of CMAC's subkeys. -/
def cmacDouble (b : List Nat) : List Nat :=
  let v := blockNat b
  let d := 2 * v % 2 ^ 128
  beBytes 16 (if 2 ^ 127 ≤ v then Nat.xor d 0x87 else d)

/-- Sixteen zero bytes. -/
def zeroBlock : List Nat := List.replicate 16 0

/-- The chain of CMAC over the message, `n` blocks before the last. -/
def cmacChain (key last : List Nat) : Nat → List Nat → List Nat → List Nat
  | 0, x, _ => aesEncrypt key (xorBytes x last)
  | n + 1, x, m => cmacChain key last n (aesEncrypt key (xorBytes x (m.take 16))) (m.drop 16)

/-- AES-128-CMAC of NIST SP 800-38B. -/
def cmac (key msg : List Nat) : List Nat :=
  let k1 := cmacDouble (aesEncrypt key zeroBlock)
  let n := (msg.length - 1) / 16
  let rest := msg.drop (16 * n)
  let last :=
    if rest.length = 16 then xorBytes rest k1
    else xorBytes (rest ++ [128] ++ List.replicate (15 - rest.length) 0) (cmacDouble k1)
  cmacChain key last n zeroBlock msg

/-- One step of the key unwrap: A and the semiblocks, step number `t`, semiblock `i`. -/
def unwrapStep (kek : List Nat) (st : List Nat × List (List Nat)) (t i : Nat) : List Nat × List (List Nat) :=
  let a := beBytes 8 (Nat.xor (blockNat st.1) t)
  let b := aesDecrypt kek (a ++ st.2.getD i [])
  (b.take 8, st.2.set i (b.drop 8))

/-- The key unwrap of RFC 3394 for a 16-byte key: none when the integrity check fails. -/
def keyUnwrap (kek wrapped : List Nat) : Option (List Nat) :=
  let st0 := (wrapped.take 8, [(wrapped.drop 8).take 8, (wrapped.drop 16).take 8])
  let st := [12, 11, 10, 9, 8, 7, 6, 5, 4, 3, 2, 1].foldl (fun st t => unwrapStep kek st t ((t + 1) % 2)) st0
  if st.1 = List.replicate 8 0xA6 then some st.2.flatten else none

end Sys2Proof.Machine
end

