-- ==== Sys2Proof/Config.lean ====
section
/-!
DEFINITION. What the spec leaves open and no rule fixes: uninterpreted constants, so that nothing can be proved of their values.
-/
namespace Sys2Proof.Config

/-- A value the spec leaves open (log entry 6): the `n`-th free value of a run. Nothing constrains it. -/
opaque freeInt : Nat → Int

/-- The fixed path delay of the share link from SOF in, in ns, for which the spec gives no number (13_links.md R576). -/
opaque wsFixedDelay : Int

/-- PHY_OK of the 10BASE-T1S port at an instant of timebase: the spec names the bit and not when it is set (13_links.md R541). -/
opaque phyOk : Nat → Bool

end Sys2Proof.Config
end

