-- ==== Sys2Proof/Machine/Dictionary.lean ====
section
/-!
DEFINITION. The dictionary of the part (12_dictionary.md R489, R492): for every sub-index of every object its type,
access, session level, legal values, reserved bits and reset value, as the sub-index tables of the chapters give them,
and the table of the registers the spec names without giving them a sub-index (the internal registers).
The rule that a table belongs to stands over its rows.
-/
namespace Sys2Proof.Machine

/-- The types of a sub-index (12_dictionary.md R490). -/
inductive Ty where
  | bool | u8 | u16 | u32 | u64 | i16 | i32 | i64 | q15 | string | domain
  deriving DecidableEq, Repr

/-- The access of a sub-index or of a field (12_dictionary.md R491): `fields` when the fields carry it. -/
inductive Access where
  | const | ro | rw | rws | wo | fields
  deriving DecidableEq, Repr

/-- A field of a sub-index: its bits, its access, and its least and greatest legal value. -/
structure FieldRow where
  name : String
  hi : Nat
  lo : Nat
  acc : Access
  least : Nat
  most : Nat
  deriving DecidableEq, Repr

/-- A run of sub-indexes `s0 … s1` of one object that share a row of its table. `mask`: the bits a value may have set;
`step`: what the reset value grows by per unit of the family. -/
structure SubRow where
  s0 : Nat
  s1 : Nat
  name : String
  ty : Ty
  acc : Access
  level : Nat
  ranges : List (Int × Int)
  mask : Option Nat
  reset : Int
  step : Int
  fields : List FieldRow
  deriving DecidableEq, Repr

/-- An object, or a family of `count` objects of one shape from index `base` on. -/
structure ObjRow where
  base : Nat
  count : Nat
  subs : List SubRow
  deriving DecidableEq, Repr

/-- 12_dictionary.md R495: objects 0x1000. -/
def objIdent : ObjRow := ⟨4096, 1, [
  ⟨0, 0, "MAX_SUB", .u8, .const, 0, [], none, 8, 0, []⟩,
  ⟨1, 1, "DEVICE_TYPE", .u32, .const, 0, [], none, 5272136, 0, []⟩,
  ⟨2, 2, "SILICON_REV", .u8, .const, 0, [], none, 17, 0, []⟩,
  ⟨3, 3, "UNIT_ID", .u64, .const, 0, [], none, 0, 0, []⟩,
  ⟨4, 4, "VENDOR", .string, .const, 0, [], none, 0, 0, []⟩,
  ⟨5, 5, "PRODUCT", .string, .const, 0, [], none, 0, 0, []⟩,
  ⟨6, 6, "FW_VERSION", .u32, .ro, 0, [], none, 0, 0, []⟩,
  ⟨7, 7, "MAC_ADDR", .u64, .const, 0, [], none, 0, 0, []⟩,
  ⟨8, 8, "DENGON_VER", .u8, .const, 0, [], none, 1, 0, []⟩]⟩

/-- 09_sequencing_and_states.md R382: objects 0x1010. -/
def objPower : ObjRow := ⟨4112, 1, [
  ⟨0, 0, "MAX_SUB", .u8, .const, 0, [], none, 5, 0, []⟩,
  ⟨1, 1, "STATE_CMD", .u8, .wo, 0, [(0, 6)], none, 0, 0, []⟩,
  ⟨2, 2, "STATE", .u8, .ro, 0, [], none, 2, 0, []⟩,
  ⟨3, 3, "STATE_CHANGES", .u32, .ro, 0, [], none, 0, 0, []⟩,
  ⟨4, 4, "STATE_REJECTS", .u32, .ro, 0, [], none, 0, 0, []⟩,
  ⟨5, 5, "LAST_STATE_NS", .u64, .ro, 0, [], none, 0, 0, []⟩]⟩

/-- 12_dictionary.md R494: objects 0x1011. -/
def objCfg : ObjRow := ⟨4113, 1, [
  ⟨0, 0, "MAX_SUB", .u8, .const, 0, [], none, 4, 0, []⟩,
  ⟨1, 1, "CFG_CMD", .u8, .wo, 2, [(1, 1), (2, 2)], none, 0, 0, []⟩,
  ⟨2, 2, "CFG_STATUS", .u8, .ro, 0, [], none, 0, 0, []⟩,
  ⟨3, 3, "CFG_CRC", .u32, .ro, 0, [], none, 0, 0, []⟩,
  ⟨4, 4, "CFG_SAVES", .u32, .ro, 0, [], none, 0, 0, []⟩]⟩

/-- 12_dictionary.md R516: objects 0x1018. -/
def objOutcome : ObjRow := ⟨4120, 1, [
  ⟨0, 0, "MAX_SUB", .u8, .const, 0, [], none, 34, 0, []⟩,
  ⟨1, 32, "ENTRY0-ENTRY31", .u64, .ro, 0, [], none, 0, 0, []⟩,
  ⟨33, 33, "TX_SEQ", .u32, .ro, 0, [], none, 0, 0, []⟩,
  ⟨34, 34, "TABLE", .domain, .ro, 0, [], none, 0, 0, []⟩]⟩

/-- 12_dictionary.md R535: objects 0x1019. -/
def objCnt : ObjRow := ⟨4121, 1, [
  ⟨0, 0, "MAX_SUB", .u8, .const, 0, [], none, 12, 0, []⟩,
  ⟨1, 1, "RX_PDUS", .u32, .ro, 0, [], none, 0, 0, []⟩,
  ⟨2, 2, "TX_PDUS", .u32, .ro, 0, [], none, 0, 0, []⟩,
  ⟨3, 3, "DISCARDS", .u32, .ro, 0, [], none, 0, 0, []⟩,
  ⟨4, 4, "AUTH_FAILS", .u32, .ro, 0, [], none, 0, 0, []⟩,
  ⟨5, 5, "REPLAYS", .u32, .ro, 0, [], none, 0, 0, []⟩,
  ⟨6, 6, "ABORTS", .u32, .ro, 0, [], none, 0, 0, []⟩,
  ⟨7, 7, "STATE_ABORTS", .u32, .ro, 0, [], none, 0, 0, []⟩,
  ⟨8, 8, "DUPLICATES", .u32, .ro, 0, [], none, 0, 0, []⟩,
  ⟨9, 9, "FWD_PDUS", .u32, .ro, 0, [], none, 0, 0, []⟩,
  ⟨10, 10, "TTL_DROPS", .u32, .ro, 0, [], none, 0, 0, []⟩,
  ⟨11, 11, "ADDR_CLASH", .u32, .ro, 0, [], none, 0, 0, []⟩,
  ⟨12, 12, "CAN_REASM_FAILS", .u32, .ro, 0, [], none, 0, 0, []⟩]⟩

/-- 13_links.md R541: objects 0x1100. -/
def objT1s : ObjRow := ⟨4352, 1, [
  ⟨0, 0, "MAX_SUB", .u8, .const, 0, [], none, 11, 0, []⟩,
  ⟨1, 1, "T1S_CTRL", .u8, .rws, 0, [], some 3, 2, 0, []⟩,
  ⟨2, 2, "PLCA_NODE_ID", .u8, .rws, 0, [(0, 254)], none, 1, 0, []⟩,
  ⟨3, 3, "PLCA_NODE_COUNT", .u8, .rws, 0, [(1, 255)], none, 8, 0, []⟩,
  ⟨4, 4, "PLCA_TO", .u8, .rws, 0, [(1, 255)], none, 32, 0, []⟩,
  ⟨5, 5, "PLCA_BURST_CNT", .u8, .rws, 0, [(0, 255)], none, 0, 0, []⟩,
  ⟨6, 6, "PLCA_BURST_TMR", .u8, .rws, 0, [(1, 255)], none, 128, 0, []⟩,
  ⟨7, 7, "T1S_STATUS", .u8, .ro, 0, [], none, 0, 0, []⟩,
  ⟨8, 8, "RX_FRAMES", .u32, .ro, 0, [], none, 0, 0, []⟩,
  ⟨9, 9, "TX_FRAMES", .u32, .ro, 0, [], none, 0, 0, []⟩,
  ⟨10, 10, "RX_DROPS", .u32, .ro, 0, [], none, 0, 0, []⟩,
  ⟨11, 11, "TX_ERRORS", .u32, .ro, 0, [], none, 0, 0, []⟩]⟩

/-- 13_links.md R546: objects 0x1110. -/
def objEth : ObjRow := ⟨4368, 1, [
  ⟨0, 0, "MAX_SUB", .u8, .const, 0, [], none, 10, 0, []⟩,
  ⟨1, 1, "ETH_CTRL", .u8, .fields, 0, [], none, 24, 0, [⟨"AS_DISCIPLINE", 7, 7, .rw, 0, 1⟩, ⟨"AS_EN", 6, 6, .rw, 0, 1⟩, ⟨"VLAN_EN", 5, 5, .rws, 0, 1⟩, ⟨"RXDLY", 4, 4, .rws, 0, 1⟩, ⟨"TXDLY", 3, 3, .rws, 0, 1⟩, ⟨"SPEED", 2, 1, .rws, 0, 3⟩, ⟨"ENABLE", 0, 0, .rws, 0, 1⟩]⟩,
  ⟨2, 2, "VLAN_ID", .u16, .rws, 0, [(1, 4094)], none, 1, 0, []⟩,
  ⟨3, 3, "ETH_STATUS", .u8, .ro, 0, [], none, 0, 0, []⟩,
  ⟨4, 4, "AS_OFFSET_NS", .i32, .ro, 0, [], none, 0, 0, []⟩,
  ⟨5, 5, "PHY_TX_NS", .u16, .rws, 0, [(0, 1000)], none, 0, 0, []⟩,
  ⟨6, 6, "PHY_RX_NS", .u16, .rws, 0, [(0, 1000)], none, 0, 0, []⟩,
  ⟨7, 7, "RX_FRAMES", .u32, .ro, 0, [], none, 0, 0, []⟩,
  ⟨8, 8, "TX_FRAMES", .u32, .ro, 0, [], none, 0, 0, []⟩,
  ⟨9, 9, "RX_DROPS", .u32, .ro, 0, [], none, 0, 0, []⟩,
  ⟨10, 10, "FCS_ERRORS", .u32, .ro, 0, [], none, 0, 0, []⟩]⟩

/-- 13_links.md R550: objects 0x1120–0x1121. -/
def objCanRows0 : List SubRow := [
  ⟨0, 0, "MAX_SUB", .u8, .const, 0, [], none, 17, 0, []⟩,
  ⟨1, 1, "CAN_CTRL", .u8, .rws, 0, [], some 7, 6, 0, []⟩,
  ⟨2, 2, "NOM_BRP", .u8, .rws, 0, [(1, 32)], none, 2, 0, []⟩,
  ⟨3, 3, "NOM_TSEG1", .u8, .rws, 0, [(2, 255)], none, 63, 0, []⟩,
  ⟨4, 4, "NOM_TSEG2", .u8, .rws, 0, [(1, 128)], none, 16, 0, []⟩,
  ⟨5, 5, "NOM_SJW", .u8, .rws, 0, [(1, 128)], none, 16, 0, []⟩,
  ⟨6, 6, "DATA_BRP", .u8, .rws, 0, [(1, 32)], none, 1, 0, []⟩,
  ⟨7, 7, "DATA_TSEG1", .u8, .rws, 0, [(1, 32)], none, 14, 0, []⟩,
  ⟨8, 8, "DATA_TSEG2", .u8, .rws, 0, [(1, 16)], none, 5, 0, []⟩,
  ⟨9, 9, "DATA_SJW", .u8, .rws, 0, [(1, 16)], none, 5, 0, []⟩,
  ⟨10, 10, "TDC_OFFSET", .u8, .rws, 0, [(0, 127)], none, 15, 0, []⟩,
  ⟨11, 11, "CAN_STATUS", .u8, .ro, 0, [], none, 0, 0, []⟩,
  ⟨12, 12, "TEC", .u8, .ro, 0, [], none, 0, 0, []⟩,
  ⟨13, 13, "REC", .u8, .ro, 0, [], none, 0, 0, []⟩,
  ⟨14, 14, "RX_FRAMES", .u32, .ro, 0, [], none, 0, 0, []⟩,
  ⟨15, 15, "TX_FRAMES", .u32, .ro, 0, [], none, 0, 0, []⟩]

def objCanRows1 : List SubRow := [
  ⟨16, 16, "RX_DROPS", .u32, .ro, 0, [], none, 0, 0, []⟩,
  ⟨17, 17, "BUS_OFFS", .u32, .ro, 0, [], none, 0, 0, []⟩]

/-- 13_links.md R550: the rows together. -/
def objCan : ObjRow := ⟨4384, 2, objCanRows0 ++ objCanRows1⟩

/-- 13_links.md R558: objects 0x1130. -/
def objSpi : ObjRow := ⟨4400, 1, [
  ⟨0, 0, "MAX_SUB", .u8, .const, 0, [], none, 5, 0, []⟩,
  ⟨1, 1, "SPI_CTRL", .u8, .rws, 0, [], some 1, 1, 0, []⟩,
  ⟨2, 2, "IRQ_MASK", .u8, .rw, 0, [], some 63, 43, 0, []⟩,
  ⟨3, 3, "SPI_ERRORS", .u32, .ro, 0, [], none, 0, 0, []⟩,
  ⟨4, 4, "SPI_ABORTS", .u32, .ro, 0, [], none, 0, 0, []⟩,
  ⟨5, 5, "IN_REFUSED", .u32, .ro, 0, [], none, 0, 0, []⟩]⟩

/-- 13_links.md R570: objects 0x1140. -/
def objTw0 : ObjRow := ⟨4416, 1, [
  ⟨0, 0, "MAX_SUB", .u8, .const, 0, [], none, 11, 0, []⟩,
  ⟨1, 1, "TW_CTRL", .u8, .fields, 0, [], none, 20, 0, [⟨"reserved", 7, 6, .ro, 0, 3⟩, ⟨"IBR_ANSWER", 5, 5, .const, 0, 1⟩, ⟨"IBR_EN", 4, 4, .rw, 0, 1⟩, ⟨"SPEED", 3, 2, .rws, 0, 2⟩, ⟨"CONTROLLER", 1, 1, .const, 0, 1⟩, ⟨"ENABLE", 0, 0, .rws, 0, 1⟩]⟩,
  ⟨2, 2, "TW_ADDR", .u8, .rws, 0, [(8, 11), (13, 119)], none, 76, 0, []⟩,
  ⟨3, 3, "PEER_ADDR", .u8, .const, 0, [], none, 0, 0, []⟩,
  ⟨4, 4, "IRQ_MASK", .u8, .rw, 0, [], some 63, 43, 0, []⟩,
  ⟨5, 5, "TW_STATUS", .u8, .ro, 0, [], none, 0, 0, []⟩,
  ⟨6, 6, "ARB_LOSSES", .u32, .ro, 0, [], none, 0, 0, []⟩,
  ⟨7, 7, "TIMEOUTS", .u32, .ro, 0, [], none, 0, 0, []⟩,
  ⟨8, 8, "CLEARS", .u32, .ro, 0, [], none, 0, 0, []⟩,
  ⟨9, 9, "CLEAR_FAILS", .u32, .ro, 0, [], none, 0, 0, []⟩,
  ⟨10, 10, "ABORTS", .u32, .ro, 0, [], none, 0, 0, []⟩,
  ⟨11, 11, "IBR_COUNT", .u32, .ro, 0, [], none, 0, 0, []⟩]⟩

/-- 13_links.md R570: objects 0x1141–0x1142. -/
def objTw : ObjRow := ⟨4417, 2, [
  ⟨0, 0, "MAX_SUB", .u8, .const, 0, [], none, 11, 0, []⟩,
  ⟨1, 1, "TW_CTRL", .u8, .fields, 0, [], none, 53, (-1), [⟨"reserved", 7, 6, .ro, 0, 3⟩, ⟨"IBR_ANSWER", 5, 5, .rw, 0, 1⟩, ⟨"IBR_EN", 4, 4, .rw, 0, 1⟩, ⟨"SPEED", 3, 2, .rws, 0, 2⟩, ⟨"CONTROLLER", 1, 1, .rws, 0, 1⟩, ⟨"ENABLE", 0, 0, .rws, 0, 1⟩]⟩,
  ⟨2, 2, "TW_ADDR", .u8, .rws, 0, [(8, 11), (13, 119)], none, 77, 1, []⟩,
  ⟨3, 3, "PEER_ADDR", .u8, .rws, 0, [(8, 11), (13, 119)], none, 76, 0, []⟩,
  ⟨4, 4, "IRQ_MASK", .u8, .rw, 0, [], some 63, 43, 0, []⟩,
  ⟨5, 5, "TW_STATUS", .u8, .ro, 0, [], none, 0, 0, []⟩,
  ⟨6, 6, "ARB_LOSSES", .u32, .ro, 0, [], none, 0, 0, []⟩,
  ⟨7, 7, "TIMEOUTS", .u32, .ro, 0, [], none, 0, 0, []⟩,
  ⟨8, 8, "CLEARS", .u32, .ro, 0, [], none, 0, 0, []⟩,
  ⟨9, 9, "CLEAR_FAILS", .u32, .ro, 0, [], none, 0, 0, []⟩,
  ⟨10, 10, "ABORTS", .u32, .ro, 0, [], none, 0, 0, []⟩,
  ⟨11, 11, "IBR_COUNT", .u32, .ro, 0, [], none, 0, 0, []⟩]⟩

/-- 13_links.md R584: objects 0x1150. -/
def objWs : ObjRow := ⟨4432, 1, [
  ⟨0, 0, "MAX_SUB", .u8, .const, 0, [], none, 11, 0, []⟩,
  ⟨1, 1, "WS_CTRL", .u8, .fields, 0, [], none, 2, 0, [⟨"reserved", 7, 2, .ro, 0, 63⟩, ⟨"FOLLOW_HICCUP", 1, 1, .rw, 0, 1⟩, ⟨"ENABLE", 0, 0, .rws, 0, 1⟩]⟩,
  ⟨2, 2, "LINK_DELAY_NS", .u8, .rws, 0, [(0, 10)], none, 1, 0, []⟩,
  ⟨3, 3, "WS_STATUS", .u16, .ro, 0, [], none, 8, 0, []⟩,
  ⟨4, 4, "MASTER_ADDR", .u8, .ro, 0, [], none, 0, 0, []⟩,
  ⟨5, 5, "TB_ERR_NS", .i32, .ro, 0, [], none, 0, 0, []⟩,
  ⟨6, 6, "PLL_TRIM_PPB", .i32, .ro, 0, [], none, 0, 0, []⟩,
  ⟨7, 7, "LOAD_PERMILLE", .u16, .ro, 0, [], none, 0, 0, []⟩,
  ⟨8, 8, "CRC_ERRORS", .u32, .ro, 0, [], none, 0, 0, []⟩,
  ⟨9, 9, "HOP_DROPS", .u32, .ro, 0, [], none, 0, 0, []⟩,
  ⟨10, 10, "SYNC_LOSSES", .u32, .ro, 0, [], none, 0, 0, []⟩,
  ⟨11, 11, "LAST_FAULT", .u16, .ro, 0, [], none, 0, 0, []⟩]⟩

/-- 12_dictionary.md R526: objects 0x1160. -/
def objDomain : ObjRow := ⟨4448, 1, [
  ⟨0, 0, "MAX_SUB", .u8, .const, 0, [], none, 9, 0, []⟩,
  ⟨1, 1, "DOMAIN_ADDR", .u8, .rws, 2, [(0, 62)], none, 0, 0, []⟩,
  ⟨2, 2, "DG_CTRL", .u8, .rw, 2, [], none, 3, 0, [⟨"reserved", 7, 3, .ro, 0, 31⟩, ⟨"CLASH", 2, 2, .ro, 0, 1⟩, ⟨"NOTICE_EN", 1, 1, .rw, 0, 1⟩, ⟨"FWD_EN", 0, 0, .rw, 0, 1⟩]⟩,
  ⟨3, 3, "BCAST_PORTS", .u16, .rw, 2, [], none, 22, 0, []⟩,
  ⟨4, 4, "NOTICE_DST", .u8, .rw, 2, [(0, 62)], none, 0, 0, []⟩,
  ⟨5, 5, "NOTICE_MS", .u16, .rw, 2, [(1, 1000)], none, 10, 0, []⟩,
  ⟨6, 6, "STREAM_DST", .u8, .rw, 2, [(0, 62)], none, 0, 0, []⟩,
  ⟨7, 7, "STREAM_MASK", .u64, .rw, 2, [], some 18446744069415043072, 0, 0, []⟩,
  ⟨8, 8, "STREAM_MS", .u16, .rw, 2, [(1, 1000)], none, 100, 0, []⟩,
  ⟨9, 9, "LAT_US", .u32, .ro, 0, [], none, 0, 0, []⟩]⟩

/-- 12_dictionary.md R527: objects 0x1161. -/
def objRoute : ObjRow := ⟨4449, 1, [
  ⟨0, 0, "MAX_SUB", .u8, .const, 0, [], none, 63, 0, []⟩,
  ⟨1, 63, "ROUTE", .u8, .rw, 2, [(0, 8)], none, 0, 0, []⟩]⟩

/-- 10_faults_watchdog_resets.md R432: objects 0x1F10. -/
def objWd : ObjRow := ⟨7952, 1, [
  ⟨0, 0, "MAX_SUB", .u8, .const, 0, [], none, 7, 0, []⟩,
  ⟨1, 1, "WD_RESETS", .u16, .ro, 0, [], none, 0, 0, []⟩,
  ⟨2, 2, "WD_PERIOD_CFG", .u16, .rws, 0, [(8, 512)], none, 64, 0, []⟩,
  ⟨3, 3, "WD_PERIOD_MS", .u16, .ro, 0, [], none, 64, 0, []⟩,
  ⟨4, 4, "WD_STATUS", .u8, .ro, 0, [], none, 0, 0, []⟩,
  ⟨5, 5, "WD_ELAPSED_US", .u32, .ro, 0, [], none, 0, 0, []⟩,
  ⟨6, 6, "WD_VIOLATIONS", .u16, .ro, 0, [], none, 0, 0, []⟩,
  ⟨7, 7, "WD_FOREIGN", .u16, .ro, 0, [], none, 0, 0, []⟩]⟩

/-- 01_architecture.md R30: objects 0x1F18. -/
def objRstRec : ObjRow := ⟨7960, 1, [
  ⟨0, 0, "MAX_SUB", .u8, .const, 0, [], none, 3, 0, []⟩,
  ⟨1, 1, "LAST_RESET", .u32, .ro, 0, [], none, 259, 0, []⟩,
  ⟨2, 2, "HOLD_US", .u32, .ro, 0, [], none, 0, 0, []⟩,
  ⟨3, 3, "PP_RESETS", .u16, .ro, 0, [], none, 0, 0, []⟩]⟩

/-- 10_faults_watchdog_resets.md R441: objects 0x1F19. -/
def objRstCtl : ObjRow := ⟨7961, 1, [
  ⟨0, 0, "MAX_SUB", .u8, .const, 0, [], none, 8, 0, []⟩,
  ⟨1, 1, "RESET_CMD", .u16, .wo, 2, [(3101, 3101)], none, 0, 0, []⟩,
  ⟨2, 2, "PP_RESTORE", .bool, .rw, 0, [(0, 0), (1, 1)], none, 0, 0, []⟩,
  ⟨3, 3, "PP_SOURCE", .u16, .ro, 0, [], none, 65535, 0, []⟩,
  ⟨4, 4, "RESTORE_STATE", .u8, .ro, 0, [], none, 3, 0, []⟩,
  ⟨5, 5, "RST_STATUS", .u8, .ro, 0, [], none, 0, 0, []⟩,
  ⟨6, 6, "PROC_RESETS", .u32, .ro, 0, [], none, 0, 0, []⟩,
  ⟨7, 7, "HOLD_MAX_US", .u32, .ro, 0, [], none, 0, 0, []⟩,
  ⟨8, 8, "CFG_MISMATCH", .u16, .ro, 0, [], none, 0, 0, []⟩]⟩

/-- 01_architecture.md R33: objects 0x1F20. -/
def objClk : ObjRow := ⟨7968, 1, [
  ⟨0, 0, "MAX_SUB", .u8, .const, 0, [], none, 2, 0, []⟩,
  ⟨1, 1, "CLK_STATUS", .u32, .ro, 0, [], none, 13, 0, []⟩,
  ⟨2, 2, "CLK_RETURN", .u16, .wo, 0, [(1, 1)], none, 0, 0, []⟩]⟩

/-- 16_balls_and_supplies.md R678: objects 0x1F21. -/
def objSupply : ObjRow := ⟨7969, 1, [
  ⟨0, 0, "MAX_SUB", .u8, .const, 0, [], none, 4, 0, []⟩,
  ⟨1, 1, "SUP_STATUS", .u8, .ro, 0, [], none, 63, 0, []⟩,
  ⟨2, 2, "SUP_LAST", .u8, .ro, 0, [], none, 0, 0, []⟩,
  ⟨3, 3, "SUP_RESETS", .u16, .ro, 0, [], none, 0, 0, []⟩,
  ⟨4, 4, "IO_LOSSES", .u16, .ro, 0, [], none, 0, 0, []⟩]⟩

/-- 02_converter_core.md R46: objects 0x2000–0x2003. -/
def objRailRows0 : List SubRow := [
  ⟨0, 0, "MAX_SUB", .u8, .const, 0, [], none, 36, 0, []⟩,
  ⟨1, 1, "RAIL_CTRL", .u32, .fields, 0, [], none, 896, 0, [⟨"reserved", 31, 10, .ro, 0, 4194303⟩, ⟨"DE_EN", 9, 9, .rws, 0, 1⟩, ⟨"FF_EN", 8, 8, .rw, 0, 1⟩, ⟨"PILEIN_EN", 7, 7, .rw, 0, 1⟩, ⟨"SOFT_SEL", 6, 4, .rw, 0, 7⟩, ⟨"SOFT_VSEL", 3, 3, .rw, 0, 1⟩, ⟨"SHARED", 2, 2, .rws, 0, 1⟩, ⟨"OVS_MODE", 1, 0, .rw, 0, 1⟩]⟩,
  ⟨2, 2, "FSW_KHZ", .u16, .rws, 0, [(150, 1500)], none, 500, 0, []⟩,
  ⟨3, 3, "SENSE_GAIN", .u16, .rws, 0, [(1000, 10000)], none, 10000, 0, []⟩,
  ⟨4, 4, "VIN_INPUT", .u8, .rws, 0, [(0, 95)], none, 0, 0, []⟩,
  ⟨5, 12, "SETPOINT0-SETPOINT7", .u16, .rw, 0, [], none, 0, 0, []⟩,
  ⟨13, 13, "VSEL_PINS", .u8, .ro, 0, [], none, 0, 0, []⟩,
  ⟨14, 14, "VSEL_FILT_US", .u16, .rw, 0, [(1, 100)], none, 4, 0, []⟩,
  ⟨15, 15, "SLEW_PROFILE", .u8, .rws, 0, [(0, 31)], none, 0, 1, []⟩,
  ⟨16, 16, "RIPPLE_GAIN", .q15, .rws, 0, [(1024, 32767)], none, 8192, 0, []⟩,
  ⟨17, 17, "DC_INTEG_HZ", .u16, .rws, 0, [(100, 10000)], none, 2000, 0, []⟩,
  ⟨18, 18, "OVS_PERMILLE", .u16, .rw, 0, [(5, 100)], none, 30, 0, []⟩,
  ⟨19, 19, "PILEIN_PERMILLE", .u16, .rw, 0, [(5, 100)], none, 30, 0, []⟩,
  ⟨20, 20, "HICCUP_N", .u8, .rw, 0, [(1, 64)], none, 8, 0, []⟩,
  ⟨21, 21, "HICCUP_OFF_MS", .u16, .rw, 0, [(1, 512)], none, 16, 0, []⟩,
  ⟨22, 22, "SOFT_RETRY_US", .u16, .rw, 0, [(100, 20000)], none, 1000, 0, []⟩]

def objRailRows1 : List SubRow := [
  ⟨23, 23, "OVL_LIMIT_MA", .u32, .rw, 0, [(0, 0), (1000, 640000)], none, 0, 0, []⟩,
  ⟨24, 24, "OVL_TAU_MS", .u16, .rw, 0, [(1, 1000)], none, 100, 0, []⟩,
  ⟨25, 25, "DEGRADE_HOLD_MS", .u16, .rw, 0, [(1, 1000)], none, 50, 0, []⟩,
  ⟨26, 26, "FF_RES_UOHM", .u16, .rw, 0, [(0, 10000)], none, 0, 0, []⟩,
  ⟨27, 27, "FF_DECAY_US", .u16, .rw, 0, [(10, 1000)], none, 100, 0, []⟩,
  ⟨28, 28, "PREBIAS_MAX_PCT", .u8, .rw, 0, [(0, 100)], none, 50, 0, []⟩,
  ⟨29, 29, "REF_MV", .u16, .ro, 0, [], none, 0, 0, []⟩,
  ⟨30, 30, "VOUT_MV", .u16, .ro, 0, [], none, 0, 0, []⟩,
  ⟨31, 31, "IOUT_MA", .u32, .ro, 0, [], none, 0, 0, []⟩,
  ⟨32, 32, "RAIL_CAP_MA", .u32, .ro, 0, [], none, 0, 0, []⟩,
  ⟨33, 33, "STATUS", .u16, .ro, 0, [], none, 0, 0, []⟩,
  ⟨34, 34, "PHASE_ACTIVE", .u16, .ro, 0, [], none, 0, 0, []⟩,
  ⟨35, 35, "HICCUP_COUNT", .u32, .ro, 0, [], none, 0, 0, []⟩,
  ⟨36, 36, "FF_SKIPPED", .u16, .ro, 0, [], none, 0, 0, []⟩]

/-- 02_converter_core.md R46: the rows together. -/
def objRail : ObjRow := ⟨8192, 4, objRailRows0 ++ objRailRows1⟩

/-- 02_converter_core.md R44: objects 0x2010–0x201F. -/
def objPhase : ObjRow := ⟨8208, 16, [
  ⟨0, 0, "MAX_SUB", .u8, .const, 0, [], none, 11, 0, []⟩,
  ⟨1, 1, "PHASE_CTRL", .u32, .fields, 0, [], none, 0, 256, [⟨"reserved", 31, 13, .ro, 0, 524287⟩, ⟨"CAGE_REQ", 12, 12, .rw, 0, 1⟩, ⟨"ORDER", 11, 8, .rws, 0, 15⟩, ⟨"reserved", 7, 3, .ro, 0, 31⟩, ⟨"ASSIGNED", 2, 2, .rws, 0, 1⟩, ⟨"RAIL", 1, 0, .rws, 0, 3⟩]⟩,
  ⟨2, 2, "ILIM_VALLEY_MA", .u32, .rws, 0, [(1000, 60000)], none, 30000, 0, []⟩,
  ⟨3, 3, "ISC_MA", .u32, .rws, 0, [(2000, 120000)], none, 60000, 0, []⟩,
  ⟨4, 4, "CS_ZERO_MV", .u16, .rws, 0, [(200, 1200)], none, 800, 0, []⟩,
  ⟨5, 5, "CS_GAIN_UV", .u16, .rws, 0, [(1000, 20000)], none, 5000, 0, []⟩,
  ⟨6, 6, "IND_NH", .u16, .rws, 0, [(20, 10000)], none, 150, 0, []⟩,
  ⟨7, 7, "OPEN_CNT", .u8, .rw, 0, [(2, 64)], none, 8, 0, []⟩,
  ⟨8, 8, "TON_TRIM", .i16, .rw, 0, [((-256), 255)], none, 0, 0, []⟩,
  ⟨9, 9, "IPHASE_MA", .i32, .ro, 0, [], none, 0, 0, []⟩,
  ⟨10, 10, "PHASE_STATUS", .u16, .ro, 0, [], none, 0, 0, []⟩,
  ⟨11, 11, "GROUP_SLOT", .u8, .rws, 0, [(0, 127)], none, 0, 1, []⟩]⟩

/-- 02_converter_core.md R69: objects 0x2020. -/
def objLight : ObjRow := ⟨8224, 1, [
  ⟨0, 0, "MAX_SUB", .u8, .const, 0, [], none, 26, 0, []⟩,
  ⟨1, 4, "LL_CTRL0-3", .u16, .rw, 0, [], none, 12295, 0, [⟨"BURST_PULSES", 15, 12, .rw, 0, 15⟩, ⟨"MIN_PHASES", 11, 8, .rw, 0, 15⟩, ⟨"reserved", 7, 3, .ro, 0, 31⟩, ⟨"ROT_EN", 2, 2, .rw, 0, 1⟩, ⟨"BURST_EN", 1, 1, .rw, 0, 1⟩, ⟨"SHED_EN", 0, 0, .rw, 0, 1⟩]⟩,
  ⟨5, 8, "SHED_MA0-3", .u32, .rw, 0, [(1000, 40000)], none, 8000, 0, []⟩,
  ⟨9, 12, "ADD_MA0-3", .u32, .rw, 0, [(2000, 60000)], none, 20000, 0, []⟩,
  ⟨13, 16, "BURST_ENTRY_MA0-3", .u32, .rw, 0, [(0, 20000)], none, 2000, 0, []⟩,
  ⟨17, 20, "BURST_EXIT_MA0-3", .u32, .rw, 0, [(100, 40000)], none, 4000, 0, []⟩,
  ⟨21, 24, "SLEEP_MAX_US0-3", .u16, .rw, 0, [(10, 10000)], none, 1000, 0, []⟩,
  ⟨25, 25, "SHED_DWELL_US", .u16, .rw, 0, [(20, 10000)], none, 200, 0, []⟩,
  ⟨26, 26, "ROT_MS", .u16, .rw, 0, [(1, 10000)], none, 100, 0, []⟩]⟩

/-- 05_ring_and_holdup.md R243: objects 0x2100. -/
def objPropRows0 : List SubRow := [
  ⟨0, 0, "MAX_SUB", .u8, .const, 0, [], none, 29, 0, []⟩,
  ⟨1, 1, "PROP_CTRL", .u16, .fields, 0, [], none, 88, 0, [⟨"reserved", 15, 7, .ro, 0, 511⟩, ⟨"AUTO_RESUME", 6, 6, .rw, 0, 1⟩, ⟨"CHG_SRC", 5, 5, .rw, 0, 1⟩, ⟨"ISO_HOLD", 4, 4, .rw, 0, 1⟩, ⟨"SLOPE_EN", 3, 3, .rw, 0, 1⟩, ⟨"reserved", 2, 2, .ro, 0, 1⟩, ⟨"CHG_EN", 1, 1, .rw, 0, 1⟩, ⟨"ENABLE", 0, 0, .rws, 0, 1⟩]⟩,
  ⟨2, 2, "PROP_FSW_KHZ", .u16, .rws, 0, [(100, 500)], none, 250, 0, []⟩,
  ⟨3, 3, "PROP_ILIM_MA", .u32, .rws, 0, [(5000, 100000)], none, 40000, 0, []⟩,
  ⟨4, 4, "PCS_ZERO_MV", .u16, .rws, 0, [(200, 1200)], none, 800, 0, []⟩,
  ⟨5, 5, "PCS_GAIN_UV", .u16, .rws, 0, [(1000, 20000)], none, 5000, 0, []⟩,
  ⟨6, 6, "PIND_NH", .u16, .rws, 0, [(500, 50000)], none, 4700, 0, []⟩,
  ⟨7, 7, "HOLD_ENTRY_MV", .u16, .rw, 0, [(15000, 52000)], none, 33000, 0, []⟩,
  ⟨8, 8, "HOLD_MV", .u16, .rw, 0, [(15000, 52000)], none, 34000, 0, []⟩,
  ⟨9, 9, "HOLD_EXIT_MV", .u16, .rw, 0, [(15000, 56000)], none, 36000, 0, []⟩,
  ⟨10, 10, "HOLD_EXIT_US", .u32, .rw, 0, [(100, 100000)], none, 2000, 0, []⟩,
  ⟨11, 11, "CHG_MA", .u32, .rw, 0, [(0, 0), (100, 100000)], none, 10000, 0, []⟩,
  ⟨12, 12, "CHG_VMAX_MV", .u16, .rw, 0, [(9000, 58000)], none, 54000, 0, []⟩,
  ⟨13, 13, "CHG_TAPER_MA", .u32, .rw, 0, [(0, 10000)], none, 500, 0, []⟩,
  ⟨14, 14, "CHG_NODE_MIN_MV", .u16, .rw, 0, [(20000, 58000)], none, 36000, 0, []⟩,
  ⟨15, 15, "CHG_HOLDOFF_MS", .u16, .rw, 0, [(1, 10000)], none, 100, 0, []⟩]

def objPropRows1 : List SubRow := [
  ⟨16, 16, "STORE_MIN_MV", .u16, .rw, 0, [(9000, 58000)], none, 12000, 0, []⟩,
  ⟨17, 17, "STORE_RESERVE_MV", .u16, .rw, 0, [(9000, 58000)], none, 30000, 0, []⟩,
  ⟨18, 18, "STORE_OVP_MV", .u16, .rw, 0, [(9000, 60000)], none, 57000, 0, []⟩,
  ⟨19, 19, "STORE_INPUT", .u8, .rws, 0, [(0, 95)], none, 1, 0, []⟩,
  ⟨20, 20, "STORE_NTC", .u8, .rw, 0, [(0, 12)], none, 0, 0, []⟩,
  ⟨21, 21, "NODE_MV", .u16, .ro, 0, [], none, 0, 0, []⟩,
  ⟨22, 22, "STORE_MV", .u16, .ro, 0, [], none, 0, 0, []⟩,
  ⟨23, 23, "STORE_MA", .i32, .ro, 0, [], none, 0, 0, []⟩,
  ⟨24, 24, "CHARGE_MC", .i64, .ro, 0, [], none, 0, 0, []⟩,
  ⟨25, 25, "E_IN_MJ", .u64, .ro, 0, [], none, 0, 0, []⟩,
  ⟨26, 26, "E_OUT_MJ", .u64, .ro, 0, [], none, 0, 0, []⟩,
  ⟨27, 27, "PROP_STATUS", .u16, .ro, 0, [], none, 0, 0, []⟩,
  ⟨28, 28, "HOLD_COUNT", .u32, .ro, 0, [], none, 0, 0, []⟩,
  ⟨29, 29, "HOLD_LAST_US", .u32, .ro, 0, [], none, 0, 0, []⟩]

/-- 05_ring_and_holdup.md R243: the rows together. -/
def objProp : ObjRow := ⟨8448, 1, objPropRows0 ++ objPropRows1⟩

/-- 05_ring_and_holdup.md R221: objects 0x2200–0x2201. -/
def objRingRows0 : List SubRow := [
  ⟨0, 0, "MAX_SUB", .u8, .const, 0, [], none, 16, 0, []⟩,
  ⟨1, 1, "RP_CTRL", .u16, .fields, 0, [], none, 48, 0, [⟨"reserved", 15, 7, .ro, 0, 511⟩, ⟨"START_CLOSE", 6, 6, .rws, 0, 1⟩, ⟨"INW_EN", 5, 5, .rw, 0, 1⟩, ⟨"PILOT_EN", 4, 4, .rw, 0, 1⟩, ⟨"reserved", 3, 1, .ro, 0, 7⟩, ⟨"ENABLE", 0, 0, .rws, 0, 1⟩]⟩,
  ⟨2, 2, "RP_CMD", .u8, .wo, 0, [(1, 1), (2, 2)], none, 0, 0, []⟩,
  ⟨3, 3, "ISO_DIR_MA", .u32, .rw, 0, [(5000, 300000)], none, 40000, 0, []⟩,
  ⟨4, 4, "ISO_MAX_MA", .u32, .rw, 0, [(50000, 400000)], none, 320000, 0, []⟩,
  ⟨5, 5, "ISO_IN_MA", .u32, .rw, 0, [(50000, 400000)], none, 320000, 0, []⟩,
  ⟨6, 6, "VRING_UV_MV", .u16, .rw, 0, [(9000, 48000)], none, 30000, 0, []⟩,
  ⟨7, 7, "PRECHG_MA", .u32, .rw, 0, [(500, 20000)], none, 5000, 0, []⟩,
  ⟨8, 8, "PRECHG_MAX_MS", .u16, .rw, 0, [(1, 1000)], none, 100, 0, []⟩,
  ⟨9, 9, "SHUNT_UOHM", .u16, .rws, 0, [(50, 125)], none, 100, 0, []⟩,
  ⟨10, 10, "I_MA", .i32, .ro, 0, [], none, 0, 0, []⟩,
  ⟨11, 11, "VL_MV", .u16, .ro, 0, [], none, 0, 0, []⟩,
  ⟨12, 12, "VR_MV", .u16, .ro, 0, [], none, 0, 0, []⟩,
  ⟨13, 13, "RP_STATUS", .u16, .ro, 0, [], none, 0, 0, []⟩,
  ⟨14, 14, "TRIPS", .u32, .ro, 0, [], none, 0, 0, []⟩,
  ⟨15, 15, "TEST_MISSES", .u32, .ro, 0, [], none, 0, 0, []⟩]

def objRingRows1 : List SubRow := [
  ⟨16, 16, "PRECHG_FAILS", .u16, .ro, 0, [], none, 0, 0, []⟩]

/-- 05_ring_and_holdup.md R221: the rows together. -/
def objRing : ObjRow := ⟨8704, 2, objRingRows0 ++ objRingRows1⟩

/-- 05_ring_and_holdup.md R229: objects 0x2210. -/
def objIfw : ObjRow := ⟨8720, 1, [
  ⟨0, 0, "MAX_SUB", .u8, .const, 0, [], none, 12, 0, []⟩,
  ⟨1, 4, "IFW_PIN0-3", .u8, .rw, 0, [], none, 67, 0, [⟨"reserved", 7, 7, .ro, 0, 1⟩, ⟨"ENABLE", 6, 6, .rw, 0, 1⟩, ⟨"OPEN_DRAIN", 5, 5, .rw, 0, 1⟩, ⟨"ACTIVE_LOW", 4, 4, .rw, 0, 1⟩, ⟨"SRC_PEER", 3, 3, .rw, 0, 1⟩, ⟨"SRC_STORE", 2, 2, .rw, 0, 1⟩, ⟨"SRC_HOLD", 1, 1, .rw, 0, 1⟩, ⟨"SRC_FEED", 0, 0, .rw, 0, 1⟩]⟩,
  ⟨5, 5, "IFW_LEVEL_MV", .u16, .rw, 0, [(15000, 52000)], none, 35000, 0, []⟩,
  ⟨6, 6, "IFW_SLOPE_MV_US", .u16, .rw, 0, [(0, 0), (5, 1000)], none, 20, 0, []⟩,
  ⟨7, 7, "IFW_CLEAR_MS", .u16, .rw, 0, [(1, 10000)], none, 50, 0, []⟩,
  ⟨8, 8, "BCAST_EN", .bool, .rw, 0, [(0, 0), (1, 1)], none, 1, 0, []⟩,
  ⟨9, 9, "IFW_STATUS", .u8, .ro, 0, [], none, 0, 0, []⟩,
  ⟨10, 10, "PEER_LAST", .u8, .ro, 0, [], none, 0, 0, []⟩,
  ⟨11, 11, "PEER_TIME_NS", .u64, .ro, 0, [], none, 0, 0, []⟩,
  ⟨12, 12, "ASSERT_COUNT", .u32, .ro, 0, [], none, 0, 0, []⟩]⟩

/-- 06_tally_and_sharing.md R290: objects 0x2300–0x2303. -/
def objGroup : ObjRow := ⟨8960, 4, [
  ⟨0, 0, "MAX_SUB", .u8, .const, 0, [], none, 12, 0, []⟩,
  ⟨1, 1, "GROUP_CTRL", .u8, .fields, 0, [], none, 144, 0, [⟨"TRIM_EN", 7, 7, .rw, 0, 1⟩, ⟨"EXPECT_MEMBERS", 6, 4, .rws, 0, 7⟩, ⟨"GROUP_ID", 3, 0, .rws, 0, 15⟩]⟩,
  ⟨2, 2, "N_SLOTS", .u8, .rws, 0, [(1, 128)], none, 16, 0, []⟩,
  ⟨3, 3, "SHARE_BW_HZ", .u16, .rws, 0, [(10, 2000)], none, 500, 0, []⟩,
  ⟨4, 4, "TRIM_MAX_PERMILLE", .u16, .rw, 0, [(1, 50)], none, 10, 0, []⟩,
  ⟨5, 5, "SHARE_RES_UOHM", .u16, .rws, 0, [(10, 10000)], none, 200, 0, []⟩,
  ⟨6, 6, "MEMBERS", .u8, .ro, 0, [], none, 0, 0, []⟩,
  ⟨7, 7, "GROUP_IOUT_MA", .u32, .ro, 0, [], none, 0, 0, []⟩,
  ⟨8, 8, "GROUP_PHASES", .u8, .ro, 0, [], none, 0, 0, []⟩,
  ⟨9, 9, "GROUP_CAP_MA", .u32, .ro, 0, [], none, 0, 0, []⟩,
  ⟨10, 10, "TRIM_MV", .i16, .ro, 0, [], none, 0, 0, []⟩,
  ⟨11, 11, "LEAD_ADDR", .u8, .ro, 0, [], none, 0, 0, []⟩,
  ⟨12, 12, "LOSS_COUNT", .u32, .ro, 0, [], none, 0, 0, []⟩]⟩

/-- 03_load_channels.md R109: objects 0x3000–0x300F. -/
def objCtxDRows0 : List SubRow := [
  ⟨0, 0, "MAX_SUB", .u8, .const, 0, [], none, 28, 0, []⟩,
  ⟨1, 1, "CTX_CTRL", .u32, .fields, 0, [], none, 3216, 0, [⟨"reserved", 31, 16, .ro, 0, 65535⟩, ⟨"CMD", 15, 15, .rw, 0, 1⟩, ⟨"SHORT_LATCH", 14, 14, .rw, 0, 1⟩, ⟨"RETRY_MAX", 13, 10, .rw, 0, 15⟩, ⟨"ORPHAN_HOLD", 9, 9, .const, 0, 1⟩, ⟨"INRUSH_MODE", 8, 8, .rw, 0, 1⟩, ⟨"CLASS", 7, 5, .rw, 0, 7⟩, ⟨"FEED", 4, 2, .rws, 0, 4⟩, ⟨"CAGE_REQ", 1, 1, .rw, 0, 1⟩, ⟨"reserved", 0, 0, .ro, 0, 1⟩]⟩,
  ⟨2, 2, "BINDING", .u16, .fields, 0, [], none, 0, 0, [⟨"VALID", 15, 15, .rws, 0, 1⟩, ⟨"reserved", 14, 10, .ro, 0, 31⟩, ⟨"POSITION", 9, 5, .const, 0, 31⟩, ⟨"reserved", 4, 4, .ro, 0, 1⟩, ⟨"CHANNEL", 3, 0, .const, 0, 15⟩]⟩,
  ⟨3, 3, "CTX_STATUS", .u32, .ro, 0, [], none, 0, 0, []⟩,
  ⟨4, 4, "LEAD_US", .u32, .fields, 0, [], none, 50, 0, [⟨"reserved", 31, 16, .ro, 0, 65535⟩, ⟨"LEAD_US", 15, 0, .rws, 5, 200⟩]⟩,
  ⟨5, 5, "STEP_MA", .u32, .rw, 0, [(0, 640000)], none, 0, 0, []⟩,
  ⟨6, 6, "ILIM_MA", .u32, .rws, 0, [(100, 100000)], none, 10000, 0, []⟩,
  ⟨7, 7, "ISC_MA", .u32, .rws, 0, [(200, 200000)], none, 25000, 0, []⟩,
  ⟨8, 8, "TFAULT_US", .u32, .rw, 0, [(10, 1000000)], none, 1000, 0, []⟩,
  ⟨9, 9, "I2T_RATED_MA", .u32, .rw, 0, [(0, 0), (100, 100000)], none, 0, 0, []⟩,
  ⟨10, 10, "I2T_TAU_MS", .u32, .rw, 0, [(10, 600000)], none, 1000, 0, []⟩,
  ⟨11, 11, "INRUSH_MA", .u32, .rw, 0, [(100, 100000)], none, 5000, 0, []⟩,
  ⟨12, 12, "DVDT_MV_US", .u16, .rw, 0, [(1, 2000)], none, 12, 0, []⟩,
  ⟨13, 13, "INRUSH_MAX_MS", .u16, .rw, 0, [(1, 1000)], none, 20, 0, []⟩,
  ⟨14, 14, "RETRY_MS", .u16, .rw, 0, [(1, 60000)], none, 500, 0, []⟩,
  ⟨15, 15, "RETRY_CLEAR_MS", .u16, .rw, 0, [(100, 60000)], none, 10000, 0, []⟩]

def objCtxDRows1 : List SubRow := [
  ⟨16, 16, "VDAMAGE_MV", .u16, .rw, 0, [(500, 20000)], none, 2000, 0, []⟩,
  ⟨17, 17, "IDAMAGE_MA", .u32, .rw, 0, [(10, 10000)], none, 100, 0, []⟩,
  ⟨18, 18, "OFF_DECAY_MS", .u16, .rw, 0, [(1, 1000)], none, 50, 0, []⟩,
  ⟨19, 19, "SHUNT_UOHM", .u16, .rws, 0, [(100, 10000)], none, 1000, 0, []⟩,
  ⟨20, 20, "I_MA", .i32, .ro, 0, [], none, 0, 0, []⟩,
  ⟨21, 21, "V_MV", .u16, .ro, 0, [], none, 0, 0, []⟩,
  ⟨22, 22, "P_MW", .i32, .ro, 0, [], none, 0, 0, []⟩,
  ⟨23, 23, "ENERGY_MJ", .u64, .ro, 0, [], none, 0, 0, []⟩,
  ⟨24, 24, "ENERGY_REV_MJ", .u64, .ro, 0, [], none, 0, 0, []⟩,
  ⟨25, 25, "I2T_PERMILLE", .u16, .ro, 0, [], none, 0, 0, []⟩,
  ⟨26, 26, "TFAULT_ELAPSED_US", .u32, .ro, 0, [], none, 0, 0, []⟩,
  ⟨27, 27, "RETRIES", .u8, .ro, 0, [], none, 0, 0, []⟩,
  ⟨28, 28, "TRIPS", .u32, .ro, 0, [], none, 0, 0, []⟩]

/-- 03_load_channels.md R109: the rows together. -/
def objCtxD : ObjRow := ⟨12288, 16, objCtxDRows0 ++ objCtxDRows1⟩

/-- 03_load_channels.md R109: objects 0x3010–0x31FF. -/
def objCtxRows0 : List SubRow := [
  ⟨0, 0, "MAX_SUB", .u8, .const, 0, [], none, 28, 0, []⟩,
  ⟨1, 1, "CTX_CTRL", .u32, .fields, 0, [], none, 3216, 0, [⟨"reserved", 31, 16, .ro, 0, 65535⟩, ⟨"CMD", 15, 15, .rw, 0, 1⟩, ⟨"SHORT_LATCH", 14, 14, .rw, 0, 1⟩, ⟨"RETRY_MAX", 13, 10, .rw, 0, 15⟩, ⟨"ORPHAN_HOLD", 9, 9, .rw, 0, 1⟩, ⟨"INRUSH_MODE", 8, 8, .rw, 0, 1⟩, ⟨"CLASS", 7, 5, .rw, 0, 7⟩, ⟨"FEED", 4, 2, .rws, 0, 4⟩, ⟨"CAGE_REQ", 1, 1, .rw, 0, 1⟩, ⟨"reserved", 0, 0, .ro, 0, 1⟩]⟩,
  ⟨2, 2, "BINDING", .u16, .fields, 0, [], none, 0, 0, [⟨"VALID", 15, 15, .rws, 0, 1⟩, ⟨"reserved", 14, 10, .ro, 0, 31⟩, ⟨"POSITION", 9, 5, .rws, 0, 31⟩, ⟨"reserved", 4, 4, .ro, 0, 1⟩, ⟨"CHANNEL", 3, 0, .rws, 0, 15⟩]⟩,
  ⟨3, 3, "CTX_STATUS", .u32, .ro, 0, [], none, 0, 0, []⟩,
  ⟨4, 4, "LEAD_US", .u32, .fields, 0, [], none, 50, 0, [⟨"reserved", 31, 16, .ro, 0, 65535⟩, ⟨"LEAD_US", 15, 0, .rws, 5, 200⟩]⟩,
  ⟨5, 5, "STEP_MA", .u32, .rw, 0, [(0, 640000)], none, 0, 0, []⟩,
  ⟨6, 6, "ILIM_MA", .u32, .rws, 0, [(100, 100000)], none, 10000, 0, []⟩,
  ⟨7, 7, "ISC_MA", .u32, .rws, 0, [(200, 200000)], none, 25000, 0, []⟩,
  ⟨8, 8, "TFAULT_US", .u32, .rw, 0, [(10, 1000000)], none, 1000, 0, []⟩,
  ⟨9, 9, "I2T_RATED_MA", .u32, .rw, 0, [(0, 0), (100, 100000)], none, 0, 0, []⟩,
  ⟨10, 10, "I2T_TAU_MS", .u32, .rw, 0, [(10, 600000)], none, 1000, 0, []⟩,
  ⟨11, 11, "INRUSH_MA", .u32, .rw, 0, [(100, 100000)], none, 5000, 0, []⟩,
  ⟨12, 12, "DVDT_MV_US", .u16, .rw, 0, [(1, 2000)], none, 12, 0, []⟩,
  ⟨13, 13, "INRUSH_MAX_MS", .u16, .rw, 0, [(1, 1000)], none, 20, 0, []⟩,
  ⟨14, 14, "RETRY_MS", .u16, .rw, 0, [(1, 60000)], none, 500, 0, []⟩,
  ⟨15, 15, "RETRY_CLEAR_MS", .u16, .rw, 0, [(100, 60000)], none, 10000, 0, []⟩]

def objCtxRows1 : List SubRow := [
  ⟨16, 16, "VDAMAGE_MV", .u16, .rw, 0, [(500, 20000)], none, 2000, 0, []⟩,
  ⟨17, 17, "IDAMAGE_MA", .u32, .rw, 0, [(10, 10000)], none, 100, 0, []⟩,
  ⟨18, 18, "OFF_DECAY_MS", .u16, .rw, 0, [(1, 1000)], none, 50, 0, []⟩,
  ⟨19, 19, "SHUNT_UOHM", .u16, .rws, 0, [(100, 10000)], none, 1000, 0, []⟩,
  ⟨20, 20, "I_MA", .i32, .ro, 0, [], none, 0, 0, []⟩,
  ⟨21, 21, "V_MV", .u16, .ro, 0, [], none, 0, 0, []⟩,
  ⟨22, 22, "P_MW", .i32, .ro, 0, [], none, 0, 0, []⟩,
  ⟨23, 23, "ENERGY_MJ", .u64, .ro, 0, [], none, 0, 0, []⟩,
  ⟨24, 24, "ENERGY_REV_MJ", .u64, .ro, 0, [], none, 0, 0, []⟩,
  ⟨25, 25, "I2T_PERMILLE", .u16, .ro, 0, [], none, 0, 0, []⟩,
  ⟨26, 26, "TFAULT_ELAPSED_US", .u32, .ro, 0, [], none, 0, 0, []⟩,
  ⟨27, 27, "RETRIES", .u8, .ro, 0, [], none, 0, 0, []⟩,
  ⟨28, 28, "TRIPS", .u32, .ro, 0, [], none, 0, 0, []⟩]

/-- 03_load_channels.md R109: the rows together. -/
def objCtx : ObjRow := ⟨12304, 496, objCtxRows0 ++ objCtxRows1⟩

/-- 04_satellite_link.md R194: objects 0x3200–0x321F. -/
def objSat : ObjRow := ⟨12800, 32, [
  ⟨0, 0, "MAX_SUB", .u8, .const, 0, [], none, 13, 0, []⟩,
  ⟨1, 1, "POS_STATUS", .u16, .ro, 0, [], none, 0, 0, []⟩,
  ⟨2, 2, "TYPE_ID", .u32, .ro, 0, [], none, 0, 0, []⟩,
  ⟨3, 3, "UNIT_ID", .u32, .ro, 0, [], none, 0, 0, []⟩,
  ⟨4, 4, "EXPECT_UNIT", .u32, .rws, 0, [], none, 0, 0, []⟩,
  ⟨5, 5, "NCH", .u8, .ro, 0, [], none, 0, 0, []⟩,
  ⟨6, 6, "ILSB_UA", .u16, .ro, 0, [], none, 0, 0, []⟩,
  ⟨7, 7, "VLSB_UV", .u16, .ro, 0, [], none, 0, 0, []⟩,
  ⟨8, 8, "CAPS", .u8, .ro, 0, [], none, 0, 0, []⟩,
  ⟨9, 9, "VIN_MV", .u16, .ro, 0, [], none, 0, 0, []⟩,
  ⟨10, 10, "RPT_BAD", .u32, .ro, 0, [], none, 0, 0, []⟩,
  ⟨11, 11, "CMD_BAD", .u32, .ro, 0, [], none, 0, 0, []⟩,
  ⟨12, 12, "LOST_COUNT", .u16, .ro, 0, [], none, 0, 0, []⟩,
  ⟨13, 13, "MBX_NAKS", .u16, .ro, 0, [], none, 0, 0, []⟩]⟩

/-- 04_satellite_link.md R195: objects 0x3220–0x3223. -/
def objSlPort : ObjRow := ⟨12832, 4, [
  ⟨0, 0, "MAX_SUB", .u8, .const, 0, [], none, 9, 0, []⟩,
  ⟨1, 1, "PORT_CTRL", .u16, .fields, 0, [], none, 8, 0, [⟨"reserved", 15, 5, .ro, 0, 2047⟩, ⟨"LOST_ROUNDS", 4, 1, .rw, 2, 9⟩, ⟨"ENABLE", 0, 0, .rws, 0, 1⟩]⟩,
  ⟨2, 2, "PORT_STATUS", .u16, .ro, 0, [], none, 0, 0, []⟩,
  ⟨3, 3, "RESCAN", .u8, .wo, 0, [(1, 1)], none, 0, 0, []⟩,
  ⟨4, 4, "RTT_NS", .u32, .ro, 0, [], none, 0, 0, []⟩,
  ⟨5, 5, "FRAMES_OK", .u32, .ro, 0, [], none, 0, 0, []⟩,
  ⟨6, 6, "HCRC_ERR", .u32, .ro, 0, [], none, 0, 0, []⟩,
  ⟨7, 7, "LEN_ERR", .u32, .ro, 0, [], none, 0, 0, []⟩,
  ⟨8, 8, "CODE_ERR", .u32, .ro, 0, [], none, 0, 0, []⟩,
  ⟨9, 9, "ROUNDS_EMPTY", .u32, .ro, 0, [], none, 0, 0, []⟩]⟩

/-- 06_tally_and_sharing.md R279: objects 0x3300. -/
def objTallyRows0 : List SubRow := [
  ⟨0, 0, "MAX_SUB", .u8, .const, 0, [], none, 32, 0, []⟩,
  ⟨1, 1, "TALLY_CTRL", .u16, .fields, 0, [], none, 0, 0, [⟨"reserved", 15, 6, .ro, 0, 1023⟩, ⟨"IN_SRC", 5, 4, .rws, 0, 1⟩, ⟨"BORROW_EN", 3, 3, .rw, 0, 1⟩, ⟨"LEND_EN", 2, 2, .rw, 0, 1⟩, ⟨"reserved", 1, 1, .ro, 0, 1⟩, ⟨"ENABLE", 0, 0, .rws, 0, 1⟩]⟩,
  ⟨2, 2, "BUDGET_MW", .u32, .rw, 0, [(10000, 20000000)], none, 7700000, 0, []⟩,
  ⟨3, 3, "HOLD_BUDGET_MW", .u32, .rw, 0, [(0, 0), (10000, 20000000)], none, 0, 0, []⟩,
  ⟨4, 4, "THR_SCALE", .q15, .rw, 0, [(2048, 32767)], none, 24576, 0, []⟩,
  ⟨5, 5, "HYST_MW", .u32, .rw, 0, [(0, 1000000)], none, 50000, 0, []⟩,
  ⟨6, 9, "EFF0-EFF3", .q15, .rw, 0, [(16384, 32767)], none, 31129, 0, []⟩,
  ⟨10, 10, "RELEASE_MAX", .u8, .rw, 0, [(1, 8)], none, 1, 0, []⟩,
  ⟨11, 11, "IN_V_INPUT", .u8, .rws, 0, [(0, 95)], none, 2, 0, []⟩,
  ⟨12, 12, "IN_I_INPUT", .u8, .rws, 0, [(0, 95)], none, 3, 0, []⟩,
  ⟨13, 13, "IN_I_GAIN_UV", .u16, .rws, 0, [(10, 20000)], none, 1000, 0, []⟩,
  ⟨14, 14, "RAIL_MARGIN_MA", .u32, .rw, 0, [(0, 100000)], none, 5000, 0, []⟩,
  ⟨15, 15, "LEND_MAX_MW", .u32, .rw, 0, [(0, 10000000)], none, 0, 0, []⟩,
  ⟨16, 16, "LEND_KEEP_MW", .u32, .rw, 0, [(0, 10000000)], none, 200000, 0, []⟩,
  ⟨17, 17, "LEASE_MS", .u16, .rw, 0, [(100, 60000)], none, 1000, 0, []⟩,
  ⟨18, 18, "LEND_GUARD_MS", .u16, .rw, 0, [(1, 1000)], none, 20, 0, []⟩]

def objTallyRows1 : List SubRow := [
  ⟨19, 22, "LEND_PEER0-3", .u8, .rw, 0, [(0, 62)], none, 0, 0, []⟩,
  ⟨23, 23, "BORROW_STEP_MW", .u32, .rw, 0, [(1000, 2000000)], none, 100000, 0, []⟩,
  ⟨24, 24, "P_MEAS_MW", .u32, .ro, 0, [], none, 0, 0, []⟩,
  ⟨25, 25, "BUDGET_EFF_MW", .u32, .ro, 0, [], none, 7700000, 0, []⟩,
  ⟨26, 26, "HEADROOM_MW", .i32, .ro, 0, [], none, 0, 0, []⟩,
  ⟨27, 27, "BORROWED_MW", .u32, .ro, 0, [], none, 0, 0, []⟩,
  ⟨28, 28, "LENT_MW", .u32, .ro, 0, [], none, 0, 0, []⟩,
  ⟨29, 29, "TALLY_STATUS", .u16, .ro, 0, [], none, 0, 0, []⟩,
  ⟨30, 30, "SHED_COUNT", .u32, .ro, 0, [], none, 0, 0, []⟩,
  ⟨31, 31, "DEFER_COUNT", .u32, .ro, 0, [], none, 0, 0, []⟩,
  ⟨32, 32, "UNMET_COUNT", .u32, .ro, 0, [], none, 0, 0, []⟩]

/-- 06_tally_and_sharing.md R279: the rows together. -/
def objTally : ObjRow := ⟨13056, 1, objTallyRows0 ++ objTallyRows1⟩

/-- 06_tally_and_sharing.md R281: objects 0x3308. -/
def objClass0 : ObjRow := ⟨13064, 1, [
  ⟨0, 0, "MAX_SUB", .u8, .const, 0, [], none, 9, 0, []⟩,
  ⟨1, 1, "CLASS_CTRL", .u16, .fields, 0, [], none, 0, 0, [⟨"reserved", 15, 3, .ro, 0, 8191⟩, ⟨"DEFER_EN", 2, 2, .const, 0, 1⟩, ⟨"ACTION", 1, 0, .const, 0, 3⟩]⟩,
  ⟨2, 2, "MIN_ON_MS", .u16, .rw, 0, [(0, 60000)], none, 1000, 0, []⟩,
  ⟨3, 3, "MIN_OFF_MS", .u16, .rw, 0, [(0, 60000)], none, 2000, 0, []⟩,
  ⟨4, 4, "LIM_PERIOD_MS", .u16, .rw, 0, [(10, 10000)], none, 100, 0, []⟩,
  ⟨5, 5, "DUTY_MIN", .q15, .rw, 0, [(0, 32767)], none, 8192, 0, []⟩,
  ⟨6, 6, "DUTY_STEP", .q15, .rw, 0, [(1, 16384)], none, 1024, 0, []⟩,
  ⟨7, 7, "DUTY", .q15, .ro, 0, [], none, 32767, 0, []⟩,
  ⟨8, 8, "SHED_NOW", .u16, .ro, 0, [], none, 0, 0, []⟩,
  ⟨9, 9, "ACTIVE", .u16, .ro, 0, [], none, 0, 0, []⟩]⟩

/-- 06_tally_and_sharing.md R281: objects 0x3309–0x330F. -/
def objClass : ObjRow := ⟨13065, 7, [
  ⟨0, 0, "MAX_SUB", .u8, .const, 0, [], none, 9, 0, []⟩,
  ⟨1, 1, "CLASS_CTRL", .u16, .fields, 0, [], none, 4, 0, [⟨"reserved", 15, 3, .ro, 0, 8191⟩, ⟨"DEFER_EN", 2, 2, .rw, 0, 1⟩, ⟨"ACTION", 1, 0, .rw, 0, 2⟩]⟩,
  ⟨2, 2, "MIN_ON_MS", .u16, .rw, 0, [(0, 60000)], none, 1000, 0, []⟩,
  ⟨3, 3, "MIN_OFF_MS", .u16, .rw, 0, [(0, 60000)], none, 2000, 0, []⟩,
  ⟨4, 4, "LIM_PERIOD_MS", .u16, .rw, 0, [(10, 10000)], none, 100, 0, []⟩,
  ⟨5, 5, "DUTY_MIN", .q15, .rw, 0, [(0, 32767)], none, 8192, 0, []⟩,
  ⟨6, 6, "DUTY_STEP", .q15, .rw, 0, [(1, 16384)], none, 1024, 0, []⟩,
  ⟨7, 7, "DUTY", .q15, .ro, 0, [], none, 32767, 0, []⟩,
  ⟨8, 8, "SHED_NOW", .u16, .ro, 0, [], none, 0, 0, []⟩,
  ⟨9, 9, "ACTIVE", .u16, .ro, 0, [], none, 0, 0, []⟩]⟩

/-- 09_sequencing_and_states.md R383: objects 0x3400–0x343F. -/
def objNode : ObjRow := ⟨13312, 64, [
  ⟨0, 0, "MAX_SUB", .u8, .const, 0, [], none, 14, 0, []⟩,
  ⟨1, 1, "NODE_CTRL", .u16, .fields, 0, [], none, 25344, 0, [⟨"ON_PARK", 15, 15, .rw, 0, 1⟩, ⟨"ON_ECONOMY", 14, 14, .rw, 0, 1⟩, ⟨"ON_RUN", 13, 13, .rw, 0, 1⟩, ⟨"ON_CONFIGURED", 12, 12, .rw, 0, 1⟩, ⟨"HOST_OFF", 11, 11, .rw, 0, 1⟩, ⟨"CLEAR", 10, 10, .wo, 0, 1⟩, ⟨"FAIL_DROP", 9, 9, .rw, 0, 1⟩, ⟨"RAMPED_OFF", 8, 8, .rw, 0, 1⟩, ⟨"reserved", 7, 6, .ro, 0, 3⟩, ⟨"TYPE", 5, 4, .rws, 0, 3⟩, ⟨"TARGET", 3, 0, .rws, 0, 15⟩]⟩,
  ⟨2, 2, "DEPS", .u64, .rws, 0, [], none, 0, 0, []⟩,
  ⟨3, 3, "PG_SRC", .u8, .rws, 0, [(0, 47), (64, 79), (255, 255)], none, 255, 0, []⟩,
  ⟨4, 4, "BAND_MON", .u8, .rws, 0, [(0, 47), (255, 255)], none, 255, 0, []⟩,
  ⟨5, 5, "ON_DELAY_US", .u32, .rw, 0, [(0, 1000000)], none, 0, 0, []⟩,
  ⟨6, 6, "OFF_DELAY_US", .u32, .rw, 0, [(0, 1000000)], none, 0, 0, []⟩,
  ⟨7, 7, "PG_TIMEOUT_MS", .u16, .rw, 0, [(1, 10000)], none, 50, 0, []⟩,
  ⟨8, 8, "PG_DELAY_US", .u32, .rw, 0, [(0, 1000000)], none, 1000, 0, []⟩,
  ⟨9, 9, "FAULT_US", .u32, .rw, 0, [(5, 1000000)], none, 100, 0, []⟩,
  ⟨10, 10, "DISCHARGE_US", .u32, .rw, 0, [(0, 1000000)], none, 1000, 0, []⟩,
  ⟨11, 11, "OFF_TIMEOUT_MS", .u16, .rw, 0, [(1, 10000)], none, 100, 0, []⟩,
  ⟨12, 12, "NODE_STATUS", .u16, .ro, 0, [], none, 0, 0, []⟩,
  ⟨13, 13, "LAST_CHANGE_NS", .u64, .ro, 0, [], none, 0, 0, []⟩,
  ⟨14, 14, "FAULTS", .u32, .ro, 0, [], none, 0, 0, []⟩]⟩

/-- 09_sequencing_and_states.md R403: objects 0x3440. -/
def objMargin : ObjRow := ⟨13376, 1, [
  ⟨0, 0, "MAX_SUB", .u8, .const, 0, [], none, 5, 0, []⟩,
  ⟨1, 4, "MARGIN", .i16, .rw, 0, [((-100), 100)], none, 0, 0, []⟩,
  ⟨5, 5, "MARGIN_STATUS", .u8, .ro, 0, [], none, 0, 0, []⟩]⟩

/-- 09_sequencing_and_states.md R402: objects 0x3441. -/
def objSeq : ObjRow := ⟨13377, 1, [
  ⟨0, 0, "MAX_SUB", .u8, .const, 0, [], none, 11, 0, []⟩,
  ⟨1, 1, "SEQ_CTRL", .u8, .rw, 0, [], some 3, 1, 0, []⟩,
  ⟨2, 2, "EN_ACTIVE_LOW", .u16, .rws, 0, [], none, 0, 0, []⟩,
  ⟨3, 3, "EN_OPEN_DRAIN", .u16, .rws, 0, [], none, 0, 0, []⟩,
  ⟨4, 4, "PG_ACTIVE_LOW", .u16, .rws, 0, [], none, 0, 0, []⟩,
  ⟨5, 5, "PG_FILT_US", .u16, .rw, 0, [(1, 1000)], none, 10, 0, []⟩,
  ⟨6, 6, "LOSS_HOLD_MS", .u16, .rw, 0, [(0, 60000)], none, 0, 0, []⟩,
  ⟨7, 7, "LOSS_STORE_MV", .u16, .rw, 0, [(0, 0), (10000, 58000)], none, 0, 0, []⟩,
  ⟨8, 8, "RESUME", .u8, .wo, 0, [(1, 1)], none, 0, 0, []⟩,
  ⟨9, 9, "LAST_FAULT_NODE", .u8, .ro, 0, [], none, 0, 0, []⟩,
  ⟨10, 10, "LOSS_COUNT", .u32, .ro, 0, [], none, 0, 0, []⟩,
  ⟨11, 11, "SEQ_STATUS", .u8, .ro, 0, [], none, 0, 0, []⟩]⟩

/-- 08_sensing_and_thermal.md R357: objects 0x3500–0x352F. -/
def objMon : ObjRow := ⟨13568, 48, [
  ⟨0, 0, "MAX_SUB", .u8, .const, 0, [], none, 8, 0, []⟩,
  ⟨1, 1, "WM_CTRL", .u16, .fields, 0, [], none, 64, 0, [⟨"reserved", 15, 12, .ro, 0, 15⟩, ⟨"FILT", 11, 9, .rw, 0, 7⟩, ⟨"FILT_PIN", 8, 8, .rw, 0, 1⟩, ⟨"AUTO_CHECK", 7, 7, .rw, 0, 1⟩, ⟨"SRC_EN", 6, 6, .rw, 0, 1⟩, ⟨"PU_STATE", 5, 5, .rws, 0, 1⟩, ⟨"HYS", 4, 3, .rws, 0, 3⟩, ⟨"MODE", 2, 1, .rws, 0, 2⟩, ⟨"ENABLE", 0, 0, .rws, 0, 1⟩]⟩,
  ⟨2, 2, "INPUT", .u8, .rws, 0, [(0, 89), (91, 95)], none, 0, 0, []⟩,
  ⟨3, 3, "LO_CODE", .u16, .rw, 0, [(0, 1023)], none, 0, 0, []⟩,
  ⟨4, 4, "HI_CODE", .u16, .rw, 0, [(0, 1023)], none, 1023, 0, []⟩,
  ⟨5, 5, "WM_STATUS", .u8, .ro, 0, [], none, 0, 0, []⟩,
  ⟨6, 6, "TRIPS", .u32, .ro, 0, [], none, 0, 0, []⟩,
  ⟨7, 7, "CHECK", .u8, .wo, 0, [(1, 1), (2, 2)], none, 0, 0, []⟩,
  ⟨8, 8, "LAST_CHANGE_NS", .u64, .ro, 0, [], none, 0, 0, []⟩]⟩

/-- 08_sensing_and_thermal.md R358: objects 0x3540. -/
def objCmpo : ObjRow := ⟨13632, 1, [
  ⟨0, 0, "MAX_SUB", .u8, .const, 0, [], none, 19, 0, []⟩,
  ⟨1, 8, "CMPO_MASK0-7", .u64, .rw, 0, [], some 281474976710655, 0, 0, []⟩,
  ⟨9, 16, "CMPO_CTRL0-7", .u8, .fields, 0, [], none, 0, 0, [⟨"reserved", 7, 5, .ro, 0, 7⟩, ⟨"LATCH", 4, 4, .rw, 0, 1⟩, ⟨"CLEAR", 3, 3, .wo, 0, 1⟩, ⟨"ACTIVE_LOW", 2, 2, .rw, 0, 1⟩, ⟨"OPEN_DRAIN", 1, 1, .rw, 0, 1⟩, ⟨"ENABLE", 0, 0, .rw, 0, 1⟩]⟩,
  ⟨17, 17, "CHECK_PERIOD_MS", .u16, .rw, 0, [(1, 10000)], none, 100, 0, []⟩,
  ⟨18, 18, "CHECK_FAILS", .u32, .ro, 0, [], none, 0, 0, []⟩,
  ⟨19, 19, "CMPO_STATE", .u8, .ro, 0, [], none, 0, 0, []⟩]⟩

/-- 08_sensing_and_thermal.md R371: objects 0x3600. -/
def objTherm : ObjRow := ⟨13824, 1, [
  ⟨0, 0, "MAX_SUB", .u8, .const, 0, [], none, 8, 0, []⟩,
  ⟨1, 1, "WARN_MASK", .u16, .ro, 0, [], none, 0, 0, []⟩,
  ⟨2, 2, "THR_MASK", .u16, .ro, 0, [], none, 0, 0, []⟩,
  ⟨3, 3, "SHUT_MASK", .u16, .ro, 0, [], none, 0, 0, []⟩,
  ⟨4, 4, "BROKEN_MASK", .u16, .ro, 0, [], none, 0, 0, []⟩,
  ⟨5, 5, "HOTTEST", .u8, .ro, 0, [], none, 0, 0, []⟩,
  ⟨6, 6, "HOTTEST_CDEG", .i16, .ro, 0, [], none, 0, 0, []⟩,
  ⟨7, 7, "THERM_LOCK", .bool, .ro, 0, [], none, 0, 0, []⟩,
  ⟨8, 8, "DIE_TRIPS", .u16, .ro, 0, [], none, 0, 0, []⟩]⟩

/-- 08_sensing_and_thermal.md R372: objects 0x3601. -/
def objSens0 : ObjRow := ⟨13825, 1, [
  ⟨0, 0, "MAX_SUB", .u8, .const, 0, [], none, 13, 0, []⟩,
  ⟨1, 1, "TS_CTRL", .u16, .fields, 0, [], none, 3, 0, [⟨"reserved", 15, 2, .ro, 0, 16383⟩, ⟨"THR_TALLY", 1, 1, .rw, 0, 1⟩, ⟨"ENABLE", 0, 0, .const, 0, 1⟩]⟩,
  ⟨2, 2, "WARN_CDEG", .i16, .rw, 0, [(5000, 16500)], none, 12500, 0, []⟩,
  ⟨3, 3, "THR_CDEG", .i16, .rw, 0, [(5000, 16500)], none, 14000, 0, []⟩,
  ⟨4, 4, "SHUT_CDEG", .i16, .rw, 0, [(5000, 16500)], none, 16000, 0, []⟩,
  ⟨5, 5, "HYST_CDEG", .u16, .rw, 0, [(100, 2000)], none, 500, 0, []⟩,
  ⟨6, 6, "BETA_K", .u16, .const, 0, [], none, 0, 0, []⟩,
  ⟨7, 7, "NTC25_OHM", .u32, .const, 0, [], none, 0, 0, []⟩,
  ⟨8, 8, "PULLUP_OHM", .u32, .const, 0, [], none, 0, 0, []⟩,
  ⟨9, 9, "BACKUP", .u8, .rw, 0, [(0, 12), (255, 255)], none, 255, 0, []⟩,
  ⟨10, 10, "BACKUP_OFS_CDEG", .i16, .rw, 0, [((-5000), 5000)], none, 0, 0, []⟩,
  ⟨11, 11, "TEMP_CDEG", .i16, .ro, 0, [], none, 0, 0, []⟩,
  ⟨12, 12, "TS_STATUS", .u8, .ro, 0, [], none, 0, 0, []⟩,
  ⟨13, 13, "PEAK_CDEG", .i16, .ro, 0, [], none, 0, 0, []⟩]⟩

/-- 08_sensing_and_thermal.md R372: objects 0x3602–0x360D. -/
def objSens : ObjRow := ⟨13826, 12, [
  ⟨0, 0, "MAX_SUB", .u8, .const, 0, [], none, 13, 0, []⟩,
  ⟨1, 1, "TS_CTRL", .u16, .fields, 0, [], none, 2, 0, [⟨"reserved", 15, 2, .ro, 0, 16383⟩, ⟨"THR_TALLY", 1, 1, .rw, 0, 1⟩, ⟨"ENABLE", 0, 0, .rws, 0, 1⟩]⟩,
  ⟨2, 2, "WARN_CDEG", .i16, .rw, 0, [((-4000), 15000)], none, 9000, 0, []⟩,
  ⟨3, 3, "THR_CDEG", .i16, .rw, 0, [((-4000), 15000)], none, 10500, 0, []⟩,
  ⟨4, 4, "SHUT_CDEG", .i16, .rw, 0, [((-4000), 15000)], none, 12000, 0, []⟩,
  ⟨5, 5, "HYST_CDEG", .u16, .rw, 0, [(100, 2000)], none, 500, 0, []⟩,
  ⟨6, 6, "BETA_K", .u16, .rws, 0, [(1000, 10000)], none, 3435, 0, []⟩,
  ⟨7, 7, "NTC25_OHM", .u32, .rws, 0, [(100, 1000000)], none, 10000, 0, []⟩,
  ⟨8, 8, "PULLUP_OHM", .u32, .rws, 0, [(100, 1000000)], none, 10000, 0, []⟩,
  ⟨9, 9, "BACKUP", .u8, .rw, 0, [(0, 12), (255, 255)], none, 255, 0, []⟩,
  ⟨10, 10, "BACKUP_OFS_CDEG", .i16, .rw, 0, [((-5000), 5000)], none, 0, 0, []⟩,
  ⟨11, 11, "TEMP_CDEG", .i16, .ro, 0, [], none, 0, 0, []⟩,
  ⟨12, 12, "TS_STATUS", .u8, .ro, 0, [], none, 0, 0, []⟩,
  ⟨13, 13, "PEAK_CDEG", .i16, .ro, 0, [], none, 0, 0, []⟩]⟩

/-- 08_sensing_and_thermal.md R343: objects 0x3700. -/
def objScan : ObjRow := ⟨14080, 1, [
  ⟨0, 0, "MAX_SUB", .u8, .const, 0, [], none, 8, 0, []⟩,
  ⟨1, 1, "SCAN_CTRL", .u16, .rws, 0, [(0, 0), (1, 1)], none, 0, 0, []⟩,
  ⟨2, 2, "SCAN_PERIOD_US", .u16, .rws, 0, [(10, 10000)], none, 100, 0, []⟩,
  ⟨3, 3, "SCAN_LEN", .u16, .rws, 0, [(1, 256)], none, 1, 0, []⟩,
  ⟨4, 4, "FAST_USE", .u16, .ro, 0, [], none, 0, 0, []⟩,
  ⟨5, 5, "PREC_USE", .u16, .ro, 0, [], none, 0, 0, []⟩,
  ⟨6, 6, "ROUNDS", .u32, .ro, 0, [], none, 0, 0, []⟩,
  ⟨7, 7, "BANK_STATUS", .u8, .ro, 0, [], none, 0, 0, []⟩,
  ⟨8, 8, "REF_ERRORS", .u32, .ro, 0, [], none, 0, 0, []⟩]⟩

/-- 08_sensing_and_thermal.md R344: objects 0x3701. -/
def objGain : ObjRow := ⟨14081, 1, [
  ⟨0, 0, "MAX_SUB", .u8, .const, 0, [], none, 18, 0, []⟩,
  ⟨1, 2, "INPUT_GAIN", .u16, .rws, 0, [(100, 10000)], none, 250, 0, []⟩,
  ⟨3, 18, "INPUT_GAIN", .u16, .rws, 0, [(100, 10000)], none, 10000, 0, []⟩]⟩

/-- 08_sensing_and_thermal.md R345: objects 0x3702. -/
def objScanTab0 : ObjRow := ⟨14082, 1, [
  ⟨0, 0, "MAX_SUB", .u8, .const, 0, [], none, 128, 0, []⟩,
  ⟨1, 128, "ENTRY", .u16, .rws, 0, [], none, 0, 0, [⟨"EN", 15, 15, .rws, 0, 1⟩, ⟨"BANK", 14, 14, .rws, 0, 1⟩, ⟨"OVS", 13, 12, .rws, 0, 3⟩, ⟨"reserved", 11, 7, .ro, 0, 31⟩, ⟨"INPUT", 6, 0, .rws, 0, 95⟩]⟩]⟩

/-- 08_sensing_and_thermal.md R345: objects 0x3703. -/
def objScanTab1 : ObjRow := ⟨14083, 1, [
  ⟨0, 0, "MAX_SUB", .u8, .const, 0, [], none, 128, 0, []⟩,
  ⟨1, 128, "ENTRY", .u16, .rws, 0, [], none, 0, 0, [⟨"EN", 15, 15, .rws, 0, 1⟩, ⟨"BANK", 14, 14, .rws, 0, 1⟩, ⟨"OVS", 13, 12, .rws, 0, 3⟩, ⟨"reserved", 11, 7, .ro, 0, 31⟩, ⟨"INPUT", 6, 0, .rws, 0, 95⟩]⟩]⟩

/-- 08_sensing_and_thermal.md R346: objects 0x3704. -/
def objResult : ObjRow := ⟨14084, 1, [
  ⟨0, 0, "MAX_SUB", .u8, .const, 0, [], none, 96, 0, []⟩,
  ⟨1, 96, "RESULT", .i16, .ro, 0, [], none, (-32768), 0, []⟩]⟩

/-- 07_loop_engine.md R326: objects 0x3800–0x387F. -/
def objSlot : ObjRow := ⟨14336, 128, [
  ⟨0, 0, "MAX_SUB", .u8, .const, 0, [], none, 22, 0, []⟩,
  ⟨1, 1, "SLOT_CTRL", .u16, .fields, 0, [], none, 0, 0, [⟨"reserved", 15, 5, .ro, 0, 2047⟩, ⟨"FE_ACTION", 4, 3, .rw, 0, 2⟩, ⟨"RESTART", 2, 2, .wo, 0, 1⟩, ⟨"reserved", 1, 1, .ro, 0, 1⟩, ⟨"ENABLE", 0, 0, .rws, 0, 1⟩]⟩,
  ⟨2, 2, "START", .u16, .rws, 0, [(0, 8191)], none, 0, 0, []⟩,
  ⟨3, 3, "BUDGET_CYC", .u16, .rws, 0, [(4, 2048)], none, 32, 0, []⟩,
  ⟨4, 4, "DIV", .u16, .rws, 0, [(1, 256)], none, 1, 0, []⟩,
  ⟨5, 5, "PHASE", .u16, .rws, 0, [(0, 255)], none, 0, 0, []⟩,
  ⟨6, 6, "SIG_BASE", .u16, .rws, 0, [(0, 1023)], none, 0, 0, []⟩,
  ⟨7, 7, "ACT_BASE", .u16, .rws, 0, [(0, 511)], none, 0, 0, []⟩,
  ⟨8, 8, "FE_TIME_US", .u32, .rw, 0, [(10, 600000000)], none, 1000, 0, []⟩,
  ⟨9, 16, "PARAM0-PARAM7", .i16, .rw, 0, [], none, 0, 0, []⟩,
  ⟨17, 17, "SLOT_STATUS", .u16, .ro, 0, [], none, 0, 0, []⟩,
  ⟨18, 18, "RUNS", .u32, .ro, 0, [], none, 0, 0, []⟩,
  ⟨19, 19, "CYC_LAST", .u16, .ro, 0, [], none, 0, 0, []⟩,
  ⟨20, 20, "CYC_WORST", .u16, .ro, 0, [], none, 0, 0, []⟩,
  ⟨21, 21, "SAT_COUNT", .u32, .ro, 0, [], none, 0, 0, []⟩,
  ⟨22, 22, "FE_ELAPSED_US", .u32, .ro, 0, [], none, 0, 0, []⟩]⟩

/-- 07_loop_engine.md R327: objects 0x3880. -/
def objProg : ObjRow := ⟨14464, 1, [
  ⟨0, 0, "MAX_SUB", .u8, .const, 0, [], none, 4, 0, []⟩,
  ⟨1, 1, "PROGRAM", .domain, .rws, 0, [], none, 0, 0, []⟩,
  ⟨2, 2, "PROG_WORDS", .u16, .ro, 0, [], none, 0, 0, []⟩,
  ⟨3, 3, "PROG_CRC", .u32, .ro, 0, [], none, 0, 0, []⟩,
  ⟨4, 4, "ECC_CORRECTED", .u32, .ro, 0, [], none, 0, 0, []⟩]⟩

/-- 07_loop_engine.md R328: objects 0x3881–0x3882. -/
def objLane : ObjRow := ⟨14465, 2, [
  ⟨0, 0, "MAX_SUB", .u8, .const, 0, [], none, 7, 0, []⟩,
  ⟨1, 1, "LANE_CTRL", .u16, .fields, 0, [], none, 0, 0, [⟨"reserved", 15, 3, .ro, 0, 8191⟩, ⟨"TRIG", 2, 1, .rws, 0, 1⟩, ⟨"ENABLE", 0, 0, .rws, 0, 1⟩]⟩,
  ⟨2, 2, "FRAME_NS", .u32, .rws, 0, [(1000, 1000000)], none, 5120, 0, []⟩,
  ⟨3, 3, "FRAME_CYC", .u16, .ro, 0, [], none, 0, 0, []⟩,
  ⟨4, 4, "FRAMES", .u32, .ro, 0, [], none, 0, 0, []⟩,
  ⟨5, 5, "OVERRUNS", .u32, .ro, 0, [], none, 0, 0, []⟩,
  ⟨6, 6, "FRAME_NO", .u32, .ro, 0, [], none, 0, 0, []⟩,
  ⟨7, 7, "LOAD_PERMILLE", .u16, .ro, 0, [], none, 0, 0, []⟩]⟩

/-- 07_loop_engine.md R329: objects 0x3883. -/
def objDuty : ObjRow := ⟨14467, 1, [
  ⟨0, 0, "MAX_SUB", .u8, .const, 0, [], none, 64, 0, []⟩,
  ⟨1, 64, "DUTY_CTX", .u16, .rws, 0, [(0, 511), (65535, 65535)], none, 65535, 0, []⟩]⟩

/-- 07_loop_engine.md R324: objects 0x38C0–0x38DF. -/
def objWinder : ObjRow := ⟨14528, 32, [
  ⟨0, 0, "MAX_SUB", .u8, .const, 0, [], none, 11, 0, []⟩,
  ⟨1, 1, "W_CTRL", .u8, .fields, 0, [], none, 0, 0, [⟨"reserved", 7, 1, .ro, 0, 127⟩, ⟨"PRESET", 0, 0, .wo, 0, 1⟩]⟩,
  ⟨2, 2, "VMAX", .u32, .rw, 0, [(1, 2147483647)], none, 163840, 0, []⟩,
  ⟨3, 3, "AMAX", .u32, .rw, 0, [(1, 2147483647)], none, 16384, 0, []⟩,
  ⟨4, 4, "JMAX", .u32, .rw, 0, [(1, 2147483647)], none, 4096, 0, []⟩,
  ⟨5, 5, "TARGET", .i32, .rw, 0, [], none, 0, 0, []⟩,
  ⟨6, 6, "START_SIG", .u16, .rw, 0, [(0, 1023), (65535, 65535)], none, 65535, 0, []⟩,
  ⟨7, 7, "POS", .i32, .ro, 0, [], none, 0, 0, []⟩,
  ⟨8, 8, "VEL", .i32, .ro, 0, [], none, 0, 0, []⟩,
  ⟨9, 9, "ACC", .i32, .ro, 0, [], none, 0, 0, []⟩,
  ⟨10, 10, "W_STATUS", .u8, .ro, 0, [], none, 0, 0, []⟩,
  ⟨11, 11, "MOVES", .u32, .ro, 0, [], none, 0, 0, []⟩]⟩

/-- 10_faults_watchdog_resets.md R414: objects 0x4000–0x43FF. -/
def objSrc : ObjRow := ⟨16384, 1024, [
  ⟨0, 0, "MAX_SUB", .u8, .const, 0, [], none, 8, 0, []⟩,
  ⟨1, 1, "SRC_CTRL", .u32, .fields, 0, [], none, 65560, 0, [⟨"reserved", 31, 24, .ro, 0, 255⟩, ⟨"COUNT_N", 23, 16, .rw, 1, 255⟩, ⟨"reserved", 15, 11, .ro, 0, 31⟩, ⟨"REACTION", 10, 6, .rw, 0, 31⟩, ⟨"reserved", 5, 5, .ro, 0, 1⟩, ⟨"REACT_EN", 4, 4, .rw, 0, 1⟩, ⟨"LATCH", 3, 3, .rw, 0, 1⟩, ⟨"CLEAR", 2, 2, .wo, 0, 1⟩, ⟨"FORCE", 1, 1, .wo, 0, 1⟩, ⟨"reserved", 0, 0, .ro, 0, 1⟩]⟩,
  ⟨2, 2, "WINDOW_MS", .u32, .rw, 0, [(0, 3600000)], none, 1000, 0, []⟩,
  ⟨3, 3, "SRC_STATUS", .u8, .ro, 0, [], none, 0, 0, []⟩,
  ⟨4, 4, "COUNT", .u8, .ro, 0, [], none, 0, 0, []⟩,
  ⟨5, 5, "RAISES", .u32, .ro, 0, [], none, 0, 0, []⟩,
  ⟨6, 6, "SEVERES", .u32, .ro, 0, [], none, 0, 0, []⟩,
  ⟨7, 7, "LAST_RAISE_NS", .u64, .ro, 0, [], none, 0, 0, []⟩,
  ⟨8, 8, "SEVERE_NS", .u64, .ro, 0, [], none, 0, 0, []⟩]⟩

/-- 10_faults_watchdog_resets.md R421: objects 0x4400. -/
def objReact : ObjRow := ⟨17408, 1, [
  ⟨0, 0, "MAX_SUB", .u8, .const, 0, [], none, 32, 0, []⟩,
  ⟨1, 31, "REACT", .u32, .rw, 0, [], none, 0, 0, [⟨"reserved", 31, 21, .ro, 0, 2047⟩, ⟨"NEXT", 20, 16, .rw, 0, 31⟩, ⟨"reserved", 15, 14, .ro, 0, 3⟩, ⟨"ARG", 13, 4, .rw, 0, 1023⟩, ⟨"PRIM", 3, 0, .rw, 0, 7⟩]⟩,
  ⟨32, 32, "REACT_COUNT", .u32, .ro, 0, [], none, 0, 0, []⟩]⟩

/-- 11_shaft_and_pit_log.md R463: objects 0x5000–0x5001. -/
def objGal0 : ObjRow := ⟨20480, 2, [
  ⟨0, 0, "MAX_SUB", .u8, .const, 0, [], none, 9, 0, []⟩,
  ⟨1, 1, "CLASS", .u8, .const, 0, [], none, 0, 0, []⟩,
  ⟨2, 2, "RESERVE", .u16, .rws, 0, [(0, 16384)], none, 32, 0, []⟩,
  ⟨3, 3, "QUOTA", .u16, .rws, 0, [(0, 16384)], none, 256, 0, []⟩,
  ⟨4, 4, "USED", .u16, .ro, 0, [], none, 0, 0, []⟩,
  ⟨5, 5, "PEAK", .u16, .ro, 0, [], none, 0, 0, []⟩,
  ⟨6, 6, "DROPS", .u32, .ro, 0, [], none, 0, 0, []⟩,
  ⟨7, 7, "OVERWRITES", .u32, .ro, 0, [], none, 0, 0, []⟩,
  ⟨8, 8, "POISONED", .u32, .ro, 0, [], none, 0, 0, []⟩,
  ⟨9, 9, "WAIT_US", .u32, .ro, 0, [], none, 0, 0, []⟩]⟩

/-- 11_shaft_and_pit_log.md R463: objects 0x5002–0x5003. -/
def objGal2 : ObjRow := ⟨20482, 2, [
  ⟨0, 0, "MAX_SUB", .u8, .const, 0, [], none, 9, 0, []⟩,
  ⟨1, 1, "CLASS", .u8, .const, 0, [], none, 0, 0, []⟩,
  ⟨2, 2, "RESERVE", .u16, .rws, 0, [(0, 16384)], none, 64, 0, []⟩,
  ⟨3, 3, "QUOTA", .u16, .rws, 0, [(0, 16384)], none, 512, 0, []⟩,
  ⟨4, 4, "USED", .u16, .ro, 0, [], none, 0, 0, []⟩,
  ⟨5, 5, "PEAK", .u16, .ro, 0, [], none, 0, 0, []⟩,
  ⟨6, 6, "DROPS", .u32, .ro, 0, [], none, 0, 0, []⟩,
  ⟨7, 7, "OVERWRITES", .u32, .ro, 0, [], none, 0, 0, []⟩,
  ⟨8, 8, "POISONED", .u32, .ro, 0, [], none, 0, 0, []⟩,
  ⟨9, 9, "WAIT_US", .u32, .ro, 0, [], none, 0, 0, []⟩]⟩

/-- 11_shaft_and_pit_log.md R463: objects 0x5004–0x5007. -/
def objGal4 : ObjRow := ⟨20484, 4, [
  ⟨0, 0, "MAX_SUB", .u8, .const, 0, [], none, 9, 0, []⟩,
  ⟨1, 1, "CLASS", .u8, .const, 0, [], none, 0, 0, []⟩,
  ⟨2, 2, "RESERVE", .u16, .rws, 0, [(0, 16384)], none, 16, 0, []⟩,
  ⟨3, 3, "QUOTA", .u16, .rws, 0, [(0, 16384)], none, 128, 0, []⟩,
  ⟨4, 4, "USED", .u16, .ro, 0, [], none, 0, 0, []⟩,
  ⟨5, 5, "PEAK", .u16, .ro, 0, [], none, 0, 0, []⟩,
  ⟨6, 6, "DROPS", .u32, .ro, 0, [], none, 0, 0, []⟩,
  ⟨7, 7, "OVERWRITES", .u32, .ro, 0, [], none, 0, 0, []⟩,
  ⟨8, 8, "POISONED", .u32, .ro, 0, [], none, 0, 0, []⟩,
  ⟨9, 9, "WAIT_US", .u32, .ro, 0, [], none, 0, 0, []⟩]⟩

/-- 11_shaft_and_pit_log.md R463: objects 0x5008–0x5009. -/
def objGal8 : ObjRow := ⟨20488, 2, [
  ⟨0, 0, "MAX_SUB", .u8, .const, 0, [], none, 9, 0, []⟩,
  ⟨1, 1, "CLASS", .u8, .const, 0, [], none, 0, 0, []⟩,
  ⟨2, 2, "RESERVE", .u16, .rws, 0, [(0, 16384)], none, 16, 0, []⟩,
  ⟨3, 3, "QUOTA", .u16, .rws, 0, [(0, 16384)], none, 128, 0, []⟩,
  ⟨4, 4, "USED", .u16, .ro, 0, [], none, 0, 0, []⟩,
  ⟨5, 5, "PEAK", .u16, .ro, 0, [], none, 0, 0, []⟩,
  ⟨6, 6, "DROPS", .u32, .ro, 0, [], none, 0, 0, []⟩,
  ⟨7, 7, "OVERWRITES", .u32, .ro, 0, [], none, 0, 0, []⟩,
  ⟨8, 8, "POISONED", .u32, .ro, 0, [], none, 0, 0, []⟩,
  ⟨9, 9, "WAIT_US", .u32, .ro, 0, [], none, 0, 0, []⟩]⟩

/-- 11_shaft_and_pit_log.md R463: objects 0x500A–0x500B. -/
def objGal10 : ObjRow := ⟨20490, 2, [
  ⟨0, 0, "MAX_SUB", .u8, .const, 0, [], none, 9, 0, []⟩,
  ⟨1, 1, "CLASS", .u8, .const, 0, [], none, 0, 0, []⟩,
  ⟨2, 2, "RESERVE", .u16, .rws, 0, [(0, 16384)], none, 8, 0, []⟩,
  ⟨3, 3, "QUOTA", .u16, .rws, 0, [(0, 16384)], none, 32, 0, []⟩,
  ⟨4, 4, "USED", .u16, .ro, 0, [], none, 0, 0, []⟩,
  ⟨5, 5, "PEAK", .u16, .ro, 0, [], none, 0, 0, []⟩,
  ⟨6, 6, "DROPS", .u32, .ro, 0, [], none, 0, 0, []⟩,
  ⟨7, 7, "OVERWRITES", .u32, .ro, 0, [], none, 0, 0, []⟩,
  ⟨8, 8, "POISONED", .u32, .ro, 0, [], none, 0, 0, []⟩,
  ⟨9, 9, "WAIT_US", .u32, .ro, 0, [], none, 0, 0, []⟩]⟩

/-- 11_shaft_and_pit_log.md R463: objects 0x500C–0x500F. -/
def objGal12 : ObjRow := ⟨20492, 4, [
  ⟨0, 0, "MAX_SUB", .u8, .const, 0, [], none, 9, 0, []⟩,
  ⟨1, 1, "CLASS", .u8, .const, 0, [], none, 0, 0, []⟩,
  ⟨2, 2, "RESERVE", .u16, .const, 0, [], none, 0, 0, []⟩,
  ⟨3, 3, "QUOTA", .u16, .const, 0, [], none, 0, 0, []⟩,
  ⟨4, 4, "USED", .u16, .ro, 0, [], none, 0, 0, []⟩,
  ⟨5, 5, "PEAK", .u16, .ro, 0, [], none, 0, 0, []⟩,
  ⟨6, 6, "DROPS", .u32, .ro, 0, [], none, 0, 0, []⟩,
  ⟨7, 7, "OVERWRITES", .u32, .ro, 0, [], none, 0, 0, []⟩,
  ⟨8, 8, "POISONED", .u32, .ro, 0, [], none, 0, 0, []⟩,
  ⟨9, 9, "WAIT_US", .u32, .ro, 0, [], none, 0, 0, []⟩]⟩

/-- 11_shaft_and_pit_log.md R463: objects 0x5010. -/
def objGal16 : ObjRow := ⟨20496, 1, [
  ⟨0, 0, "MAX_SUB", .u8, .const, 0, [], none, 9, 0, []⟩,
  ⟨1, 1, "CLASS", .u8, .const, 0, [], none, 1, 0, []⟩,
  ⟨2, 2, "RESERVE", .u16, .rws, 0, [(0, 16384)], none, 256, 0, []⟩,
  ⟨3, 3, "QUOTA", .u16, .rws, 0, [(0, 16384)], none, 256, 0, []⟩,
  ⟨4, 4, "USED", .u16, .ro, 0, [], none, 0, 0, []⟩,
  ⟨5, 5, "PEAK", .u16, .ro, 0, [], none, 0, 0, []⟩,
  ⟨6, 6, "DROPS", .u32, .ro, 0, [], none, 0, 0, []⟩,
  ⟨7, 7, "OVERWRITES", .u32, .ro, 0, [], none, 0, 0, []⟩,
  ⟨8, 8, "POISONED", .u32, .ro, 0, [], none, 0, 0, []⟩,
  ⟨9, 9, "WAIT_US", .u32, .ro, 0, [], none, 0, 0, []⟩]⟩

/-- 11_shaft_and_pit_log.md R463: objects 0x5011. -/
def objGal17 : ObjRow := ⟨20497, 1, [
  ⟨0, 0, "MAX_SUB", .u8, .const, 0, [], none, 9, 0, []⟩,
  ⟨1, 1, "CLASS", .u8, .const, 0, [], none, 1, 0, []⟩,
  ⟨2, 2, "RESERVE", .u16, .rws, 0, [(0, 16384)], none, 32, 0, []⟩,
  ⟨3, 3, "QUOTA", .u16, .rws, 0, [(0, 16384)], none, 32, 0, []⟩,
  ⟨4, 4, "USED", .u16, .ro, 0, [], none, 0, 0, []⟩,
  ⟨5, 5, "PEAK", .u16, .ro, 0, [], none, 0, 0, []⟩,
  ⟨6, 6, "DROPS", .u32, .ro, 0, [], none, 0, 0, []⟩,
  ⟨7, 7, "OVERWRITES", .u32, .ro, 0, [], none, 0, 0, []⟩,
  ⟨8, 8, "POISONED", .u32, .ro, 0, [], none, 0, 0, []⟩,
  ⟨9, 9, "WAIT_US", .u32, .ro, 0, [], none, 0, 0, []⟩]⟩

/-- 11_shaft_and_pit_log.md R463: objects 0x5012. -/
def objGal18 : ObjRow := ⟨20498, 1, [
  ⟨0, 0, "MAX_SUB", .u8, .const, 0, [], none, 9, 0, []⟩,
  ⟨1, 1, "CLASS", .u8, .const, 0, [], none, 1, 0, []⟩,
  ⟨2, 2, "RESERVE", .u16, .rws, 0, [(0, 16384)], none, 16, 0, []⟩,
  ⟨3, 3, "QUOTA", .u16, .rws, 0, [(0, 16384)], none, 16, 0, []⟩,
  ⟨4, 4, "USED", .u16, .ro, 0, [], none, 0, 0, []⟩,
  ⟨5, 5, "PEAK", .u16, .ro, 0, [], none, 0, 0, []⟩,
  ⟨6, 6, "DROPS", .u32, .ro, 0, [], none, 0, 0, []⟩,
  ⟨7, 7, "OVERWRITES", .u32, .ro, 0, [], none, 0, 0, []⟩,
  ⟨8, 8, "POISONED", .u32, .ro, 0, [], none, 0, 0, []⟩,
  ⟨9, 9, "WAIT_US", .u32, .ro, 0, [], none, 0, 0, []⟩]⟩

/-- 11_shaft_and_pit_log.md R463: objects 0x5013. -/
def objGal19 : ObjRow := ⟨20499, 1, [
  ⟨0, 0, "MAX_SUB", .u8, .const, 0, [], none, 9, 0, []⟩,
  ⟨1, 1, "CLASS", .u8, .const, 0, [], none, 0, 0, []⟩,
  ⟨2, 2, "RESERVE", .u16, .rws, 0, [(0, 16384)], none, 16, 0, []⟩,
  ⟨3, 3, "QUOTA", .u16, .rws, 0, [(0, 16384)], none, 64, 0, []⟩,
  ⟨4, 4, "USED", .u16, .ro, 0, [], none, 0, 0, []⟩,
  ⟨5, 5, "PEAK", .u16, .ro, 0, [], none, 0, 0, []⟩,
  ⟨6, 6, "DROPS", .u32, .ro, 0, [], none, 0, 0, []⟩,
  ⟨7, 7, "OVERWRITES", .u32, .ro, 0, [], none, 0, 0, []⟩,
  ⟨8, 8, "POISONED", .u32, .ro, 0, [], none, 0, 0, []⟩,
  ⟨9, 9, "WAIT_US", .u32, .ro, 0, [], none, 0, 0, []⟩]⟩

/-- 11_shaft_and_pit_log.md R463: objects 0x5014. -/
def objGal20 : ObjRow := ⟨20500, 1, [
  ⟨0, 0, "MAX_SUB", .u8, .const, 0, [], none, 9, 0, []⟩,
  ⟨1, 1, "CLASS", .u8, .const, 0, [], none, 2, 0, []⟩,
  ⟨2, 2, "RESERVE", .u16, .rws, 0, [(0, 16384)], none, 4096, 0, []⟩,
  ⟨3, 3, "QUOTA", .u16, .rws, 0, [(0, 16384)], none, 4096, 0, []⟩,
  ⟨4, 4, "USED", .u16, .ro, 0, [], none, 0, 0, []⟩,
  ⟨5, 5, "PEAK", .u16, .ro, 0, [], none, 0, 0, []⟩,
  ⟨6, 6, "DROPS", .u32, .ro, 0, [], none, 0, 0, []⟩,
  ⟨7, 7, "OVERWRITES", .u32, .ro, 0, [], none, 0, 0, []⟩,
  ⟨8, 8, "POISONED", .u32, .ro, 0, [], none, 0, 0, []⟩,
  ⟨9, 9, "WAIT_US", .u32, .ro, 0, [], none, 0, 0, []⟩]⟩

/-- 11_shaft_and_pit_log.md R463: objects 0x5015. -/
def objGal21 : ObjRow := ⟨20501, 1, [
  ⟨0, 0, "MAX_SUB", .u8, .const, 0, [], none, 9, 0, []⟩,
  ⟨1, 1, "CLASS", .u8, .const, 0, [], none, 2, 0, []⟩,
  ⟨2, 2, "RESERVE", .u16, .rws, 0, [(0, 16384)], none, 16, 0, []⟩,
  ⟨3, 3, "QUOTA", .u16, .rws, 0, [(0, 16384)], none, 16, 0, []⟩,
  ⟨4, 4, "USED", .u16, .ro, 0, [], none, 0, 0, []⟩,
  ⟨5, 5, "PEAK", .u16, .ro, 0, [], none, 0, 0, []⟩,
  ⟨6, 6, "DROPS", .u32, .ro, 0, [], none, 0, 0, []⟩,
  ⟨7, 7, "OVERWRITES", .u32, .ro, 0, [], none, 0, 0, []⟩,
  ⟨8, 8, "POISONED", .u32, .ro, 0, [], none, 0, 0, []⟩,
  ⟨9, 9, "WAIT_US", .u32, .ro, 0, [], none, 0, 0, []⟩]⟩

/-- 11_shaft_and_pit_log.md R463: objects 0x5016. -/
def objGal22 : ObjRow := ⟨20502, 1, [
  ⟨0, 0, "MAX_SUB", .u8, .const, 0, [], none, 9, 0, []⟩,
  ⟨1, 1, "CLASS", .u8, .const, 0, [], none, 0, 0, []⟩,
  ⟨2, 2, "RESERVE", .u16, .rws, 0, [(0, 16384)], none, 64, 0, []⟩,
  ⟨3, 3, "QUOTA", .u16, .rws, 0, [(0, 16384)], none, 256, 0, []⟩,
  ⟨4, 4, "USED", .u16, .ro, 0, [], none, 0, 0, []⟩,
  ⟨5, 5, "PEAK", .u16, .ro, 0, [], none, 0, 0, []⟩,
  ⟨6, 6, "DROPS", .u32, .ro, 0, [], none, 0, 0, []⟩,
  ⟨7, 7, "OVERWRITES", .u32, .ro, 0, [], none, 0, 0, []⟩,
  ⟨8, 8, "POISONED", .u32, .ro, 0, [], none, 0, 0, []⟩,
  ⟨9, 9, "WAIT_US", .u32, .ro, 0, [], none, 0, 0, []⟩]⟩

/-- 11_shaft_and_pit_log.md R463: objects 0x5017. -/
def objGal23 : ObjRow := ⟨20503, 1, [
  ⟨0, 0, "MAX_SUB", .u8, .const, 0, [], none, 9, 0, []⟩,
  ⟨1, 1, "CLASS", .u8, .const, 0, [], none, 0, 0, []⟩,
  ⟨2, 2, "RESERVE", .u16, .rws, 0, [(0, 16384)], none, 192, 0, []⟩,
  ⟨3, 3, "QUOTA", .u16, .rws, 0, [(0, 16384)], none, 192, 0, []⟩,
  ⟨4, 4, "USED", .u16, .ro, 0, [], none, 0, 0, []⟩,
  ⟨5, 5, "PEAK", .u16, .ro, 0, [], none, 0, 0, []⟩,
  ⟨6, 6, "DROPS", .u32, .ro, 0, [], none, 0, 0, []⟩,
  ⟨7, 7, "OVERWRITES", .u32, .ro, 0, [], none, 0, 0, []⟩,
  ⟨8, 8, "POISONED", .u32, .ro, 0, [], none, 0, 0, []⟩,
  ⟨9, 9, "WAIT_US", .u32, .ro, 0, [], none, 0, 0, []⟩]⟩

/-- 11_shaft_and_pit_log.md R463: objects 0x5018. -/
def objGal24 : ObjRow := ⟨20504, 1, [
  ⟨0, 0, "MAX_SUB", .u8, .const, 0, [], none, 9, 0, []⟩,
  ⟨1, 1, "CLASS", .u8, .const, 0, [], none, 0, 0, []⟩,
  ⟨2, 2, "RESERVE", .u16, .rws, 0, [(0, 16384)], none, 256, 0, []⟩,
  ⟨3, 3, "QUOTA", .u16, .rws, 0, [(0, 16384)], none, 2048, 0, []⟩,
  ⟨4, 4, "USED", .u16, .ro, 0, [], none, 0, 0, []⟩,
  ⟨5, 5, "PEAK", .u16, .ro, 0, [], none, 0, 0, []⟩,
  ⟨6, 6, "DROPS", .u32, .ro, 0, [], none, 0, 0, []⟩,
  ⟨7, 7, "OVERWRITES", .u32, .ro, 0, [], none, 0, 0, []⟩,
  ⟨8, 8, "POISONED", .u32, .ro, 0, [], none, 0, 0, []⟩,
  ⟨9, 9, "WAIT_US", .u32, .ro, 0, [], none, 0, 0, []⟩]⟩

/-- 11_shaft_and_pit_log.md R463: objects 0x5019. -/
def objGal25 : ObjRow := ⟨20505, 1, [
  ⟨0, 0, "MAX_SUB", .u8, .const, 0, [], none, 9, 0, []⟩,
  ⟨1, 1, "CLASS", .u8, .const, 0, [], none, 0, 0, []⟩,
  ⟨2, 2, "RESERVE", .u16, .rws, 0, [(0, 16384)], none, 64, 0, []⟩,
  ⟨3, 3, "QUOTA", .u16, .rws, 0, [(0, 16384)], none, 512, 0, []⟩,
  ⟨4, 4, "USED", .u16, .ro, 0, [], none, 0, 0, []⟩,
  ⟨5, 5, "PEAK", .u16, .ro, 0, [], none, 0, 0, []⟩,
  ⟨6, 6, "DROPS", .u32, .ro, 0, [], none, 0, 0, []⟩,
  ⟨7, 7, "OVERWRITES", .u32, .ro, 0, [], none, 0, 0, []⟩,
  ⟨8, 8, "POISONED", .u32, .ro, 0, [], none, 0, 0, []⟩,
  ⟨9, 9, "WAIT_US", .u32, .ro, 0, [], none, 0, 0, []⟩]⟩

/-- 11_shaft_and_pit_log.md R463: objects 0x501A. -/
def objGal26 : ObjRow := ⟨20506, 1, [
  ⟨0, 0, "MAX_SUB", .u8, .const, 0, [], none, 9, 0, []⟩,
  ⟨1, 1, "CLASS", .u8, .const, 0, [], none, 3, 0, []⟩,
  ⟨2, 2, "RESERVE", .u16, .rws, 0, [(0, 16384)], none, 16, 0, []⟩,
  ⟨3, 3, "QUOTA", .u16, .rws, 0, [(0, 16384)], none, 16, 0, []⟩,
  ⟨4, 4, "USED", .u16, .ro, 0, [], none, 0, 0, []⟩,
  ⟨5, 5, "PEAK", .u16, .ro, 0, [], none, 0, 0, []⟩,
  ⟨6, 6, "DROPS", .u32, .ro, 0, [], none, 0, 0, []⟩,
  ⟨7, 7, "OVERWRITES", .u32, .ro, 0, [], none, 0, 0, []⟩,
  ⟨8, 8, "POISONED", .u32, .ro, 0, [], none, 0, 0, []⟩,
  ⟨9, 9, "WAIT_US", .u32, .ro, 0, [], none, 0, 0, []⟩]⟩

/-- 11_shaft_and_pit_log.md R463: objects 0x501B–0x501F. -/
def objGal27 : ObjRow := ⟨20507, 5, [
  ⟨0, 0, "MAX_SUB", .u8, .const, 0, [], none, 9, 0, []⟩,
  ⟨1, 1, "CLASS", .u8, .const, 0, [], none, 0, 0, []⟩,
  ⟨2, 2, "RESERVE", .u16, .const, 0, [], none, 0, 0, []⟩,
  ⟨3, 3, "QUOTA", .u16, .const, 0, [], none, 0, 0, []⟩,
  ⟨4, 4, "USED", .u16, .ro, 0, [], none, 0, 0, []⟩,
  ⟨5, 5, "PEAK", .u16, .ro, 0, [], none, 0, 0, []⟩,
  ⟨6, 6, "DROPS", .u32, .ro, 0, [], none, 0, 0, []⟩,
  ⟨7, 7, "OVERWRITES", .u32, .ro, 0, [], none, 0, 0, []⟩,
  ⟨8, 8, "POISONED", .u32, .ro, 0, [], none, 0, 0, []⟩,
  ⟨9, 9, "WAIT_US", .u32, .ro, 0, [], none, 0, 0, []⟩]⟩

/-- 11_shaft_and_pit_log.md R463: objects 0x5020–0x503F. -/
def objGal32 : ObjRow := ⟨20512, 32, [
  ⟨0, 0, "MAX_SUB", .u8, .const, 0, [], none, 12, 0, []⟩,
  ⟨1, 1, "CLASS", .u8, .const, 0, [], none, 1, 0, []⟩,
  ⟨2, 2, "RESERVE", .u16, .rws, 0, [(0, 16384)], none, 0, 0, []⟩,
  ⟨3, 3, "QUOTA", .u16, .rws, 0, [(0, 16384)], none, 0, 0, []⟩,
  ⟨4, 4, "USED", .u16, .ro, 0, [], none, 0, 0, []⟩,
  ⟨5, 5, "PEAK", .u16, .ro, 0, [], none, 0, 0, []⟩,
  ⟨6, 6, "DROPS", .u32, .ro, 0, [], none, 0, 0, []⟩,
  ⟨7, 7, "OVERWRITES", .u32, .ro, 0, [], none, 0, 0, []⟩,
  ⟨8, 8, "POISONED", .u32, .ro, 0, [], none, 0, 0, []⟩,
  ⟨9, 9, "WAIT_US", .u32, .ro, 0, [], none, 0, 0, []⟩,
  ⟨10, 10, "STREAM_SIG", .u16, .rws, 0, [(0, 1023), (65535, 65535)], none, 65535, 0, []⟩,
  ⟨11, 11, "DEC_US", .u16, .rws, 0, [(1, 10000)], none, 100, 0, []⟩,
  ⟨12, 12, "STREAM_DATA", .domain, .ro, 0, [], none, 0, 0, []⟩]⟩

/-- 11_shaft_and_pit_log.md R464: objects 0x5040. -/
def objShaft : ObjRow := ⟨20544, 1, [
  ⟨0, 0, "MAX_SUB", .u8, .const, 0, [], none, 5, 0, []⟩,
  ⟨1, 1, "POOL_FREE", .u16, .ro, 0, [], none, 11056, 0, []⟩,
  ⟨2, 2, "CORRECTED", .u32, .ro, 0, [], none, 0, 0, []⟩,
  ⟨3, 3, "UNCORRECTED", .u32, .ro, 0, [], none, 0, 0, []⟩,
  ⟨4, 4, "BAD_BLOCKS", .u16, .ro, 0, [], none, 0, 0, []⟩,
  ⟨5, 5, "SH_STATUS", .u8, .ro, 0, [], none, 0, 0, []⟩]⟩

/-- 11_shaft_and_pit_log.md R472: objects 0x5080. -/
def objCap : ObjRow := ⟨20608, 1, [
  ⟨0, 0, "MAX_SUB", .u8, .const, 0, [], none, 13, 0, []⟩,
  ⟨1, 1, "CAP_CTRL", .u8, .fields, 0, [], none, 0, 0, [⟨"reserved", 7, 3, .ro, 0, 31⟩, ⟨"TRIG_ANY", 2, 2, .rw, 0, 1⟩, ⟨"TRIG_HOST", 1, 1, .wo, 0, 1⟩, ⟨"ARM", 0, 0, .wo, 0, 1⟩]⟩,
  ⟨2, 2, "TRIG_MON_MASK", .u64, .rw, 0, [], some 281474976710655, 0, 0, []⟩,
  ⟨3, 3, "EVT_MASK", .u64, .rw, 0, [], some 281474976710655, 0, 0, []⟩,
  ⟨4, 4, "TRIG_SRC", .u16, .rw, 0, [(0, 1023), (65535, 65535)], none, 65535, 0, []⟩,
  ⟨5, 5, "POST_FRAMES", .u32, .rw, 0, [], none, 4096, 0, []⟩,
  ⟨6, 6, "CAP_STATE", .u8, .ro, 0, [], none, 0, 0, []⟩,
  ⟨7, 7, "CAP_MAX", .u32, .ro, 0, [], none, 13107, 0, []⟩,
  ⟨8, 8, "CAP_FRAMES", .u32, .ro, 0, [], none, 0, 0, []⟩,
  ⟨9, 9, "TRIG_FRAME", .u32, .ro, 0, [], none, 0, 0, []⟩,
  ⟨10, 10, "TRIG_NS", .u64, .ro, 0, [], none, 0, 0, []⟩,
  ⟨11, 11, "TRIG_CAUSE", .u16, .ro, 0, [], none, 65535, 0, []⟩,
  ⟨12, 12, "CAP_DATA", .domain, .ro, 0, [], none, 0, 0, []⟩,
  ⟨13, 13, "CAP_EVENTS", .domain, .ro, 0, [], none, 0, 0, []⟩]⟩

/-- 11_shaft_and_pit_log.md R472: objects 0x5081. -/
def objCapPoison : ObjRow := ⟨20609, 1, [
  ⟨0, 0, "CAP_POISON", .u32, .ro, 0, [], none, 0, 0, []⟩]⟩

/-- 11_shaft_and_pit_log.md R486: objects 0x5100. -/
def objPitRows0 : List SubRow := [
  ⟨0, 0, "MAX_SUB", .u8, .const, 0, [], none, 16, 0, []⟩,
  ⟨1, 1, "PL_CMD", .u8, .wo, 0, [(1, 1)], none, 0, 0, []⟩,
  ⟨2, 2, "EPOCH_PERIOD_S", .u16, .rw, 0, [(60, 43200)], none, 300, 0, []⟩,
  ⟨3, 3, "REFRESH_MS", .u16, .rw, 0, [(10, 10000)], none, 1000, 0, []⟩,
  ⟨4, 4, "SEQ", .u32, .ro, 0, [], none, 0, 0, []⟩,
  ⟨5, 5, "EPOCH", .u32, .ro, 0, [], none, 0, 0, []⟩,
  ⟨6, 6, "EPOCH_NS", .u64, .ro, 0, [], none, 0, 0, []⟩,
  ⟨7, 7, "PL_STATUS", .u16, .ro, 0, [], none, 0, 0, []⟩,
  ⟨8, 8, "SLOTS_OK", .u8, .ro, 0, [], none, 8, 0, []⟩,
  ⟨9, 9, "EPOCH_FAILS", .u32, .ro, 0, [], none, 0, 0, []⟩,
  ⟨10, 10, "LIVE_HEAD", .domain, .ro, 0, [], none, 0, 0, []⟩,
  ⟨11, 11, "LIVE_RING_TEMP", .domain, .ro, 0, [], none, 0, 0, []⟩,
  ⟨12, 12, "LIVE_FAULT", .domain, .ro, 0, [], none, 0, 0, []⟩,
  ⟨13, 13, "LIVE_ENERGY", .domain, .ro, 0, [], none, 0, 0, []⟩,
  ⟨14, 14, "LIVE_HIST", .domain, .ro, 0, [], none, 0, 0, []⟩,
  ⟨15, 15, "SLOT_SEL", .u8, .rw, 0, [(0, 7)], none, 0, 0, []⟩]

def objPitRows1 : List SubRow := [
  ⟨16, 16, "SLOT_IMAGE", .domain, .ro, 0, [], none, 0, 0, []⟩]

/-- 11_shaft_and_pit_log.md R486: the rows together. -/
def objPit : ObjRow := ⟨20736, 1, objPitRows0 ++ objPitRows1⟩

/-- 14_images_and_security.md R619: objects 0x6000. -/
def objUpdRows0 : List SubRow := [
  ⟨0, 0, "MAX_SUB", .u8, .const, 0, [], none, 16, 0, []⟩,
  ⟨1, 1, "UPD_CMD", .u8, .wo, 2, [(1, 5)], none, 0, 0, []⟩,
  ⟨2, 2, "RELAY_TARGET", .u8, .rw, 2, [(1, 62)], none, 1, 0, []⟩,
  ⟨3, 3, "ACTIVE_BANK", .u8, .ro, 2, [], none, 0, 0, []⟩,
  ⟨4, 4, "UPD_STATUS", .u16, .ro, 2, [], none, 0, 0, []⟩,
  ⟨5, 5, "TRIAL_BOOTS", .u8, .ro, 2, [], none, 0, 0, []⟩,
  ⟨6, 6, "TRIAL_S", .u16, .ro, 2, [], none, 0, 0, []⟩,
  ⟨7, 7, "CONFIRM_DWELL_S", .u16, .rw, 2, [(10, 240)], none, 30, 0, []⟩,
  ⟨8, 8, "HOST_CHECK", .bool, .rw, 2, [(0, 0), (1, 1)], none, 0, 0, []⟩,
  ⟨9, 9, "DOMAIN_EPOCH", .u16, .rw, 2, [], none, 0, 0, []⟩,
  ⟨10, 10, "RUN_EPOCH", .u16, .ro, 2, [], none, 0, 0, []⟩,
  ⟨11, 11, "ROLLBACK_CTR", .u32, .ro, 2, [], none, 0, 0, []⟩,
  ⟨12, 12, "JOURNAL_NEXT", .u32, .ro, 2, [], none, 0, 0, []⟩,
  ⟨13, 13, "CARD_STATUS", .u8, .ro, 2, [], none, 0, 0, []⟩,
  ⟨14, 14, "RELAY_STATUS", .u32, .ro, 2, [], none, 0, 0, []⟩,
  ⟨15, 15, "FALLBACKS", .u16, .ro, 2, [], none, 0, 0, []⟩]

def objUpdRows1 : List SubRow := [
  ⟨16, 16, "CARD_HEADER", .domain, .ro, 2, [], none, 0, 0, []⟩]

/-- 14_images_and_security.md R619: the rows together. -/
def objUpd : ObjRow := ⟨24576, 1, objUpdRows0 ++ objUpdRows1⟩

/-- 14_images_and_security.md R620: objects 0x6001. -/
def objBank : ObjRow := ⟨24577, 1, [
  ⟨0, 0, "MAX_SUB", .u8, .const, 0, [], none, 7, 0, []⟩,
  ⟨1, 1, "BANK_STATE", .u8, .ro, 0, [], none, 4, 0, []⟩,
  ⟨2, 3, "BANK_FW_VERSION", .u32, .ro, 0, [], none, 0, 0, []⟩,
  ⟨4, 5, "BANK_ROLLBACK", .u32, .ro, 0, [], none, 0, 0, []⟩,
  ⟨6, 7, "BANK_EPOCHS", .u64, .ro, 0, [], none, 0, 0, []⟩]⟩

/-- 14_images_and_security.md R596: objects 0x6002. -/
def objOpRec : ObjRow := ⟨24578, 1, [
  ⟨0, 0, "MAX_SUB", .u8, .const, 0, [], none, 5, 0, []⟩,
  ⟨1, 1, "OP_SEQ", .u32, .ro, 0, [], none, 0, 0, []⟩,
  ⟨2, 2, "OP_REC", .u16, .ro, 0, [], none, 0, 0, []⟩,
  ⟨3, 3, "OP_ADDR", .u32, .ro, 0, [], none, 0, 0, []⟩,
  ⟨4, 4, "OP_TIME_NS", .u64, .ro, 0, [], none, 0, 0, []⟩,
  ⟨5, 5, "RECOVERIES", .u16, .ro, 0, [], none, 0, 0, []⟩]⟩

/-- 14_images_and_security.md R632: objects 0x6100. -/
def objSec : ObjRow := ⟨24832, 1, [
  ⟨0, 0, "MAX_SUB", .u8, .const, 0, [], none, 18, 0, []⟩,
  ⟨1, 1, "DEBUG_STATE", .u8, .ro, 0, [], none, 0, 0, []⟩,
  ⟨2, 2, "SEC_STATUS", .u8, .ro, 0, [], none, 0, 0, []⟩,
  ⟨3, 3, "KEY_MAP", .u16, .ro, 0, [], none, 0, 0, []⟩,
  ⟨4, 7, "PUBKEY0-3", .domain, .rw, 3, [], none, 0, 0, []⟩,
  ⟨8, 8, "REVOKE", .u8, .wo, 3, [(0, 3)], none, 0, 0, []⟩,
  ⟨9, 9, "SESSIONS", .u8, .ro, 0, [], none, 0, 0, []⟩,
  ⟨10, 10, "SESSION_IDLE_S", .u16, .rw, 3, [(10, 3600)], none, 300, 0, []⟩,
  ⟨11, 11, "SESSION_FAILS", .u32, .ro, 0, [], none, 0, 0, []⟩,
  ⟨12, 12, "DEBUG_CMD", .u8, .wo, 3, [(1, 4)], none, 0, 0, []⟩,
  ⟨13, 13, "LAST_DEBUG_NS", .u64, .ro, 0, [], none, 0, 0, []⟩,
  ⟨14, 18, "KEY0-KEY4", .domain, .wo, 3, [], none, 0, 0, []⟩]⟩

/-- 15_start_bist_standby.md R657: objects 0x6200. -/
def objBist : ObjRow := ⟨25088, 1, [
  ⟨0, 0, "MAX_SUB", .u8, .const, 0, [], none, 13, 0, []⟩,
  ⟨1, 1, "LAMP_STATUS", .u16, .ro, 0, [], none, 0, 0, []⟩,
  ⟨2, 2, "LAMP_SEQ", .u32, .ro, 0, [], none, 0, 0, []⟩,
  ⟨3, 3, "LAMP_AGE_MAX_H", .u16, .rw, 2, [(1, 8760)], none, 168, 0, []⟩,
  ⟨4, 4, "FULL_NEXT", .bool, .rw, 2, [(0, 0), (1, 1)], none, 0, 0, []⟩,
  ⟨5, 5, "UNTESTED_MASK", .u32, .ro, 0, [], none, 0, 0, []⟩,
  ⟨6, 6, "FAILED_MASK", .u32, .ro, 0, [], none, 0, 0, []⟩,
  ⟨7, 7, "CAGED_MASK", .u32, .ro, 0, [], none, 0, 0, []⟩,
  ⟨8, 8, "START_US", .u32, .ro, 0, [], none, 0, 0, []⟩,
  ⟨9, 9, "SPARES_USED", .u8, .ro, 0, [], none, 0, 0, []⟩,
  ⟨10, 10, "FAIL_COUNT", .u16, .ro, 0, [], none, 0, 0, []⟩,
  ⟨11, 11, "FAIL_LOG", .domain, .ro, 0, [], none, 0, 0, []⟩,
  ⟨12, 12, "LAMP_RECORD", .domain, .ro, 0, [], none, 0, 0, []⟩,
  ⟨13, 13, "HALTS", .u16, .ro, 0, [], none, 0, 0, []⟩]⟩

/-- 15_start_bist_standby.md R660: objects 0x6300. -/
def objStby : ObjRow := ⟨25344, 1, [
  ⟨0, 0, "MAX_SUB", .u8, .const, 0, [], none, 8, 0, []⟩,
  ⟨1, 1, "WAKE_CTRL", .u8, .fields, 0, [], none, 1, 0, [⟨"reserved", 7, 5, .ro, 0, 7⟩, ⟨"TW0_WAKE", 4, 4, .rw, 0, 1⟩, ⟨"WAKE_EN", 3, 0, .rw, 0, 15⟩]⟩,
  ⟨2, 2, "WAKE_POL", .u8, .rw, 0, [], some 15, 15, 0, []⟩,
  ⟨3, 3, "WAKE_EDGE", .u8, .rw, 0, [], some 15, 0, 0, []⟩,
  ⟨4, 4, "WAKE_FILT_MS", .u8, .rw, 0, [(0, 255)], none, 2, 0, []⟩,
  ⟨5, 5, "WAKE_SRC", .u8, .ro, 0, [], none, 7, 0, []⟩,
  ⟨6, 6, "STBY_S", .u32, .ro, 0, [], none, 0, 0, []⟩,
  ⟨7, 7, "WAKE_COUNT", .u32, .ro, 0, [], none, 0, 0, []⟩,
  ⟨8, 8, "STBY_STATUS", .u8, .ro, 0, [], none, 2, 0, []⟩]⟩

/-- The objects from 0x1000 on, in order. -/
def objectsA : List ObjRow :=
  [objIdent, objPower, objCfg, objOutcome, objCnt, objT1s, objEth, objCan, objSpi]

/-- The objects from 0x1140 on, in order. -/
def objectsB : List ObjRow :=
  [objTw0, objTw, objWs, objDomain, objRoute, objWd, objRstRec, objRstCtl, objClk, objSupply]

/-- The objects from 0x2000 on, in order. -/
def objectsC : List ObjRow :=
  [objRail, objPhase, objLight, objProp, objRing, objIfw]

/-- The objects from 0x2300 on, in order. -/
def objectsD : List ObjRow :=
  [objGroup, objCtxD, objCtx, objSat, objSlPort, objTally, objClass0, objClass, objNode, objMargin, objSeq]

/-- The objects from 0x3500 on, in order. -/
def objectsE : List ObjRow :=
  [objMon, objCmpo, objTherm, objSens0, objSens, objScan, objGain, objScanTab0, objScanTab1, objResult]

/-- The objects from 0x3800 on, in order. -/
def objectsF : List ObjRow :=
  [objSlot, objProg, objLane, objDuty, objWinder, objSrc, objReact]

/-- The objects from 0x5000 on, in order. -/
def objectsG : List ObjRow :=
  [objGal0, objGal2, objGal4, objGal8, objGal10, objGal12]

/-- The objects from 0x5010 on, in order. -/
def objectsH : List ObjRow :=
  [objGal16, objGal17, objGal18, objGal19, objGal20, objGal21, objGal22, objGal23, objGal24, objGal25, objGal26, objGal27, objGal32]

/-- The objects from 0x5040 on, in order. -/
def objectsI : List ObjRow :=
  [objShaft, objCap, objCapPoison, objPit, objUpd, objBank, objOpRec, objSec, objBist, objStby]

/-- The part of the dictionary an index falls in. -/
def objectsNear (idx : Nat) : List ObjRow :=
  if idx < 4416 then objectsA else
  if idx < 8192 then objectsB else
  if idx < 8960 then objectsC else
  if idx < 13568 then objectsD else
  if idx < 14336 then objectsE else
  if idx < 20480 then objectsF else
  if idx < 20496 then objectsG else
  if idx < 20544 then objectsH else
  objectsI

/-- Every object of the dictionary, in index order (R489). -/
def allObjects : List ObjRow :=
  objectsA ++ objectsB ++ objectsC ++ objectsD ++ objectsE ++ objectsF ++ objectsG ++ objectsH ++ objectsI

/-- The object an index names, if the dictionary has one. -/
def findObj (idx : Nat) : Option ObjRow :=
  (objectsNear idx).find? fun o => o.base ≤ idx && idx < o.base + o.count

/-- The row of a sub-index. -/
def ObjRow.find (o : ObjRow) (sub : Nat) : Option SubRow :=
  o.subs.find? fun r => r.s0 ≤ sub && sub ≤ r.s1

/-- The row of (index, sub-index). -/
def findSub (idx sub : Nat) : Option SubRow :=
  match findObj idx with
  | some o => o.find sub
  | none => none

/-- The reset value of a sub-index: its table's, plus the table's step per unit. -/
def subReset (idx sub : Nat) : Int :=
  match findObj idx with
  | some o =>
    match o.find sub with
    | some r => r.reset + r.step * ((idx - o.base : Nat) : Int)
    | none => 0
  | none => 0

/-- A register the spec names but gives no sub-index: `units` of `bits` bits. -/
structure IntRow where
  name : String
  units : Nat
  bits : Nat
  reset : Int
  deriving DecidableEq, Repr

/-- Internal registers 0–39. -/
def internals0 : List IntRow := [
  ⟨"planeReady", 1, 1, 0⟩,
  ⟨"holdActive", 1, 1, 0⟩,
  ⟨"holdTimedOut", 1, 1, 0⟩,
  ⟨"procReset", 1, 1, 0⟩,
  ⟨"ppReset", 1, 1, 0⟩,
  ⟨"dieHold", 1, 1, 0⟩,
  ⟨"corePowered", 1, 1, 1⟩,
  ⟨"alwaysOn", 1, 1, 1⟩,
  ⟨"coldFirst", 1, 1, 1⟩,
  ⟨"startFromPp", 1, 1, 0⟩,
  ⟨"startHeld", 1, 1, 0⟩,
  ⟨"startHalted", 1, 1, 0⟩,
  ⟨"haltRun", 1, 2, 0⟩,
  ⟨"wdPeriodWritten", 1, 1, 0⟩,
  ⟨"hbMisses", 1, 2, 0⟩,
  ⟨"wakeWithPower", 1, 1, 1⟩,
  ⟨"ppSourceReq", 1, 16, 65535⟩,
  ⟨"phPwm", 16, 2, 0⟩,
  ⟨"phTaps", 16, 17, 0⟩,
  ⟨"phValley", 16, 7, 0⟩,
  ⟨"phOpenRun", 16, 7, 0⟩,
  ⟨"phPrebias", 16, 17, 0⟩,
  ⟨"phZeroWait", 16, 1, 0⟩,
  ⟨"rlTarget", 4, 16, 0⟩,
  ⟨"rlSelIdx", 4, 3, 0⟩,
  ⟨"rlLastOrder", 4, 5, 0⟩,
  ⟨"rlLock", 4, 21, 1000000⟩,
  ⟨"rlClampRun", 4, 1, 0⟩,
  ⟨"rlVin", 4, 32, 0⟩,
  ⟨"rlVinSeen", 4, 1, 0⟩,
  ⟨"rlVinBad", 4, 1, 0⟩,
  ⟨"rlShedOfs", 4, 4, 0⟩,
  ⟨"rlBurstLeft", 4, 5, 0⟩,
  ⟨"rlPileArmed", 4, 1, 1⟩,
  ⟨"rlLimitHold", 4, 1, 0⟩,
  ⟨"rlOvlAbove", 4, 1, 0⟩,
  ⟨"rlToZero", 4, 1, 0⟩,
  ⟨"rlSoft", 4, 1, 0⟩,
  ⟨"rlOffBlock", 4, 1, 0⟩,
  ⟨"cxGate", 512, 2, 0⟩]

/-- Internal registers 40–79. -/
def internals1 : List IntRow := [
  ⟨"cxRetryRun", 512, 1, 0⟩,
  ⟨"cxDecayDone", 512, 1, 1⟩,
  ⟨"cxCheckWait", 512, 1, 0⟩,
  ⟨"cxFwdFrac", 512, 20, 0⟩,
  ⟨"cxRevFrac", 512, 20, 0⟩,
  ⟨"cxHeat", 512, 64, 0⟩,
  ⟨"cxElapsed8", 512, 24, 0⟩,
  ⟨"cxTimerAt", 512, 64, 0⟩,
  ⟨"cxLeadOver", 512, 1, 0⟩,
  ⟨"cxAnnId", 512, 8, 0⟩,
  ⟨"cxCageRaised", 512, 1, 0⟩,
  ⟨"cxI2tWait", 512, 1, 0⟩,
  ⟨"cxVin", 512, 16, 0⟩,
  ⟨"cxRegate", 512, 1, 0⟩,
  ⟨"cxWindow", 512, 1, 1⟩,
  ⟨"cxOnBit", 512, 1, 0⟩,
  ⟨"stPend", 32, 80, 0⟩,
  ⟨"stMseq", 32, 8, 0⟩,
  ⟨"stMseqNext", 32, 8, 1⟩,
  ⟨"stMaddr", 32, 8, 0⟩,
  ⟨"stNext", 32, 7, 0⟩,
  ⟨"stResync", 32, 1, 0⟩,
  ⟨"stGoOrphan", 32, 1, 0⟩,
  ⟨"stBadRun", 32, 4, 0⟩,
  ⟨"stGoodRun", 32, 3, 0⟩,
  ⟨"stRecType", 32, 32, 0⟩,
  ⟨"stRecUnit", 32, 32, 0⟩,
  ⟨"stRecSet", 32, 1, 0⟩,
  ⟨"stChState", 512, 4, 0⟩,
  ⟨"slRseq", 4, 16, 0⟩,
  ⟨"slEmpty", 4, 4, 0⟩,
  ⟨"slDownRounds", 4, 4, 0⟩,
  ⟨"slEnumDue", 4, 1, 0⟩,
  ⟨"rpGate", 2, 2, 0⟩,
  ⟨"rpMissed", 2, 1, 0⟩,
  ⟨"rpWestNext", 1, 1, 0⟩,
  ⟨"rpUntested", 2, 1, 0⟩,
  ⟨"ifwPin", 4, 2, 0⟩,
  ⟨"ifwSetNs", 1, 64, 0⟩,
  ⟨"ppwm", 4, 2, 0⟩]

/-- Internal registers 80–119. -/
def internals2 : List IntRow := [
  ⟨"ppHoldMv", 1, 16, 0⟩,
  ⟨"ppLockout", 1, 1, 0⟩,
  ⟨"ppOvpLatch", 1, 1, 0⟩,
  ⟨"ppNeedEn", 1, 1, 0⟩,
  ⟨"ppInFrac", 1, 30, 0⟩,
  ⟨"ppOutFrac", 1, 30, 0⟩,
  ⟨"ppChgFrac", 1, 20, 0⟩,
  ⟨"tyInvalid", 1, 1, 0⟩,
  ⟨"tyPeerIdx", 1, 3, 0⟩,
  ⟨"tyAwait", 1, 1, 0⟩,
  ⟨"tyAwaitId", 1, 16, 0⟩,
  ⟨"tyBackoff", 1, 1, 0⟩,
  ⟨"tyLoanId", 1, 16, 0⟩,
  ⟨"tyThrottle", 1, 1, 0⟩,
  ⟨"tyFail", 1, 1, 0⟩,
  ⟨"tyCredit1", 1, 64, 0⟩,
  ⟨"tyCredit2", 1, 64, 0⟩,
  ⟨"tySpent", 1, 64, 0⟩,
  ⟨"gpTrimFrac", 4, 40, 0⟩,
  ⟨"lnFrameNo", 2, 64, 0⟩,
  ⟨"lnSlot", 2, 8, 0⟩,
  ⟨"slPc", 128, 13, 0⟩,
  ⟨"slV", 2048, 16, 0⟩,
  ⟨"slA", 512, 40, 0⟩,
  ⟨"slClp", 128, 1, 0⟩,
  ⟨"slSat", 128, 1, 0⟩,
  ⟨"slRaised", 128, 1, 0⟩,
  ⟨"slFeDue", 128, 1, 0⟩,
  ⟨"slFeNs", 128, 64, 0⟩,
  ⟨"slParam", 1024, 16, 0⟩,
  ⟨"slCyc", 128, 16, 0⟩,
  ⟨"slClear", 128, 1, 0⟩,
  ⟨"act", 512, 16, 0⟩,
  ⟨"wdPosF", 32, 48, 0⟩,
  ⟨"wdVelF", 32, 48, 0⟩,
  ⟨"wdAccF", 32, 48, 0⟩,
  ⟨"wdGoal", 32, 32, 0⟩,
  ⟨"wdVmaxL", 32, 32, 0⟩,
  ⟨"wdAmaxL", 32, 32, 0⟩,
  ⟨"wdJmaxL", 32, 32, 0⟩]

/-- Internal registers 120–159. -/
def internals3 : List IntRow := [
  ⟨"bankBadRun", 6, 2, 0⟩,
  ⟨"scanRound", 1, 1, 0⟩,
  ⟨"mnLive", 48, 1, 0⟩,
  ⟨"mnCheck", 48, 2, 0⟩,
  ⟨"mnFail", 48, 1, 0⟩,
  ⟨"cmpoPin", 8, 2, 0⟩,
  ⟨"cmpoLatched", 8, 1, 0⟩,
  ⟨"tsFirst", 13, 1, 1⟩,
  ⟨"tsRiseRun", 13, 2, 0⟩,
  ⟨"tsBadRun", 13, 2, 0⟩,
  ⟨"tsGoodRun", 13, 4, 0⟩,
  ⟨"tsCoolRun", 1, 2, 0⟩,
  ⟨"enPin", 16, 2, 0⟩,
  ⟨"pgGood", 16, 1, 0⟩,
  ⟨"ndOn", 64, 1, 0⟩,
  ⟨"ndLossHeld", 64, 1, 0⟩,
  ⟨"ndOrdered", 64, 1, 0⟩,
  ⟨"lossThird", 1, 1, 0⟩,
  ⟨"lampPhase", 1, 2, 0⟩,
  ⟨"lampUnit", 1, 5, 0⟩,
  ⟨"epochEnded", 1, 1, 0⟩,
  ⟨"galFed", 64, 1, 0⟩,
  ⟨"scrubAt", 1, 14, 0⟩,
  ⟨"capFrameNo", 1, 64, 0⟩,
  ⟨"capTrigAt", 1, 64, 0⟩,
  ⟨"plLast", 1, 16, 0⟩,
  ⟨"plNextReason", 1, 8, 0⟩,
  ⟨"plHostNs", 1, 64, 0⟩,
  ⟨"ntSeq", 1, 32, 0⟩,
  ⟨"stSeq", 64, 16, 0⟩,
  ⟨"bcastRx", 64, 32, 0⟩,
  ⟨"domSend", 1, 32, 0⟩,
  ⟨"domStored", 1, 32, 0⟩,
  ⟨"bcastStored", 64, 32, 0⟩,
  ⟨"readyNew", 5, 1, 0⟩,
  ⟨"spiTook", 1, 2, 0⟩,
  ⟨"twPtr", 3, 6, 0⟩,
  ⟨"twOutAt", 3, 16, 0⟩,
  ⟨"twIgnore", 3, 1, 0⟩,
  ⟨"twStretch", 3, 1, 0⟩]

/-- Internal registers 160–199. -/
def internals4 : List IntRow := [
  ⟨"twLosses", 3, 4, 0⟩,
  ⟨"wsInteg", 1, 32, 0⟩,
  ⟨"asInteg", 1, 32, 0⟩,
  ⟨"asGoodRun", 1, 4, 0⟩,
  ⟨"wsGoodRun", 1, 4, 0⟩,
  ⟨"wsBadRun", 1, 2, 0⟩,
  ⟨"wsSending", 1, 1, 1⟩,
  ⟨"wsOverRun", 1, 4, 0⟩,
  ⟨"wsSlice", 4, 3, 0⟩,
  ⟨"ioStopped", 2, 1, 0⟩,
  ⟨"nvmBusy", 1, 1, 0⟩,
  ⟨"nvmRetry", 1, 1, 0⟩,
  ⟨"nvmResetDue", 1, 1, 0⟩,
  ⟨"saveLeft", 1, 16, 0⟩,
  ⟨"instSrc", 1, 2, 0⟩,
  ⟨"instLen", 1, 32, 0⟩,
  ⟨"dbgWindow", 1, 1, 0⟩,
  ⟨"wakePend", 1, 9, 0⟩,
  ⟨"phWait", 16, 1, 0⟩,
  ⟨"rlNoShed", 4, 64, 0⟩,
  ⟨"ppReqd", 1, 1, 0⟩,
  ⟨"procReqd", 1, 16, 0⟩,
  ⟨"capLastUs", 1, 64, 0⟩,
  ⟨"rlSoftSlope", 4, 64, 0⟩,
  ⟨"annIdNext", 1, 8, 0⟩,
  ⟨"ownTid", 1, 16, 0⟩,
  ⟨"ppHoldoffNs", 1, 64, 0⟩,
  ⟨"ppHoldNs", 1, 64, 0⟩,
  ⟨"ifwChangeNs", 1, 64, 0⟩,
  ⟨"ifwPeerNs", 64, 64, 0⟩,
  ⟨"rpTripNs", 2, 64, 0⟩,
  ⟨"rpJudge", 2, 64, 0⟩,
  ⟨"stMvalue", 32, 32, 0⟩,
  ⟨"stBadRep", 32, 1, 0⟩,
  ⟨"cxSum", 512, 64, 0⟩,
  ⟨"cxCnt", 512, 32, 0⟩,
  ⟨"rpSum", 2, 64, 0⟩,
  ⟨"rpCnt", 2, 32, 0⟩,
  ⟨"rlSampleAt", 4, 64, 0⟩,
  ⟨"phSampleAt", 16, 64, 0⟩]

/-- Internal registers 200–239. -/
def internals5 : List IntRow := [
  ⟨"mnAuto", 48, 1, 0⟩,
  ⟨"tsFallRun", 13, 2, 0⟩,
  ⟨"tsPeakSet", 13, 1, 0⟩,
  ⟨"tmFail", 1, 1, 0⟩,
  ⟨"ppDie", 1, 1, 0⟩,
  ⟨"lnDirty", 2, 1, 0⟩,
  ⟨"lnFrameEnd", 2, 64, 0⟩,
  ⟨"ltEn", 128, 1, 0⟩,
  ⟨"ltStart", 128, 13, 0⟩,
  ⟨"ltDiv", 128, 9, 1⟩,
  ⟨"ltPhase", 128, 8, 0⟩,
  ⟨"ltSig", 128, 10, 0⟩,
  ⟨"ltAct", 128, 9, 0⟩,
  ⟨"ltProg", 2, 1, 0⟩,
  ⟨"tyWaiting", 1, 10, 0⟩,
  ⟨"lnTrig", 2, 16, 0⟩,
  ⟨"galWaitNs", 64, 64, 0⟩,
  ⟨"galWaitRaised", 64, 1, 0⟩,
  ⟨"plSlot", 1, 4, 0⟩,
  ⟨"seqDue", 1, 1, 0⟩,
  ⟨"slotDead", 8, 1, 0⟩,
  ⟨"lampStartNs", 1, 64, 0⟩,
  ⟨"lampUnitNs", 1, 64, 0⟩,
  ⟨"lrResult", 27, 2, 2⟩,
  ⟨"lrCov", 27, 16, 0⟩,
  ⟨"lrDur", 27, 32, 0⟩,
  ⟨"lrSeq", 1, 32, 0⟩,
  ⟨"lrFlags", 1, 3, 0⟩,
  ⟨"lrTotal", 1, 32, 0⟩,
  ⟨"lrAge", 1, 32, 0⟩,
  ⟨"lrAgeNs", 1, 64, 0⟩,
  ⟨"lrKept", 1, 1, 0⟩,
  ⟨"wsNoPos", 1, 1, 0⟩,
  ⟨"gpDecay", 4, 64, 0⟩,
  ⟨"gpClash", 4, 1, 0⟩,
  ⟨"twBus", 3, 1, 0⟩,
  ⟨"twClear", 3, 2, 1⟩,
  ⟨"fsSeqs", 4, 16, 0⟩,
  ⟨"twIbr", 3, 1, 0⟩,
  ⟨"fsLast", 4, 88, 0⟩]

/-- Internal registers 240–279. -/
def internals6 : List IntRow := [
  ⟨"twPart", 3, 16, 0⟩,
  ⟨"macTable", 126, 48, 0⟩,
  ⟨"saveBank", 1, 1, 0⟩,
  ⟨"instJob", 1, 3, 0⟩,
  ⟨"instPrep", 1, 6, 0⟩,
  ⟨"instWord", 1, 9, 0⟩,
  ⟨"instNs", 1, 64, 0⟩,
  ⟨"eraseLeft", 1, 10, 0⟩,
  ⟨"plErase", 1, 5, 0⟩,
  ⟨"bootAt", 1, 32, 0⟩,
  ⟨"trialNs", 1, 64, 0⟩,
  ⟨"hostSeen", 1, 1, 0⟩,
  ⟨"bankImg", 2, 8, 0⟩,
  ⟨"jrnHdr", 1, 8, 0⟩,
  ⟨"instData", 1, 8, 0⟩,
  ⟨"cardImg", 1, 8, 0⟩,
  ⟨"rlyStep", 1, 3, 0⟩,
  ⟨"rlyAt", 1, 32, 0⟩,
  ⟨"rlyTid", 1, 16, 0⟩,
  ⟨"rlyNonce", 1, 64, 0⟩,
  ⟨"rlyCount", 1, 16, 0⟩,
  ⟨"wdNs", 1, 64, 0⟩,
  ⟨"holdNs", 1, 64, 0⟩,
  ⟨"ppNs", 4, 64, 0⟩,
  ⟨"ppHoldReq", 1, 1, 0⟩,
  ⟨"startNs", 1, 64, 0⟩,
  ⟨"utFail", 27, 32, 0⟩,
  ⟨"coldCause", 1, 8, 0⟩,
  ⟨"tyLeaseEnd", 1, 8, 0⟩,
  ⟨"rlTrigs", 4, 7, 0⟩,
  ⟨"rlDwell", 4, 64, 0⟩,
  ⟨"twServe", 3, 1, 0⟩,
  ⟨"lnLeft", 2, 7, 0⟩,
  ⟨"srcWinNs", 1024, 64, 0⟩,
  ⟨"rlTrigNs", 4, 64, 0⟩,
  ⟨"phOnNs", 16, 64, 0⟩,
  ⟨"phOffNs", 16, 64, 0⟩,
  ⟨"phDue", 16, 2, 0⟩,
  ⟨"phAbove", 16, 1, 0⟩,
  ⟨"phCmp", 16, 17, 0⟩]

/-- Internal registers 280–319. -/
def internals7 : List IntRow := [
  ⟨"rlAboveOvs", 4, 1, 0⟩,
  ⟨"rlDac", 4, 12, 0⟩,
  ⟨"rlAvg", 4, 64, 0⟩,
  ⟨"rlAvgAt", 4, 64, 0⟩,
  ⟨"rlCageLim", 4, 1, 0⟩,
  ⟨"rlValleyNs", 4, 64, 0⟩,
  ⟨"rlStNs", 4, 64, 0⟩,
  ⟨"rlAddNs", 4, 64, 0⟩,
  ⟨"rlRotNs", 4, 64, 0⟩,
  ⟨"inLast", 96, 16, -32768⟩,
  ⟨"cxLeadEnd", 512, 64, 0⟩,
  ⟨"cxOffNs", 512, 64, 0⟩,
  ⟨"cxRampNs", 512, 64, 0⟩,
  ⟨"cxOnNs", 512, 64, 0⟩,
  ⟨"cxFullNs", 512, 64, 0⟩,
  ⟨"cxGateUp", 16, 1, 0⟩,
  ⟨"cxRetryEnd", 512, 64, 0⟩,
  ⟨"cxLostOn", 512, 1, 0⟩,
  ⟨"cxSlope", 16, 16, 0⟩,
  ⟨"cxHoldMa", 16, 32, 0⟩,
  ⟨"rpSupNs", 2, 64, 0⟩,
  ⟨"rpPreNs", 2, 64, 0⟩,
  ⟨"rpNearNs", 2, 64, 0⟩,
  ⟨"ifwLastNs", 3, 64, 0⟩,
  ⟨"ifwSentNs", 1, 64, 0⟩,
  ⟨"ifwOut", 4, 2, 0⟩,
  ⟨"nodeMv", 11, 32, 0⟩,
  ⟨"nodeNs", 11, 64, 0⟩,
  ⟨"ppAboveNs", 1, 64, 0⟩,
  ⟨"ppTaperNs", 1, 64, 0⟩,
  ⟨"ppLoop", 1, 1, 0⟩,
  ⟨"ppIlim", 2, 32, 0⟩,
  ⟨"ppChgMa", 1, 32, 0⟩,
  ⟨"ppChgMv", 1, 16, 0⟩,
  ⟨"rpRegMa", 2, 32, 0⟩,
  ⟨"cxFullMw", 512, 32, 0⟩,
  ⟨"cxWinEnd", 512, 64, 0⟩,
  ⟨"tyDutyOld", 8, 16, 0⟩,
  ⟨"tyDutyAt", 8, 64, 0⟩,
  ⟨"dpOld", 64, 16, 0⟩]

/-- Internal registers 320–359. -/
def internals8 : List IntRow := [
  ⟨"dpAt", 64, 64, 0⟩,
  ⟨"inOut", 96, 1, 0⟩,
  ⟨"tyAskNs", 1, 64, 0⟩,
  ⟨"tyBackNs", 1, 64, 0⟩,
  ⟨"phSlotErr", 16, 32, 0⟩,
  ⟨"lnRounds", 2, 64, 0⟩,
  ⟨"lnStart", 2, 64, 0⟩,
  ⟨"lnRunAt", 2, 64, 0⟩,
  ⟨"lnEcc", 2, 3246, 0⟩,
  ⟨"ltBud", 128, 12, 32⟩,
  ⟨"ltFrameNs", 2, 20, 5120⟩,
  ⟨"ltTrig", 2, 2, 0⟩,
  ⟨"ltOn", 2, 1, 0⟩,
  ⟨"ltClear", 128, 1, 0⟩,
  ⟨"slNew", 128, 1, 0⟩,
  ⟨"scTab", 256, 16, 0⟩,
  ⟨"scLen", 1, 9, 1⟩,
  ⟨"scPeriod", 1, 14, 100⟩,
  ⟨"scRun", 1, 1, 0⟩,
  ⟨"scAt", 1, 64, 0⟩,
  ⟨"scCount", 1, 32, 0⟩,
  ⟨"scNext", 2, 9, 0⟩,
  ⟨"scSum", 2, 32, 0⟩,
  ⟨"scConv", 2, 4, 0⟩,
  ⟨"mnUv", 48, 32, 0⟩,
  ⟨"mnSeen", 48, 1, 0⟩,
  ⟨"mnOutNs", 48, 64, 0⟩,
  ⟨"mnAutoNs", 48, 64, 0⟩,
  ⟨"tsNs", 13, 64, 0⟩,
  ⟨"tickNs", 64, 64, 0⟩,
  ⟨"galTickNs", 64, 64, 0⟩,
  ⟨"plAtNs", 1, 64, 0⟩,
  ⟨"liveNs", 1, 64, 0⟩,
  ⟨"cutAfter", 1, 7, 0⟩,
  ⟨"cutCause", 1, 1, 0⟩,
  ⟨"enOn", 16, 1, 0⟩,
  ⟨"enLive", 1, 1, 0⟩,
  ⟨"ndFtNs", 64, 64, 0⟩,
  ⟨"ndOkNs", 64, 64, 0⟩,
  ⟨"procNs", 1, 64, 0⟩]

/-- Internal registers 360–399. -/
def internals9 : List IntRow := [
  ⟨"strmNs", 1, 64, 0⟩,
  ⟨"beaconNs", 1, 64, 0⟩,
  ⟨"beaconOut", 1, 1, 0⟩,
  ⟨"asNs", 1, 64, 0⟩,
  ⟨"asOut", 1, 1, 0⟩,
  ⟨"twHoldNs", 3, 64, 0⟩,
  ⟨"twHeld", 3, 8, 0⟩,
  ⟨"twClearNs", 3, 64, 0⟩,
  ⟨"syncNs", 1, 64, 0⟩,
  ⟨"wsInLost", 1, 1, 0⟩,
  ⟨"twWakeNs", 1, 64, 0⟩,
  ⟨"twWakeGrp", 1, 1, 0⟩,
  ⟨"haltNs", 1, 64, 0⟩,
  ⟨"nvmStray", 1, 2, 0⟩,
  ⟨"confNs", 1, 64, 0⟩,
  ⟨"cardOp", 1, 8, 0⟩,
  ⟨"cardAddr", 1, 3, 0⟩,
  ⟨"cardDensity", 1, 32, 0⟩,
  ⟨"cfgNs", 1, 64, 0⟩,
  ⟨"rlLowNs", 4, 64, 0⟩,
  ⟨"rlOvlLim", 4, 1, 0⟩,
  ⟨"cxSampled", 512, 1, 0⟩,
  ⟨"cxSampleNs", 16, 64, 0⟩,
  ⟨"cxAnnRail", 512, 2, 0⟩,
  ⟨"cxLastOn", 512, 64, 0⟩,
  ⟨"cxWaits", 512, 4, 0⟩,
  ⟨"slRoundNs", 4, 64, 0⟩,
  ⟨"slJudge", 4, 2, 0⟩,
  ⟨"lnRunFrame", 2, 64, 0⟩,
  ⟨"wdSigPos", 32, 16, 0⟩,
  ⟨"wdSigMov", 32, 1, 0⟩,
  ⟨"tySigDuty", 8, 16, 32767⟩,
  ⟨"galLost", 64, 9, 0⟩,
  ⟨"eccRun", 1, 10, 0⟩,
  ⟨"slotDirty", 8, 2, 0⟩,
  ⟨"slotBad", 8, 16, 0⟩,
  ⟨"plWord", 1, 12, 0⟩,
  ⟨"plErSlot", 1, 4, 0⟩,
  ⟨"livePoison", 1, 8, 0⟩,
  ⟨"imgSpoilt", 1, 1, 0⟩]

/-- Internal registers 400–408. -/
def internals10 : List IntRow := [
  ⟨"twFull", 3, 1, 0⟩,
  ⟨"twAway", 3, 1, 0⟩,
  ⟨"twIbrWant", 3, 1, 0⟩,
  ⟨"twIbrNs", 3, 64, 0⟩,
  ⟨"twXfer", 3, 1, 0⟩,
  ⟨"twOwed", 3, 16, 0⟩,
  ⟨"wsLowNs", 1, 64, 0⟩,
  ⟨"wsSymbols", 1, 16, 0⟩,
  ⟨"bootWord", 1, 2, 0⟩]

/-- The internal registers, in the order of their numbers. -/
def internals : List IntRow :=
  internals0 ++ internals1 ++ internals2 ++ internals3 ++ internals4 ++ internals5 ++ internals6 ++ internals7 ++ internals8 ++ internals9 ++ internals10

/-- The first key of an internal register: keys of sub-indexes lie below. -/
def intBase : Nat := 0x1000000

/-- The key of a sub-index in the register store. -/
def odKey (idx sub : Nat) : Nat := idx * 256 + sub

/-- The key of unit `u` of internal register `i`. -/
def intKey (i u : Nat) : Nat := 0x1000000 + i * 4096 + u

/-- The value a register holds after a cold reset. -/
def resetValue (k : Nat) : Int :=
  if k < 0x1000000 then subReset (k / 256) (k % 256)
  else
    match internals[(k - 0x1000000) / 4096]? with
    | some r => r.reset
    | none => 0

end Sys2Proof.Machine
end

