-- ==== Sys2Proof/Machine/Keys.lean ====
section
/-!
DEFINITION. The names of the registers: `Reg.<NAME>` is the key in the register store of the sub-index (or internal
register) of that name, `Bit.<REGISTER>_<FIELD>` a field of one. `u` is the unit of a family (a rail, a phase, a
context, …), `i` the place in a run of sub-indexes.
-/
namespace Sys2Proof.Machine

/-- A field of a register: the register's key, its lowest bit and its width. -/
structure Bits where
  key : Nat
  lo : Nat
  width : Nat
  deriving DecidableEq, Repr

namespace Reg
/-- 12_dictionary.md R495: DEVICE_TYPE (0x1000.01). -/
abbrev DEVICE_TYPE : Nat := odKey 0x1000 1
/-- 12_dictionary.md R495: SILICON_REV (0x1000.02). -/
abbrev SILICON_REV : Nat := odKey 0x1000 2
/-- 12_dictionary.md R495: UNIT_ID (0x1000.03). -/
abbrev Ident_UNIT_ID : Nat := odKey 0x1000 3
/-- 12_dictionary.md R495: VENDOR (0x1000.04). -/
abbrev VENDOR : Nat := odKey 0x1000 4
/-- 12_dictionary.md R495: PRODUCT (0x1000.05). -/
abbrev PRODUCT : Nat := odKey 0x1000 5
/-- 12_dictionary.md R495: FW_VERSION (0x1000.06). -/
abbrev FW_VERSION : Nat := odKey 0x1000 6
/-- 12_dictionary.md R495: MAC_ADDR (0x1000.07). -/
abbrev MAC_ADDR : Nat := odKey 0x1000 7
/-- 12_dictionary.md R495: DENGON_VER (0x1000.08). -/
abbrev DENGON_VER : Nat := odKey 0x1000 8
/-- 09_sequencing_and_states.md R382: STATE_CMD (0x1010.01). -/
abbrev STATE_CMD : Nat := odKey 0x1010 1
/-- 09_sequencing_and_states.md R382: STATE (0x1010.02). -/
abbrev STATE : Nat := odKey 0x1010 2
/-- 09_sequencing_and_states.md R382: STATE_CHANGES (0x1010.03). -/
abbrev STATE_CHANGES : Nat := odKey 0x1010 3
/-- 09_sequencing_and_states.md R382: STATE_REJECTS (0x1010.04). -/
abbrev STATE_REJECTS : Nat := odKey 0x1010 4
/-- 09_sequencing_and_states.md R382: LAST_STATE_NS (0x1010.05). -/
abbrev LAST_STATE_NS : Nat := odKey 0x1010 5
/-- 12_dictionary.md R494: CFG_CMD (0x1011.01). -/
abbrev CFG_CMD : Nat := odKey 0x1011 1
/-- 12_dictionary.md R494: CFG_STATUS (0x1011.02). -/
abbrev CFG_STATUS : Nat := odKey 0x1011 2
/-- 12_dictionary.md R494: CFG_CRC (0x1011.03). -/
abbrev CFG_CRC : Nat := odKey 0x1011 3
/-- 12_dictionary.md R494: CFG_SAVES (0x1011.04). -/
abbrev CFG_SAVES : Nat := odKey 0x1011 4
/-- 12_dictionary.md R516: ENTRY0–ENTRY31 (0x1018.01). -/
abbrev OUT_ENTRY (i : Nat) : Nat := odKey 0x1018 (1 + i)
/-- 12_dictionary.md R516: TX_SEQ (0x1018.21). -/
abbrev TX_SEQ : Nat := odKey 0x1018 33
/-- 12_dictionary.md R516: TABLE (0x1018.22). -/
abbrev TABLE : Nat := odKey 0x1018 34
/-- 12_dictionary.md R535: RX_PDUS (0x1019.01). -/
abbrev RX_PDUS : Nat := odKey 0x1019 1
/-- 12_dictionary.md R535: TX_PDUS (0x1019.02). -/
abbrev TX_PDUS : Nat := odKey 0x1019 2
/-- 12_dictionary.md R535: DISCARDS (0x1019.03). -/
abbrev DISCARDS : Nat := odKey 0x1019 3
/-- 12_dictionary.md R535: AUTH_FAILS (0x1019.04). -/
abbrev AUTH_FAILS : Nat := odKey 0x1019 4
/-- 12_dictionary.md R535: REPLAYS (0x1019.05). -/
abbrev REPLAYS : Nat := odKey 0x1019 5
/-- 12_dictionary.md R535: ABORTS (0x1019.06). -/
abbrev Cnt_ABORTS : Nat := odKey 0x1019 6
/-- 12_dictionary.md R535: STATE_ABORTS (0x1019.07). -/
abbrev STATE_ABORTS : Nat := odKey 0x1019 7
/-- 12_dictionary.md R535: DUPLICATES (0x1019.08). -/
abbrev DUPLICATES : Nat := odKey 0x1019 8
/-- 12_dictionary.md R535: FWD_PDUS (0x1019.09). -/
abbrev FWD_PDUS : Nat := odKey 0x1019 9
/-- 12_dictionary.md R535: TTL_DROPS (0x1019.0A). -/
abbrev TTL_DROPS : Nat := odKey 0x1019 10
/-- 12_dictionary.md R535: ADDR_CLASH (0x1019.0B). -/
abbrev ADDR_CLASH : Nat := odKey 0x1019 11
/-- 12_dictionary.md R535: CAN_REASM_FAILS (0x1019.0C). -/
abbrev CAN_REASM_FAILS : Nat := odKey 0x1019 12
/-- 13_links.md R541: T1S_CTRL (0x1100.01). -/
abbrev T1S_CTRL : Nat := odKey 0x1100 1
/-- 13_links.md R541: PLCA_NODE_ID (0x1100.02). -/
abbrev PLCA_NODE_ID : Nat := odKey 0x1100 2
/-- 13_links.md R541: PLCA_NODE_COUNT (0x1100.03). -/
abbrev PLCA_NODE_COUNT : Nat := odKey 0x1100 3
/-- 13_links.md R541: PLCA_TO (0x1100.04). -/
abbrev PLCA_TO : Nat := odKey 0x1100 4
/-- 13_links.md R541: PLCA_BURST_CNT (0x1100.05). -/
abbrev PLCA_BURST_CNT : Nat := odKey 0x1100 5
/-- 13_links.md R541: PLCA_BURST_TMR (0x1100.06). -/
abbrev PLCA_BURST_TMR : Nat := odKey 0x1100 6
/-- 13_links.md R541: T1S_STATUS (0x1100.07). -/
abbrev T1S_STATUS : Nat := odKey 0x1100 7
/-- 13_links.md R541: RX_FRAMES (0x1100.08). -/
abbrev T1s_RX_FRAMES : Nat := odKey 0x1100 8
/-- 13_links.md R541: TX_FRAMES (0x1100.09). -/
abbrev T1s_TX_FRAMES : Nat := odKey 0x1100 9
/-- 13_links.md R541: RX_DROPS (0x1100.0A). -/
abbrev T1s_RX_DROPS : Nat := odKey 0x1100 10
/-- 13_links.md R541: TX_ERRORS (0x1100.0B). -/
abbrev TX_ERRORS : Nat := odKey 0x1100 11
/-- 13_links.md R546: ETH_CTRL (0x1110.01). -/
abbrev ETH_CTRL : Nat := odKey 0x1110 1
/-- 13_links.md R546: VLAN_ID (0x1110.02). -/
abbrev VLAN_ID : Nat := odKey 0x1110 2
/-- 13_links.md R546: ETH_STATUS (0x1110.03). -/
abbrev ETH_STATUS : Nat := odKey 0x1110 3
/-- 13_links.md R546: AS_OFFSET_NS (0x1110.04). -/
abbrev AS_OFFSET_NS : Nat := odKey 0x1110 4
/-- 13_links.md R546: PHY_TX_NS (0x1110.05). -/
abbrev PHY_TX_NS : Nat := odKey 0x1110 5
/-- 13_links.md R546: PHY_RX_NS (0x1110.06). -/
abbrev PHY_RX_NS : Nat := odKey 0x1110 6
/-- 13_links.md R546: RX_FRAMES (0x1110.07). -/
abbrev Eth_RX_FRAMES : Nat := odKey 0x1110 7
/-- 13_links.md R546: TX_FRAMES (0x1110.08). -/
abbrev Eth_TX_FRAMES : Nat := odKey 0x1110 8
/-- 13_links.md R546: RX_DROPS (0x1110.09). -/
abbrev Eth_RX_DROPS : Nat := odKey 0x1110 9
/-- 13_links.md R546: FCS_ERRORS (0x1110.0A). -/
abbrev FCS_ERRORS : Nat := odKey 0x1110 10
/-- 13_links.md R550: CAN_CTRL (0x1120+u.01). -/
abbrev CAN_CTRL (u : Nat) : Nat := odKey (0x1120 + u) 1
/-- 13_links.md R550: NOM_BRP (0x1120+u.02). -/
abbrev NOM_BRP (u : Nat) : Nat := odKey (0x1120 + u) 2
/-- 13_links.md R550: NOM_TSEG1 (0x1120+u.03). -/
abbrev NOM_TSEG1 (u : Nat) : Nat := odKey (0x1120 + u) 3
/-- 13_links.md R550: NOM_TSEG2 (0x1120+u.04). -/
abbrev NOM_TSEG2 (u : Nat) : Nat := odKey (0x1120 + u) 4
/-- 13_links.md R550: NOM_SJW (0x1120+u.05). -/
abbrev NOM_SJW (u : Nat) : Nat := odKey (0x1120 + u) 5
/-- 13_links.md R550: DATA_BRP (0x1120+u.06). -/
abbrev DATA_BRP (u : Nat) : Nat := odKey (0x1120 + u) 6
/-- 13_links.md R550: DATA_TSEG1 (0x1120+u.07). -/
abbrev DATA_TSEG1 (u : Nat) : Nat := odKey (0x1120 + u) 7
/-- 13_links.md R550: DATA_TSEG2 (0x1120+u.08). -/
abbrev DATA_TSEG2 (u : Nat) : Nat := odKey (0x1120 + u) 8
/-- 13_links.md R550: DATA_SJW (0x1120+u.09). -/
abbrev DATA_SJW (u : Nat) : Nat := odKey (0x1120 + u) 9
/-- 13_links.md R550: TDC_OFFSET (0x1120+u.0A). -/
abbrev TDC_OFFSET (u : Nat) : Nat := odKey (0x1120 + u) 10
/-- 13_links.md R550: CAN_STATUS (0x1120+u.0B). -/
abbrev CAN_STATUS (u : Nat) : Nat := odKey (0x1120 + u) 11
/-- 13_links.md R550: TEC (0x1120+u.0C). -/
abbrev TEC (u : Nat) : Nat := odKey (0x1120 + u) 12
/-- 13_links.md R550: REC (0x1120+u.0D). -/
abbrev REC (u : Nat) : Nat := odKey (0x1120 + u) 13
/-- 13_links.md R550: RX_FRAMES (0x1120+u.0E). -/
abbrev Can_RX_FRAMES (u : Nat) : Nat := odKey (0x1120 + u) 14
/-- 13_links.md R550: TX_FRAMES (0x1120+u.0F). -/
abbrev Can_TX_FRAMES (u : Nat) : Nat := odKey (0x1120 + u) 15
/-- 13_links.md R550: RX_DROPS (0x1120+u.10). -/
abbrev Can_RX_DROPS (u : Nat) : Nat := odKey (0x1120 + u) 16
/-- 13_links.md R550: BUS_OFFS (0x1120+u.11). -/
abbrev BUS_OFFS (u : Nat) : Nat := odKey (0x1120 + u) 17
/-- 13_links.md R558: SPI_CTRL (0x1130.01). -/
abbrev SPI_CTRL : Nat := odKey 0x1130 1
/-- 13_links.md R558: IRQ_MASK (0x1130.02). -/
abbrev Spi_IRQ_MASK : Nat := odKey 0x1130 2
/-- 13_links.md R558: SPI_ERRORS (0x1130.03). -/
abbrev SPI_ERRORS : Nat := odKey 0x1130 3
/-- 13_links.md R558: SPI_ABORTS (0x1130.04). -/
abbrev SPI_ABORTS : Nat := odKey 0x1130 4
/-- 13_links.md R558: IN_REFUSED (0x1130.05). -/
abbrev IN_REFUSED : Nat := odKey 0x1130 5
/-- 13_links.md R570: TW_CTRL (0x1140+u.01). -/
abbrev TW_CTRL (u : Nat) : Nat := odKey (0x1140 + u) 1
/-- 13_links.md R570: TW_ADDR (0x1140+u.02). -/
abbrev TW_ADDR (u : Nat) : Nat := odKey (0x1140 + u) 2
/-- 13_links.md R570: PEER_ADDR (0x1140+u.03). -/
abbrev PEER_ADDR (u : Nat) : Nat := odKey (0x1140 + u) 3
/-- 13_links.md R570: IRQ_MASK (0x1140+u.04). -/
abbrev Tw_IRQ_MASK (u : Nat) : Nat := odKey (0x1140 + u) 4
/-- 13_links.md R570: TW_STATUS (0x1140+u.05). -/
abbrev TW_STATUS (u : Nat) : Nat := odKey (0x1140 + u) 5
/-- 13_links.md R570: ARB_LOSSES (0x1140+u.06). -/
abbrev ARB_LOSSES (u : Nat) : Nat := odKey (0x1140 + u) 6
/-- 13_links.md R570: TIMEOUTS (0x1140+u.07). -/
abbrev TIMEOUTS (u : Nat) : Nat := odKey (0x1140 + u) 7
/-- 13_links.md R570: CLEARS (0x1140+u.08). -/
abbrev CLEARS (u : Nat) : Nat := odKey (0x1140 + u) 8
/-- 13_links.md R570: CLEAR_FAILS (0x1140+u.09). -/
abbrev CLEAR_FAILS (u : Nat) : Nat := odKey (0x1140 + u) 9
/-- 13_links.md R570: ABORTS (0x1140+u.0A). -/
abbrev Tw_ABORTS (u : Nat) : Nat := odKey (0x1140 + u) 10
/-- 13_links.md R570: IBR_COUNT (0x1140+u.0B). -/
abbrev IBR_COUNT (u : Nat) : Nat := odKey (0x1140 + u) 11
/-- 13_links.md R584: WS_CTRL (0x1150.01). -/
abbrev WS_CTRL : Nat := odKey 0x1150 1
/-- 13_links.md R584: LINK_DELAY_NS (0x1150.02). -/
abbrev LINK_DELAY_NS : Nat := odKey 0x1150 2
/-- 13_links.md R584: WS_STATUS (0x1150.03). -/
abbrev WS_STATUS : Nat := odKey 0x1150 3
/-- 13_links.md R584: MASTER_ADDR (0x1150.04). -/
abbrev MASTER_ADDR : Nat := odKey 0x1150 4
/-- 13_links.md R584: TB_ERR_NS (0x1150.05). -/
abbrev TB_ERR_NS : Nat := odKey 0x1150 5
/-- 13_links.md R584: PLL_TRIM_PPB (0x1150.06). -/
abbrev PLL_TRIM_PPB : Nat := odKey 0x1150 6
/-- 13_links.md R584: LOAD_PERMILLE (0x1150.07). -/
abbrev Ws_LOAD_PERMILLE : Nat := odKey 0x1150 7
/-- 13_links.md R584: CRC_ERRORS (0x1150.08). -/
abbrev CRC_ERRORS : Nat := odKey 0x1150 8
/-- 13_links.md R584: HOP_DROPS (0x1150.09). -/
abbrev HOP_DROPS : Nat := odKey 0x1150 9
/-- 13_links.md R584: SYNC_LOSSES (0x1150.0A). -/
abbrev SYNC_LOSSES : Nat := odKey 0x1150 10
/-- 13_links.md R584: LAST_FAULT (0x1150.0B). -/
abbrev LAST_FAULT : Nat := odKey 0x1150 11
/-- 12_dictionary.md R526: DOMAIN_ADDR (0x1160.01). -/
abbrev DOMAIN_ADDR : Nat := odKey 0x1160 1
/-- 12_dictionary.md R526: DG_CTRL (0x1160.02). -/
abbrev DG_CTRL : Nat := odKey 0x1160 2
/-- 12_dictionary.md R526: BCAST_PORTS (0x1160.03). -/
abbrev BCAST_PORTS : Nat := odKey 0x1160 3
/-- 12_dictionary.md R526: NOTICE_DST (0x1160.04). -/
abbrev NOTICE_DST : Nat := odKey 0x1160 4
/-- 12_dictionary.md R526: NOTICE_MS (0x1160.05). -/
abbrev NOTICE_MS : Nat := odKey 0x1160 5
/-- 12_dictionary.md R526: STREAM_DST (0x1160.06). -/
abbrev STREAM_DST : Nat := odKey 0x1160 6
/-- 12_dictionary.md R526: STREAM_MASK (0x1160.07). -/
abbrev STREAM_MASK : Nat := odKey 0x1160 7
/-- 12_dictionary.md R526: STREAM_MS (0x1160.08). -/
abbrev STREAM_MS : Nat := odKey 0x1160 8
/-- 12_dictionary.md R526: LAT_US (0x1160.09). -/
abbrev LAT_US : Nat := odKey 0x1160 9
/-- 12_dictionary.md R527: ROUTE (0x1161.01). -/
abbrev ROUTE (i : Nat) : Nat := odKey 0x1161 (1 + i)
/-- 10_faults_watchdog_resets.md R432: WD_RESETS (0x1F10.01). -/
abbrev WD_RESETS : Nat := odKey 0x1F10 1
/-- 10_faults_watchdog_resets.md R432: WD_PERIOD_CFG (0x1F10.02). -/
abbrev WD_PERIOD_CFG : Nat := odKey 0x1F10 2
/-- 10_faults_watchdog_resets.md R432: WD_PERIOD_MS (0x1F10.03). -/
abbrev WD_PERIOD_MS : Nat := odKey 0x1F10 3
/-- 10_faults_watchdog_resets.md R432: WD_STATUS (0x1F10.04). -/
abbrev WD_STATUS : Nat := odKey 0x1F10 4
/-- 10_faults_watchdog_resets.md R432: WD_ELAPSED_US (0x1F10.05). -/
abbrev WD_ELAPSED_US : Nat := odKey 0x1F10 5
/-- 10_faults_watchdog_resets.md R432: WD_VIOLATIONS (0x1F10.06). -/
abbrev WD_VIOLATIONS : Nat := odKey 0x1F10 6
/-- 10_faults_watchdog_resets.md R432: WD_FOREIGN (0x1F10.07). -/
abbrev WD_FOREIGN : Nat := odKey 0x1F10 7
/-- 01_architecture.md R30: LAST_RESET (0x1F18.01). -/
abbrev LAST_RESET : Nat := odKey 0x1F18 1
/-- 01_architecture.md R30: HOLD_US (0x1F18.02). -/
abbrev HOLD_US : Nat := odKey 0x1F18 2
/-- 01_architecture.md R30: PP_RESETS (0x1F18.03). -/
abbrev PP_RESETS : Nat := odKey 0x1F18 3
/-- 10_faults_watchdog_resets.md R441: RESET_CMD (0x1F19.01). -/
abbrev RESET_CMD : Nat := odKey 0x1F19 1
/-- 10_faults_watchdog_resets.md R441: PP_RESTORE (0x1F19.02). -/
abbrev PP_RESTORE : Nat := odKey 0x1F19 2
/-- 10_faults_watchdog_resets.md R441: PP_SOURCE (0x1F19.03). -/
abbrev PP_SOURCE : Nat := odKey 0x1F19 3
/-- 10_faults_watchdog_resets.md R441: RESTORE_STATE (0x1F19.04). -/
abbrev RESTORE_STATE : Nat := odKey 0x1F19 4
/-- 10_faults_watchdog_resets.md R441: RST_STATUS (0x1F19.05). -/
abbrev RST_STATUS : Nat := odKey 0x1F19 5
/-- 10_faults_watchdog_resets.md R441: PROC_RESETS (0x1F19.06). -/
abbrev PROC_RESETS : Nat := odKey 0x1F19 6
/-- 10_faults_watchdog_resets.md R441: HOLD_MAX_US (0x1F19.07). -/
abbrev HOLD_MAX_US : Nat := odKey 0x1F19 7
/-- 10_faults_watchdog_resets.md R441: CFG_MISMATCH (0x1F19.08). -/
abbrev CFG_MISMATCH : Nat := odKey 0x1F19 8
/-- 01_architecture.md R33: CLK_STATUS (0x1F20.01). -/
abbrev CLK_STATUS : Nat := odKey 0x1F20 1
/-- 01_architecture.md R33: CLK_RETURN (0x1F20.02). -/
abbrev CLK_RETURN : Nat := odKey 0x1F20 2
/-- 16_balls_and_supplies.md R678: SUP_STATUS (0x1F21.01). -/
abbrev SUP_STATUS : Nat := odKey 0x1F21 1
/-- 16_balls_and_supplies.md R678: SUP_LAST (0x1F21.02). -/
abbrev SUP_LAST : Nat := odKey 0x1F21 2
/-- 16_balls_and_supplies.md R678: SUP_RESETS (0x1F21.03). -/
abbrev SUP_RESETS : Nat := odKey 0x1F21 3
/-- 16_balls_and_supplies.md R678: IO_LOSSES (0x1F21.04). -/
abbrev IO_LOSSES : Nat := odKey 0x1F21 4
/-- 02_converter_core.md R46: RAIL_CTRL (0x2000+u.01). -/
abbrev RAIL_CTRL (u : Nat) : Nat := odKey (0x2000 + u) 1
/-- 02_converter_core.md R46: FSW_KHZ (0x2000+u.02). -/
abbrev FSW_KHZ (u : Nat) : Nat := odKey (0x2000 + u) 2
/-- 02_converter_core.md R46: SENSE_GAIN (0x2000+u.03). -/
abbrev SENSE_GAIN (u : Nat) : Nat := odKey (0x2000 + u) 3
/-- 02_converter_core.md R46: VIN_INPUT (0x2000+u.04). -/
abbrev VIN_INPUT (u : Nat) : Nat := odKey (0x2000 + u) 4
/-- 02_converter_core.md R46: SETPOINT0–SETPOINT7 (0x2000+u.05). -/
abbrev SETPOINT (u : Nat) (i : Nat) : Nat := odKey (0x2000 + u) (5 + i)
/-- 02_converter_core.md R46: VSEL_PINS (0x2000+u.0D). -/
abbrev VSEL_PINS (u : Nat) : Nat := odKey (0x2000 + u) 13
/-- 02_converter_core.md R46: VSEL_FILT_US (0x2000+u.0E). -/
abbrev VSEL_FILT_US (u : Nat) : Nat := odKey (0x2000 + u) 14
/-- 02_converter_core.md R46: SLEW_PROFILE (0x2000+u.0F). -/
abbrev SLEW_PROFILE (u : Nat) : Nat := odKey (0x2000 + u) 15
/-- 02_converter_core.md R46: RIPPLE_GAIN (0x2000+u.10). -/
abbrev RIPPLE_GAIN (u : Nat) : Nat := odKey (0x2000 + u) 16
/-- 02_converter_core.md R46: DC_INTEG_HZ (0x2000+u.11). -/
abbrev DC_INTEG_HZ (u : Nat) : Nat := odKey (0x2000 + u) 17
/-- 02_converter_core.md R46: OVS_PERMILLE (0x2000+u.12). -/
abbrev OVS_PERMILLE (u : Nat) : Nat := odKey (0x2000 + u) 18
/-- 02_converter_core.md R46: PILEIN_PERMILLE (0x2000+u.13). -/
abbrev PILEIN_PERMILLE (u : Nat) : Nat := odKey (0x2000 + u) 19
/-- 02_converter_core.md R46: HICCUP_N (0x2000+u.14). -/
abbrev HICCUP_N (u : Nat) : Nat := odKey (0x2000 + u) 20
/-- 02_converter_core.md R46: HICCUP_OFF_MS (0x2000+u.15). -/
abbrev HICCUP_OFF_MS (u : Nat) : Nat := odKey (0x2000 + u) 21
/-- 02_converter_core.md R46: SOFT_RETRY_US (0x2000+u.16). -/
abbrev SOFT_RETRY_US (u : Nat) : Nat := odKey (0x2000 + u) 22
/-- 02_converter_core.md R46: OVL_LIMIT_MA (0x2000+u.17). -/
abbrev OVL_LIMIT_MA (u : Nat) : Nat := odKey (0x2000 + u) 23
/-- 02_converter_core.md R46: OVL_TAU_MS (0x2000+u.18). -/
abbrev OVL_TAU_MS (u : Nat) : Nat := odKey (0x2000 + u) 24
/-- 02_converter_core.md R46: DEGRADE_HOLD_MS (0x2000+u.19). -/
abbrev DEGRADE_HOLD_MS (u : Nat) : Nat := odKey (0x2000 + u) 25
/-- 02_converter_core.md R46: FF_RES_UOHM (0x2000+u.1A). -/
abbrev FF_RES_UOHM (u : Nat) : Nat := odKey (0x2000 + u) 26
/-- 02_converter_core.md R46: FF_DECAY_US (0x2000+u.1B). -/
abbrev FF_DECAY_US (u : Nat) : Nat := odKey (0x2000 + u) 27
/-- 02_converter_core.md R46: PREBIAS_MAX_PCT (0x2000+u.1C). -/
abbrev PREBIAS_MAX_PCT (u : Nat) : Nat := odKey (0x2000 + u) 28
/-- 02_converter_core.md R46: REF_MV (0x2000+u.1D). -/
abbrev REF_MV (u : Nat) : Nat := odKey (0x2000 + u) 29
/-- 02_converter_core.md R46: VOUT_MV (0x2000+u.1E). -/
abbrev VOUT_MV (u : Nat) : Nat := odKey (0x2000 + u) 30
/-- 02_converter_core.md R46: IOUT_MA (0x2000+u.1F). -/
abbrev IOUT_MA (u : Nat) : Nat := odKey (0x2000 + u) 31
/-- 02_converter_core.md R46: RAIL_CAP_MA (0x2000+u.20). -/
abbrev RAIL_CAP_MA (u : Nat) : Nat := odKey (0x2000 + u) 32
/-- 02_converter_core.md R46: STATUS (0x2000+u.21). -/
abbrev STATUS (u : Nat) : Nat := odKey (0x2000 + u) 33
/-- 02_converter_core.md R46: PHASE_ACTIVE (0x2000+u.22). -/
abbrev PHASE_ACTIVE (u : Nat) : Nat := odKey (0x2000 + u) 34
/-- 02_converter_core.md R46: HICCUP_COUNT (0x2000+u.23). -/
abbrev HICCUP_COUNT (u : Nat) : Nat := odKey (0x2000 + u) 35
/-- 02_converter_core.md R46: FF_SKIPPED (0x2000+u.24). -/
abbrev FF_SKIPPED (u : Nat) : Nat := odKey (0x2000 + u) 36
/-- 02_converter_core.md R44: PHASE_CTRL (0x2010+u.01). -/
abbrev PHASE_CTRL (u : Nat) : Nat := odKey (0x2010 + u) 1
/-- 02_converter_core.md R44: ILIM_VALLEY_MA (0x2010+u.02). -/
abbrev ILIM_VALLEY_MA (u : Nat) : Nat := odKey (0x2010 + u) 2
/-- 02_converter_core.md R44: ISC_MA (0x2010+u.03). -/
abbrev Phase_ISC_MA (u : Nat) : Nat := odKey (0x2010 + u) 3
/-- 02_converter_core.md R44: CS_ZERO_MV (0x2010+u.04). -/
abbrev CS_ZERO_MV (u : Nat) : Nat := odKey (0x2010 + u) 4
/-- 02_converter_core.md R44: CS_GAIN_UV (0x2010+u.05). -/
abbrev CS_GAIN_UV (u : Nat) : Nat := odKey (0x2010 + u) 5
/-- 02_converter_core.md R44: IND_NH (0x2010+u.06). -/
abbrev IND_NH (u : Nat) : Nat := odKey (0x2010 + u) 6
/-- 02_converter_core.md R44: OPEN_CNT (0x2010+u.07). -/
abbrev OPEN_CNT (u : Nat) : Nat := odKey (0x2010 + u) 7
/-- 02_converter_core.md R44: TON_TRIM (0x2010+u.08). -/
abbrev TON_TRIM (u : Nat) : Nat := odKey (0x2010 + u) 8
/-- 02_converter_core.md R44: IPHASE_MA (0x2010+u.09). -/
abbrev IPHASE_MA (u : Nat) : Nat := odKey (0x2010 + u) 9
/-- 02_converter_core.md R44: PHASE_STATUS (0x2010+u.0A). -/
abbrev PHASE_STATUS (u : Nat) : Nat := odKey (0x2010 + u) 10
/-- 02_converter_core.md R44: GROUP_SLOT (0x2010+u.0B). -/
abbrev GROUP_SLOT (u : Nat) : Nat := odKey (0x2010 + u) 11
/-- 02_converter_core.md R69: LL_CTRL0–3 (0x2020.01). -/
abbrev LL_CTRL (i : Nat) : Nat := odKey 0x2020 (1 + i)
/-- 02_converter_core.md R69: SHED_MA0–3 (0x2020.05). -/
abbrev SHED_MA (i : Nat) : Nat := odKey 0x2020 (5 + i)
/-- 02_converter_core.md R69: ADD_MA0–3 (0x2020.09). -/
abbrev ADD_MA (i : Nat) : Nat := odKey 0x2020 (9 + i)
/-- 02_converter_core.md R69: BURST_ENTRY_MA0–3 (0x2020.0D). -/
abbrev BURST_ENTRY_MA (i : Nat) : Nat := odKey 0x2020 (13 + i)
/-- 02_converter_core.md R69: BURST_EXIT_MA0–3 (0x2020.11). -/
abbrev BURST_EXIT_MA (i : Nat) : Nat := odKey 0x2020 (17 + i)
/-- 02_converter_core.md R69: SLEEP_MAX_US0–3 (0x2020.15). -/
abbrev SLEEP_MAX_US (i : Nat) : Nat := odKey 0x2020 (21 + i)
/-- 02_converter_core.md R69: SHED_DWELL_US (0x2020.19). -/
abbrev SHED_DWELL_US : Nat := odKey 0x2020 25
/-- 02_converter_core.md R69: ROT_MS (0x2020.1A). -/
abbrev ROT_MS : Nat := odKey 0x2020 26
/-- 05_ring_and_holdup.md R243: PROP_CTRL (0x2100.01). -/
abbrev PROP_CTRL : Nat := odKey 0x2100 1
/-- 05_ring_and_holdup.md R243: PROP_FSW_KHZ (0x2100.02). -/
abbrev PROP_FSW_KHZ : Nat := odKey 0x2100 2
/-- 05_ring_and_holdup.md R243: PROP_ILIM_MA (0x2100.03). -/
abbrev PROP_ILIM_MA : Nat := odKey 0x2100 3
/-- 05_ring_and_holdup.md R243: PCS_ZERO_MV (0x2100.04). -/
abbrev PCS_ZERO_MV : Nat := odKey 0x2100 4
/-- 05_ring_and_holdup.md R243: PCS_GAIN_UV (0x2100.05). -/
abbrev PCS_GAIN_UV : Nat := odKey 0x2100 5
/-- 05_ring_and_holdup.md R243: PIND_NH (0x2100.06). -/
abbrev PIND_NH : Nat := odKey 0x2100 6
/-- 05_ring_and_holdup.md R243: HOLD_ENTRY_MV (0x2100.07). -/
abbrev HOLD_ENTRY_MV : Nat := odKey 0x2100 7
/-- 05_ring_and_holdup.md R243: HOLD_MV (0x2100.08). -/
abbrev HOLD_MV : Nat := odKey 0x2100 8
/-- 05_ring_and_holdup.md R243: HOLD_EXIT_MV (0x2100.09). -/
abbrev HOLD_EXIT_MV : Nat := odKey 0x2100 9
/-- 05_ring_and_holdup.md R243: HOLD_EXIT_US (0x2100.0A). -/
abbrev HOLD_EXIT_US : Nat := odKey 0x2100 10
/-- 05_ring_and_holdup.md R243: CHG_MA (0x2100.0B). -/
abbrev CHG_MA : Nat := odKey 0x2100 11
/-- 05_ring_and_holdup.md R243: CHG_VMAX_MV (0x2100.0C). -/
abbrev CHG_VMAX_MV : Nat := odKey 0x2100 12
/-- 05_ring_and_holdup.md R243: CHG_TAPER_MA (0x2100.0D). -/
abbrev CHG_TAPER_MA : Nat := odKey 0x2100 13
/-- 05_ring_and_holdup.md R243: CHG_NODE_MIN_MV (0x2100.0E). -/
abbrev CHG_NODE_MIN_MV : Nat := odKey 0x2100 14
/-- 05_ring_and_holdup.md R243: CHG_HOLDOFF_MS (0x2100.0F). -/
abbrev CHG_HOLDOFF_MS : Nat := odKey 0x2100 15
/-- 05_ring_and_holdup.md R243: STORE_MIN_MV (0x2100.10). -/
abbrev STORE_MIN_MV : Nat := odKey 0x2100 16
/-- 05_ring_and_holdup.md R243: STORE_RESERVE_MV (0x2100.11). -/
abbrev STORE_RESERVE_MV : Nat := odKey 0x2100 17
/-- 05_ring_and_holdup.md R243: STORE_OVP_MV (0x2100.12). -/
abbrev STORE_OVP_MV : Nat := odKey 0x2100 18
/-- 05_ring_and_holdup.md R243: STORE_INPUT (0x2100.13). -/
abbrev STORE_INPUT : Nat := odKey 0x2100 19
/-- 05_ring_and_holdup.md R243: STORE_NTC (0x2100.14). -/
abbrev STORE_NTC : Nat := odKey 0x2100 20
/-- 05_ring_and_holdup.md R243: NODE_MV (0x2100.15). -/
abbrev NODE_MV : Nat := odKey 0x2100 21
/-- 05_ring_and_holdup.md R243: STORE_MV (0x2100.16). -/
abbrev STORE_MV : Nat := odKey 0x2100 22
/-- 05_ring_and_holdup.md R243: STORE_MA (0x2100.17). -/
abbrev STORE_MA : Nat := odKey 0x2100 23
/-- 05_ring_and_holdup.md R243: CHARGE_MC (0x2100.18). -/
abbrev CHARGE_MC : Nat := odKey 0x2100 24
/-- 05_ring_and_holdup.md R243: E_IN_MJ (0x2100.19). -/
abbrev E_IN_MJ : Nat := odKey 0x2100 25
/-- 05_ring_and_holdup.md R243: E_OUT_MJ (0x2100.1A). -/
abbrev E_OUT_MJ : Nat := odKey 0x2100 26
/-- 05_ring_and_holdup.md R243: PROP_STATUS (0x2100.1B). -/
abbrev PROP_STATUS : Nat := odKey 0x2100 27
/-- 05_ring_and_holdup.md R243: HOLD_COUNT (0x2100.1C). -/
abbrev HOLD_COUNT : Nat := odKey 0x2100 28
/-- 05_ring_and_holdup.md R243: HOLD_LAST_US (0x2100.1D). -/
abbrev HOLD_LAST_US : Nat := odKey 0x2100 29
/-- 05_ring_and_holdup.md R221: RP_CTRL (0x2200+u.01). -/
abbrev RP_CTRL (u : Nat) : Nat := odKey (0x2200 + u) 1
/-- 05_ring_and_holdup.md R221: RP_CMD (0x2200+u.02). -/
abbrev RP_CMD (u : Nat) : Nat := odKey (0x2200 + u) 2
/-- 05_ring_and_holdup.md R221: ISO_DIR_MA (0x2200+u.03). -/
abbrev ISO_DIR_MA (u : Nat) : Nat := odKey (0x2200 + u) 3
/-- 05_ring_and_holdup.md R221: ISO_MAX_MA (0x2200+u.04). -/
abbrev ISO_MAX_MA (u : Nat) : Nat := odKey (0x2200 + u) 4
/-- 05_ring_and_holdup.md R221: ISO_IN_MA (0x2200+u.05). -/
abbrev ISO_IN_MA (u : Nat) : Nat := odKey (0x2200 + u) 5
/-- 05_ring_and_holdup.md R221: VRING_UV_MV (0x2200+u.06). -/
abbrev VRING_UV_MV (u : Nat) : Nat := odKey (0x2200 + u) 6
/-- 05_ring_and_holdup.md R221: PRECHG_MA (0x2200+u.07). -/
abbrev PRECHG_MA (u : Nat) : Nat := odKey (0x2200 + u) 7
/-- 05_ring_and_holdup.md R221: PRECHG_MAX_MS (0x2200+u.08). -/
abbrev PRECHG_MAX_MS (u : Nat) : Nat := odKey (0x2200 + u) 8
/-- 05_ring_and_holdup.md R221: SHUNT_UOHM (0x2200+u.09). -/
abbrev Ring_SHUNT_UOHM (u : Nat) : Nat := odKey (0x2200 + u) 9
/-- 05_ring_and_holdup.md R221: I_MA (0x2200+u.0A). -/
abbrev Ring_I_MA (u : Nat) : Nat := odKey (0x2200 + u) 10
/-- 05_ring_and_holdup.md R221: VL_MV (0x2200+u.0B). -/
abbrev VL_MV (u : Nat) : Nat := odKey (0x2200 + u) 11
/-- 05_ring_and_holdup.md R221: VR_MV (0x2200+u.0C). -/
abbrev VR_MV (u : Nat) : Nat := odKey (0x2200 + u) 12
/-- 05_ring_and_holdup.md R221: RP_STATUS (0x2200+u.0D). -/
abbrev RP_STATUS (u : Nat) : Nat := odKey (0x2200 + u) 13
/-- 05_ring_and_holdup.md R221: TRIPS (0x2200+u.0E). -/
abbrev Ring_TRIPS (u : Nat) : Nat := odKey (0x2200 + u) 14
/-- 05_ring_and_holdup.md R221: TEST_MISSES (0x2200+u.0F). -/
abbrev TEST_MISSES (u : Nat) : Nat := odKey (0x2200 + u) 15
/-- 05_ring_and_holdup.md R221: PRECHG_FAILS (0x2200+u.10). -/
abbrev PRECHG_FAILS (u : Nat) : Nat := odKey (0x2200 + u) 16
/-- 05_ring_and_holdup.md R229: IFW_PIN0–3 (0x2210.01). -/
abbrev IFW_PIN (i : Nat) : Nat := odKey 0x2210 (1 + i)
/-- 05_ring_and_holdup.md R229: IFW_LEVEL_MV (0x2210.05). -/
abbrev IFW_LEVEL_MV : Nat := odKey 0x2210 5
/-- 05_ring_and_holdup.md R229: IFW_SLOPE_MV_US (0x2210.06). -/
abbrev IFW_SLOPE_MV_US : Nat := odKey 0x2210 6
/-- 05_ring_and_holdup.md R229: IFW_CLEAR_MS (0x2210.07). -/
abbrev IFW_CLEAR_MS : Nat := odKey 0x2210 7
/-- 05_ring_and_holdup.md R229: BCAST_EN (0x2210.08). -/
abbrev BCAST_EN : Nat := odKey 0x2210 8
/-- 05_ring_and_holdup.md R229: IFW_STATUS (0x2210.09). -/
abbrev IFW_STATUS : Nat := odKey 0x2210 9
/-- 05_ring_and_holdup.md R229: PEER_LAST (0x2210.0A). -/
abbrev PEER_LAST : Nat := odKey 0x2210 10
/-- 05_ring_and_holdup.md R229: PEER_TIME_NS (0x2210.0B). -/
abbrev PEER_TIME_NS : Nat := odKey 0x2210 11
/-- 05_ring_and_holdup.md R229: ASSERT_COUNT (0x2210.0C). -/
abbrev ASSERT_COUNT : Nat := odKey 0x2210 12
/-- 06_tally_and_sharing.md R290: GROUP_CTRL (0x2300+u.01). -/
abbrev GROUP_CTRL (u : Nat) : Nat := odKey (0x2300 + u) 1
/-- 06_tally_and_sharing.md R290: N_SLOTS (0x2300+u.02). -/
abbrev N_SLOTS (u : Nat) : Nat := odKey (0x2300 + u) 2
/-- 06_tally_and_sharing.md R290: SHARE_BW_HZ (0x2300+u.03). -/
abbrev SHARE_BW_HZ (u : Nat) : Nat := odKey (0x2300 + u) 3
/-- 06_tally_and_sharing.md R290: TRIM_MAX_PERMILLE (0x2300+u.04). -/
abbrev TRIM_MAX_PERMILLE (u : Nat) : Nat := odKey (0x2300 + u) 4
/-- 06_tally_and_sharing.md R290: SHARE_RES_UOHM (0x2300+u.05). -/
abbrev SHARE_RES_UOHM (u : Nat) : Nat := odKey (0x2300 + u) 5
/-- 06_tally_and_sharing.md R290: MEMBERS (0x2300+u.06). -/
abbrev MEMBERS (u : Nat) : Nat := odKey (0x2300 + u) 6
/-- 06_tally_and_sharing.md R290: GROUP_IOUT_MA (0x2300+u.07). -/
abbrev GROUP_IOUT_MA (u : Nat) : Nat := odKey (0x2300 + u) 7
/-- 06_tally_and_sharing.md R290: GROUP_PHASES (0x2300+u.08). -/
abbrev GROUP_PHASES (u : Nat) : Nat := odKey (0x2300 + u) 8
/-- 06_tally_and_sharing.md R290: GROUP_CAP_MA (0x2300+u.09). -/
abbrev GROUP_CAP_MA (u : Nat) : Nat := odKey (0x2300 + u) 9
/-- 06_tally_and_sharing.md R290: TRIM_MV (0x2300+u.0A). -/
abbrev TRIM_MV (u : Nat) : Nat := odKey (0x2300 + u) 10
/-- 06_tally_and_sharing.md R290: LEAD_ADDR (0x2300+u.0B). -/
abbrev LEAD_ADDR (u : Nat) : Nat := odKey (0x2300 + u) 11
/-- 06_tally_and_sharing.md R290: LOSS_COUNT (0x2300+u.0C). -/
abbrev Group_LOSS_COUNT (u : Nat) : Nat := odKey (0x2300 + u) 12
/-- 03_load_channels.md R109: CTX_CTRL (0x3000+u.01). -/
abbrev CTX_CTRL (u : Nat) : Nat := odKey (0x3000 + u) 1
/-- 03_load_channels.md R109: BINDING (0x3000+u.02). -/
abbrev BINDING (u : Nat) : Nat := odKey (0x3000 + u) 2
/-- 03_load_channels.md R109: CTX_STATUS (0x3000+u.03). -/
abbrev CTX_STATUS (u : Nat) : Nat := odKey (0x3000 + u) 3
/-- 03_load_channels.md R109: LEAD_US (0x3000+u.04). -/
abbrev LEAD_US (u : Nat) : Nat := odKey (0x3000 + u) 4
/-- 03_load_channels.md R109: STEP_MA (0x3000+u.05). -/
abbrev STEP_MA (u : Nat) : Nat := odKey (0x3000 + u) 5
/-- 03_load_channels.md R109: ILIM_MA (0x3000+u.06). -/
abbrev ILIM_MA (u : Nat) : Nat := odKey (0x3000 + u) 6
/-- 03_load_channels.md R109: ISC_MA (0x3000+u.07). -/
abbrev Ctx_ISC_MA (u : Nat) : Nat := odKey (0x3000 + u) 7
/-- 03_load_channels.md R109: TFAULT_US (0x3000+u.08). -/
abbrev TFAULT_US (u : Nat) : Nat := odKey (0x3000 + u) 8
/-- 03_load_channels.md R109: I2T_RATED_MA (0x3000+u.09). -/
abbrev I2T_RATED_MA (u : Nat) : Nat := odKey (0x3000 + u) 9
/-- 03_load_channels.md R109: I2T_TAU_MS (0x3000+u.0A). -/
abbrev I2T_TAU_MS (u : Nat) : Nat := odKey (0x3000 + u) 10
/-- 03_load_channels.md R109: INRUSH_MA (0x3000+u.0B). -/
abbrev INRUSH_MA (u : Nat) : Nat := odKey (0x3000 + u) 11
/-- 03_load_channels.md R109: DVDT_MV_US (0x3000+u.0C). -/
abbrev DVDT_MV_US (u : Nat) : Nat := odKey (0x3000 + u) 12
/-- 03_load_channels.md R109: INRUSH_MAX_MS (0x3000+u.0D). -/
abbrev INRUSH_MAX_MS (u : Nat) : Nat := odKey (0x3000 + u) 13
/-- 03_load_channels.md R109: RETRY_MS (0x3000+u.0E). -/
abbrev RETRY_MS (u : Nat) : Nat := odKey (0x3000 + u) 14
/-- 03_load_channels.md R109: RETRY_CLEAR_MS (0x3000+u.0F). -/
abbrev RETRY_CLEAR_MS (u : Nat) : Nat := odKey (0x3000 + u) 15
/-- 03_load_channels.md R109: VDAMAGE_MV (0x3000+u.10). -/
abbrev VDAMAGE_MV (u : Nat) : Nat := odKey (0x3000 + u) 16
/-- 03_load_channels.md R109: IDAMAGE_MA (0x3000+u.11). -/
abbrev IDAMAGE_MA (u : Nat) : Nat := odKey (0x3000 + u) 17
/-- 03_load_channels.md R109: OFF_DECAY_MS (0x3000+u.12). -/
abbrev OFF_DECAY_MS (u : Nat) : Nat := odKey (0x3000 + u) 18
/-- 03_load_channels.md R109: SHUNT_UOHM (0x3000+u.13). -/
abbrev Ctx_SHUNT_UOHM (u : Nat) : Nat := odKey (0x3000 + u) 19
/-- 03_load_channels.md R109: I_MA (0x3000+u.14). -/
abbrev Ctx_I_MA (u : Nat) : Nat := odKey (0x3000 + u) 20
/-- 03_load_channels.md R109: V_MV (0x3000+u.15). -/
abbrev V_MV (u : Nat) : Nat := odKey (0x3000 + u) 21
/-- 03_load_channels.md R109: P_MW (0x3000+u.16). -/
abbrev P_MW (u : Nat) : Nat := odKey (0x3000 + u) 22
/-- 03_load_channels.md R109: ENERGY_MJ (0x3000+u.17). -/
abbrev ENERGY_MJ (u : Nat) : Nat := odKey (0x3000 + u) 23
/-- 03_load_channels.md R109: ENERGY_REV_MJ (0x3000+u.18). -/
abbrev ENERGY_REV_MJ (u : Nat) : Nat := odKey (0x3000 + u) 24
/-- 03_load_channels.md R109: I2T_PERMILLE (0x3000+u.19). -/
abbrev I2T_PERMILLE (u : Nat) : Nat := odKey (0x3000 + u) 25
/-- 03_load_channels.md R109: TFAULT_ELAPSED_US (0x3000+u.1A). -/
abbrev TFAULT_ELAPSED_US (u : Nat) : Nat := odKey (0x3000 + u) 26
/-- 03_load_channels.md R109: RETRIES (0x3000+u.1B). -/
abbrev RETRIES (u : Nat) : Nat := odKey (0x3000 + u) 27
/-- 03_load_channels.md R109: TRIPS (0x3000+u.1C). -/
abbrev Ctx_TRIPS (u : Nat) : Nat := odKey (0x3000 + u) 28
/-- 04_satellite_link.md R194: POS_STATUS (0x3200+u.01). -/
abbrev POS_STATUS (u : Nat) : Nat := odKey (0x3200 + u) 1
/-- 04_satellite_link.md R194: TYPE_ID (0x3200+u.02). -/
abbrev TYPE_ID (u : Nat) : Nat := odKey (0x3200 + u) 2
/-- 04_satellite_link.md R194: UNIT_ID (0x3200+u.03). -/
abbrev Sat_UNIT_ID (u : Nat) : Nat := odKey (0x3200 + u) 3
/-- 04_satellite_link.md R194: EXPECT_UNIT (0x3200+u.04). -/
abbrev EXPECT_UNIT (u : Nat) : Nat := odKey (0x3200 + u) 4
/-- 04_satellite_link.md R194: NCH (0x3200+u.05). -/
abbrev NCH (u : Nat) : Nat := odKey (0x3200 + u) 5
/-- 04_satellite_link.md R194: ILSB_UA (0x3200+u.06). -/
abbrev ILSB_UA (u : Nat) : Nat := odKey (0x3200 + u) 6
/-- 04_satellite_link.md R194: VLSB_UV (0x3200+u.07). -/
abbrev VLSB_UV (u : Nat) : Nat := odKey (0x3200 + u) 7
/-- 04_satellite_link.md R194: CAPS (0x3200+u.08). -/
abbrev CAPS (u : Nat) : Nat := odKey (0x3200 + u) 8
/-- 04_satellite_link.md R194: VIN_MV (0x3200+u.09). -/
abbrev VIN_MV (u : Nat) : Nat := odKey (0x3200 + u) 9
/-- 04_satellite_link.md R194: RPT_BAD (0x3200+u.0A). -/
abbrev RPT_BAD (u : Nat) : Nat := odKey (0x3200 + u) 10
/-- 04_satellite_link.md R194: CMD_BAD (0x3200+u.0B). -/
abbrev CMD_BAD (u : Nat) : Nat := odKey (0x3200 + u) 11
/-- 04_satellite_link.md R194: LOST_COUNT (0x3200+u.0C). -/
abbrev LOST_COUNT (u : Nat) : Nat := odKey (0x3200 + u) 12
/-- 04_satellite_link.md R194: MBX_NAKS (0x3200+u.0D). -/
abbrev MBX_NAKS (u : Nat) : Nat := odKey (0x3200 + u) 13
/-- 04_satellite_link.md R195: PORT_CTRL (0x3220+u.01). -/
abbrev PORT_CTRL (u : Nat) : Nat := odKey (0x3220 + u) 1
/-- 04_satellite_link.md R195: PORT_STATUS (0x3220+u.02). -/
abbrev PORT_STATUS (u : Nat) : Nat := odKey (0x3220 + u) 2
/-- 04_satellite_link.md R195: RESCAN (0x3220+u.03). -/
abbrev RESCAN (u : Nat) : Nat := odKey (0x3220 + u) 3
/-- 04_satellite_link.md R195: RTT_NS (0x3220+u.04). -/
abbrev RTT_NS (u : Nat) : Nat := odKey (0x3220 + u) 4
/-- 04_satellite_link.md R195: FRAMES_OK (0x3220+u.05). -/
abbrev FRAMES_OK (u : Nat) : Nat := odKey (0x3220 + u) 5
/-- 04_satellite_link.md R195: HCRC_ERR (0x3220+u.06). -/
abbrev HCRC_ERR (u : Nat) : Nat := odKey (0x3220 + u) 6
/-- 04_satellite_link.md R195: LEN_ERR (0x3220+u.07). -/
abbrev LEN_ERR (u : Nat) : Nat := odKey (0x3220 + u) 7
/-- 04_satellite_link.md R195: CODE_ERR (0x3220+u.08). -/
abbrev CODE_ERR (u : Nat) : Nat := odKey (0x3220 + u) 8
/-- 04_satellite_link.md R195: ROUNDS_EMPTY (0x3220+u.09). -/
abbrev ROUNDS_EMPTY (u : Nat) : Nat := odKey (0x3220 + u) 9
/-- 06_tally_and_sharing.md R279: TALLY_CTRL (0x3300.01). -/
abbrev TALLY_CTRL : Nat := odKey 0x3300 1
/-- 06_tally_and_sharing.md R279: BUDGET_MW (0x3300.02). -/
abbrev BUDGET_MW : Nat := odKey 0x3300 2
/-- 06_tally_and_sharing.md R279: HOLD_BUDGET_MW (0x3300.03). -/
abbrev HOLD_BUDGET_MW : Nat := odKey 0x3300 3
/-- 06_tally_and_sharing.md R279: THR_SCALE (0x3300.04). -/
abbrev THR_SCALE : Nat := odKey 0x3300 4
/-- 06_tally_and_sharing.md R279: HYST_MW (0x3300.05). -/
abbrev HYST_MW : Nat := odKey 0x3300 5
/-- 06_tally_and_sharing.md R279: EFF0–EFF3 (0x3300.06). -/
abbrev EFF (i : Nat) : Nat := odKey 0x3300 (6 + i)
/-- 06_tally_and_sharing.md R279: RELEASE_MAX (0x3300.0A). -/
abbrev RELEASE_MAX : Nat := odKey 0x3300 10
/-- 06_tally_and_sharing.md R279: IN_V_INPUT (0x3300.0B). -/
abbrev IN_V_INPUT : Nat := odKey 0x3300 11
/-- 06_tally_and_sharing.md R279: IN_I_INPUT (0x3300.0C). -/
abbrev IN_I_INPUT : Nat := odKey 0x3300 12
/-- 06_tally_and_sharing.md R279: IN_I_GAIN_UV (0x3300.0D). -/
abbrev IN_I_GAIN_UV : Nat := odKey 0x3300 13
/-- 06_tally_and_sharing.md R279: RAIL_MARGIN_MA (0x3300.0E). -/
abbrev RAIL_MARGIN_MA : Nat := odKey 0x3300 14
/-- 06_tally_and_sharing.md R279: LEND_MAX_MW (0x3300.0F). -/
abbrev LEND_MAX_MW : Nat := odKey 0x3300 15
/-- 06_tally_and_sharing.md R279: LEND_KEEP_MW (0x3300.10). -/
abbrev LEND_KEEP_MW : Nat := odKey 0x3300 16
/-- 06_tally_and_sharing.md R279: LEASE_MS (0x3300.11). -/
abbrev LEASE_MS : Nat := odKey 0x3300 17
/-- 06_tally_and_sharing.md R279: LEND_GUARD_MS (0x3300.12). -/
abbrev LEND_GUARD_MS : Nat := odKey 0x3300 18
/-- 06_tally_and_sharing.md R279: LEND_PEER0–3 (0x3300.13). -/
abbrev LEND_PEER (i : Nat) : Nat := odKey 0x3300 (19 + i)
/-- 06_tally_and_sharing.md R279: BORROW_STEP_MW (0x3300.17). -/
abbrev BORROW_STEP_MW : Nat := odKey 0x3300 23
/-- 06_tally_and_sharing.md R279: P_MEAS_MW (0x3300.18). -/
abbrev P_MEAS_MW : Nat := odKey 0x3300 24
/-- 06_tally_and_sharing.md R279: BUDGET_EFF_MW (0x3300.19). -/
abbrev BUDGET_EFF_MW : Nat := odKey 0x3300 25
/-- 06_tally_and_sharing.md R279: HEADROOM_MW (0x3300.1A). -/
abbrev HEADROOM_MW : Nat := odKey 0x3300 26
/-- 06_tally_and_sharing.md R279: BORROWED_MW (0x3300.1B). -/
abbrev BORROWED_MW : Nat := odKey 0x3300 27
/-- 06_tally_and_sharing.md R279: LENT_MW (0x3300.1C). -/
abbrev LENT_MW : Nat := odKey 0x3300 28
/-- 06_tally_and_sharing.md R279: TALLY_STATUS (0x3300.1D). -/
abbrev TALLY_STATUS : Nat := odKey 0x3300 29
/-- 06_tally_and_sharing.md R279: SHED_COUNT (0x3300.1E). -/
abbrev SHED_COUNT : Nat := odKey 0x3300 30
/-- 06_tally_and_sharing.md R279: DEFER_COUNT (0x3300.1F). -/
abbrev DEFER_COUNT : Nat := odKey 0x3300 31
/-- 06_tally_and_sharing.md R279: UNMET_COUNT (0x3300.20). -/
abbrev UNMET_COUNT : Nat := odKey 0x3300 32
/-- 06_tally_and_sharing.md R281: CLASS_CTRL (0x3308+u.01). -/
abbrev CLASS_CTRL (u : Nat) : Nat := odKey (0x3308 + u) 1
/-- 06_tally_and_sharing.md R281: MIN_ON_MS (0x3308+u.02). -/
abbrev MIN_ON_MS (u : Nat) : Nat := odKey (0x3308 + u) 2
/-- 06_tally_and_sharing.md R281: MIN_OFF_MS (0x3308+u.03). -/
abbrev MIN_OFF_MS (u : Nat) : Nat := odKey (0x3308 + u) 3
/-- 06_tally_and_sharing.md R281: LIM_PERIOD_MS (0x3308+u.04). -/
abbrev LIM_PERIOD_MS (u : Nat) : Nat := odKey (0x3308 + u) 4
/-- 06_tally_and_sharing.md R281: DUTY_MIN (0x3308+u.05). -/
abbrev DUTY_MIN (u : Nat) : Nat := odKey (0x3308 + u) 5
/-- 06_tally_and_sharing.md R281: DUTY_STEP (0x3308+u.06). -/
abbrev DUTY_STEP (u : Nat) : Nat := odKey (0x3308 + u) 6
/-- 06_tally_and_sharing.md R281: DUTY (0x3308+u.07). -/
abbrev DUTY (u : Nat) : Nat := odKey (0x3308 + u) 7
/-- 06_tally_and_sharing.md R281: SHED_NOW (0x3308+u.08). -/
abbrev SHED_NOW (u : Nat) : Nat := odKey (0x3308 + u) 8
/-- 06_tally_and_sharing.md R281: ACTIVE (0x3308+u.09). -/
abbrev ACTIVE (u : Nat) : Nat := odKey (0x3308 + u) 9
/-- 09_sequencing_and_states.md R383: NODE_CTRL (0x3400+u.01). -/
abbrev NODE_CTRL (u : Nat) : Nat := odKey (0x3400 + u) 1
/-- 09_sequencing_and_states.md R383: DEPS (0x3400+u.02). -/
abbrev DEPS (u : Nat) : Nat := odKey (0x3400 + u) 2
/-- 09_sequencing_and_states.md R383: PG_SRC (0x3400+u.03). -/
abbrev PG_SRC (u : Nat) : Nat := odKey (0x3400 + u) 3
/-- 09_sequencing_and_states.md R383: BAND_MON (0x3400+u.04). -/
abbrev BAND_MON (u : Nat) : Nat := odKey (0x3400 + u) 4
/-- 09_sequencing_and_states.md R383: ON_DELAY_US (0x3400+u.05). -/
abbrev ON_DELAY_US (u : Nat) : Nat := odKey (0x3400 + u) 5
/-- 09_sequencing_and_states.md R383: OFF_DELAY_US (0x3400+u.06). -/
abbrev OFF_DELAY_US (u : Nat) : Nat := odKey (0x3400 + u) 6
/-- 09_sequencing_and_states.md R383: PG_TIMEOUT_MS (0x3400+u.07). -/
abbrev PG_TIMEOUT_MS (u : Nat) : Nat := odKey (0x3400 + u) 7
/-- 09_sequencing_and_states.md R383: PG_DELAY_US (0x3400+u.08). -/
abbrev PG_DELAY_US (u : Nat) : Nat := odKey (0x3400 + u) 8
/-- 09_sequencing_and_states.md R383: FAULT_US (0x3400+u.09). -/
abbrev FAULT_US (u : Nat) : Nat := odKey (0x3400 + u) 9
/-- 09_sequencing_and_states.md R383: DISCHARGE_US (0x3400+u.0A). -/
abbrev DISCHARGE_US (u : Nat) : Nat := odKey (0x3400 + u) 10
/-- 09_sequencing_and_states.md R383: OFF_TIMEOUT_MS (0x3400+u.0B). -/
abbrev OFF_TIMEOUT_MS (u : Nat) : Nat := odKey (0x3400 + u) 11
/-- 09_sequencing_and_states.md R383: NODE_STATUS (0x3400+u.0C). -/
abbrev NODE_STATUS (u : Nat) : Nat := odKey (0x3400 + u) 12
/-- 09_sequencing_and_states.md R383: LAST_CHANGE_NS (0x3400+u.0D). -/
abbrev Node_LAST_CHANGE_NS (u : Nat) : Nat := odKey (0x3400 + u) 13
/-- 09_sequencing_and_states.md R383: FAULTS (0x3400+u.0E). -/
abbrev FAULTS (u : Nat) : Nat := odKey (0x3400 + u) 14
/-- 09_sequencing_and_states.md R403: MARGIN (0x3440.01). -/
abbrev MARGIN (i : Nat) : Nat := odKey 0x3440 (1 + i)
/-- 09_sequencing_and_states.md R403: MARGIN_STATUS (0x3440.05). -/
abbrev MARGIN_STATUS : Nat := odKey 0x3440 5
/-- 09_sequencing_and_states.md R402: SEQ_CTRL (0x3441.01). -/
abbrev SEQ_CTRL : Nat := odKey 0x3441 1
/-- 09_sequencing_and_states.md R402: EN_ACTIVE_LOW (0x3441.02). -/
abbrev EN_ACTIVE_LOW : Nat := odKey 0x3441 2
/-- 09_sequencing_and_states.md R402: EN_OPEN_DRAIN (0x3441.03). -/
abbrev EN_OPEN_DRAIN : Nat := odKey 0x3441 3
/-- 09_sequencing_and_states.md R402: PG_ACTIVE_LOW (0x3441.04). -/
abbrev PG_ACTIVE_LOW : Nat := odKey 0x3441 4
/-- 09_sequencing_and_states.md R402: PG_FILT_US (0x3441.05). -/
abbrev PG_FILT_US : Nat := odKey 0x3441 5
/-- 09_sequencing_and_states.md R402: LOSS_HOLD_MS (0x3441.06). -/
abbrev LOSS_HOLD_MS : Nat := odKey 0x3441 6
/-- 09_sequencing_and_states.md R402: LOSS_STORE_MV (0x3441.07). -/
abbrev LOSS_STORE_MV : Nat := odKey 0x3441 7
/-- 09_sequencing_and_states.md R402: RESUME (0x3441.08). -/
abbrev RESUME : Nat := odKey 0x3441 8
/-- 09_sequencing_and_states.md R402: LAST_FAULT_NODE (0x3441.09). -/
abbrev LAST_FAULT_NODE : Nat := odKey 0x3441 9
/-- 09_sequencing_and_states.md R402: LOSS_COUNT (0x3441.0A). -/
abbrev Seq_LOSS_COUNT : Nat := odKey 0x3441 10
/-- 09_sequencing_and_states.md R402: SEQ_STATUS (0x3441.0B). -/
abbrev SEQ_STATUS : Nat := odKey 0x3441 11
/-- 08_sensing_and_thermal.md R357: WM_CTRL (0x3500+u.01). -/
abbrev WM_CTRL (u : Nat) : Nat := odKey (0x3500 + u) 1
/-- 08_sensing_and_thermal.md R357: INPUT (0x3500+u.02). -/
abbrev INPUT (u : Nat) : Nat := odKey (0x3500 + u) 2
/-- 08_sensing_and_thermal.md R357: LO_CODE (0x3500+u.03). -/
abbrev LO_CODE (u : Nat) : Nat := odKey (0x3500 + u) 3
/-- 08_sensing_and_thermal.md R357: HI_CODE (0x3500+u.04). -/
abbrev HI_CODE (u : Nat) : Nat := odKey (0x3500 + u) 4
/-- 08_sensing_and_thermal.md R357: WM_STATUS (0x3500+u.05). -/
abbrev WM_STATUS (u : Nat) : Nat := odKey (0x3500 + u) 5
/-- 08_sensing_and_thermal.md R357: TRIPS (0x3500+u.06). -/
abbrev Mon_TRIPS (u : Nat) : Nat := odKey (0x3500 + u) 6
/-- 08_sensing_and_thermal.md R357: CHECK (0x3500+u.07). -/
abbrev CHECK (u : Nat) : Nat := odKey (0x3500 + u) 7
/-- 08_sensing_and_thermal.md R357: LAST_CHANGE_NS (0x3500+u.08). -/
abbrev Mon_LAST_CHANGE_NS (u : Nat) : Nat := odKey (0x3500 + u) 8
/-- 08_sensing_and_thermal.md R358: CMPO_MASK0–7 (0x3540.01). -/
abbrev CMPO_MASK (i : Nat) : Nat := odKey 0x3540 (1 + i)
/-- 08_sensing_and_thermal.md R358: CMPO_CTRL0–7 (0x3540.09). -/
abbrev CMPO_CTRL (i : Nat) : Nat := odKey 0x3540 (9 + i)
/-- 08_sensing_and_thermal.md R358: CHECK_PERIOD_MS (0x3540.11). -/
abbrev CHECK_PERIOD_MS : Nat := odKey 0x3540 17
/-- 08_sensing_and_thermal.md R358: CHECK_FAILS (0x3540.12). -/
abbrev CHECK_FAILS : Nat := odKey 0x3540 18
/-- 08_sensing_and_thermal.md R358: CMPO_STATE (0x3540.13). -/
abbrev CMPO_STATE : Nat := odKey 0x3540 19
/-- 08_sensing_and_thermal.md R371: WARN_MASK (0x3600.01). -/
abbrev WARN_MASK : Nat := odKey 0x3600 1
/-- 08_sensing_and_thermal.md R371: THR_MASK (0x3600.02). -/
abbrev THR_MASK : Nat := odKey 0x3600 2
/-- 08_sensing_and_thermal.md R371: SHUT_MASK (0x3600.03). -/
abbrev SHUT_MASK : Nat := odKey 0x3600 3
/-- 08_sensing_and_thermal.md R371: BROKEN_MASK (0x3600.04). -/
abbrev BROKEN_MASK : Nat := odKey 0x3600 4
/-- 08_sensing_and_thermal.md R371: HOTTEST (0x3600.05). -/
abbrev HOTTEST : Nat := odKey 0x3600 5
/-- 08_sensing_and_thermal.md R371: HOTTEST_CDEG (0x3600.06). -/
abbrev HOTTEST_CDEG : Nat := odKey 0x3600 6
/-- 08_sensing_and_thermal.md R371: THERM_LOCK (0x3600.07). -/
abbrev THERM_LOCK : Nat := odKey 0x3600 7
/-- 08_sensing_and_thermal.md R371: DIE_TRIPS (0x3600.08). -/
abbrev DIE_TRIPS : Nat := odKey 0x3600 8
/-- 08_sensing_and_thermal.md R372: TS_CTRL (0x3601+u.01). -/
abbrev TS_CTRL (u : Nat) : Nat := odKey (0x3601 + u) 1
/-- 08_sensing_and_thermal.md R372: WARN_CDEG (0x3601+u.02). -/
abbrev WARN_CDEG (u : Nat) : Nat := odKey (0x3601 + u) 2
/-- 08_sensing_and_thermal.md R372: THR_CDEG (0x3601+u.03). -/
abbrev THR_CDEG (u : Nat) : Nat := odKey (0x3601 + u) 3
/-- 08_sensing_and_thermal.md R372: SHUT_CDEG (0x3601+u.04). -/
abbrev SHUT_CDEG (u : Nat) : Nat := odKey (0x3601 + u) 4
/-- 08_sensing_and_thermal.md R372: HYST_CDEG (0x3601+u.05). -/
abbrev HYST_CDEG (u : Nat) : Nat := odKey (0x3601 + u) 5
/-- 08_sensing_and_thermal.md R372: BETA_K (0x3601+u.06). -/
abbrev BETA_K (u : Nat) : Nat := odKey (0x3601 + u) 6
/-- 08_sensing_and_thermal.md R372: NTC25_OHM (0x3601+u.07). -/
abbrev NTC25_OHM (u : Nat) : Nat := odKey (0x3601 + u) 7
/-- 08_sensing_and_thermal.md R372: PULLUP_OHM (0x3601+u.08). -/
abbrev PULLUP_OHM (u : Nat) : Nat := odKey (0x3601 + u) 8
/-- 08_sensing_and_thermal.md R372: BACKUP (0x3601+u.09). -/
abbrev BACKUP (u : Nat) : Nat := odKey (0x3601 + u) 9
/-- 08_sensing_and_thermal.md R372: BACKUP_OFS_CDEG (0x3601+u.0A). -/
abbrev BACKUP_OFS_CDEG (u : Nat) : Nat := odKey (0x3601 + u) 10
/-- 08_sensing_and_thermal.md R372: TEMP_CDEG (0x3601+u.0B). -/
abbrev TEMP_CDEG (u : Nat) : Nat := odKey (0x3601 + u) 11
/-- 08_sensing_and_thermal.md R372: TS_STATUS (0x3601+u.0C). -/
abbrev TS_STATUS (u : Nat) : Nat := odKey (0x3601 + u) 12
/-- 08_sensing_and_thermal.md R372: PEAK_CDEG (0x3601+u.0D). -/
abbrev PEAK_CDEG (u : Nat) : Nat := odKey (0x3601 + u) 13
/-- 08_sensing_and_thermal.md R343: SCAN_CTRL (0x3700.01). -/
abbrev SCAN_CTRL : Nat := odKey 0x3700 1
/-- 08_sensing_and_thermal.md R343: SCAN_PERIOD_US (0x3700.02). -/
abbrev SCAN_PERIOD_US : Nat := odKey 0x3700 2
/-- 08_sensing_and_thermal.md R343: SCAN_LEN (0x3700.03). -/
abbrev SCAN_LEN : Nat := odKey 0x3700 3
/-- 08_sensing_and_thermal.md R343: FAST_USE (0x3700.04). -/
abbrev FAST_USE : Nat := odKey 0x3700 4
/-- 08_sensing_and_thermal.md R343: PREC_USE (0x3700.05). -/
abbrev PREC_USE : Nat := odKey 0x3700 5
/-- 08_sensing_and_thermal.md R343: ROUNDS (0x3700.06). -/
abbrev ROUNDS : Nat := odKey 0x3700 6
/-- 08_sensing_and_thermal.md R343: BANK_STATUS (0x3700.07). -/
abbrev BANK_STATUS : Nat := odKey 0x3700 7
/-- 08_sensing_and_thermal.md R343: REF_ERRORS (0x3700.08). -/
abbrev REF_ERRORS : Nat := odKey 0x3700 8
/-- 08_sensing_and_thermal.md R344: INPUT_GAIN of input `i`. -/
abbrev INPUT_GAIN (i : Nat) : Nat := odKey 0x3701 (1 + i)
/-- 08_sensing_and_thermal.md R345: ENTRY (0x3702+u.01). -/
abbrev ScanTab_ENTRY (u : Nat) (i : Nat) : Nat := odKey (0x3702 + u) (1 + i)
/-- 08_sensing_and_thermal.md R346: RESULT (0x3704.01). -/
abbrev RESULT (i : Nat) : Nat := odKey 0x3704 (1 + i)
/-- 07_loop_engine.md R326: SLOT_CTRL (0x3800+u.01). -/
abbrev SLOT_CTRL (u : Nat) : Nat := odKey (0x3800 + u) 1
/-- 07_loop_engine.md R326: START (0x3800+u.02). -/
abbrev START (u : Nat) : Nat := odKey (0x3800 + u) 2
/-- 07_loop_engine.md R326: BUDGET_CYC (0x3800+u.03). -/
abbrev BUDGET_CYC (u : Nat) : Nat := odKey (0x3800 + u) 3
/-- 07_loop_engine.md R326: DIV (0x3800+u.04). -/
abbrev DIV (u : Nat) : Nat := odKey (0x3800 + u) 4
/-- 07_loop_engine.md R326: PHASE (0x3800+u.05). -/
abbrev PHASE (u : Nat) : Nat := odKey (0x3800 + u) 5
/-- 07_loop_engine.md R326: SIG_BASE (0x3800+u.06). -/
abbrev SIG_BASE (u : Nat) : Nat := odKey (0x3800 + u) 6
/-- 07_loop_engine.md R326: ACT_BASE (0x3800+u.07). -/
abbrev ACT_BASE (u : Nat) : Nat := odKey (0x3800 + u) 7
/-- 07_loop_engine.md R326: FE_TIME_US (0x3800+u.08). -/
abbrev FE_TIME_US (u : Nat) : Nat := odKey (0x3800 + u) 8
/-- 07_loop_engine.md R326: PARAM0–PARAM7 (0x3800+u.09). -/
abbrev PARAM (u : Nat) (i : Nat) : Nat := odKey (0x3800 + u) (9 + i)
/-- 07_loop_engine.md R326: SLOT_STATUS (0x3800+u.11). -/
abbrev SLOT_STATUS (u : Nat) : Nat := odKey (0x3800 + u) 17
/-- 07_loop_engine.md R326: RUNS (0x3800+u.12). -/
abbrev RUNS (u : Nat) : Nat := odKey (0x3800 + u) 18
/-- 07_loop_engine.md R326: CYC_LAST (0x3800+u.13). -/
abbrev CYC_LAST (u : Nat) : Nat := odKey (0x3800 + u) 19
/-- 07_loop_engine.md R326: CYC_WORST (0x3800+u.14). -/
abbrev CYC_WORST (u : Nat) : Nat := odKey (0x3800 + u) 20
/-- 07_loop_engine.md R326: SAT_COUNT (0x3800+u.15). -/
abbrev SAT_COUNT (u : Nat) : Nat := odKey (0x3800 + u) 21
/-- 07_loop_engine.md R326: FE_ELAPSED_US (0x3800+u.16). -/
abbrev FE_ELAPSED_US (u : Nat) : Nat := odKey (0x3800 + u) 22
/-- 07_loop_engine.md R327: PROGRAM (0x3880.01). -/
abbrev PROGRAM : Nat := odKey 0x3880 1
/-- 07_loop_engine.md R327: PROG_WORDS (0x3880.02). -/
abbrev PROG_WORDS : Nat := odKey 0x3880 2
/-- 07_loop_engine.md R327: PROG_CRC (0x3880.03). -/
abbrev PROG_CRC : Nat := odKey 0x3880 3
/-- 07_loop_engine.md R327: ECC_CORRECTED (0x3880.04). -/
abbrev ECC_CORRECTED : Nat := odKey 0x3880 4
/-- 07_loop_engine.md R328: LANE_CTRL (0x3881+u.01). -/
abbrev LANE_CTRL (u : Nat) : Nat := odKey (0x3881 + u) 1
/-- 07_loop_engine.md R328: FRAME_NS (0x3881+u.02). -/
abbrev FRAME_NS (u : Nat) : Nat := odKey (0x3881 + u) 2
/-- 07_loop_engine.md R328: FRAME_CYC (0x3881+u.03). -/
abbrev FRAME_CYC (u : Nat) : Nat := odKey (0x3881 + u) 3
/-- 07_loop_engine.md R328: FRAMES (0x3881+u.04). -/
abbrev FRAMES (u : Nat) : Nat := odKey (0x3881 + u) 4
/-- 07_loop_engine.md R328: OVERRUNS (0x3881+u.05). -/
abbrev OVERRUNS (u : Nat) : Nat := odKey (0x3881 + u) 5
/-- 07_loop_engine.md R328: FRAME_NO (0x3881+u.06). -/
abbrev FRAME_NO (u : Nat) : Nat := odKey (0x3881 + u) 6
/-- 07_loop_engine.md R328: LOAD_PERMILLE (0x3881+u.07). -/
abbrev Lane_LOAD_PERMILLE (u : Nat) : Nat := odKey (0x3881 + u) 7
/-- 07_loop_engine.md R329: DUTY_CTX (0x3883.01). -/
abbrev DUTY_CTX (i : Nat) : Nat := odKey 0x3883 (1 + i)
/-- 07_loop_engine.md R324: W_CTRL (0x38C0+u.01). -/
abbrev W_CTRL (u : Nat) : Nat := odKey (0x38C0 + u) 1
/-- 07_loop_engine.md R324: VMAX (0x38C0+u.02). -/
abbrev VMAX (u : Nat) : Nat := odKey (0x38C0 + u) 2
/-- 07_loop_engine.md R324: AMAX (0x38C0+u.03). -/
abbrev AMAX (u : Nat) : Nat := odKey (0x38C0 + u) 3
/-- 07_loop_engine.md R324: JMAX (0x38C0+u.04). -/
abbrev JMAX (u : Nat) : Nat := odKey (0x38C0 + u) 4
/-- 07_loop_engine.md R324: TARGET (0x38C0+u.05). -/
abbrev TARGET (u : Nat) : Nat := odKey (0x38C0 + u) 5
/-- 07_loop_engine.md R324: START_SIG (0x38C0+u.06). -/
abbrev START_SIG (u : Nat) : Nat := odKey (0x38C0 + u) 6
/-- 07_loop_engine.md R324: POS (0x38C0+u.07). -/
abbrev POS (u : Nat) : Nat := odKey (0x38C0 + u) 7
/-- 07_loop_engine.md R324: VEL (0x38C0+u.08). -/
abbrev VEL (u : Nat) : Nat := odKey (0x38C0 + u) 8
/-- 07_loop_engine.md R324: ACC (0x38C0+u.09). -/
abbrev ACC (u : Nat) : Nat := odKey (0x38C0 + u) 9
/-- 07_loop_engine.md R324: W_STATUS (0x38C0+u.0A). -/
abbrev W_STATUS (u : Nat) : Nat := odKey (0x38C0 + u) 10
/-- 07_loop_engine.md R324: MOVES (0x38C0+u.0B). -/
abbrev MOVES (u : Nat) : Nat := odKey (0x38C0 + u) 11
/-- 10_faults_watchdog_resets.md R414: SRC_CTRL (0x4000+u.01). -/
abbrev SRC_CTRL (u : Nat) : Nat := odKey (0x4000 + u) 1
/-- 10_faults_watchdog_resets.md R414: WINDOW_MS (0x4000+u.02). -/
abbrev WINDOW_MS (u : Nat) : Nat := odKey (0x4000 + u) 2
/-- 10_faults_watchdog_resets.md R414: SRC_STATUS (0x4000+u.03). -/
abbrev SRC_STATUS (u : Nat) : Nat := odKey (0x4000 + u) 3
/-- 10_faults_watchdog_resets.md R414: COUNT (0x4000+u.04). -/
abbrev COUNT (u : Nat) : Nat := odKey (0x4000 + u) 4
/-- 10_faults_watchdog_resets.md R414: RAISES (0x4000+u.05). -/
abbrev RAISES (u : Nat) : Nat := odKey (0x4000 + u) 5
/-- 10_faults_watchdog_resets.md R414: SEVERES (0x4000+u.06). -/
abbrev SEVERES (u : Nat) : Nat := odKey (0x4000 + u) 6
/-- 10_faults_watchdog_resets.md R414: LAST_RAISE_NS (0x4000+u.07). -/
abbrev LAST_RAISE_NS (u : Nat) : Nat := odKey (0x4000 + u) 7
/-- 10_faults_watchdog_resets.md R414: SEVERE_NS (0x4000+u.08). -/
abbrev SEVERE_NS (u : Nat) : Nat := odKey (0x4000 + u) 8
/-- 10_faults_watchdog_resets.md R421: REACT (0x4400.01). -/
abbrev REACT (i : Nat) : Nat := odKey 0x4400 (1 + i)
/-- 10_faults_watchdog_resets.md R421: REACT_COUNT (0x4400.20). -/
abbrev REACT_COUNT : Nat := odKey 0x4400 32
/-- 11_shaft_and_pit_log.md R463: CLASS (0x5000+u.01). -/
abbrev CLASS (u : Nat) : Nat := odKey (0x5000 + u) 1
/-- 11_shaft_and_pit_log.md R463: RESERVE (0x5000+u.02). -/
abbrev RESERVE (u : Nat) : Nat := odKey (0x5000 + u) 2
/-- 11_shaft_and_pit_log.md R463: QUOTA (0x5000+u.03). -/
abbrev QUOTA (u : Nat) : Nat := odKey (0x5000 + u) 3
/-- 11_shaft_and_pit_log.md R463: USED (0x5000+u.04). -/
abbrev USED (u : Nat) : Nat := odKey (0x5000 + u) 4
/-- 11_shaft_and_pit_log.md R463: PEAK (0x5000+u.05). -/
abbrev PEAK (u : Nat) : Nat := odKey (0x5000 + u) 5
/-- 11_shaft_and_pit_log.md R463: DROPS (0x5000+u.06). -/
abbrev DROPS (u : Nat) : Nat := odKey (0x5000 + u) 6
/-- 11_shaft_and_pit_log.md R463: OVERWRITES (0x5000+u.07). -/
abbrev OVERWRITES (u : Nat) : Nat := odKey (0x5000 + u) 7
/-- 11_shaft_and_pit_log.md R463: POISONED (0x5000+u.08). -/
abbrev POISONED (u : Nat) : Nat := odKey (0x5000 + u) 8
/-- 11_shaft_and_pit_log.md R463: WAIT_US (0x5000+u.09). -/
abbrev WAIT_US (u : Nat) : Nat := odKey (0x5000 + u) 9
/-- 11_shaft_and_pit_log.md R463: STREAM_SIG (0x5000+u.0A). -/
abbrev STREAM_SIG (u : Nat) : Nat := odKey (0x5000 + u) 10
/-- 11_shaft_and_pit_log.md R463: DEC_US (0x5000+u.0B). -/
abbrev DEC_US (u : Nat) : Nat := odKey (0x5000 + u) 11
/-- 11_shaft_and_pit_log.md R463: STREAM_DATA (0x5000+u.0C). -/
abbrev STREAM_DATA (u : Nat) : Nat := odKey (0x5000 + u) 12
/-- 11_shaft_and_pit_log.md R464: POOL_FREE (0x5040.01). -/
abbrev POOL_FREE : Nat := odKey 0x5040 1
/-- 11_shaft_and_pit_log.md R464: CORRECTED (0x5040.02). -/
abbrev CORRECTED : Nat := odKey 0x5040 2
/-- 11_shaft_and_pit_log.md R464: UNCORRECTED (0x5040.03). -/
abbrev UNCORRECTED : Nat := odKey 0x5040 3
/-- 11_shaft_and_pit_log.md R464: BAD_BLOCKS (0x5040.04). -/
abbrev BAD_BLOCKS : Nat := odKey 0x5040 4
/-- 11_shaft_and_pit_log.md R464: SH_STATUS (0x5040.05). -/
abbrev SH_STATUS : Nat := odKey 0x5040 5
/-- 11_shaft_and_pit_log.md R472: CAP_CTRL (0x5080.01). -/
abbrev CAP_CTRL : Nat := odKey 0x5080 1
/-- 11_shaft_and_pit_log.md R472: TRIG_MON_MASK (0x5080.02). -/
abbrev TRIG_MON_MASK : Nat := odKey 0x5080 2
/-- 11_shaft_and_pit_log.md R472: EVT_MASK (0x5080.03). -/
abbrev EVT_MASK : Nat := odKey 0x5080 3
/-- 11_shaft_and_pit_log.md R472: TRIG_SRC (0x5080.04). -/
abbrev TRIG_SRC : Nat := odKey 0x5080 4
/-- 11_shaft_and_pit_log.md R472: POST_FRAMES (0x5080.05). -/
abbrev POST_FRAMES : Nat := odKey 0x5080 5
/-- 11_shaft_and_pit_log.md R472: CAP_STATE (0x5080.06). -/
abbrev CAP_STATE : Nat := odKey 0x5080 6
/-- 11_shaft_and_pit_log.md R472: CAP_MAX (0x5080.07). -/
abbrev CAP_MAX : Nat := odKey 0x5080 7
/-- 11_shaft_and_pit_log.md R472: CAP_FRAMES (0x5080.08). -/
abbrev CAP_FRAMES : Nat := odKey 0x5080 8
/-- 11_shaft_and_pit_log.md R472: TRIG_FRAME (0x5080.09). -/
abbrev TRIG_FRAME : Nat := odKey 0x5080 9
/-- 11_shaft_and_pit_log.md R472: TRIG_NS (0x5080.0A). -/
abbrev TRIG_NS : Nat := odKey 0x5080 10
/-- 11_shaft_and_pit_log.md R472: TRIG_CAUSE (0x5080.0B). -/
abbrev TRIG_CAUSE : Nat := odKey 0x5080 11
/-- 11_shaft_and_pit_log.md R472: CAP_DATA (0x5080.0C). -/
abbrev CAP_DATA : Nat := odKey 0x5080 12
/-- 11_shaft_and_pit_log.md R472: CAP_EVENTS (0x5080.0D). -/
abbrev CAP_EVENTS : Nat := odKey 0x5080 13
/-- 11_shaft_and_pit_log.md R472: CAP_POISON (0x5081.00). -/
abbrev CAP_POISON : Nat := odKey 0x5081 0
/-- 11_shaft_and_pit_log.md R486: PL_CMD (0x5100.01). -/
abbrev PL_CMD : Nat := odKey 0x5100 1
/-- 11_shaft_and_pit_log.md R486: EPOCH_PERIOD_S (0x5100.02). -/
abbrev EPOCH_PERIOD_S : Nat := odKey 0x5100 2
/-- 11_shaft_and_pit_log.md R486: REFRESH_MS (0x5100.03). -/
abbrev REFRESH_MS : Nat := odKey 0x5100 3
/-- 11_shaft_and_pit_log.md R486: SEQ (0x5100.04). -/
abbrev SEQ : Nat := odKey 0x5100 4
/-- 11_shaft_and_pit_log.md R486: EPOCH (0x5100.05). -/
abbrev EPOCH : Nat := odKey 0x5100 5
/-- 11_shaft_and_pit_log.md R486: EPOCH_NS (0x5100.06). -/
abbrev EPOCH_NS : Nat := odKey 0x5100 6
/-- 11_shaft_and_pit_log.md R486: PL_STATUS (0x5100.07). -/
abbrev PL_STATUS : Nat := odKey 0x5100 7
/-- 11_shaft_and_pit_log.md R486: SLOTS_OK (0x5100.08). -/
abbrev SLOTS_OK : Nat := odKey 0x5100 8
/-- 11_shaft_and_pit_log.md R486: EPOCH_FAILS (0x5100.09). -/
abbrev EPOCH_FAILS : Nat := odKey 0x5100 9
/-- 11_shaft_and_pit_log.md R486: LIVE_HEAD (0x5100.0A). -/
abbrev LIVE_HEAD : Nat := odKey 0x5100 10
/-- 11_shaft_and_pit_log.md R486: LIVE_RING_TEMP (0x5100.0B). -/
abbrev LIVE_RING_TEMP : Nat := odKey 0x5100 11
/-- 11_shaft_and_pit_log.md R486: LIVE_FAULT (0x5100.0C). -/
abbrev LIVE_FAULT : Nat := odKey 0x5100 12
/-- 11_shaft_and_pit_log.md R486: LIVE_ENERGY (0x5100.0D). -/
abbrev LIVE_ENERGY : Nat := odKey 0x5100 13
/-- 11_shaft_and_pit_log.md R486: LIVE_HIST (0x5100.0E). -/
abbrev LIVE_HIST : Nat := odKey 0x5100 14
/-- 11_shaft_and_pit_log.md R486: SLOT_SEL (0x5100.0F). -/
abbrev SLOT_SEL : Nat := odKey 0x5100 15
/-- 11_shaft_and_pit_log.md R486: SLOT_IMAGE (0x5100.10). -/
abbrev SLOT_IMAGE : Nat := odKey 0x5100 16
/-- 14_images_and_security.md R619: UPD_CMD (0x6000.01). -/
abbrev UPD_CMD : Nat := odKey 0x6000 1
/-- 14_images_and_security.md R619: RELAY_TARGET (0x6000.02). -/
abbrev RELAY_TARGET : Nat := odKey 0x6000 2
/-- 14_images_and_security.md R619: ACTIVE_BANK (0x6000.03). -/
abbrev ACTIVE_BANK : Nat := odKey 0x6000 3
/-- 14_images_and_security.md R619: UPD_STATUS (0x6000.04). -/
abbrev UPD_STATUS : Nat := odKey 0x6000 4
/-- 14_images_and_security.md R619: TRIAL_BOOTS (0x6000.05). -/
abbrev TRIAL_BOOTS : Nat := odKey 0x6000 5
/-- 14_images_and_security.md R619: TRIAL_S (0x6000.06). -/
abbrev TRIAL_S : Nat := odKey 0x6000 6
/-- 14_images_and_security.md R619: CONFIRM_DWELL_S (0x6000.07). -/
abbrev CONFIRM_DWELL_S : Nat := odKey 0x6000 7
/-- 14_images_and_security.md R619: HOST_CHECK (0x6000.08). -/
abbrev HOST_CHECK : Nat := odKey 0x6000 8
/-- 14_images_and_security.md R619: DOMAIN_EPOCH (0x6000.09). -/
abbrev DOMAIN_EPOCH : Nat := odKey 0x6000 9
/-- 14_images_and_security.md R619: RUN_EPOCH (0x6000.0A). -/
abbrev RUN_EPOCH : Nat := odKey 0x6000 10
/-- 14_images_and_security.md R619: ROLLBACK_CTR (0x6000.0B). -/
abbrev ROLLBACK_CTR : Nat := odKey 0x6000 11
/-- 14_images_and_security.md R619: JOURNAL_NEXT (0x6000.0C). -/
abbrev JOURNAL_NEXT : Nat := odKey 0x6000 12
/-- 14_images_and_security.md R619: CARD_STATUS (0x6000.0D). -/
abbrev CARD_STATUS : Nat := odKey 0x6000 13
/-- 14_images_and_security.md R619: RELAY_STATUS (0x6000.0E). -/
abbrev RELAY_STATUS : Nat := odKey 0x6000 14
/-- 14_images_and_security.md R619: FALLBACKS (0x6000.0F). -/
abbrev FALLBACKS : Nat := odKey 0x6000 15
/-- 14_images_and_security.md R619: CARD_HEADER (0x6000.10). -/
abbrev CARD_HEADER : Nat := odKey 0x6000 16
/-- 14_images_and_security.md R620: BANK_STATE (0x6001.01). -/
abbrev BANK_STATE : Nat := odKey 0x6001 1
/-- 14_images_and_security.md R620: BANK_FW_VERSION (0x6001.02). -/
abbrev BANK_FW_VERSION (i : Nat) : Nat := odKey 0x6001 (2 + i)
/-- 14_images_and_security.md R620: BANK_ROLLBACK (0x6001.04). -/
abbrev BANK_ROLLBACK (i : Nat) : Nat := odKey 0x6001 (4 + i)
/-- 14_images_and_security.md R620: BANK_EPOCHS (0x6001.06). -/
abbrev BANK_EPOCHS (i : Nat) : Nat := odKey 0x6001 (6 + i)
/-- 14_images_and_security.md R596: OP_SEQ (0x6002.01). -/
abbrev OP_SEQ : Nat := odKey 0x6002 1
/-- 14_images_and_security.md R596: OP_REC (0x6002.02). -/
abbrev OP_REC : Nat := odKey 0x6002 2
/-- 14_images_and_security.md R596: OP_ADDR (0x6002.03). -/
abbrev OP_ADDR : Nat := odKey 0x6002 3
/-- 14_images_and_security.md R596: OP_TIME_NS (0x6002.04). -/
abbrev OP_TIME_NS : Nat := odKey 0x6002 4
/-- 14_images_and_security.md R596: RECOVERIES (0x6002.05). -/
abbrev RECOVERIES : Nat := odKey 0x6002 5
/-- 14_images_and_security.md R632: DEBUG_STATE (0x6100.01). -/
abbrev DEBUG_STATE : Nat := odKey 0x6100 1
/-- 14_images_and_security.md R632: SEC_STATUS (0x6100.02). -/
abbrev SEC_STATUS : Nat := odKey 0x6100 2
/-- 14_images_and_security.md R632: KEY_MAP (0x6100.03). -/
abbrev KEY_MAP : Nat := odKey 0x6100 3
/-- 14_images_and_security.md R632: PUBKEY0–3 (0x6100.04). -/
abbrev PUBKEY (i : Nat) : Nat := odKey 0x6100 (4 + i)
/-- 14_images_and_security.md R632: REVOKE (0x6100.08). -/
abbrev REVOKE : Nat := odKey 0x6100 8
/-- 14_images_and_security.md R632: SESSIONS (0x6100.09). -/
abbrev SESSIONS : Nat := odKey 0x6100 9
/-- 14_images_and_security.md R632: SESSION_IDLE_S (0x6100.0A). -/
abbrev SESSION_IDLE_S : Nat := odKey 0x6100 10
/-- 14_images_and_security.md R632: SESSION_FAILS (0x6100.0B). -/
abbrev SESSION_FAILS : Nat := odKey 0x6100 11
/-- 14_images_and_security.md R632: DEBUG_CMD (0x6100.0C). -/
abbrev DEBUG_CMD : Nat := odKey 0x6100 12
/-- 14_images_and_security.md R632: LAST_DEBUG_NS (0x6100.0D). -/
abbrev LAST_DEBUG_NS : Nat := odKey 0x6100 13
/-- 14_images_and_security.md R632: KEY0–KEY4 (0x6100.0E). -/
abbrev KEY (i : Nat) : Nat := odKey 0x6100 (14 + i)
/-- 15_start_bist_standby.md R657: LAMP_STATUS (0x6200.01). -/
abbrev LAMP_STATUS : Nat := odKey 0x6200 1
/-- 15_start_bist_standby.md R657: LAMP_SEQ (0x6200.02). -/
abbrev LAMP_SEQ : Nat := odKey 0x6200 2
/-- 15_start_bist_standby.md R657: LAMP_AGE_MAX_H (0x6200.03). -/
abbrev LAMP_AGE_MAX_H : Nat := odKey 0x6200 3
/-- 15_start_bist_standby.md R657: FULL_NEXT (0x6200.04). -/
abbrev FULL_NEXT : Nat := odKey 0x6200 4
/-- 15_start_bist_standby.md R657: UNTESTED_MASK (0x6200.05). -/
abbrev UNTESTED_MASK : Nat := odKey 0x6200 5
/-- 15_start_bist_standby.md R657: FAILED_MASK (0x6200.06). -/
abbrev FAILED_MASK : Nat := odKey 0x6200 6
/-- 15_start_bist_standby.md R657: CAGED_MASK (0x6200.07). -/
abbrev CAGED_MASK : Nat := odKey 0x6200 7
/-- 15_start_bist_standby.md R657: START_US (0x6200.08). -/
abbrev START_US : Nat := odKey 0x6200 8
/-- 15_start_bist_standby.md R657: SPARES_USED (0x6200.09). -/
abbrev SPARES_USED : Nat := odKey 0x6200 9
/-- 15_start_bist_standby.md R657: FAIL_COUNT (0x6200.0A). -/
abbrev FAIL_COUNT : Nat := odKey 0x6200 10
/-- 15_start_bist_standby.md R657: FAIL_LOG (0x6200.0B). -/
abbrev FAIL_LOG : Nat := odKey 0x6200 11
/-- 15_start_bist_standby.md R657: LAMP_RECORD (0x6200.0C). -/
abbrev LAMP_RECORD : Nat := odKey 0x6200 12
/-- 15_start_bist_standby.md R657: HALTS (0x6200.0D). -/
abbrev HALTS : Nat := odKey 0x6200 13
/-- 15_start_bist_standby.md R660: WAKE_CTRL (0x6300.01). -/
abbrev WAKE_CTRL : Nat := odKey 0x6300 1
/-- 15_start_bist_standby.md R660: WAKE_POL (0x6300.02). -/
abbrev WAKE_POL : Nat := odKey 0x6300 2
/-- 15_start_bist_standby.md R660: WAKE_EDGE (0x6300.03). -/
abbrev WAKE_EDGE : Nat := odKey 0x6300 3
/-- 15_start_bist_standby.md R660: WAKE_FILT_MS (0x6300.04). -/
abbrev WAKE_FILT_MS : Nat := odKey 0x6300 4
/-- 15_start_bist_standby.md R660: WAKE_SRC (0x6300.05). -/
abbrev WAKE_SRC : Nat := odKey 0x6300 5
/-- 15_start_bist_standby.md R660: STBY_S (0x6300.06). -/
abbrev STBY_S : Nat := odKey 0x6300 6
/-- 15_start_bist_standby.md R660: WAKE_COUNT (0x6300.07). -/
abbrev WAKE_COUNT : Nat := odKey 0x6300 7
/-- 15_start_bist_standby.md R660: STBY_STATUS (0x6300.08). -/
abbrev STBY_STATUS : Nat := odKey 0x6300 8
/-- 01_architecture.md R26: PLANE_READY in the plane bridge. -/
abbrev planeReady : Nat := intKey 0 0
/-- 01_architecture.md R26: hold mode is in force. -/
abbrev holdActive : Nat := intKey 1 0
/-- 10_faults_watchdog_resets.md R409: source 225 has been raised in this hold interval. -/
abbrev holdTimedOut : Nat := intKey 2 0
/-- 10_faults_watchdog_resets.md R433: the processor plane is held in reset (10 us). -/
abbrev procReset : Nat := intKey 3 0
/-- 10_faults_watchdog_resets.md R436: the power plane is held in reset. -/
abbrev ppReset : Nat := intKey 4 0
/-- 08_sensing_and_thermal.md R368: the die comparator holds the power plane in reset (die above 165 C). -/
abbrev dieHold : Nat := intKey 5 0
/-- 09_sequencing_and_states.md R377: the core supply is present (0 in STANDBY and OFF). -/
abbrev corePowered : Nat := intKey 6 0
/-- 16_balls_and_supplies.md R677: the always-on domain has kept power since the previous start. -/
abbrev alwaysOn : Nat := intKey 7 0
/-- 05_ring_and_holdup.md R214: the next entry to CONFIGURED is the first after a cold reset. -/
abbrev coldFirst : Nat := intKey 8 0
/-- 10_faults_watchdog_resets.md R439: the running start follows a power-plane reset. -/
abbrev startFromPp : Nat := intKey 9 0
/-- 16_balls_and_supplies.md R674: the start holds at t1 until the supplies are in range. -/
abbrev startHeld : Nat := intKey 10 0
/-- 15_start_bist_standby.md R636: the start has halted on a failure of units 0-6. -/
abbrev startHalted : Nat := intKey 11 0
/-- 15_start_bist_standby.md R636: consecutive halted starts. -/
abbrev haltRun : Nat := intKey 12 0
/-- 10_faults_watchdog_resets.md R429: WDT_PERIOD has been written since the reset. -/
abbrev wdPeriodWritten : Nat := intKey 13 0
/-- 10_faults_watchdog_resets.md R424: consecutive missed heartbeats. -/
abbrev hbMisses : Nat := intKey 14 0
/-- 15_start_bist_standby.md R654: VSUP is in its operating range. -/
abbrev wakeWithPower : Nat := intKey 15 0
/-- 10_faults_watchdog_resets.md R438: lowest source requesting the pending power-plane reset. -/
abbrev ppSourceReq : Nat := intKey 16 0
/-- 02_converter_core.md R43: PWM output level: 0 mid, 1 high, 2 low. -/
abbrev phPwm (u : Nat) : Nat := intKey 17 u
/-- 02_converter_core.md R54: taps of the on-time in progress. -/
abbrev phTaps (u : Nat) : Nat := intKey 18 u
/-- 02_converter_core.md R89: consecutive valley-limited cycles. -/
abbrev phValley (u : Nat) : Nat := intKey 19 u
/-- 02_converter_core.md R101: consecutive ripple-less compared on-times. -/
abbrev phOpenRun (u : Nat) : Nat := intKey 20 u
/-- 02_converter_core.md R83: on-time extension waiting for the next on-time, in taps. -/
abbrev phPrebias (u : Nat) : Nat := intKey 21 u
/-- 02_converter_core.md R93: low after a short, waiting for the zero crossing. -/
abbrev phZeroWait (u : Nat) : Nat := intKey 22 u
/-- 02_converter_core.md R61: stored target in mV. -/
abbrev rlTarget (u : Nat) : Nat := intKey 23 u
/-- 02_converter_core.md R58: selected set-point index. -/
abbrev rlSelIdx (u : Nat) : Nat := intKey 24 u
/-- 02_converter_core.md R48: ORDER of the phase fired last, plus one; 0 none. -/
abbrev rlLastOrder (u : Nat) : Nat := intKey 25 u
/-- 02_converter_core.md R53: frequency-lock factor, millionths. -/
abbrev rlLock (u : Nat) : Nat := intKey 26 u
/-- 02_converter_core.md R54: on-time at a limit, source raised. -/
abbrev rlClampRun (u : Nat) : Nat := intKey 27 u
/-- 02_converter_core.md R52: last valid input voltage in mV. -/
abbrev rlVin (u : Nat) : Nat := intKey 28 u
/-- 02_converter_core.md R52: a valid VIN_INPUT result has been published since the reset. -/
abbrev rlVinSeen (u : Nat) : Nat := intKey 29 u
/-- 02_converter_core.md R52: VIN_INPUT reads 0x8000 in the present interval. -/
abbrev rlVinBad (u : Nat) : Nat := intKey 30 u
/-- 02_converter_core.md R73: rotation offset of the shed order. -/
abbrev rlShedOfs (u : Nat) : Nat := intKey 31 u
/-- 02_converter_core.md R75: on-times left of the burst in progress. -/
abbrev rlBurstLeft (u : Nat) : Nat := intKey 32 u
/-- 02_converter_core.md R79: a further pile-in is armed. -/
abbrev rlPileArmed (u : Nat) : Nat := intKey 33 u
/-- 02_converter_core.md R98: hiccup counting is suspended in LIMIT. -/
abbrev rlLimitHold (u : Nat) : Nat := intKey 34 u
/-- 02_converter_core.md R95: the slow-overload average exceeds OVL_LIMIT_MA. -/
abbrev rlOvlAbove (u : Nat) : Nat := intKey 35 u
/-- 02_converter_core.md R67: a ramped disable is in progress. -/
abbrev rlToZero (u : Nat) : Nat := intKey 36 u
/-- 02_converter_core.md R91: the START in progress is a soft retry. -/
abbrev rlSoft (u : Nat) : Nat := intKey 37 u
/-- 10_faults_watchdog_resets.md R417: RAIL_OFF blocks the enable of the rail. -/
abbrev rlOffBlock (u : Nat) : Nat := intKey 38 u
/-- 03_load_channels.md R117: gate of the channel: 0 off, 1 ramping, 2 on. -/
abbrev cxGate (u : Nat) : Nat := intKey 39 u
/-- 03_load_channels.md R138: the retry timer is running. -/
abbrev cxRetryRun (u : Nat) : Nat := intKey 40 u
/-- 03_load_channels.md R143: OFF_DECAY_MS has passed since the context was turned off. -/
abbrev cxDecayDone (u : Nat) : Nat := intKey 41 u
/-- 03_load_channels.md R118: the pre-enable check is waiting, the grant in force. -/
abbrev cxCheckWait (u : Nat) : Nat := intKey 42 u
/-- 03_load_channels.md R153: forward energy fraction in nJ. -/
abbrev cxFwdFrac (u : Nat) : Nat := intKey 43 u
/-- 03_load_channels.md R153: reverse energy fraction in nJ. -/
abbrev cxRevFrac (u : Nat) : Nat := intKey 44 u
/-- 03_load_channels.md R135: heat h of the I2t model, 1e-6 mA^2. -/
abbrev cxHeat (u : Nat) : Nat := intKey 45 u
/-- 03_load_channels.md R134: fault timer in eighths of 1 us. -/
abbrev cxElapsed8 (u : Nat) : Nat := intKey 46 u
/-- 03_load_channels.md R134: timebase of the last update of the fault timer. -/
abbrev cxTimerAt (u : Nat) : Nat := intKey 47 u
/-- 03_load_channels.md R121: LEAD has ended; the on command goes out in the next command frame. -/
abbrev cxLeadOver (u : Nat) : Nat := intKey 48 u
/-- 13_links.md R578: ANN_ID of the context, as sent. -/
abbrev cxAnnId (u : Nat) : Nat := intKey 49 u
/-- 03_load_channels.md R147: the caged context has raised its source for a conducting output. -/
abbrev cxCageRaised (u : Nat) : Nat := intKey 50 u
/-- 03_load_channels.md R139: the retry waits for I2T_PERMILLE at or below 500. -/
abbrev cxI2tWait (u : Nat) : Nat := intKey 51 u
/-- 03_load_channels.md R707: channel input voltage in mV (DCHd_ISP; VIN of the satellite). -/
abbrev cxVin (u : Nat) : Nat := intKey 52 u
/-- 06_tally_and_sharing.md R266: a re-opening ramp of a LIMIT window is in progress. -/
abbrev cxRegate (u : Nat) : Nat := intKey 53 u
/-- 06_tally_and_sharing.md R265: the duty window of the context is open. -/
abbrev cxWindow (u : Nat) : Nat := intKey 54 u
/-- 04_satellite_link.md R166: ON bit commanded to the satellite channel. -/
abbrev cxOnBit (u : Nat) : Nat := intKey 55 u
/-- 04_satellite_link.md R178: mailbox parameters pending, bit 5*channel+code. -/
abbrev stPend (u : Nat) : Nat := intKey 56 u
/-- 04_satellite_link.md R178: MSEQ of the write in flight, 0 none. -/
abbrev stMseq (u : Nat) : Nat := intKey 57 u
/-- 04_satellite_link.md R178: next MSEQ. -/
abbrev stMseqNext (u : Nat) : Nat := intKey 58 u
/-- 04_satellite_link.md R166: MADDR of the write in flight. -/
abbrev stMaddr (u : Nat) : Nat := intKey 59 u
/-- 04_satellite_link.md R178: parameter that the round robin serves next. -/
abbrev stNext (u : Nat) : Nat := intKey 60 u
/-- 04_satellite_link.md R188: RESYNC is being sent. -/
abbrev stResync (u : Nat) : Nat := intKey 61 u
/-- 04_satellite_link.md R189: GO_ORPHAN is set in every command block. -/
abbrev stGoOrphan (u : Nat) : Nat := intKey 62 u
/-- 04_satellite_link.md R189: consecutive rounds without a good report block. -/
abbrev stBadRun (u : Nat) : Nat := intKey 63 u
/-- 04_satellite_link.md R191: consecutive good report blocks while LOST. -/
abbrev stGoodRun (u : Nat) : Nat := intKey 64 u
/-- 04_satellite_link.md R186: recorded TYPE_ID. -/
abbrev stRecType (u : Nat) : Nat := intKey 65 u
/-- 04_satellite_link.md R186: recorded UNIT_ID. -/
abbrev stRecUnit (u : Nat) : Nat := intKey 66 u
/-- 04_satellite_link.md R186: an identity is recorded. -/
abbrev stRecSet (u : Nat) : Nat := intKey 67 u
/-- 04_satellite_link.md R168: CH_STATE last reported, 16*position+channel. -/
abbrev stChState (u : Nat) : Nat := intKey 68 u
/-- 04_satellite_link.md R163: next RSEQ. -/
abbrev slRseq (u : Nat) : Nat := intKey 69 u
/-- 04_satellite_link.md R190: consecutive rounds without a returned frame. -/
abbrev slEmpty (u : Nat) : Nat := intKey 70 u
/-- 04_satellite_link.md R183: rounds since DOWN, modulo 10. -/
abbrev slDownRounds (u : Nat) : Nat := intKey 71 u
/-- 04_satellite_link.md R183: an ENUM frame is due at the next round. -/
abbrev slEnumDue (u : Nat) : Nat := intKey 72 u
/-- 05_ring_and_holdup.md R200: gate: 0 off, 1 linear, 2 on. -/
abbrev rpGate (u : Nat) : Nat := intKey 73 u
/-- 05_ring_and_holdup.md R210: a miss has been declared since the last test pulse. -/
abbrev rpMissed (u : Nat) : Nat := intKey 74 u
/-- 05_ring_and_holdup.md R215: START_CLOSE of West waits for East. -/
abbrev rpWestNext : Nat := intKey 75 0
/-- 15_start_bist_standby.md R634: the port failed at start-up and stays OPEN. -/
abbrev rpUntested (u : Nat) : Nat := intKey 76 u
/-- 05_ring_and_holdup.md R225: IFWk: 0 high-impedance, 1 deasserted, 2 asserted. -/
abbrev ifwPin (u : Nat) : Nat := intKey 77 u
/-- 05_ring_and_holdup.md R227: timebase of the change that last set ANY. -/
abbrev ifwSetNs : Nat := intKey 78 0
/-- 05_ring_and_holdup.md R231: PPWM level: 0 mid, 1 switching. -/
abbrev ppwm (u : Nat) : Nat := intKey 79 u
/-- 05_ring_and_holdup.md R220: raised HOLD regulation level, 0 none. -/
abbrev ppHoldMv : Nat := intKey 80 0
/-- 05_ring_and_holdup.md R234: no HOLD until STORE_MV has risen above STORE_MIN_MV + 1000. -/
abbrev ppLockout : Nat := intKey 81 0
/-- 05_ring_and_holdup.md R238: STORE_OVP_MV exceeded, not yet below CHG_VMAX_MV. -/
abbrev ppOvpLatch : Nat := intKey 82 0
/-- 05_ring_and_holdup.md R238: CHG_EN has not been written 1 since the last interruption. -/
abbrev ppNeedEn : Nat := intKey 83 0
/-- 05_ring_and_holdup.md R242: fraction of E_IN_MJ in pJ. -/
abbrev ppInFrac : Nat := intKey 84 0
/-- 05_ring_and_holdup.md R242: fraction of E_OUT_MJ in pJ. -/
abbrev ppOutFrac : Nat := intKey 85 0
/-- 05_ring_and_holdup.md R242: fraction of CHARGE_MC in nC. -/
abbrev ppChgFrac : Nat := intKey 86 0
/-- 06_tally_and_sharing.md R268: a P_IN input is invalid. -/
abbrev tyInvalid : Nat := intKey 87 0
/-- 06_tally_and_sharing.md R270: peer asked next. -/
abbrev tyPeerIdx : Nat := intKey 88 0
/-- 06_tally_and_sharing.md R270: a borrow request is outstanding. -/
abbrev tyAwait : Nat := intKey 89 0
/-- 06_tally_and_sharing.md R531: LOAN_ID outstanding. -/
abbrev tyAwaitId : Nat := intKey 90 0
/-- 06_tally_and_sharing.md R271: the 1 s pause is running. -/
abbrev tyBackoff : Nat := intKey 91 0
/-- 06_tally_and_sharing.md R531: next LOAN_ID. -/
abbrev tyLoanId : Nat := intKey 92 0
/-- 08_sensing_and_thermal.md R363: a throttle condition is reported to the tally. -/
abbrev tyThrottle : Nat := intKey 93 0
/-- 15_start_bist_standby.md R634: the tally failed at start-up. -/
abbrev tyFail : Nat := intKey 94 0
/-- 06_tally_and_sharing.md R255: amount freed by the last evaluation. -/
abbrev tyCredit1 : Nat := intKey 95 0
/-- 06_tally_and_sharing.md R255: amount freed by the evaluation before it. -/
abbrev tyCredit2 : Nat := intKey 96 0
/-- 06_tally_and_sharing.md R257: estimates granted since the last evaluation. -/
abbrev tySpent : Nat := intKey 97 0
/-- 06_tally_and_sharing.md R285: trim of the group in pV. -/
abbrev gpTrimFrac (u : Nat) : Nat := intKey 98 u
/-- 07_loop_engine.md R293: frame number. -/
abbrev lnFrameNo (u : Nat) : Nat := intKey 99 u
/-- 07_loop_engine.md R296: slot whose run is in progress, plus one; 0 none. -/
abbrev lnSlot (u : Nat) : Nat := intKey 100 u
/-- 07_loop_engine.md R296: address of the next instruction of the run. -/
abbrev slPc (u : Nat) : Nat := intKey 101 u
/-- 07_loop_engine.md R299: V0-V15 of slot j at 16*j. -/
abbrev slV (u : Nat) : Nat := intKey 102 u
/-- 07_loop_engine.md R299: A0-A3 of slot j at 4*j. -/
abbrev slA (u : Nat) : Nat := intKey 103 u
/-- 07_loop_engine.md R303: CLP. -/
abbrev slClp (u : Nat) : Nat := intKey 104 u
/-- 07_loop_engine.md R301: SAT of the run. -/
abbrev slSat (u : Nat) : Nat := intKey 105 u
/-- 07_loop_engine.md R303: RAISE executed in the run. -/
abbrev slRaised (u : Nat) : Nat := intKey 106 u
/-- 07_loop_engine.md R317: the following-error timer has reached FE_TIME_US in this run. -/
abbrev slFeDue (u : Nat) : Nat := intKey 107 u
/-- 07_loop_engine.md R316: following-error timer in ns. -/
abbrev slFeNs (u : Nat) : Nat := intKey 108 u
/-- 07_loop_engine.md R307: PARAM0-7 latched at the start of the run, 8*j. -/
abbrev slParam (u : Nat) : Nat := intKey 109 u
/-- 07_loop_engine.md R305: cycles of the run. -/
abbrev slCyc (u : Nat) : Nat := intKey 110 u
/-- 07_loop_engine.md R299: registers are cleared before the next run. -/
abbrev slClear (u : Nat) : Nat := intKey 111 u
/-- 07_loop_engine.md R312: actuator point value. -/
abbrev act (u : Nat) : Nat := intKey 112 u
/-- 07_loop_engine.md R319: POS with 16 fraction bits. -/
abbrev wdPosF (u : Nat) : Nat := intKey 113 u
/-- 07_loop_engine.md R319: VEL with 16 fraction bits. -/
abbrev wdVelF (u : Nat) : Nat := intKey 114 u
/-- 07_loop_engine.md R319: ACC with 16 fraction bits. -/
abbrev wdAccF (u : Nat) : Nat := intKey 115 u
/-- 07_loop_engine.md R321: target of the move. -/
abbrev wdGoal (u : Nat) : Nat := intKey 116 u
/-- 07_loop_engine.md R320: latched VMAX. -/
abbrev wdVmaxL (u : Nat) : Nat := intKey 117 u
/-- 07_loop_engine.md R320: latched AMAX. -/
abbrev wdAmaxL (u : Nat) : Nat := intKey 118 u
/-- 07_loop_engine.md R320: latched JMAX. -/
abbrev wdJmaxL (u : Nat) : Nat := intKey 119 u
/-- 08_sensing_and_thermal.md R338: consecutive reference checks out by 2 %. -/
abbrev bankBadRun (u : Nat) : Nat := intKey 120 u
/-- 08_sensing_and_thermal.md R340: a round is in progress. -/
abbrev scanRound : Nat := intKey 121 0
/-- 08_sensing_and_thermal.md R355: live output under R348 during a check. -/
abbrev mnLive (u : Nat) : Nat := intKey 122 u
/-- 08_sensing_and_thermal.md R354: check in progress: 0 none, 1 swap, 2 known level. -/
abbrev mnCheck (u : Nat) : Nat := intKey 123 u
/-- 15_start_bist_standby.md R634: the monitor failed at start-up and stays disabled. -/
abbrev mnFail (u : Nat) : Nat := intKey 124 u
/-- 08_sensing_and_thermal.md R353: CMPOk: 0 high-impedance, 1 deasserted, 2 asserted. -/
abbrev cmpoPin (u : Nat) : Nat := intKey 125 u
/-- 08_sensing_and_thermal.md R353: the latched pin. -/
abbrev cmpoLatched (u : Nat) : Nat := intKey 126 u
/-- 08_sensing_and_thermal.md R361: the next sample is the first. -/
abbrev tsFirst (u : Nat) : Nat := intKey 127 u
/-- 08_sensing_and_thermal.md R361: level reached by the last sample. -/
abbrev tsRiseRun (u : Nat) : Nat := intKey 128 u
/-- 08_sensing_and_thermal.md R365: consecutive samples out of range. -/
abbrev tsBadRun (u : Nat) : Nat := intKey 129 u
/-- 08_sensing_and_thermal.md R365: consecutive good samples while BROKEN. -/
abbrev tsGoodRun (u : Nat) : Nat := intKey 130 u
/-- 08_sensing_and_thermal.md R370: consecutive cool T0 samples. -/
abbrev tsCoolRun : Nat := intKey 131 0
/-- 09_sequencing_and_states.md R667: ENk as driven: 0 high-impedance, 1 low, 2 high. -/
abbrev enPin (u : Nat) : Nat := intKey 132 u
/-- 09_sequencing_and_states.md R389: PGk at its active level for PG_FILT_US. -/
abbrev pgGood (u : Nat) : Nat := intKey 133 u
/-- 09_sequencing_and_states.md R387: the node has its output asserted. -/
abbrev ndOn (u : Nat) : Nat := intKey 134 u
/-- 09_sequencing_and_states.md R399: held with its target off by the loss shut-down. -/
abbrev ndLossHeld (u : Nat) : Nat := intKey 135 u
/-- 09_sequencing_and_states.md R394: going down in order after a lost dependency. -/
abbrev ndOrdered (u : Nat) : Nat := intKey 136 u
/-- 09_sequencing_and_states.md R399: the feed has returned when FEED clears. -/
abbrev lossThird : Nat := intKey 137 0
/-- 15_start_bist_standby.md R645: 0 none, 1 running, 2 ended, waiting for the epoch. -/
abbrev lampPhase : Nat := intKey 138 0
/-- 15_start_bist_standby.md R646: unit under test. -/
abbrev lampUnit : Nat := intKey 139 0
/-- 15_start_bist_standby.md R650: the epoch of R481 for the power-down has ended. -/
abbrev epochEnded : Nat := intKey 140 0
/-- 11_shaft_and_pit_log.md R487: a block has been accepted since the last drop. -/
abbrev galFed (u : Nat) : Nat := intKey 141 u
/-- 11_shaft_and_pit_log.md R458: block the scrubber reads next. -/
abbrev scrubAt : Nat := intKey 142 0
/-- 11_shaft_and_pit_log.md R465: frames written since ARM. -/
abbrev capFrameNo : Nat := intKey 143 0
/-- 11_shaft_and_pit_log.md R467: number of the trigger frame. -/
abbrev capTrigAt : Nat := intKey 144 0
/-- 11_shaft_and_pit_log.md R475: WD_RESETS at the last refresh. -/
abbrev plLast : Nat := intKey 145 0
/-- 11_shaft_and_pit_log.md R488: REASON of an epoch that follows. -/
abbrev plNextReason : Nat := intKey 146 0
/-- 11_shaft_and_pit_log.md R481: timebase of the last epoch on host request, plus one; 0 none. -/
abbrev plHostNs : Nat := intKey 147 0
/-- 12_dictionary.md R528: NSEQ of the next notice. -/
abbrev ntSeq : Nat := intKey 148 0
/-- 12_dictionary.md R529: SSEQ of the next stream PDU of the gallery. -/
abbrev stSeq (u : Nat) : Nat := intKey 149 u
/-- 14_images_and_security.md R625: last FRESH accepted under K_DOM from that address. -/
abbrev bcastRx (u : Nat) : Nat := intKey 150 u
/-- 14_images_and_security.md R625: send counter under K_DOM. -/
abbrev domSend : Nat := intKey 151 0
/-- 14_images_and_security.md R625: stored mark of the send counter. -/
abbrev domStored : Nat := intKey 152 0
/-- 14_images_and_security.md R625: stored copy of the receive table. -/
abbrev bcastStored (u : Nat) : Nat := intKey 153 u
/-- 13_links.md R551: READY_NEW of the port: 0 SPI, 1-3 TW0-2. -/
abbrev readyNew (u : Nat) : Nat := intKey 154 u
/-- 13_links.md R554: transaction: 0 none, 1 WRITE_PDU partial, 2 READ_PDU delivered whole, 3 cut. -/
abbrev spiTook : Nat := intKey 155 0
/-- 13_links.md R561: register pointer. -/
abbrev twPtr (u : Nat) : Nat := intKey 156 u
/-- 13_links.md R562: bytes read from OUT_FIFO in the transfer. -/
abbrev twOutAt (u : Nat) : Nat := intKey 157 u
/-- 13_links.md R561: the transfer is ignored until STOP. -/
abbrev twIgnore (u : Nat) : Nat := intKey 158 u
/-- 13_links.md R563: the port holds SCL low. -/
abbrev twStretch (u : Nat) : Nat := intKey 159 u
/-- 13_links.md R568: losses on the PDU being sent. -/
abbrev twLosses (u : Nat) : Nat := intKey 160 u
/-- 13_links.md R576: integ of the servo, ppb. -/
abbrev wsInteg : Nat := intKey 161 0
/-- 13_links.md R545: integ of the servo disciplined by 802.1AS. -/
abbrev asInteg : Nat := intKey 162 0
/-- 13_links.md R544: consecutive Syncs with |offset| <= 100. -/
abbrev asGoodRun : Nat := intKey 163 0
/-- 13_links.md R576: consecutive SYNCs with |err| <= 20. -/
abbrev wsGoodRun : Nat := intKey 164 0
/-- 13_links.md R576: consecutive SYNCs with |err| > 25. -/
abbrev wsBadRun : Nat := intKey 165 0
/-- 13_links.md R575: the device sends SYNC. -/
abbrev wsSending : Nat := intKey 166 0
/-- 13_links.md R581: consecutive windows above 800. -/
abbrev wsOverRun : Nat := intKey 167 0
/-- 13_links.md R577: SLICE sent next. -/
abbrev wsSlice (u : Nat) : Nat := intKey 168 u
/-- 16_balls_and_supplies.md R676: ports stopped: 0 VDDIO2, 1 VDDIO_RG. -/
abbrev ioStopped (u : Nat) : Nat := intKey 169 u
/-- 14_images_and_security.md R593: a flash operation is in progress. -/
abbrev nvmBusy : Nat := intKey 170 0
/-- 14_images_and_security.md R592: the operation has been retried once. -/
abbrev nvmRetry : Nat := intKey 171 0
/-- 14_images_and_security.md R593: the NVM manager enters reset when the operation ends. -/
abbrev nvmResetDue : Nat := intKey 172 0
/-- 14_images_and_security.md R590: operations left of the SAVE. -/
abbrev saveLeft : Nat := intKey 173 0
/-- 14_images_and_security.md R604: 0 none, 1 card, 2 Dengon. -/
abbrev instSrc : Nat := intKey 174 0
/-- 14_images_and_security.md R607: container length of the install. -/
abbrev instLen : Nat := intKey 175 0
/-- 14_images_and_security.md R628: the 10 s window for a debug request is open. -/
abbrev dbgWindow : Nat := intKey 176 0
/-- 15_start_bist_standby.md R654: code of a pending wake, plus one; 0 none. -/
abbrev wakePend : Nat := intKey 177 0
/-- 02_converter_core.md R88: a turn-on of the phase is waiting for its valley limit. -/
abbrev phWait (u : Nat) : Nat := intKey 178 u
/-- 02_converter_core.md R85: timebase until which the rail does not shed for an announcement. -/
abbrev rlNoShed (u : Nat) : Nat := intKey 179 u
/-- 10_faults_watchdog_resets.md R419: a power-plane reset is due on the next edge. -/
abbrev ppReqd : Nat := intKey 180 0
/-- 10_faults_watchdog_resets.md R419: causes of the processor reset due on the next edge, one bit a cause. -/
abbrev procReqd : Nat := intKey 181 0
/-- 11_shaft_and_pit_log.md R467: microsecond of the last capture frame, plus one; 0 none. -/
abbrev capLastUs : Nat := intKey 182 0
/-- 02_converter_core.md R91: slope of a soft retry, DAC code x 2^32 per us. -/
abbrev rlSoftSlope (u : Nat) : Nat := intKey 183 u
/-- 13_links.md R574: next ANN_ID. -/
abbrev annIdNext : Nat := intKey 184 0
/-- 12_dictionary.md R498: next transaction ID of this part. -/
abbrev ownTid : Nat := intKey 185 0
/-- 05_ring_and_holdup.md R238: timebase at which CHG_HOLDOFF_MS started, plus one; 0 none. -/
abbrev ppHoldoffNs : Nat := intKey 186 0
/-- 05_ring_and_holdup.md R233: timebase of the entry to HOLD. -/
abbrev ppHoldNs : Nat := intKey 187 0
/-- 05_ring_and_holdup.md R226: timebase of the last change of ANY. -/
abbrev ifwChangeNs : Nat := intKey 188 0
/-- 05_ring_and_holdup.md R227: timebase of the last broadcast with ANY at 1 from that address, plus one; 0 no warning set. -/
abbrev ifwPeerNs (u : Nat) : Nat := intKey 189 u
/-- 05_ring_and_holdup.md R251: timebase of the last trip, plus one; 0 none. -/
abbrev rpTripNs (u : Nat) : Nat := intKey 190 u
/-- 05_ring_and_holdup.md R213: timebase at which the pull-down of the opened port began, plus one, until its current is judged; 0 none. -/
abbrev rpJudge (u : Nat) : Nat := intKey 191 u
/-- 04_satellite_link.md R166: MVALUE of the write in flight. -/
abbrev stMvalue (u : Nat) : Nat := intKey 192 u
/-- 04_satellite_link.md R189: the last good report block had ORPHAN or UNCONFIG at 1. -/
abbrev stBadRep (u : Nat) : Nat := intKey 193 u
/-- 11_shaft_and_pit_log.md R475: sum of I_MA over the samples of the present second in INRUSH, ON or LIMIT. -/
abbrev cxSum (u : Nat) : Nat := intKey 194 u
/-- 11_shaft_and_pit_log.md R475: samples in that sum. -/
abbrev cxCnt (u : Nat) : Nat := intKey 195 u
/-- 11_shaft_and_pit_log.md R475: sum of I_MA of the port over the samples of the present second. -/
abbrev rpSum (u : Nat) : Nat := intKey 196 u
/-- 11_shaft_and_pit_log.md R475: samples in that sum. -/
abbrev rpCnt (u : Nat) : Nat := intKey 197 u
/-- 02_converter_core.md R46: 10 us interval of the last update of VOUT_MV, plus one. -/
abbrev rlSampleAt (u : Nat) : Nat := intKey 198 u
/-- 02_converter_core.md R46: 10 us interval of the last update of IPHASE_MA, plus one. -/
abbrev phSampleAt (u : Nat) : Nat := intKey 199 u
/-- 08_sensing_and_thermal.md R354: the check in progress is an automatic one. -/
abbrev mnAuto (u : Nat) : Nat := intKey 200 u
/-- 08_sensing_and_thermal.md R361: highest level the last sample did not fall below. -/
abbrev tsFallRun (u : Nat) : Nat := intKey 201 u
/-- 08_sensing_and_thermal.md R372: PEAK_CDEG holds a reading. -/
abbrev tsPeakSet (u : Nat) : Nat := intKey 202 u
/-- 15_start_bist_standby.md R634: the thermal manager failed at start-up. -/
abbrev tmFail : Nat := intKey 203 0
/-- 08_sensing_and_thermal.md R370: the power-plane reset due, or in force, is caused under R368. -/
abbrev ppDie : Nat := intKey 204 0
/-- 07_loop_engine.md R299: an accepted commit waits for the next frame boundary of the lane. -/
abbrev lnDirty (u : Nat) : Nat := intKey 205 u
/-- 07_loop_engine.md R297: end of the frame in progress, in half nanoseconds of timebase. -/
abbrev lnFrameEnd (u : Nat) : Nat := intKey 206 u
/-- 07_loop_engine.md R299: ENABLE of the slot as in effect in its lane. -/
abbrev ltEn (u : Nat) : Nat := intKey 207 u
/-- 07_loop_engine.md R299: START as in effect. -/
abbrev ltStart (u : Nat) : Nat := intKey 208 u
/-- 07_loop_engine.md R299: DIV as in effect. -/
abbrev ltDiv (u : Nat) : Nat := intKey 209 u
/-- 07_loop_engine.md R299: PHASE as in effect. -/
abbrev ltPhase (u : Nat) : Nat := intKey 210 u
/-- 07_loop_engine.md R299: SIG_BASE as in effect. -/
abbrev ltSig (u : Nat) : Nat := intKey 211 u
/-- 07_loop_engine.md R299: ACT_BASE as in effect. -/
abbrev ltAct (u : Nat) : Nat := intKey 212 u
/-- 07_loop_engine.md R299: key of the program image as in effect in the lane. -/
abbrev ltProg (u : Nat) : Nat := intKey 213 u
/-- 07_loop_engine.md R310: contexts in SHED or DEFERRED at the last tally evaluation. -/
abbrev tyWaiting : Nat := intKey 214 0
/-- 07_loop_engine.md R293: ends of scan rounds that have triggered the lane and wait to be taken. -/
abbrev lnTrig (u : Nat) : Nat := intKey 215 u
/-- 11_shaft_and_pit_log.md R453: timebase since which a producer of the gallery has waited, plus one; 0 none. -/
abbrev galWaitNs (u : Nat) : Nat := intKey 216 u
/-- 11_shaft_and_pit_log.md R453: source 71 has been raised in this episode. -/
abbrev galWaitRaised (u : Nat) : Nat := intKey 217 u
/-- 11_shaft_and_pit_log.md R480: slot being written, plus one; 0 none. -/
abbrev plSlot : Nat := intKey 218 0
/-- 09_sequencing_and_states.md R387: something that a node follows has changed on this edge. -/
abbrev seqDue : Nat := intKey 219 0
/-- 11_shaft_and_pit_log.md R479: the slot is retired. -/
abbrev slotDead (u : Nat) : Nat := intKey 220 u
/-- 15_start_bist_standby.md R647: timebase of the start of the lamp check. -/
abbrev lampStartNs : Nat := intKey 221 0
/-- 15_start_bist_standby.md R646: timebase at which the unit under test was taken up. -/
abbrev lampUnitNs : Nat := intKey 222 0
/-- 15_start_bist_standby.md R658: RESULT of the unit in the lamp record. -/
abbrev lrResult (u : Nat) : Nat := intKey 223 u
/-- 15_start_bist_standby.md R658: COVERAGE of the unit in the lamp record. -/
abbrev lrCov (u : Nat) : Nat := intKey 224 u
/-- 15_start_bist_standby.md R658: DURATION_US of the unit in the lamp record. -/
abbrev lrDur (u : Nat) : Nat := intKey 225 u
/-- 15_start_bist_standby.md R658: LR_SEQ of the lamp record. -/
abbrev lrSeq : Nat := intKey 226 0
/-- 15_start_bist_standby.md R658: FLAGS of the lamp record. -/
abbrev lrFlags : Nat := intKey 227 0
/-- 15_start_bist_standby.md R658: TOTAL_US of the lamp record. -/
abbrev lrTotal : Nat := intKey 228 0
/-- 15_start_bist_standby.md R658: AGE_S of the lamp record when the timebase stood at lrAgeNs. -/
abbrev lrAge : Nat := intKey 229 0
/-- 15_start_bist_standby.md R658: timebase from which the age of the lamp record runs on. -/
abbrev lrAgeNs : Nat := intKey 230 0
/-- 15_start_bist_standby.md R641: a lamp record has been written and the always-on domain has kept it. -/
abbrev lrKept : Nat := intKey 231 0
/-- 13_links.md R575: source 242 has been raised for the present lack of a position. -/
abbrev wsNoPos : Nat := intKey 232 0
/-- 06_tally_and_sharing.md R288: step of the decay of TRIM_MV without other members, pV per 10 us. -/
abbrev gpDecay (u : Nat) : Nat := intKey 233 u
/-- 06_tally_and_sharing.md R289: this device is left out of the group. -/
abbrev gpClash (u : Nat) : Nat := intKey 234 u
/-- 13_links.md R570: a transfer is in progress on the target port. -/
abbrev twBus (u : Nat) : Nat := intKey 235 u
/-- 13_links.md R569: a bus clear is due before the next START of the controller: 1 where SDA is low, 2 in any case. -/
abbrev twClear (u : Nat) : Nat := intKey 236 u
/-- 13_links.md R551: FS_SEQ of the port: 0 SPI, 1-3 TW0-2. -/
abbrev fsSeqs (u : Nat) : Nat := intKey 237 u
/-- 13_links.md R565: an in-band request is made and not yet answered. -/
abbrev twIbr (u : Nat) : Nat := intKey 238 u
/-- 13_links.md R551: bytes 0-10 of the block last sent on the polled port (byte string). -/
abbrev fsLast (u : Nat) : Nat := intKey 239 u
/-- 13_links.md R562: bytes of the PDU arriving in IN_FIFO (byte string). -/
abbrev twPart (u : Nat) : Nat := intKey 240 u
/-- 12_dictionary.md R517: source address of the last PDU from that address, plus one: 63 entries for 10BASE-T1S, then 63 for Ethernet. -/
abbrev macTable (u : Nat) : Nat := intKey 241 u
/-- 14_images_and_security.md R590: bank whose configuration copy the SAVE writes. -/
abbrev saveBank : Nat := intKey 242 0
/-- 14_images_and_security.md R603: step of the install: 0 none, 1 the WRITING entry, 2 the journal header, 3 sectors, 4 the closing entry. -/
abbrev instJob : Nat := intKey 243 0
/-- 14_images_and_security.md R603: flash operations left of the journal header. -/
abbrev instPrep : Nat := intKey 244 0
/-- 14_images_and_security.md R603: words of the present sector programmed, plus one once it is erased. -/
abbrev instWord : Nat := intKey 245 0
/-- 14_images_and_security.md R607: timebase of the last IMG_OFFER, IMG_DATA or IMG_END. -/
abbrev instNs : Nat := intKey 246 0
/-- 14_images_and_security.md R619: sectors left of the erase of the inactive bank. -/
abbrev eraseLeft : Nat := intKey 247 0
/-- 14_images_and_security.md R480: sectors left of the erase of a pit-log slot. -/
abbrev plErase : Nat := intKey 248 0
/-- 14_images_and_security.md R591: entries of the boot record written. -/
abbrev bootAt : Nat := intKey 249 0
/-- 14_images_and_security.md R613: timebase from which TRIAL_S runs on, plus one; 0 stopped. -/
abbrev trialNs : Nat := intKey 250 0
/-- 14_images_and_security.md R614: a PDU from address 0 with a passing tag has been received and answered since PLANE_READY. -/
abbrev hostSeen : Nat := intKey 251 0
/-- 14_images_and_security.md R603: container as written in the bank: header and plaintext body (byte string). -/
abbrev bankImg (u : Nat) : Nat := intKey 252 u
/-- 14_images_and_security.md R603: copy of the header in the update journal (byte string). -/
abbrev jrnHdr : Nat := intKey 253 0
/-- 14_images_and_security.md R607: container bytes of the install as received (byte string). -/
abbrev instData : Nat := intKey 254 0
/-- 14_images_and_security.md R600: content of the card (byte string). -/
abbrev cardImg : Nat := intKey 255 0
/-- 14_images_and_security.md R608: step of the relay: 0 none, 1 open, 2 prove, 3 query, 4 offer, 5 data, 6 end. -/
abbrev rlyStep : Nat := intKey 256 0
/-- 14_images_and_security.md R608: container offset sent next. -/
abbrev rlyAt : Nat := intKey 257 0
/-- 14_images_and_security.md R608: transaction ID of the request outstanding. -/
abbrev rlyTid : Nat := intKey 258 0
/-- 14_images_and_security.md R622: NONCE_R of the relay's session open (byte string). -/
abbrev rlyNonce : Nat := intKey 259 0
/-- 14_images_and_security.md R608: bytes of the DATA segment outstanding. -/
abbrev rlyCount : Nat := intKey 260 0
/-- 10_faults_watchdog_resets.md R427: timebase of the last accepted service, of the write of WDT_PERIOD, or of the end of the last reset. -/
abbrev wdNs : Nat := intKey 261 0
/-- 01_architecture.md R27: timebase at which the hold timer started. -/
abbrev holdNs : Nat := intKey 262 0
/-- 10_faults_watchdog_resets.md R439: timebases of the last four power-plane resets, plus one; 0 none. -/
abbrev ppNs (u : Nat) : Nat := intKey 263 u
/-- 10_faults_watchdog_resets.md R438: source 225 is among those that request the power-plane reset due. -/
abbrev ppHoldReq : Nat := intKey 264 0
/-- 15_start_bist_standby.md R638: timebase of t0 of the start. -/
abbrev startNs : Nat := intKey 265 0
/-- 15_start_bist_standby.md R634: elements of the unit that failed at start-up. -/
abbrev utFail (u : Nat) : Nat := intKey 266 u
/-- 10_faults_watchdog_resets.md R409: CAUSE of the cold reset that the present start follows, 0 none. -/
abbrev coldCause : Nat := intKey 267 0
/-- 06_tally_and_sharing.md R275: leases that have ended unrenewed since the last evaluation. -/
abbrev tyLeaseEnd : Nat := intKey 268 0
/-- 02_converter_core.md R53: triggers since the last trim, up to 64. -/
abbrev rlTrigs (u : Nat) : Nat := intKey 269 u
/-- 02_converter_core.md R71: timebase until which the rail does not shed after an add, a shed or a pile-in. -/
abbrev rlDwell (u : Nat) : Nat := intKey 270 u
/-- 13_links.md R568: the port serves as a target the transfer whose arbitration it lost. -/
abbrev twServe (u : Nat) : Nat := intKey 271 u
/-- 07_loop_engine.md R294: how many of the lane's 64 slots, counted from the highest number, may still begin in the present frame. -/
abbrev lnLeft (u : Nat) : Nat := intKey 272 u
/-- 10_faults_watchdog_resets.md R410: timebase at which the window of the source started. -/
abbrev srcWinNs (u : Nat) : Nat := intKey 273 u
/-- 02_converter_core.md R49: timebase of the last trigger, plus one; 0 none. -/
abbrev rlTrigNs (u : Nat) : Nat := intKey 274 u
/-- 02_converter_core.md R54: timebase at which the on-time in progress began. -/
abbrev phOnNs (u : Nat) : Nat := intKey 275 u
/-- 02_converter_core.md R50: timebase at which the last on-time of the phase ended, plus one; 0 none. -/
abbrev phOffNs (u : Nat) : Nat := intKey 276 u
/-- 02_converter_core.md R50: turn-on that waits: 0 none, 1 of a trigger, 2 of a pile-in, 3 of a burst. -/
abbrev phDue (u : Nat) : Nat := intKey 277 u
/-- 02_converter_core.md R88: the valley comparator shows the current above the limit. -/
abbrev phAbove (u : Nat) : Nat := intKey 278 u
/-- 02_converter_core.md R100: taps of a truncated on-time whose rise has not been compared yet; 0 none. -/
abbrev phCmp (u : Nat) : Nat := intKey 279 u
/-- 02_converter_core.md R80: the sensed voltage stands above the overshoot threshold. -/
abbrev rlAboveOvs (u : Nat) : Nat := intKey 280 u
/-- 02_converter_core.md R62: present reference DAC code. -/
abbrev rlDac (u : Nat) : Nat := intKey 281 u
/-- 02_converter_core.md R95: slow-overload average, in 1/65536 mA. -/
abbrev rlAvg (u : Nat) : Nat := intKey 282 u
/-- 02_converter_core.md R95: 10 us interval of the last step of the average, plus one. -/
abbrev rlAvgAt (u : Nat) : Nat := intKey 283 u
/-- 02_converter_core.md R97: a cage has left IOUT_MA above RAIL_CAP_MA, and it has stayed so. -/
abbrev rlCageLim (u : Nat) : Nat := intKey 284 u
/-- 02_converter_core.md R99: timebase of the last valley-limited cycle of the rail, plus one; 0 none. -/
abbrev rlValleyNs (u : Nat) : Nat := intKey 285 u
/-- 02_converter_core.md R91: timebase of the entry to HICCUP or LIMIT. -/
abbrev rlStNs (u : Nat) : Nat := intKey 286 u
/-- 02_converter_core.md R72: timebase of the last phase added for its current, plus one; 0 none. -/
abbrev rlAddNs (u : Nat) : Nat := intKey 287 u
/-- 02_converter_core.md R73: timebase from which ROT_MS runs. -/
abbrev rlRotNs (u : Nat) : Nat := intKey 288 u
/-- 08_sensing_and_thermal.md R52: last valid result of the input since the reset; 0x8000 none. -/
abbrev inLast (u : Nat) : Nat := intKey 289 u
/-- 03_load_channels.md R121: timebase of the end of LEAD. -/
abbrev cxLeadEnd (u : Nat) : Nat := intKey 290 u
/-- 03_load_channels.md R118: timebase at which the context was turned off. -/
abbrev cxOffNs (u : Nat) : Nat := intKey 291 u
/-- 03_load_channels.md R127: timebase at which INRUSH, or a re-opening ramp, began. -/
abbrev cxRampNs (u : Nat) : Nat := intKey 292 u
/-- 03_load_channels.md R141: timebase since which the context is in ON or LIMIT without interruption. -/
abbrev cxOnNs (u : Nat) : Nat := intKey 293 u
/-- 03_load_channels.md R130: timebase at which the gate was last driven fully on. -/
abbrev cxFullNs (u : Nat) : Nat := intKey 294 u
/-- 03_load_channels.md R130: the gate of the direct channel has reached its on level. -/
abbrev cxGateUp (u : Nat) : Nat := intKey 295 u
/-- 03_load_channels.md R138: timebase of the end of the retry timer; in NO_LINK what is left of it. -/
abbrev cxRetryEnd (u : Nat) : Nat := intKey 296 u
/-- 03_load_channels.md R151: the channel was conducting when its link was lost. -/
abbrev cxLostOn (u : Nat) : Nat := intKey 297 u
/-- 03_load_channels.md R125: slope in mV per us that the driver of the direct channel raises the output with; 0 none. -/
abbrev cxSlope (u : Nat) : Nat := intKey 298 u
/-- 03_load_channels.md R125: current in mA above which the driver of the direct channel regulates; 0 none. -/
abbrev cxHoldMa (u : Nat) : Nat := intKey 299 u
/-- 05_ring_and_holdup.md R210: timebase of the later of the start of supervision and the last received test pulse. -/
abbrev rpSupNs (u : Nat) : Nat := intKey 300 u
/-- 05_ring_and_holdup.md R217: timebase of the start of the pre-charge. -/
abbrev rpPreNs (u : Nat) : Nat := intKey 301 u
/-- 05_ring_and_holdup.md R216: timebase since which |VL_MV - VR_MV| has been at or below 1000 mV in PRECHARGE, plus one; 0 none. -/
abbrev rpNearNs (u : Nat) : Nat := intKey 302 u
/-- 05_ring_and_holdup.md R224: timebase at which the last cause of FEED, HOLD, STORE ceased, plus one; 0 while one holds. -/
abbrev ifwLastNs (u : Nat) : Nat := intKey 303 u
/-- 05_ring_and_holdup.md R227: timebase of the last broadcast. -/
abbrev ifwSentNs : Nat := intKey 304 0
/-- 05_ring_and_holdup.md R229: IFWk as driven: 0 high-impedance, 1 low, 2 high. -/
abbrev ifwOut (u : Nat) : Nat := intKey 305 u
/-- 05_ring_and_holdup.md R224: the last eleven 200 ns samples of NODE_SNS in mV, newest first. -/
abbrev nodeMv (u : Nat) : Nat := intKey 306 u
/-- 05_ring_and_holdup.md R224: the timebases of those samples, plus one; 0 none. -/
abbrev nodeNs (u : Nat) : Nat := intKey 307 u
/-- 05_ring_and_holdup.md R233: timebase since which NODE_SNS has been above HOLD_EXIT_MV in HOLD, plus one; 0 none. -/
abbrev ppAboveNs : Nat := intKey 308 0
/-- 05_ring_and_holdup.md R236: timebase since which STORE_MA has been below CHG_TAPER_MA in CV, plus one; 0 none. -/
abbrev ppTaperNs : Nat := intKey 309 0
/-- 05_ring_and_holdup.md R231: the node voltage loop of HOLD is closed. -/
abbrev ppLoop : Nat := intKey 310 0
/-- 05_ring_and_holdup.md R232: peak current limit in force of prop phase k in mA; 0 when it does not switch. -/
abbrev ppIlim (u : Nat) : Nat := intKey 311 u
/-- 05_ring_and_holdup.md R236: storage current reference in force in mA; 0 outside CHARGE. -/
abbrev ppChgMa : Nat := intKey 312 0
/-- 05_ring_and_holdup.md R236: storage voltage reference in force in CV; 0 otherwise. -/
abbrev ppChgMv : Nat := intKey 313 0
/-- 05_ring_and_holdup.md R216: current in mA that the port regulates in PRECHARGE; 0 otherwise. -/
abbrev rpRegMa (u : Nat) : Nat := intKey 314 u
/-- 06_tally_and_sharing.md R260: P_MW at the last sample with the gate fully on. -/
abbrev cxFullMw (u : Nat) : Nat := intKey 315 u
/-- 06_tally_and_sharing.md R265: timebase of the end of the on-window in progress; 0 none. -/
abbrev cxWinEnd (u : Nat) : Nat := intKey 316 u
/-- 06_tally_and_sharing.md R265: DUTY of the class before its first change of the LIM period. -/
abbrev tyDutyOld (u : Nat) : Nat := intKey 317 u
/-- 06_tally_and_sharing.md R265: timebase of the start of that period, plus one; 0 none. -/
abbrev tyDutyAt (u : Nat) : Nat := intKey 318 u
/-- 07_loop_engine.md R315: value of the duty point before its first change of the LIM period. -/
abbrev dpOld (u : Nat) : Nat := intKey 319 u
/-- 07_loop_engine.md R315: timebase of the start of that period, plus one; 0 none. -/
abbrev dpAt (u : Nat) : Nat := intKey 320 u
/-- 06_tally_and_sharing.md R268: the latest conversion of the input was out of its range. -/
abbrev inOut (u : Nat) : Nat := intKey 321 u
/-- 06_tally_and_sharing.md R270: timebase of the borrow request that awaits its answer. -/
abbrev tyAskNs : Nat := intKey 322 0
/-- 06_tally_and_sharing.md R271: timebase at which the pause of 1 s began. -/
abbrev tyBackNs : Nat := intKey 323 0
/-- 06_tally_and_sharing.md R284: offset in ns of the last trigger of the phase from its slot instant on a SHARED rail; the lock draws it to 0. -/
abbrev phSlotErr (u : Nat) : Nat := intKey 324 u
/-- 07_loop_engine.md R293: scan rounds since the lane was enabled. -/
abbrev lnRounds (u : Nat) : Nat := intKey 325 u
/-- 07_loop_engine.md R294: start of the present frame, in half nanoseconds of timebase. -/
abbrev lnStart (u : Nat) : Nat := intKey 326 u
/-- 07_loop_engine.md R294: start of the run in progress, in half nanoseconds of timebase. -/
abbrev lnRunAt (u : Nat) : Nat := intKey 327 u
/-- 07_loop_engine.md R308: what the fetches of the run in progress have still to find, a digit to base 3 each, the next one lowest. -/
abbrev lnEcc (u : Nat) : Nat := intKey 328 u
/-- 07_loop_engine.md R299: BUDGET_CYC as in effect. -/
abbrev ltBud (u : Nat) : Nat := intKey 329 u
/-- 07_loop_engine.md R299: FRAME_NS as in effect. -/
abbrev ltFrameNs (u : Nat) : Nat := intKey 330 u
/-- 07_loop_engine.md R299: TRIG as in effect. -/
abbrev ltTrig (u : Nat) : Nat := intKey 331 u
/-- 07_loop_engine.md R299: ENABLE of the lane as in effect. -/
abbrev ltOn (u : Nat) : Nat := intKey 332 u
/-- 07_loop_engine.md R299: registers are cleared before the next run, for the commit in effect. -/
abbrev ltClear (u : Nat) : Nat := intKey 333 u
/-- 07_loop_engine.md R318: restarted since its lane last began a frame. -/
abbrev slNew (u : Nat) : Nat := intKey 334 u
/-- 08_sensing_and_thermal.md R342: entry of the slot table as in effect. -/
abbrev scTab (u : Nat) : Nat := intKey 335 u
/-- 08_sensing_and_thermal.md R342: SCAN_LEN as in effect. -/
abbrev scLen : Nat := intKey 336 0
/-- 08_sensing_and_thermal.md R342: SCAN_PERIOD_US as in effect. -/
abbrev scPeriod : Nat := intKey 337 0
/-- 08_sensing_and_thermal.md R340: a round has begun since SCAN_CTRL.ENABLE was last 0. -/
abbrev scRun : Nat := intKey 338 0
/-- 08_sensing_and_thermal.md R340: timebase of the start of the last round. -/
abbrev scAt : Nat := intKey 339 0
/-- 08_sensing_and_thermal.md R339: rounds begun before the present or next one. -/
abbrev scCount : Nat := intKey 340 0
/-- 08_sensing_and_thermal.md R340: first entry that may still be converted in the round, of the fast and the precision bank. -/
abbrev scNext (u : Nat) : Nat := intKey 341 u
/-- 08_sensing_and_thermal.md R341: sum of the conversions made of that entry. -/
abbrev scSum (u : Nat) : Nat := intKey 342 u
/-- 08_sensing_and_thermal.md R341: number of those conversions. -/
abbrev scConv (u : Nat) : Nat := intKey 343 u
/-- 08_sensing_and_thermal.md R348: level at the input of the monitor as last given, in uV. -/
abbrev mnUv (u : Nat) : Nat := intKey 344 u
/-- 08_sensing_and_thermal.md R348: that level has been given since the monitor watches its INPUT. -/
abbrev mnSeen (u : Nat) : Nat := intKey 345 u
/-- 08_sensing_and_thermal.md R351: timebase of the last change of OUT. -/
abbrev mnOutNs (u : Nat) : Nat := intKey 346 u
/-- 08_sensing_and_thermal.md R354: timebase of the last automatic check that was due, plus one; 0 none. -/
abbrev mnAutoNs (u : Nat) : Nat := intKey 347 u
/-- 08_sensing_and_thermal.md R360: timebase of the last sample of the sensor, plus one; 0 none since its enable. -/
abbrev tsNs (u : Nat) : Nat := intKey 348 u
/-- 01_architecture.md R34: timebase of the last periodic event of a kind (State.toTick), plus one; 0 none. -/
abbrev tickNs (u : Nat) : Nat := intKey 349 u
/-- 11_shaft_and_pit_log.md R457: timebase of the last sample of the stream of the gallery, plus one; 0 none. -/
abbrev galTickNs (u : Nat) : Nat := intKey 350 u
/-- 11_shaft_and_pit_log.md R481: timebase of the last commit of an epoch. -/
abbrev plAtNs : Nat := intKey 351 0
/-- 11_shaft_and_pit_log.md R477: timebase of the last refresh of the live image, plus one; 0 none. -/
abbrev liveNs : Nat := intKey 352 0
/-- 12_dictionary.md R19: entries of the BUNDLE in service before a processor reset begins, plus one; 0 none. -/
abbrev cutAfter : Nat := intKey 353 0
/-- 12_dictionary.md R19: cause of that reset: 0 watchdog expiry, 1 lockstep mismatch. -/
abbrev cutCause : Nat := intKey 354 0
/-- 09_sequencing_and_states.md R387: ENk is asserted. -/
abbrev enOn (u : Nat) : Nat := intKey 355 u
/-- 16_balls_and_supplies.md R667: the EN pins are driven. -/
abbrev enLive : Nat := intKey 356 0
/-- 09_sequencing_and_states.md R390: timebase at which the fault timer of the node started. -/
abbrev ndFtNs (u : Nat) : Nat := intKey 357 u
/-- 09_sequencing_and_states.md R390: timebase since which power-good has been good and the fault timer idle in QUALIFY. -/
abbrev ndOkNs (u : Nat) : Nat := intKey 358 u
/-- 10_faults_watchdog_resets.md R433: timebase at which the last processor reset began. -/
abbrev procNs : Nat := intKey 359 0
/-- 12_dictionary.md R529: timebase of the last sending of the streams, plus one; 0 none. -/
abbrev strmNs : Nat := intKey 360 0
/-- 13_links.md R540: timebase of the last BEACON. -/
abbrev beaconNs : Nat := intKey 361 0
/-- 13_links.md R540: the loss of the BEACON has been reported. -/
abbrev beaconOut : Nat := intKey 362 0
/-- 13_links.md R544: timebase of the last Sync of 802.1AS. -/
abbrev asNs : Nat := intKey 363 0
/-- 13_links.md R544: the loss of Sync has been reported. -/
abbrev asOut : Nat := intKey 364 0
/-- 13_links.md R563: timebase at which the port began to hold SCL low. -/
abbrev twHoldNs (u : Nat) : Nat := intKey 365 u
/-- 13_links.md R561: first byte of the write that waits for the port, plus one; 0 none. -/
abbrev twHeld (u : Nat) : Nat := intKey 366 u
/-- 13_links.md R569: timebase of the last bus clear that failed, plus one; 0 none. -/
abbrev twClearNs (u : Nat) : Nat := intKey 367 u
/-- 13_links.md R576: timebase of the last SYNC of the master, plus one; 0 none. -/
abbrev syncNs : Nat := intKey 368 0
/-- 13_links.md R582: the loss of the input has been reported. -/
abbrev wsInLost : Nat := intKey 369 0
/-- 13_links.md R567: timebase at which a standby wake made TW0 hold SCL, plus one; 0 none. -/
abbrev twWakeNs : Nat := intKey 370 0
/-- 13_links.md R567: GROUPED at the entry to STANDBY. -/
abbrev twWakeGrp : Nat := intKey 371 0
/-- 15_start_bist_standby.md R636: timebase at which the start halted. -/
abbrev haltNs : Nat := intKey 372 0
/-- 14_images_and_security.md R588: the operation in progress belongs to no install: 1 any, 2 a sector's journal entry; 0 no such. -/
abbrev nvmStray : Nat := intKey 373 0
/-- 14_images_and_security.md R614: timebase from which the conditions of a confirmation have held. -/
abbrev confNs : Nat := intKey 374 0
/-- 14_images_and_security.md R600: instruction that the card is read with. -/
abbrev cardOp : Nat := intKey 375 0
/-- 14_images_and_security.md R600: address bytes of the card. -/
abbrev cardAddr : Nat := intKey 376 0
/-- 14_images_and_security.md R600: DWORD 2 of the card's parameter table. -/
abbrev cardDensity : Nat := intKey 377 0
/-- 10_faults_watchdog_resets.md R424: timebase of the last check of the configuration in service, plus one; 0 none. -/
abbrev cfgNs : Nat := intKey 378 0
/-- 02_converter_core.md R74: timebase from which IOUT_MA has been below BURST_ENTRY_MA, plus one; 0 not below. -/
abbrev rlLowNs (u : Nat) : Nat := intKey 379 u
/-- 02_converter_core.md R96: LIMIT was entered by slow overload. -/
abbrev rlOvlLim (u : Nat) : Nat := intKey 380 u
/-- 03_load_channels.md R118: a sample of the present binding has been taken. -/
abbrev cxSampled (u : Nat) : Nat := intKey 381 u
/-- 03_load_channels.md R153: timebase of the latest update of the measurements, plus one; 0 none. -/
abbrev cxSampleNs (u : Nat) : Nat := intKey 382 u
/-- 03_load_channels.md R121: the rail that the enable was announced to. -/
abbrev cxAnnRail (u : Nat) : Nat := intKey 383 u
/-- 06_tally_and_sharing.md R261: timebase of the latest entry to ON. -/
abbrev cxLastOn (u : Nat) : Nat := intKey 384 u
/-- 06_tally_and_sharing.md R270: evaluations in a row through which the context has been shed or deferred, at most 10. -/
abbrev cxWaits (u : Nat) : Nat := intKey 385 u
/-- 04_satellite_link.md R180: timebase of the latest round, plus one; 0 none. -/
abbrev slRoundNs (u : Nat) : Nat := intKey 386 u
/-- 04_satellite_link.md R180: rounds whose reports are still to be judged. -/
abbrev slJudge (u : Nat) : Nat := intKey 387 u
/-- 07_loop_engine.md R295: number of the running frame. -/
abbrev lnRunFrame (u : Nat) : Nat := intKey 388 u
/-- 07_loop_engine.md R310: POS bits 31:16 as last published. -/
abbrev wdSigPos (u : Nat) : Nat := intKey 389 u
/-- 07_loop_engine.md R310: MOVING as last published. -/
abbrev wdSigMov (u : Nat) : Nat := intKey 390 u
/-- 07_loop_engine.md R310: DUTY as last published. -/
abbrev tySigDuty (u : Nat) : Nat := intKey 391 u
/-- 11_shaft_and_pit_log.md R452: bytes of records that the dropped block would hold. -/
abbrev galLost (u : Nat) : Nat := intKey 392 u
/-- 11_shaft_and_pit_log.md R458: corrections since the last 1024th. -/
abbrev eccRun : Nat := intKey 393 0
/-- 11_shaft_and_pit_log.md R480: a slot of the pit log holds no committed image: 1 to be erased, 2 being programmed. -/
abbrev slotDirty (u : Nat) : Nat := intKey 394 u
/-- 11_shaft_and_pit_log.md R479: failed sectors of a slot of the pit log. -/
abbrev slotBad (u : Nat) : Nat := intKey 395 u
/-- 11_shaft_and_pit_log.md R480: steps of the epoch that have been programmed. -/
abbrev plWord : Nat := intKey 396 0
/-- 11_shaft_and_pit_log.md R480: slot of the pit log being erased, plus one; 0 none. -/
abbrev plErSlot : Nat := intKey 397 0
/-- 11_shaft_and_pit_log.md R459: poisoned block of the live image, plus one. -/
abbrev livePoison : Nat := intKey 398 0
/-- 14_images_and_security.md R607: the data of the last offer was lost to a poisoned block or a flash failure. -/
abbrev imgSpoilt : Nat := intKey 399 0
/-- 13_links.md R554: the PDU of the transfer is complete: what follows in it is ignored. -/
abbrev twFull (u : Nat) : Nat := intKey 400 u
/-- 13_links.md R563: the port waits for an idle bus after a stretch that has timed out. -/
abbrev twAway (u : Nat) : Nat := intKey 401 u
/-- 13_links.md R565: a selected bit of FS0 has changed to 1 and is to be requested. -/
abbrev twIbrWant (u : Nat) : Nat := intKey 402 u
/-- 13_links.md R565: timebase at which SDA was pulled low, or from which the next request may be made. -/
abbrev twIbrNs (u : Nat) : Nat := intKey 403 u
/-- 13_links.md R568: the transfer of a controller with its first PDU is in progress. -/
abbrev twXfer (u : Nat) : Nat := intKey 404 u
/-- 13_links.md R566: byte string: a PDU that the controller has read and that its buffer has had no room for. -/
abbrev twOwed (u : Nat) : Nat := intKey 405 u
/-- 13_links.md R575: timebase of the last SYNC of a lower address, plus one; 0 none. -/
abbrev wsLowNs : Nat := intKey 406 0
/-- 13_links.md R581: symbols of the messages received and originated in this window of 10 µs. -/
abbrev wsSymbols : Nat := intKey 407 0
/-- 14_images_and_security.md R591: words of the boot record entry at the head of the work that have verified: two in bank A, then two in bank B. -/
abbrev bootWord : Nat := intKey 408 0
end Reg

namespace Bit
/-- 13_links.md R546: AS_DISCIPLINE of ETH_CTRL, bits 7:7. -/
abbrev ETH_CTRL_AS_DISCIPLINE : Bits := ⟨Reg.ETH_CTRL, 7, 1⟩
/-- 13_links.md R546: AS_EN of ETH_CTRL, bits 6:6. -/
abbrev ETH_CTRL_AS_EN : Bits := ⟨Reg.ETH_CTRL, 6, 1⟩
/-- 13_links.md R546: VLAN_EN of ETH_CTRL, bits 5:5. -/
abbrev ETH_CTRL_VLAN_EN : Bits := ⟨Reg.ETH_CTRL, 5, 1⟩
/-- 13_links.md R546: RXDLY of ETH_CTRL, bits 4:4. -/
abbrev ETH_CTRL_RXDLY : Bits := ⟨Reg.ETH_CTRL, 4, 1⟩
/-- 13_links.md R546: TXDLY of ETH_CTRL, bits 3:3. -/
abbrev ETH_CTRL_TXDLY : Bits := ⟨Reg.ETH_CTRL, 3, 1⟩
/-- 13_links.md R546: SPEED of ETH_CTRL, bits 2:1. -/
abbrev ETH_CTRL_SPEED : Bits := ⟨Reg.ETH_CTRL, 1, 2⟩
/-- 13_links.md R546: ENABLE of ETH_CTRL, bits 0:0. -/
abbrev ETH_CTRL_ENABLE : Bits := ⟨Reg.ETH_CTRL, 0, 1⟩
/-- 13_links.md R570: IBR_ANSWER of TW_CTRL, bits 5:5. -/
abbrev TW_CTRL_IBR_ANSWER (u : Nat) : Bits := ⟨Reg.TW_CTRL u, 5, 1⟩
/-- 13_links.md R570: IBR_EN of TW_CTRL, bits 4:4. -/
abbrev TW_CTRL_IBR_EN (u : Nat) : Bits := ⟨Reg.TW_CTRL u, 4, 1⟩
/-- 13_links.md R570: SPEED of TW_CTRL, bits 3:2. -/
abbrev TW_CTRL_SPEED (u : Nat) : Bits := ⟨Reg.TW_CTRL u, 2, 2⟩
/-- 13_links.md R570: CONTROLLER of TW_CTRL, bits 1:1. -/
abbrev TW_CTRL_CONTROLLER (u : Nat) : Bits := ⟨Reg.TW_CTRL u, 1, 1⟩
/-- 13_links.md R570: ENABLE of TW_CTRL, bits 0:0. -/
abbrev TW_CTRL_ENABLE (u : Nat) : Bits := ⟨Reg.TW_CTRL u, 0, 1⟩
/-- 13_links.md R584: FOLLOW_HICCUP of WS_CTRL, bits 1:1. -/
abbrev WS_CTRL_FOLLOW_HICCUP : Bits := ⟨Reg.WS_CTRL, 1, 1⟩
/-- 13_links.md R584: ENABLE of WS_CTRL, bits 0:0. -/
abbrev WS_CTRL_ENABLE : Bits := ⟨Reg.WS_CTRL, 0, 1⟩
/-- 12_dictionary.md R526: CLASH of DG_CTRL, bits 2:2. -/
abbrev DG_CTRL_CLASH : Bits := ⟨Reg.DG_CTRL, 2, 1⟩
/-- 12_dictionary.md R526: NOTICE_EN of DG_CTRL, bits 1:1. -/
abbrev DG_CTRL_NOTICE_EN : Bits := ⟨Reg.DG_CTRL, 1, 1⟩
/-- 12_dictionary.md R526: FWD_EN of DG_CTRL, bits 0:0. -/
abbrev DG_CTRL_FWD_EN : Bits := ⟨Reg.DG_CTRL, 0, 1⟩
/-- 02_converter_core.md R46: DE_EN of RAIL_CTRL, bits 9:9. -/
abbrev RAIL_CTRL_DE_EN (u : Nat) : Bits := ⟨Reg.RAIL_CTRL u, 9, 1⟩
/-- 02_converter_core.md R46: FF_EN of RAIL_CTRL, bits 8:8. -/
abbrev RAIL_CTRL_FF_EN (u : Nat) : Bits := ⟨Reg.RAIL_CTRL u, 8, 1⟩
/-- 02_converter_core.md R46: PILEIN_EN of RAIL_CTRL, bits 7:7. -/
abbrev RAIL_CTRL_PILEIN_EN (u : Nat) : Bits := ⟨Reg.RAIL_CTRL u, 7, 1⟩
/-- 02_converter_core.md R46: SOFT_SEL of RAIL_CTRL, bits 6:4. -/
abbrev RAIL_CTRL_SOFT_SEL (u : Nat) : Bits := ⟨Reg.RAIL_CTRL u, 4, 3⟩
/-- 02_converter_core.md R46: SOFT_VSEL of RAIL_CTRL, bits 3:3. -/
abbrev RAIL_CTRL_SOFT_VSEL (u : Nat) : Bits := ⟨Reg.RAIL_CTRL u, 3, 1⟩
/-- 02_converter_core.md R46: SHARED of RAIL_CTRL, bits 2:2. -/
abbrev RAIL_CTRL_SHARED (u : Nat) : Bits := ⟨Reg.RAIL_CTRL u, 2, 1⟩
/-- 02_converter_core.md R46: OVS_MODE of RAIL_CTRL, bits 1:0. -/
abbrev RAIL_CTRL_OVS_MODE (u : Nat) : Bits := ⟨Reg.RAIL_CTRL u, 0, 2⟩
/-- 02_converter_core.md R44: CAGE_REQ of PHASE_CTRL, bits 12:12. -/
abbrev PHASE_CTRL_CAGE_REQ (u : Nat) : Bits := ⟨Reg.PHASE_CTRL u, 12, 1⟩
/-- 02_converter_core.md R44: ORDER of PHASE_CTRL, bits 11:8. -/
abbrev PHASE_CTRL_ORDER (u : Nat) : Bits := ⟨Reg.PHASE_CTRL u, 8, 4⟩
/-- 02_converter_core.md R44: ASSIGNED of PHASE_CTRL, bits 2:2. -/
abbrev PHASE_CTRL_ASSIGNED (u : Nat) : Bits := ⟨Reg.PHASE_CTRL u, 2, 1⟩
/-- 02_converter_core.md R44: RAIL of PHASE_CTRL, bits 1:0. -/
abbrev PHASE_CTRL_RAIL (u : Nat) : Bits := ⟨Reg.PHASE_CTRL u, 0, 2⟩
/-- 02_converter_core.md R69: BURST_PULSES of LL_CTRL, bits 15:12. -/
abbrev LL_CTRL_BURST_PULSES (i : Nat) : Bits := ⟨Reg.LL_CTRL i, 12, 4⟩
/-- 02_converter_core.md R69: MIN_PHASES of LL_CTRL, bits 11:8. -/
abbrev LL_CTRL_MIN_PHASES (i : Nat) : Bits := ⟨Reg.LL_CTRL i, 8, 4⟩
/-- 02_converter_core.md R69: ROT_EN of LL_CTRL, bits 2:2. -/
abbrev LL_CTRL_ROT_EN (i : Nat) : Bits := ⟨Reg.LL_CTRL i, 2, 1⟩
/-- 02_converter_core.md R69: BURST_EN of LL_CTRL, bits 1:1. -/
abbrev LL_CTRL_BURST_EN (i : Nat) : Bits := ⟨Reg.LL_CTRL i, 1, 1⟩
/-- 02_converter_core.md R69: SHED_EN of LL_CTRL, bits 0:0. -/
abbrev LL_CTRL_SHED_EN (i : Nat) : Bits := ⟨Reg.LL_CTRL i, 0, 1⟩
/-- 05_ring_and_holdup.md R243: AUTO_RESUME of PROP_CTRL, bits 6:6. -/
abbrev PROP_CTRL_AUTO_RESUME : Bits := ⟨Reg.PROP_CTRL, 6, 1⟩
/-- 05_ring_and_holdup.md R243: CHG_SRC of PROP_CTRL, bits 5:5. -/
abbrev PROP_CTRL_CHG_SRC : Bits := ⟨Reg.PROP_CTRL, 5, 1⟩
/-- 05_ring_and_holdup.md R243: ISO_HOLD of PROP_CTRL, bits 4:4. -/
abbrev PROP_CTRL_ISO_HOLD : Bits := ⟨Reg.PROP_CTRL, 4, 1⟩
/-- 05_ring_and_holdup.md R243: SLOPE_EN of PROP_CTRL, bits 3:3. -/
abbrev PROP_CTRL_SLOPE_EN : Bits := ⟨Reg.PROP_CTRL, 3, 1⟩
/-- 05_ring_and_holdup.md R243: CHG_EN of PROP_CTRL, bits 1:1. -/
abbrev PROP_CTRL_CHG_EN : Bits := ⟨Reg.PROP_CTRL, 1, 1⟩
/-- 05_ring_and_holdup.md R243: ENABLE of PROP_CTRL, bits 0:0. -/
abbrev PROP_CTRL_ENABLE : Bits := ⟨Reg.PROP_CTRL, 0, 1⟩
/-- 05_ring_and_holdup.md R221: START_CLOSE of RP_CTRL, bits 6:6. -/
abbrev RP_CTRL_START_CLOSE (u : Nat) : Bits := ⟨Reg.RP_CTRL u, 6, 1⟩
/-- 05_ring_and_holdup.md R221: INW_EN of RP_CTRL, bits 5:5. -/
abbrev RP_CTRL_INW_EN (u : Nat) : Bits := ⟨Reg.RP_CTRL u, 5, 1⟩
/-- 05_ring_and_holdup.md R221: PILOT_EN of RP_CTRL, bits 4:4. -/
abbrev RP_CTRL_PILOT_EN (u : Nat) : Bits := ⟨Reg.RP_CTRL u, 4, 1⟩
/-- 05_ring_and_holdup.md R221: ENABLE of RP_CTRL, bits 0:0. -/
abbrev RP_CTRL_ENABLE (u : Nat) : Bits := ⟨Reg.RP_CTRL u, 0, 1⟩
/-- 05_ring_and_holdup.md R229: ENABLE of IFW_PIN, bits 6:6. -/
abbrev IFW_PIN_ENABLE (i : Nat) : Bits := ⟨Reg.IFW_PIN i, 6, 1⟩
/-- 05_ring_and_holdup.md R229: OPEN_DRAIN of IFW_PIN, bits 5:5. -/
abbrev IFW_PIN_OPEN_DRAIN (i : Nat) : Bits := ⟨Reg.IFW_PIN i, 5, 1⟩
/-- 05_ring_and_holdup.md R229: ACTIVE_LOW of IFW_PIN, bits 4:4. -/
abbrev IFW_PIN_ACTIVE_LOW (i : Nat) : Bits := ⟨Reg.IFW_PIN i, 4, 1⟩
/-- 05_ring_and_holdup.md R229: SRC_PEER of IFW_PIN, bits 3:3. -/
abbrev IFW_PIN_SRC_PEER (i : Nat) : Bits := ⟨Reg.IFW_PIN i, 3, 1⟩
/-- 05_ring_and_holdup.md R229: SRC_STORE of IFW_PIN, bits 2:2. -/
abbrev IFW_PIN_SRC_STORE (i : Nat) : Bits := ⟨Reg.IFW_PIN i, 2, 1⟩
/-- 05_ring_and_holdup.md R229: SRC_HOLD of IFW_PIN, bits 1:1. -/
abbrev IFW_PIN_SRC_HOLD (i : Nat) : Bits := ⟨Reg.IFW_PIN i, 1, 1⟩
/-- 05_ring_and_holdup.md R229: SRC_FEED of IFW_PIN, bits 0:0. -/
abbrev IFW_PIN_SRC_FEED (i : Nat) : Bits := ⟨Reg.IFW_PIN i, 0, 1⟩
/-- 06_tally_and_sharing.md R290: TRIM_EN of GROUP_CTRL, bits 7:7. -/
abbrev GROUP_CTRL_TRIM_EN (u : Nat) : Bits := ⟨Reg.GROUP_CTRL u, 7, 1⟩
/-- 06_tally_and_sharing.md R290: EXPECT_MEMBERS of GROUP_CTRL, bits 6:4. -/
abbrev GROUP_CTRL_EXPECT_MEMBERS (u : Nat) : Bits := ⟨Reg.GROUP_CTRL u, 4, 3⟩
/-- 06_tally_and_sharing.md R290: GROUP_ID of GROUP_CTRL, bits 3:0. -/
abbrev GROUP_CTRL_GROUP_ID (u : Nat) : Bits := ⟨Reg.GROUP_CTRL u, 0, 4⟩
/-- 03_load_channels.md R109: CMD of CTX_CTRL, bits 15:15. -/
abbrev CTX_CTRL_CMD (u : Nat) : Bits := ⟨Reg.CTX_CTRL u, 15, 1⟩
/-- 03_load_channels.md R109: SHORT_LATCH of CTX_CTRL, bits 14:14. -/
abbrev CTX_CTRL_SHORT_LATCH (u : Nat) : Bits := ⟨Reg.CTX_CTRL u, 14, 1⟩
/-- 03_load_channels.md R109: RETRY_MAX of CTX_CTRL, bits 13:10. -/
abbrev CTX_CTRL_RETRY_MAX (u : Nat) : Bits := ⟨Reg.CTX_CTRL u, 10, 4⟩
/-- 03_load_channels.md R109: ORPHAN_HOLD of CTX_CTRL, bits 9:9. -/
abbrev CTX_CTRL_ORPHAN_HOLD (u : Nat) : Bits := ⟨Reg.CTX_CTRL u, 9, 1⟩
/-- 03_load_channels.md R109: INRUSH_MODE of CTX_CTRL, bits 8:8. -/
abbrev CTX_CTRL_INRUSH_MODE (u : Nat) : Bits := ⟨Reg.CTX_CTRL u, 8, 1⟩
/-- 03_load_channels.md R109: CLASS of CTX_CTRL, bits 7:5. -/
abbrev CTX_CTRL_CLASS (u : Nat) : Bits := ⟨Reg.CTX_CTRL u, 5, 3⟩
/-- 03_load_channels.md R109: FEED of CTX_CTRL, bits 4:2. -/
abbrev CTX_CTRL_FEED (u : Nat) : Bits := ⟨Reg.CTX_CTRL u, 2, 3⟩
/-- 03_load_channels.md R109: CAGE_REQ of CTX_CTRL, bits 1:1. -/
abbrev CTX_CTRL_CAGE_REQ (u : Nat) : Bits := ⟨Reg.CTX_CTRL u, 1, 1⟩
/-- 03_load_channels.md R109: VALID of BINDING, bits 15:15. -/
abbrev BINDING_VALID (u : Nat) : Bits := ⟨Reg.BINDING u, 15, 1⟩
/-- 03_load_channels.md R109: POSITION of BINDING, bits 9:5. -/
abbrev BINDING_POSITION (u : Nat) : Bits := ⟨Reg.BINDING u, 5, 5⟩
/-- 03_load_channels.md R109: CHANNEL of BINDING, bits 3:0. -/
abbrev BINDING_CHANNEL (u : Nat) : Bits := ⟨Reg.BINDING u, 0, 4⟩
/-- 03_load_channels.md R109: LEAD_US of LEAD_US, bits 15:0. -/
abbrev LEAD_US_LEAD_US (u : Nat) : Bits := ⟨Reg.LEAD_US u, 0, 16⟩
/-- 04_satellite_link.md R195: LOST_ROUNDS of PORT_CTRL, bits 4:1. -/
abbrev PORT_CTRL_LOST_ROUNDS (u : Nat) : Bits := ⟨Reg.PORT_CTRL u, 1, 4⟩
/-- 04_satellite_link.md R195: ENABLE of PORT_CTRL, bits 0:0. -/
abbrev PORT_CTRL_ENABLE (u : Nat) : Bits := ⟨Reg.PORT_CTRL u, 0, 1⟩
/-- 06_tally_and_sharing.md R279: IN_SRC of TALLY_CTRL, bits 5:4. -/
abbrev TALLY_CTRL_IN_SRC : Bits := ⟨Reg.TALLY_CTRL, 4, 2⟩
/-- 06_tally_and_sharing.md R279: BORROW_EN of TALLY_CTRL, bits 3:3. -/
abbrev TALLY_CTRL_BORROW_EN : Bits := ⟨Reg.TALLY_CTRL, 3, 1⟩
/-- 06_tally_and_sharing.md R279: LEND_EN of TALLY_CTRL, bits 2:2. -/
abbrev TALLY_CTRL_LEND_EN : Bits := ⟨Reg.TALLY_CTRL, 2, 1⟩
/-- 06_tally_and_sharing.md R279: ENABLE of TALLY_CTRL, bits 0:0. -/
abbrev TALLY_CTRL_ENABLE : Bits := ⟨Reg.TALLY_CTRL, 0, 1⟩
/-- 06_tally_and_sharing.md R281: DEFER_EN of CLASS_CTRL, bits 2:2. -/
abbrev CLASS_CTRL_DEFER_EN (u : Nat) : Bits := ⟨Reg.CLASS_CTRL u, 2, 1⟩
/-- 06_tally_and_sharing.md R281: ACTION of CLASS_CTRL, bits 1:0. -/
abbrev CLASS_CTRL_ACTION (u : Nat) : Bits := ⟨Reg.CLASS_CTRL u, 0, 2⟩
/-- 09_sequencing_and_states.md R383: ON_PARK of NODE_CTRL, bits 15:15. -/
abbrev NODE_CTRL_ON_PARK (u : Nat) : Bits := ⟨Reg.NODE_CTRL u, 15, 1⟩
/-- 09_sequencing_and_states.md R383: ON_ECONOMY of NODE_CTRL, bits 14:14. -/
abbrev NODE_CTRL_ON_ECONOMY (u : Nat) : Bits := ⟨Reg.NODE_CTRL u, 14, 1⟩
/-- 09_sequencing_and_states.md R383: ON_RUN of NODE_CTRL, bits 13:13. -/
abbrev NODE_CTRL_ON_RUN (u : Nat) : Bits := ⟨Reg.NODE_CTRL u, 13, 1⟩
/-- 09_sequencing_and_states.md R383: ON_CONFIGURED of NODE_CTRL, bits 12:12. -/
abbrev NODE_CTRL_ON_CONFIGURED (u : Nat) : Bits := ⟨Reg.NODE_CTRL u, 12, 1⟩
/-- 09_sequencing_and_states.md R383: HOST_OFF of NODE_CTRL, bits 11:11. -/
abbrev NODE_CTRL_HOST_OFF (u : Nat) : Bits := ⟨Reg.NODE_CTRL u, 11, 1⟩
/-- 09_sequencing_and_states.md R383: CLEAR of NODE_CTRL, bits 10:10. -/
abbrev NODE_CTRL_CLEAR (u : Nat) : Bits := ⟨Reg.NODE_CTRL u, 10, 1⟩
/-- 09_sequencing_and_states.md R383: FAIL_DROP of NODE_CTRL, bits 9:9. -/
abbrev NODE_CTRL_FAIL_DROP (u : Nat) : Bits := ⟨Reg.NODE_CTRL u, 9, 1⟩
/-- 09_sequencing_and_states.md R383: RAMPED_OFF of NODE_CTRL, bits 8:8. -/
abbrev NODE_CTRL_RAMPED_OFF (u : Nat) : Bits := ⟨Reg.NODE_CTRL u, 8, 1⟩
/-- 09_sequencing_and_states.md R383: TYPE of NODE_CTRL, bits 5:4. -/
abbrev NODE_CTRL_TYPE (u : Nat) : Bits := ⟨Reg.NODE_CTRL u, 4, 2⟩
/-- 09_sequencing_and_states.md R383: TARGET of NODE_CTRL, bits 3:0. -/
abbrev NODE_CTRL_TARGET (u : Nat) : Bits := ⟨Reg.NODE_CTRL u, 0, 4⟩
/-- 08_sensing_and_thermal.md R357: FILT of WM_CTRL, bits 11:9. -/
abbrev WM_CTRL_FILT (u : Nat) : Bits := ⟨Reg.WM_CTRL u, 9, 3⟩
/-- 08_sensing_and_thermal.md R357: FILT_PIN of WM_CTRL, bits 8:8. -/
abbrev WM_CTRL_FILT_PIN (u : Nat) : Bits := ⟨Reg.WM_CTRL u, 8, 1⟩
/-- 08_sensing_and_thermal.md R357: AUTO_CHECK of WM_CTRL, bits 7:7. -/
abbrev WM_CTRL_AUTO_CHECK (u : Nat) : Bits := ⟨Reg.WM_CTRL u, 7, 1⟩
/-- 08_sensing_and_thermal.md R357: SRC_EN of WM_CTRL, bits 6:6. -/
abbrev WM_CTRL_SRC_EN (u : Nat) : Bits := ⟨Reg.WM_CTRL u, 6, 1⟩
/-- 08_sensing_and_thermal.md R357: PU_STATE of WM_CTRL, bits 5:5. -/
abbrev WM_CTRL_PU_STATE (u : Nat) : Bits := ⟨Reg.WM_CTRL u, 5, 1⟩
/-- 08_sensing_and_thermal.md R357: HYS of WM_CTRL, bits 4:3. -/
abbrev WM_CTRL_HYS (u : Nat) : Bits := ⟨Reg.WM_CTRL u, 3, 2⟩
/-- 08_sensing_and_thermal.md R357: MODE of WM_CTRL, bits 2:1. -/
abbrev WM_CTRL_MODE (u : Nat) : Bits := ⟨Reg.WM_CTRL u, 1, 2⟩
/-- 08_sensing_and_thermal.md R357: ENABLE of WM_CTRL, bits 0:0. -/
abbrev WM_CTRL_ENABLE (u : Nat) : Bits := ⟨Reg.WM_CTRL u, 0, 1⟩
/-- 08_sensing_and_thermal.md R358: LATCH of CMPO_CTRL, bits 4:4. -/
abbrev CMPO_CTRL_LATCH (i : Nat) : Bits := ⟨Reg.CMPO_CTRL i, 4, 1⟩
/-- 08_sensing_and_thermal.md R358: CLEAR of CMPO_CTRL, bits 3:3. -/
abbrev CMPO_CTRL_CLEAR (i : Nat) : Bits := ⟨Reg.CMPO_CTRL i, 3, 1⟩
/-- 08_sensing_and_thermal.md R358: ACTIVE_LOW of CMPO_CTRL, bits 2:2. -/
abbrev CMPO_CTRL_ACTIVE_LOW (i : Nat) : Bits := ⟨Reg.CMPO_CTRL i, 2, 1⟩
/-- 08_sensing_and_thermal.md R358: OPEN_DRAIN of CMPO_CTRL, bits 1:1. -/
abbrev CMPO_CTRL_OPEN_DRAIN (i : Nat) : Bits := ⟨Reg.CMPO_CTRL i, 1, 1⟩
/-- 08_sensing_and_thermal.md R358: ENABLE of CMPO_CTRL, bits 0:0. -/
abbrev CMPO_CTRL_ENABLE (i : Nat) : Bits := ⟨Reg.CMPO_CTRL i, 0, 1⟩
/-- 08_sensing_and_thermal.md R372: THR_TALLY of TS_CTRL, bits 1:1. -/
abbrev TS_CTRL_THR_TALLY (u : Nat) : Bits := ⟨Reg.TS_CTRL u, 1, 1⟩
/-- 08_sensing_and_thermal.md R372: ENABLE of TS_CTRL, bits 0:0. -/
abbrev TS_CTRL_ENABLE (u : Nat) : Bits := ⟨Reg.TS_CTRL u, 0, 1⟩
/-- 08_sensing_and_thermal.md R345: EN of ScanTab_ENTRY, bits 15:15. -/
abbrev ScanTab_ENTRY_EN (u : Nat) (i : Nat) : Bits := ⟨Reg.ScanTab_ENTRY u i, 15, 1⟩
/-- 08_sensing_and_thermal.md R345: BANK of ScanTab_ENTRY, bits 14:14. -/
abbrev ScanTab_ENTRY_BANK (u : Nat) (i : Nat) : Bits := ⟨Reg.ScanTab_ENTRY u i, 14, 1⟩
/-- 08_sensing_and_thermal.md R345: OVS of ScanTab_ENTRY, bits 13:12. -/
abbrev ScanTab_ENTRY_OVS (u : Nat) (i : Nat) : Bits := ⟨Reg.ScanTab_ENTRY u i, 12, 2⟩
/-- 08_sensing_and_thermal.md R345: INPUT of ScanTab_ENTRY, bits 6:0. -/
abbrev ScanTab_ENTRY_INPUT (u : Nat) (i : Nat) : Bits := ⟨Reg.ScanTab_ENTRY u i, 0, 7⟩
/-- 07_loop_engine.md R326: FE_ACTION of SLOT_CTRL, bits 4:3. -/
abbrev SLOT_CTRL_FE_ACTION (u : Nat) : Bits := ⟨Reg.SLOT_CTRL u, 3, 2⟩
/-- 07_loop_engine.md R326: RESTART of SLOT_CTRL, bits 2:2. -/
abbrev SLOT_CTRL_RESTART (u : Nat) : Bits := ⟨Reg.SLOT_CTRL u, 2, 1⟩
/-- 07_loop_engine.md R326: ENABLE of SLOT_CTRL, bits 0:0. -/
abbrev SLOT_CTRL_ENABLE (u : Nat) : Bits := ⟨Reg.SLOT_CTRL u, 0, 1⟩
/-- 07_loop_engine.md R328: TRIG of LANE_CTRL, bits 2:1. -/
abbrev LANE_CTRL_TRIG (u : Nat) : Bits := ⟨Reg.LANE_CTRL u, 1, 2⟩
/-- 07_loop_engine.md R328: ENABLE of LANE_CTRL, bits 0:0. -/
abbrev LANE_CTRL_ENABLE (u : Nat) : Bits := ⟨Reg.LANE_CTRL u, 0, 1⟩
/-- 07_loop_engine.md R324: PRESET of W_CTRL, bits 0:0. -/
abbrev W_CTRL_PRESET (u : Nat) : Bits := ⟨Reg.W_CTRL u, 0, 1⟩
/-- 10_faults_watchdog_resets.md R414: COUNT_N of SRC_CTRL, bits 23:16. -/
abbrev SRC_CTRL_COUNT_N (u : Nat) : Bits := ⟨Reg.SRC_CTRL u, 16, 8⟩
/-- 10_faults_watchdog_resets.md R414: REACTION of SRC_CTRL, bits 10:6. -/
abbrev SRC_CTRL_REACTION (u : Nat) : Bits := ⟨Reg.SRC_CTRL u, 6, 5⟩
/-- 10_faults_watchdog_resets.md R414: REACT_EN of SRC_CTRL, bits 4:4. -/
abbrev SRC_CTRL_REACT_EN (u : Nat) : Bits := ⟨Reg.SRC_CTRL u, 4, 1⟩
/-- 10_faults_watchdog_resets.md R414: LATCH of SRC_CTRL, bits 3:3. -/
abbrev SRC_CTRL_LATCH (u : Nat) : Bits := ⟨Reg.SRC_CTRL u, 3, 1⟩
/-- 10_faults_watchdog_resets.md R414: CLEAR of SRC_CTRL, bits 2:2. -/
abbrev SRC_CTRL_CLEAR (u : Nat) : Bits := ⟨Reg.SRC_CTRL u, 2, 1⟩
/-- 10_faults_watchdog_resets.md R414: FORCE of SRC_CTRL, bits 1:1. -/
abbrev SRC_CTRL_FORCE (u : Nat) : Bits := ⟨Reg.SRC_CTRL u, 1, 1⟩
/-- 10_faults_watchdog_resets.md R421: NEXT of REACT, bits 20:16. -/
abbrev REACT_NEXT (i : Nat) : Bits := ⟨Reg.REACT i, 16, 5⟩
/-- 10_faults_watchdog_resets.md R421: ARG of REACT, bits 13:4. -/
abbrev REACT_ARG (i : Nat) : Bits := ⟨Reg.REACT i, 4, 10⟩
/-- 10_faults_watchdog_resets.md R421: PRIM of REACT, bits 3:0. -/
abbrev REACT_PRIM (i : Nat) : Bits := ⟨Reg.REACT i, 0, 4⟩
/-- 11_shaft_and_pit_log.md R472: TRIG_ANY of CAP_CTRL, bits 2:2. -/
abbrev CAP_CTRL_TRIG_ANY : Bits := ⟨Reg.CAP_CTRL, 2, 1⟩
/-- 11_shaft_and_pit_log.md R472: TRIG_HOST of CAP_CTRL, bits 1:1. -/
abbrev CAP_CTRL_TRIG_HOST : Bits := ⟨Reg.CAP_CTRL, 1, 1⟩
/-- 11_shaft_and_pit_log.md R472: ARM of CAP_CTRL, bits 0:0. -/
abbrev CAP_CTRL_ARM : Bits := ⟨Reg.CAP_CTRL, 0, 1⟩
/-- 15_start_bist_standby.md R660: TW0_WAKE of WAKE_CTRL, bits 4:4. -/
abbrev WAKE_CTRL_TW0_WAKE : Bits := ⟨Reg.WAKE_CTRL, 4, 1⟩
/-- 15_start_bist_standby.md R660: WAKE_EN of WAKE_CTRL, bits 3:0. -/
abbrev WAKE_CTRL_WAKE_EN : Bits := ⟨Reg.WAKE_CTRL, 0, 4⟩
end Bit

end Sys2Proof.Machine
end

