-- ==== Sys2Proof/Machine/State.lean ====
section
/-!
DEFINITION. The state of the part as plain data, and the state right after reset.
-/
namespace Sys2Proof.Machine

/-- Why a step may stop with a fault. The spec gives every command an effect in every state, so there is no such reason: the
type has no constructor, and no claim can rest on a fault. -/
inductive Fault where
  deriving DecidableEq, Repr

/-- Why a command may be refused. -/
inductive Refusal where
  /-- Raised by the arm of a command that has no meaning yet; safe. -/
  | notModelled (mnemonic : String)
  deriving DecidableEq, Repr

/-- An event of gallery G19 (12_dictionary.md R528). -/
structure Event where
  time : Nat
  kind : Nat
  flags : Nat
  arg : Nat
  data : Nat
  deriving DecidableEq, Repr

/-- A filled block of a gallery, in the order written (11_shaft_and_pit_log.md R450). -/
structure GalBlock where
  gal : Nat
  data : List Byte
  deriving DecidableEq, Repr

/-- Something that has happened on an edge of the present timebase and that a coincidence table asks about (10_faults_watchdog_resets.md
R447): what (Machine/Ops.lean), of which unit, how many edges after the command, and a value of it. -/
structure Mark where
  kind : Nat
  unit : Nat
  edge : Nat
  value : Int
  deriving DecidableEq, Repr

/-- A reaction primitive waiting for its edge (10_faults_watchdog_resets.md R419): the severe source, PRIM and ARG. -/
structure Reaction where
  source : Nat
  prim : Nat
  arg : Nat
  deriving DecidableEq, Repr

/-- An announced load step in force on a rail (02_converter_core.md R82–R87; 13_links.md R578). `owner`: 64 for this
part's own contexts, else the ring member's address; `ctx`: the context, for the part's own; `prep`: the rail pre-positions for
it, with `phases` phases. The offset goes from `fromNv` to `toNv` nanovolts over `spanNs` from timebase `start`; `opened`: the gate has
opened, or the step was withdrawn, and the offset decays. -/
structure Announcement where
  rail : Nat
  owner : Nat
  ctx : Nat
  annId : Nat
  stepMa : Int
  prep : Bool
  phases : Nat
  opened : Bool
  fromNv : Int
  toNv : Int
  start : Nat
  spanNs : Nat
  deriving DecidableEq, Repr

/-- What the part sends on its ports. -/
inductive Out where
  /-- A Dengon PDU that waits on the polled port of port code `port` (12_dictionary.md R496, R527; 13_links.md R551). -/
  | pdu (port : Nat) (bytes : List Byte)
  /-- A frame sent on network port `port`: on CAN FD with its identifier (12_dictionary.md R517–R519). -/
  | frame (port id : Nat) (bytes : List Byte)
  /-- A test pulse on RPx_PLTO (05_ring_and_holdup.md R209). -/
  | pulse (port : Nat)
  /-- A frame on a satellite port: header and body, between SOF and EOF (04_satellite_link.md R163). -/
  | ring (port : Nat) (bytes : List Byte)
  /-- A share-link message: the timebase at its SOF, and TYPE to CRC (13_links.md R572, R573). -/
  | share (start : Nat) (bytes : List Byte)
  /-- Bytes the part drives in a transfer on a polled port: 5 host SPI, 6–8 TW0–TW2 (13_links.md R553, R560). -/
  | bus (port : Nat) (bytes : List Byte)
  deriving DecidableEq, Repr

/-- An open session (14_images_and_security.md R622–R624): the far address, its level, the session key, the last FRESH sent
and accepted, and the timebase of its last PDU. -/
structure Session where
  peer : Nat
  level : Nat
  key : List Nat
  sent : Nat
  got : Nat
  last : Nat
  deriving DecidableEq, Repr

/-- A request of this part that awaits its response (12_dictionary.md R497): its transaction ID, destination, service
and the timebase at which it was sent. -/
structure Ask where
  tid : Nat
  dst : Nat
  svc : Nat
  stamp : Nat
  deriving DecidableEq, Repr

/-- A boot record entry waiting for its programming (14_images_and_security.md R591, R602): the bank, its new state, and what
follows when the entry verifies: 0 nothing, 1 an activation, 2 a confirmation, 3 a trial timeout, 4 a trial aborted. -/
structure BootEntry where
  bank : Nat
  st : Nat
  act : Nat
  deriving DecidableEq, Repr

/-- A copy of the stored configuration (14_images_and_security.md R590): its bank, its sequence number, and the values of
the configuration fields by register key, those not listed at the value 0, and the byte strings. -/
structure ConfigCopy where
  bank : Nat
  seq : Nat
  regs : List (Nat × Int)
  blobs : List (Nat × List Byte)
  deriving DecidableEq, Repr

/-- An open DOMAIN transfer (12_dictionary.md R509–R512): source, TID, sub-index, TOTAL, the bytes received, the last
segment, the timebase of the last segment, and whether it is staged in G26. -/
structure Transfer where
  src : Nat
  tid : Nat
  idx : Nat
  sub : Nat
  total : Nat
  data : List Byte
  last : Nat × List Byte
  stamp : Nat
  secure : Bool
  spoilt : Bool
  deriving DecidableEq, Repr

/-- A context's estimate in mW: in PENDING, among the dues, or of a shed context with the timebase of the shed
(06_tally_and_sharing.md R255, R259, R263). -/
structure Estimate where
  ctx : Nat
  mw : Int
  since : Nat
  deriving DecidableEq, Repr

/-- A loan: the peer, LOAN_ID and the amount in mW, the timebase at which its timer last started, whether a renewal has been asked for, and
since when the headroom has exceeded it, plus one (06_tally_and_sharing.md R272–R277). -/
structure Loan where
  peer : Nat
  id : Nat
  mw : Int
  start : Nat
  asked : Bool
  spare : Nat
  deriving DecidableEq, Repr

/-- A pit-log image (11_shaft_and_pit_log.md R473, R474): EPOCH, REASON, FLAGS, TIME_NS, and the counters and extremes by
offset, those not listed at their first value. -/
structure Image where
  epoch : Nat
  reason : Nat
  flags : Nat
  time : Nat
  fields : List (Nat × Int)
  deriving DecidableEq, Repr

/-- A member of a share group as heard (13_links.md R577; 06_tally_and_sharing.md R283, R288, R289): the rail it is a member of, its
address and ring position, the values of its latest entry, the copies of its slices (slice, map, periods since renewed), and
how it is heard: in this period, periods missed, consecutive good values, dropped (`left`), left out of the sums (`clash`). -/
structure Member where
  rail : Nat
  addr : Nat
  pos : Nat
  ioutMa : Nat
  active : Nat
  capMa : Nat
  fsw : Nat
  slots : Nat
  slices : List (Nat × Nat × Nat)
  heard : Bool
  missed : Nat
  good : Nat
  left : Bool
  clash : Bool
  deriving DecidableEq, Repr

/-- The state of the part. A list whose order the rules use stands in that order. -/
structure State where
  /-- The registers by key: every sub-index of the dictionary that holds a number, and the registers the spec names without giving
  them one (Machine/Dictionary.lean), in one canonical form (Machine/Ops.lean): those at their reset value are not listed. -/
  regs : List (Nat × Int)
  /-- The byte strings by key: DOMAIN values, keys, the banks' contents, the card, the programs in effect; the empty one is not
  listed (12_dictionary.md R489; 14_images_and_security.md R587, R621). -/
  blobs : List (Nat × List Byte)
  /-- The timebase in ns (01_architecture.md R34). -/
  timebase : Nat
  /-- The model's own: how many free values have been used (log entry 6). -/
  fresh : Nat
  /-- The model's own: the timebase that `marks` belongs to, how many edges have been worked off since the command, and what has happened
  on them, newest first (log entry 107). -/
  edgeAt : Nat
  edgeNo : Nat
  marks : List Mark
  /-- Sources to be raised on the next edge, oldest first; a forced raise of source `f` stands as 1024 + f (R416;
  11_shaft_and_pit_log.md R487). -/
  raiseQ : List Nat
  /-- Reaction primitives waiting for their edges, oldest first (10_faults_watchdog_resets.md R419). -/
  reactions : List Reaction
  /-- The events of gallery G19, oldest first (12_dictionary.md R528). -/
  notices : List Event
  /-- The filled blocks of the other galleries, oldest first (11_shaft_and_pit_log.md R450–R457). -/
  blocks : List GalBlock
  /-- The staging counters of the pit log by image offset; a zero is not listed (11_shaft_and_pit_log.md R476). -/
  staging : List (Nat × Int)
  /-- The committed images by slot (11_shaft_and_pit_log.md R479, R482). -/
  slots : List (Nat × Image)
  /-- The live image (11_shaft_and_pit_log.md R477). -/
  live : Image
  /-- The snapshot of the epoch being written, and the deltas it took (11_shaft_and_pit_log.md R480). -/
  snap : Image
  snapStaged : List (Nat × Int)
  /-- The frames of the capture, oldest first, of 40 words each (11_shaft_and_pit_log.md R465). -/
  capFrames : List (List Int)
  /-- The events of the capture, oldest first, of 16 bytes each (11_shaft_and_pit_log.md R466). -/
  capEvents : List (List Byte)
  /-- Announced load steps in force (02_converter_core.md R82–R87). -/
  anns : List Announcement
  /-- What the part has sent, oldest first; a PDU for a polled port waits here (13_links.md R551). -/
  outbox : List Out
  /-- The PDUs of the application cores that wait for credits of a transmit gallery: port code and bytes, oldest first
  (11_shaft_and_pit_log.md R452). -/
  txWait : List (Nat × List Byte)
  /-- The links' own receive buffers: port code and bytes, oldest first (13_links.md R537). -/
  rxbuf : List (Nat × List Byte)
  /-- Partial CAN FD reassemblies: controller, identifier, timebase of the last frame, next segment, bytes (12_dictionary.md R520). -/
  canParts : List (Nat × Nat × Nat × Nat × List Byte)
  /-- The changes of ANY that wait to be broadcast, oldest first: IFW_STATUS and the timebase at the change (05_ring_and_holdup.md R226). -/
  ifwDue : List (Nat × Nat)
  /-- The members of the share groups as heard (13_links.md R577). -/
  members : List Member
  /-- Withdrawals that came before their announcement: address, group, ANN_ID (13_links.md R586). -/
  withdrawn : List (Nat × Nat × Nat)
  /-- The open sessions (14_images_and_security.md R624). -/
  sessions : List Session
  /-- The opens that await their proof (14_images_and_security.md R622, R623). -/
  opens : List Session
  /-- The boot record's entries waiting for their programming, oldest first (14_images_and_security.md R591). -/
  bootQ : List BootEntry
  /-- The stored copies of the configuration, and the one being saved (14_images_and_security.md R590). -/
  copies : List ConfigCopy
  saving : List ConfigCopy
  /-- The open DOMAIN transfers (12_dictionary.md R509–R512). -/
  transfers : List Transfer
  /-- The part's own requests outstanding (12_dictionary.md R497). -/
  asks : List Ask
  /-- Contexts granted and not yet on, and the dues of the last evaluation (06_tally_and_sharing.md R257, R259). -/
  grants : List Estimate
  dues : List Estimate
  /-- The deferred contexts, in the order they were deferred (06_tally_and_sharing.md R257, R258). -/
  deferred : List Nat
  /-- Contexts that are on and when each last entered ON (06_tally_and_sharing.md R261). -/
  onOrder : List (Nat × Nat)
  /-- The shed contexts with their estimates, in order (06_tally_and_sharing.md R263). -/
  shedList : List Estimate
  /-- The samples of the input power of this evaluation; none for an invalid one (06_tally_and_sharing.md R252). -/
  powerIn : List (Option Int)
  /-- What the loop engine's programs have written and is to act at the end of the run: lane, actuator point, value (07_loop_engine.md
  R306). -/
  loopWrites : List (Nat × Nat × Int)
  /-- Loans taken and loans given (06_tally_and_sharing.md R272–R277). -/
  borrowed : List Loan
  lent : List Loan
  /-- The commands that are waiting, first in, first out. -/
  pending : List Instr
  deriving DecidableEq, Repr

/-- The part right after a cold reset by VSUP at a power-on with nothing kept: every register at its reset value, in STARTING
(10_faults_watchdog_resets.md R440; 09_sequencing_and_states.md R381). -/
def State.reset : State :=
  { regs := [], blobs := [], timebase := 0, fresh := 0, edgeAt := 0, edgeNo := 0, marks := [], raiseQ := [], reactions := [], notices := [], blocks := [],
    staging := [], slots := [], live := ⟨0, 5, 0, 0, []⟩, snap := ⟨0, 5, 0, 0, []⟩, snapStaged := [], capFrames := [], capEvents := [], anns := [], outbox := [], txWait := [], rxbuf := [], canParts := [], ifwDue := [], members := [], withdrawn := [], sessions := [], opens := [], bootQ := [], copies := [], saving := [], transfers := [], asks := [],
    grants := [], dues := [], deferred := [], onOrder := [], shedList := [], powerIn := [], loopWrites := [], borrowed := [], lent := [],
    pending := [] }

end Sys2Proof.Machine
end

