-- ==== Sys2Proof/Machine/Ops.lean ====
section
/-!
DEFINITION. The named operations over the state: reading and writing a register or a field of one, saturating counters,
the timebase, free values, and the integer arithmetic the rules use.
-/
namespace Sys2Proof.Machine

/-! ### The register store: pairs in rising key order, none equal to its register's reset value -/

/-- The value stored under a key, if one is. -/
def storeFind (k : Nat) : List (Nat × Int) → Option Int
  | [] => none
  | (j, v) :: t => if j = k then some v else storeFind k t

/-- Remove what is stored under a key. -/
def storeErase (k : Nat) : List (Nat × Int) → List (Nat × Int)
  | [] => []
  | (j, v) :: t => if j = k then storeErase k t else (j, v) :: storeErase k t

/-- Put a value in its place in the order of keys. -/
def storeInsert (k : Nat) (x : Int) : List (Nat × Int) → List (Nat × Int)
  | [] => [(k, x)]
  | (j, v) :: t => if k < j then (k, x) :: (j, v) :: t else (j, v) :: storeInsert k x t

/-- The least key of a store, as a bound for what precedes it. -/
def storeAbove (k : Nat) : List (Nat × Int) → Bool
  | [] => true
  | (j, _) :: _ => decide (k < j)

/-- The canonical form of a register store: keys strictly rising, and no register listed at its reset value. -/
def storeCanon : List (Nat × Int) → Bool
  | [] => true
  | (k, v) :: t => storeAbove k t && decide (v ≠ resetValue k) && storeCanon t

/-- Store `x` under `k`, listing nothing when `x` is what an unlisted register reads as. -/
def storePut (k : Nat) (x : Int) (l : List (Nat × Int)) : List (Nat × Int) :=
  if x = resetValue k then storeErase k l else storeInsert k x (storeErase k l)

/-- Read a register: what is stored, else its reset value. -/
def State.rd (s : State) (k : Nat) : Int :=
  match storeFind k s.regs with
  | some v => v
  | none => resetValue k

/-- Write a register. -/
def State.wr (s : State) (k : Nat) (x : Int) : State :=
  { s with regs := storePut k x s.regs }

/-- A register read as a natural number. -/
def State.rdN (s : State) (k : Nat) : Nat := (s.rd k).toNat

/-- A one-bit register is set. -/
def State.on (s : State) (k : Nat) : Bool := decide (s.rd k ≠ 0)

/-- Write a one-bit register. -/
def State.wrB (s : State) (k : Nat) (b : Bool) : State := s.wr k (if b then 1 else 0)

/-- The bits `lo … lo + w − 1` of a value. -/
def bitsOf (v : Int) (lo w : Nat) : Nat := (v.toNat / 2 ^ lo) % 2 ^ w

/-- A value with the bits `lo … lo + w − 1` replaced by `x`. -/
def withBits (v : Int) (lo w : Nat) (x : Nat) : Int :=
  ((v.toNat - bitsOf v lo w * 2 ^ lo + (x % 2 ^ w) * 2 ^ lo : Nat) : Int)

/-- Read a field. -/
def State.fld (s : State) (b : Bits) : Nat := bitsOf (s.rd b.key) b.lo b.width

/-- A one-bit field is set. -/
def State.bit (s : State) (b : Bits) : Bool := decide (s.fld b ≠ 0)

/-- Write a field, leaving the register's other bits. -/
def State.setFld (s : State) (b : Bits) (x : Nat) : State :=
  s.wr b.key (withBits (s.rd b.key) b.lo b.width x)

/-- Write a one-bit field. -/
def State.setBit (s : State) (b : Bits) (x : Bool) : State := s.setFld b (if x then 1 else 0)

/-- A field that has no row of its own in the field tables: bit `i` of a register. -/
def flag (k i : Nat) : Bits := ⟨k, i, 1⟩

/-! ### Saturating counters -/

/-- The greatest value of `n` unsigned bits. -/
def maxU (n : Nat) : Int := ((2 ^ n - 1 : Nat) : Int)

/-- Saturate to a range. -/
def clampI (lo hi x : Int) : Int := if x < lo then lo else if hi < x then hi else x

/-- Saturate to `n` unsigned bits. -/
def satU (n : Nat) (x : Int) : Int := clampI 0 (maxU n) x

/-- Saturate to 16 signed bits. -/
def satI16 (x : Int) : Int := clampI (-32768) 32767 x

/-- Saturate to 32 signed bits. -/
def satI32 (x : Int) : Int := clampI (-2147483648) 2147483647 x

/-- Add to a saturating counter of `n` bits. -/
def State.add (s : State) (n k : Nat) (d : Int) : State := s.wr k (satU n (s.rd k + d))

/-- Count one in a saturating U32. -/
def State.inc32 (s : State) (k : Nat) : State := s.add 32 k 1

/-- Count one in a saturating U16. -/
def State.inc16 (s : State) (k : Nat) : State := s.add 16 k 1

/-- Count one in a saturating U8. -/
def State.inc8 (s : State) (k : Nat) : State := s.add 8 k 1

/-! ### Integer arithmetic (00_scope.md R706) -/

/-- round(a / b) for positive `b`: the nearest integer, a half away from zero. -/
def roundDiv (a b : Int) : Int :=
  if 0 ≤ a then (2 * a + b) / (2 * b) else -((2 * (-a) + b) / (2 * b))

/-- ceil(a / b) for positive `b`. -/
def ceilDiv (a b : Int) : Int := -((-a) / b)

/-- The magnitude of an integer. -/
def absI (x : Int) : Int := if x < 0 then -x else x

/-- floor of a square root, bit by bit from bit `n`. -/
def isqrtFrom : Nat → Nat → Nat → Nat
  | 0, r, x => if (r + 1) * (r + 1) ≤ x then r + 1 else r
  | n + 1, r, x => if (r + 2 ^ (n + 1)) * (r + 2 ^ (n + 1)) ≤ x then isqrtFrom n (r + 2 ^ (n + 1)) x else isqrtFrom n r x

/-- floor(√x), for `x` below 2^160. -/
def isqrt (x : Nat) : Nat := isqrtFrom 80 0 x

/-! ### Repetition, choice, free values -/

/-- Do `f` for units 0 … n − 1 in turn. -/
def forUnits (n : Nat) (f : Nat → State → State) (s : State) : State :=
  (List.range n).foldl (fun t i => f i t) s

/-- Do `f` for each element of a list in turn. -/
def forAll {α : Type} (l : List α) (f : α → State → State) (s : State) : State :=
  l.foldl (fun t x => f x t) s

/-- Do `f` when a condition holds. -/
def State.when (s : State) (c : Bool) (f : State → State) : State := if c then f s else s

/-- The free value the next undetermined result takes (log entry 6). -/
def State.free (s : State) : Int := Config.freeInt s.fresh

/-- Count a free value as used (log entry 6: DESIGN CHOICE). -/
def State.used (s : State) : State := { s with fresh := s.fresh + 1 }

/-! ### What has happened on this edge (log entry 107) -/

/-- A processor reset began; the value is the mask of its causes. -/
abbrev markProc : Nat := 1
/-- PROC_RESETS before a processor reset that began. -/
abbrev markProcs : Nat := 2
/-- The staged count of processor resets before one that began. -/
abbrev markStage : Nat := 3
/-- A power-plane reset began. -/
abbrev markPp : Nat := 4
/-- A source was cleared; the value is its COUNT, and 256 with its window running, and 512 where it was severe. -/
abbrev markClear : Nat := 5
/-- A source was forced. -/
abbrev markForced : Nat := 6
/-- The REACTION of a source was written; the value is the one before. -/
abbrev markReaction : Nat := 7
/-- A rail entered HICCUP. -/
abbrev markHiccup : Nat := 8
/-- A phase was caged on a rail that was about to enter HICCUP. -/
abbrev markCage : Nat := 9
/-- A phase of a rail was caged. -/
abbrev markCagePhase : Nat := 31
/-- A cage made a rail enter LIMIT. -/
abbrev markCageLimit : Nat := 32
/-- A rail shed a phase; the value is the phase, and 16 times its PWM level before. -/
abbrev markShed : Nat := 10

/-- A context whose channel conducted was turned off; the value is its state then, and 16 times its fault timer in eighths. -/
abbrev markGateOff : Nat := 11
/-- A context tripped; the value is the cause, and 16 times RETRIES before. -/
abbrev markTrip : Nat := 12
/-- The gate of a channel began to open; the value is 1 at the end of LEAD. -/
abbrev markOpen : Nat := 13

/-- The host opened a ring port that was CLOSED. -/
abbrev markHostOpen : Nat := 14
/-- The host's close of a ring port started. -/
abbrev markHostClose : Nat := 15
/-- The reaction "open a ring port" acted on a port. -/
abbrev markReactOpen : Nat := 16

/-- The tally shed a context; the value is what CREDIT counts for it. -/
abbrev markShedCtx : Nat := 17
/-- The lease of a loan ended; the unit is the peer times 65536 plus LOAN_ID, the value the amount. -/
abbrev markLease : Nat := 18

/-- LO_CODE of a monitor has been written; the value is the one before. -/
abbrev markLoCode : Nat := 19
/-- HI_CODE of a monitor has been written; the value is the one before. -/
abbrev markHiCode : Nat := 20
/-- An automatic check of a monitor started. -/
abbrev markAuto : Nat := 21

/-- The capture was armed. -/
abbrev markArm : Nat := 22
/-- The capture's trigger was recognised. -/
abbrev markTrig : Nat := 23
/-- QUOTA of a gallery was written; the value is the one before. -/
abbrev markQuota : Nat := 24

/-- A node entered FAULT. -/
abbrev markNodeFault : Nat := 25
/-- The margin of a rail was written. -/
abbrev markMargin : Nat := 26

/-- The watchdog's period was written; the value is the one before. -/
abbrev markWdPeriod : Nat := 27
/-- The watchdog's period was written; the value is the timebase from which its count ran before. -/
abbrev markWdAt : Nat := 28

/-- The trial of a bank timed out. -/
abbrev markTrialOut : Nat := 29
/-- A supply dipped. -/
abbrev markSupply : Nat := 30

/-- A register before a reset of this instant; the unit is its key, the value what it held. -/
abbrev markBefore : Nat := 33
/-- The reading at which a sample of T0 that was due as a power-plane reset began brings it to SHUTDOWN. -/
abbrev markT0 : Nat := 34
/-- A cold reset with the core powered. -/
abbrev markCold : Nat := 35

/-- The oldest block of a gallery is read. -/
abbrev markRead : Nat := 36
/-- Debug or scan is entered. -/
abbrev markDebug : Nat := 37

/-- Note that something has happened on this edge (log entry 107: DEDUCED). -/
def State.mark (s : State) (k u : Nat) (v : Int) : State :=
  { s with edgeAt := s.timebase, marks := ⟨k, u, s.edgeNo, v⟩ :: if s.edgeAt = s.timebase then s.marks else [] }

/-- It has happened on this very edge, with this value (log entry 107: DEDUCED). -/
def State.marked (s : State) (k u : Nat) : Option Int :=
  if s.edgeAt = s.timebase then (s.marks.find? fun m => decide (m.kind = k) && decide (m.unit = u) && decide (m.edge = s.edgeNo)).map Mark.value
  else none

/-- It has happened at the present timebase, on this edge or on one that followed a command at it (log entry 107: DEDUCED). -/
def State.markedNow (s : State) (k u : Nat) : Bool :=
  decide (s.edgeAt = s.timebase) && s.marks.any fun m => decide (m.kind = k) && decide (m.unit = u)

/-- The value of what has happened last at the present timebase (log entry 107: DEDUCED). -/
def State.nowMark (s : State) (k u : Nat) : Option Int :=
  if s.edgeAt = s.timebase then (s.marks.find? fun m => decide (m.kind = k) && decide (m.unit = u)).map Mark.value else none

/-- The value of what has happened first at the present timebase (log entry 107: DEDUCED). -/
def State.nowFirst (s : State) (k u : Nat) : Option Int :=
  if s.edgeAt = s.timebase then (s.marks.reverse.find? fun m => decide (m.kind = k) && decide (m.unit = u)).map Mark.value else none

/-- What registers hold as a reset begins is noted (log entry 107: DEDUCED). -/
def State.noteBefore (s : State) (keys : List Nat) : State := forAll keys (fun k t => t.mark markBefore k (t.rd k)) s

/-- Registers take what they held before the first reset of this instant that noted them (log entry 107: DEDUCED). -/
def State.putBack (s : State) (keys : List Nat) : State := forAll keys (fun k t => ((t.nowFirst markBefore k).map (t.wr k)).getD t) s

/-- An outcome that goes on. -/
abbrev Result : Type := Host.Outcome State Fault Refusal

/-! ### The timebase (01_architecture.md R34) -/

/-- The timebase as a register value. -/
def State.now (s : State) : Int := (s.timebase : Int)

/-- Advance the timebase by `ns` nanoseconds; the 64-bit count wraps (log entry 1: DESIGN CHOICE, log entry 16: DEDUCED). -/
def State.advance (s : State) (ns : Nat) : State := { s with timebase := (s.timebase + ns) % 2 ^ 64 }

/-- Move the timebase on to the next multiple of `period` after the present one, or keep it where it stands on a
multiple (log entry 10: DESIGN CHOICE). -/
def State.toMultiple (s : State) (period : Nat) : State :=
  if s.timebase % period = 0 then s else s.advance (period - s.timebase % period)

/-- The timebase moves on to the next multiple of `period` at which the periodic event whose stamp the register `k` holds has not occurred
yet, and the stamp follows (log entry 10: DESIGN CHOICE). -/
def State.toTickOf (s : State) (k period : Nat) : State :=
  let t := s.toMultiple period
  let u := if t.rd k = t.now + 1 then t.advance period else t
  u.wr k (u.now + 1)

/-- The same for a periodic event of kind `k`: 0 the 10 µs sample, 1 and 2 the test pulses, 3 SYNC, 4 the winder, 5 the scrubber, 6 the
capture, 7 the pit log's tick, 8 the share link's load window, 9 the tally, 10 and 11 the lanes, 12–15 the share groups; 16 stands for SHARE (State.toShare) (log entry 10: DESIGN CHOICE). -/
def State.toTick (s : State) (k period : Nat) : State := s.toTickOf (Reg.tickNs k) period

/-- The timebase moves on to the instant `ns` after the stamp `at1` − 1 unless it stands there or beyond; there is no stamp for `at1` 0
(log entry 10: DESIGN CHOICE). -/
def State.toAfter (s : State) (at1 ns : Int) : State := if at1 = 0 then s else s.advance (at1 - 1 + ns - s.now).toNat

/-- `ns` nanoseconds of timebase have passed since the stamp `t` (log entry 16: DEDUCED). -/
def State.since (s : State) (t ns : Int) : Bool := decide (t + ns ≤ s.now)

/-- The level of an output that asserts or not: 0 high-impedance, 1 low, 2 high; an open-drain output releases its pin in place of
driving it high (05_ring_and_holdup.md R229; 08_sensing_and_thermal.md R358). -/
def padLevel (openDrain activeLow asserted : Bool) : Int := if asserted = activeLow then 1 else if openDrain then 0 else 2

/-- A request of the host that was accepted is turned away after all, by what coincides with it (log entry 110: DESIGN CHOICE). -/
def State.turnedAway (s : State) : State := (s.inc32 Reg.Cnt_ABORTS).inc32 Reg.STATE_ABORTS

/-! ### The watchdog's count (10_faults_watchdog_resets.md R427) -/

/-- Nanoseconds since the watchdog's last accepted service (log entry 51: DESIGN CHOICE). -/
def State.wdAge (s : State) : Int := max 0 (s.now - s.rd Reg.wdNs)

/-- The first tick at or after the present instant: the one on which a service write is decided (R428) (log entry 51: DESIGN CHOICE). -/
def State.wdSvcTick (s : State) : Int := ceilDiv s.wdAge 40

/-- The ticks *e* of R427: 40 ns each since the end of the last reset, the last accepted service or the write of the period (log entry 51:
DESIGN CHOICE). -/
def State.wdTicks (s : State) : Int := s.wdAge / 40

/-- *p* of R427 (log entry 51: DESIGN CHOICE). -/
def State.wdPeriod (s : State) : Int := s.rd Reg.WD_PERIOD_MS * 25000

/-- The conditions of a confirmation have not held up to now (14_images_and_security.md R614). -/
def State.confBreak (s : State) : State := s.wr Reg.confNs s.now

/-! ### Which planes run -/

/-- The power plane runs: the core is powered and no power-plane reset holds it (01_architecture.md R24, R25;
08_sensing_and_thermal.md R368). -/
def State.ppRuns (s : State) : Bool := s.on Reg.corePowered && !s.on Reg.ppReset && !s.on Reg.dieHold

/-- The processor plane runs: the core is powered, no reset holds it, and hold mode is not in force
(01_architecture.md R26). -/
def State.procRuns (s : State) : Bool :=
  s.on Reg.corePowered && !s.on Reg.holdActive && !s.on Reg.procReset && !s.on Reg.ppReset && !s.on Reg.dieHold

/-! ### Byte strings: least significant byte first (00_scope.md R8) -/

/-- `n` bytes of a number, least significant first. -/
def leBytes : Nat → Nat → List Byte
  | 0, _ => []
  | n + 1, v => BitVec.ofNat 8 v :: leBytes n (v / 256)

/-- The number a byte string holds, least significant first. -/
def ofLe : List Byte → Nat
  | [] => 0
  | b :: t => b.toNat + 256 * ofLe t

/-- Two's complement of an integer in `n` bits, as a natural number. -/
def twos (n : Nat) (x : Int) : Nat := (x % (2 ^ n : Nat)).toNat

/-- The integer an `n`-bit two's-complement number stands for. -/
def ofTwos (n : Nat) (v : Nat) : Int := if v < 2 ^ (n - 1) then (v : Int) else (v : Int) - (2 ^ n : Nat)

/-- `len` bytes of a byte string from `off` on. -/
def slice {α : Type} (off len : Nat) (l : List α) : List α := (l.drop off).take len

/-- The byte string stored under a key; a key not stored holds the empty string. -/
def State.blob (s : State) (k : Nat) : List Byte :=
  match s.blobs.find? (fun p => p.1 == k) with
  | some p => p.2
  | none => []

/-- Store a byte string under a key; the empty string is not listed. -/
def State.setBlob (s : State) (k : Nat) (b : List Byte) : State :=
  let rest := s.blobs.filter fun p => p.1 != k
  if b.isEmpty then { s with blobs := rest }
  else { s with blobs := rest.filter (fun p => p.1 < k) ++ (k, b) :: rest.filter (fun p => k < p.1) }

/-! ### Check sequences -/

/-- One bit of CRC-16 with polynomial 0x1021. -/
def crc16Bit (c : Nat) : Nat := if c / 32768 % 2 = 1 then Nat.xor (c * 2 % 65536) 0x1021 else c * 2 % 65536

/-- One byte of CRC-16. -/
def crc16Byte (c : Nat) (b : Byte) : Nat :=
  crc16Bit (crc16Bit (crc16Bit (crc16Bit (crc16Bit (crc16Bit (crc16Bit (crc16Bit (Nat.xor c (b.toNat * 256)))))))))

/-- The CRC-16 of 04_satellite_link.md R162: polynomial 0x1021, initial value 0xFFFF. -/
def crc16 (l : List Byte) : Nat := l.foldl crc16Byte 0xFFFF

/-- One bit of the reflected CRC-32 of IEEE 802.3. -/
def crc32Bit (c : Nat) : Nat := if c % 2 = 1 then Nat.xor (c / 2) 0xEDB88320 else c / 2

/-- One byte of CRC-32. -/
def crc32Byte (c : Nat) (b : Byte) : Nat :=
  crc32Bit (crc32Bit (crc32Bit (crc32Bit (crc32Bit (crc32Bit (crc32Bit (crc32Bit (Nat.xor c b.toNat))))))))

/-- The CRC-32 of IEEE 802.3. -/
def crc32 (l : List Byte) : Nat := Nat.xor (l.foldl crc32Byte 0xFFFFFFFF) 0xFFFFFFFF

end Sys2Proof.Machine
end

