-- ==== Sys2Proof/Machine/ShaftOps.lean ====
section
/-!
DEFINITION. Shared operations of the Shaft and the pit log (11_shaft_and_pit_log.md): credits, the notices of G19, the
capture's triggers, and the staging counters.
-/
namespace Sys2Proof.Machine

/-- The Shaft takes data: the core is powered and the processor plane is neither in reset nor in hold mode (R37, R471). -/
def State.shaftUp (s : State) : Bool := s.procRuns

/-- Σ max(USED, RESERVE) over the 64 galleries (R450). -/
def State.galHeld (s : State) : Int :=
  (List.range 64).foldl (fun t g => t + max (s.rd (Reg.USED g)) (s.rd (Reg.RESERVE g))) 0

/-- Free blocks of the shared pool (R450): the blocks out of use are none of it (R459; 01_architecture.md R38; 15_start_bist_standby.md R643) (log
entry 115: DEDUCED). -/
def State.poolFree (s : State) : Int := clampI 0 16384 (16384 - s.rd Reg.BAD_BLOCKS - s.galHeld)

/-- A producer of gallery `g` would receive a credit (R450), on the quota before a commit of this instant (R488). -/
def State.credit (s : State) (g : Nat) : Bool :=
  decide (s.rd (Reg.USED g) < s.rd (Reg.RESERVE g)) ||
    (decide (s.rd (Reg.USED g) < (s.nowFirst markQuota g).getD (s.rd (Reg.QUOTA g))) && decide (0 < s.poolFree))

/-- A gallery has accepted a block: the next one dropped is the first after it (R452, R487). -/
def State.fed (s : State) (g : Nat) : State := (s.wr (Reg.galFed g) 1).wr (Reg.galLost g) 0

/-- USED of a gallery, and PEAK with it (R463). -/
def State.setUsed (s : State) (g : Nat) (u : Int) : State := (s.wr (Reg.USED g) u).wr (Reg.PEAK g) (max (s.rd (Reg.PEAK g)) u)

/-- A block is taken: USED and PEAK follow, and the gallery is no longer starved (R450, R463). -/
def State.takeBlock (s : State) (g : Nat) : State := (s.setUsed g (s.rd (Reg.USED g) + 1)).fed g

/-- `n` blocks of a gallery at once, when all can be reserved (R450). -/
def State.takeRun (s : State) (g : Nat) (n : Int) : Option State :=
  let u := s.rd (Reg.USED g) + n
  let r := s.rd (Reg.RESERVE g)
  if n = 0 then some s
  else if u ≤ r || (decide (u ≤ s.rd (Reg.QUOTA g)) && decide (u - max r (s.rd (Reg.USED g)) ≤ s.poolFree)) then some ((s.setUsed g u).fed g)
  else none

/-- A producer's wait ends: WAIT_US keeps the longest (R453, R463). -/
def State.waitEnds (s : State) (g : Nat) : State :=
  if s.on (Reg.galWaitNs g) then
    let us := (s.now - (s.rd (Reg.galWaitNs g) - 1)) / 1000
    ((s.wr (Reg.WAIT_US g) (satU 32 (max (s.rd (Reg.WAIT_US g)) us))).wr (Reg.galWaitNs g) 0).wr (Reg.galWaitRaised g) 0
  else s

/-- A producer of a gallery begins to wait, unless it waits (R453). -/
def State.waitBegins (s : State) (g : Nat) : State := s.when (!s.on (Reg.galWaitNs g)) fun t => t.wr (Reg.galWaitNs g) (t.now + 1)

/-- `n` blocks of a gallery, when all can be reserved. -/
def State.takeBlocks (s : State) (g : Nat) : Nat → Option State
  | 0 => some s
  | n + 1 => if s.credit g then (s.takeBlock g).takeBlocks g n else none

/-- A block is dropped: DROPS counts it, and the first drop after an accepted block raises source 70 (R452, R487) (log entry 115: DEDUCED). -/
def State.dropBlock (s : State) (g : Nat) : State :=
  let t := (s.inc32 (Reg.DROPS g)).wr (Reg.galFed g) 0
  if s.on (Reg.galFed g) then { t with raiseQ := t.raiseQ ++ [70] } else t

/-- A record of `n` bytes is dropped: records that would have shared a block of 256 bytes are dropped with one block (R452; 01_architecture.md
R37). -/
def State.dropRecord (s : State) (g n : Nat) : State :=
  let u := s.rd (Reg.galLost g) + (n : Nat)
  if s.on (Reg.galLost g) = true ∧ u ≤ 256 then s.wr (Reg.galLost g) u else (s.dropBlock g).wr (Reg.galLost g) (n : Nat)

/-- Add an event to G19, or drop and count it (R413, R452; 12_dictionary.md R528). A block holds 16 events. -/
def State.notice (s : State) (e : Event) : State :=
  if s.shaftUp then
    if s.notices.length % 16 ≠ 0 then { s with notices := s.notices ++ [e] }
    else if s.credit 19 then
      let t := s.takeBlock 19
      { t with notices := t.notices ++ [e] }
    else s.dropRecord 19 16
  else s.dropRecord 19 16

/-! ### Pit log staging (R475, R476): deltas by image offset -/

/-- The staged delta of the image field at `off`. -/
def State.staged (s : State) (off : Nat) : Int := (storeFind off s.staging).getD 0

/-- Put a staged value; a zero delta is not listed. -/
def State.setStaged (s : State) (off : Nat) (v : Int) : State :=
  { s with staging := if v = 0 then storeErase off s.staging else storeInsert off v (storeErase off s.staging) }

/-- Add to the staging counter of the `bits`-bit field at `off`; an overflow saturates, sets STAGE_SAT and raises 76. -/
def State.stage (s : State) (off bits : Nat) (d : Int) : State :=
  if d = 0 then s
  else
    let v := s.staged off + d
    if v ≤ maxU bits then s.setStaged off v
    else
      let t := (s.setStaged off (maxU bits)).setFld ⟨Reg.PL_STATUS, 2, 1⟩ 1
      { t with raiseQ := t.raiseQ ++ [76] }

/-- Stage a lowest value: what is staged is the value plus one, so that nothing staged reads as none. -/
def State.stageMin (s : State) (off : Nat) (v : Int) : State :=
  if s.staged off = 0 || decide (v + 1 < s.staged off) then s.setStaged off (v + 1) else s

/-- Stage a highest value, held plus one. -/
def State.stageMax (s : State) (off : Nat) (v : Int) : State :=
  if decide (s.staged off < v + 1) then s.setStaged off (v + 1) else s

/-! ### Capture (R465–R471) -/

/-- Whole frames the capture record holds: CAP_MAX (R465). -/
def State.capMax (s : State) : Int := s.rd (Reg.QUOTA 20) * 256 / 80

/-- The capture enters FROZEN: CAP_FRAMES and TRIG_FRAME are fixed and source 72 is raised (R467, R487). -/
def State.capFreeze (s : State) : State :=
  let held : Int := s.capFrames.length
  let trig := s.rd Reg.capTrigAt - (s.rd Reg.capFrameNo - held) - 1
  let t := ((s.wr Reg.CAP_STATE 3).wr Reg.CAP_FRAMES held).wr Reg.TRIG_FRAME (clampI 0 (max 0 (held - 1)) trig)
  { t with raiseQ := t.raiseQ ++ [72] }

/-- The number of the frame of the present microsecond: the last one written when it belongs to this microsecond, else
the next. -/
def State.capFrameHere (s : State) : Int :=
  if s.rd Reg.capLastUs = s.now / 1000 + 1 then s.rd Reg.capFrameNo else s.rd Reg.capFrameNo + 1

/-- POST_FRAMES further frames have been written after the trigger frame (R467). -/
def State.capDone (s : State) : Bool :=
  decide (s.rd Reg.CAP_STATE = 2) && decide (s.rd Reg.capTrigAt + s.rd Reg.POST_FRAMES ≤ s.rd Reg.capFrameNo)

/-- A trigger: a capture in ARMED enters POST, and FROZEN at once where no further frame is asked for; in any other state it is
ignored, and so it is on the edge of the write of ARM. Of the triggers of one edge the lowest code is recorded (R467, R488). -/
def State.capTrigger (s : State) (cause : Nat) : State :=
  if (s.marked markArm 0).isSome then s
  else if (s.marked markTrig 0).isSome then s.wr Reg.TRIG_CAUSE (min (s.rd Reg.TRIG_CAUSE) cause)
  else if s.rd Reg.CAP_STATE = 1 then
    let t := ((((s.wr Reg.CAP_STATE 2).wr Reg.TRIG_NS s.now).wr Reg.TRIG_CAUSE cause).wr Reg.capTrigAt s.capFrameHere).mark markTrig 0 0
    if t.capDone then t.capFreeze else t
  else s

/-- A trigger with this TRIG_CAUSE is set up: a monitor of TRIG_MON_MASK, the source TRIG_SRC or with TRIG_ANY any source, the
host (R467). -/
def State.capTrigSet (s : State) (cause : Nat) : Bool :=
  if cause < 0x400 then decide (s.rdN Reg.TRIG_SRC = cause) || s.bit Bit.CAP_CTRL_TRIG_ANY
  else if cause < 0x430 then decide (s.rdN Reg.TRIG_MON_MASK / 2 ^ (cause - 0x400) % 2 = 1)
  else decide (cause = 0x800)

/-- A reset freezes an ARMED or POST capture at once; in ARMED the reset is the trigger, and in POST a processor reset leaves the first one and a
power-plane reset is recorded (R468, R488). -/
def State.capReset (s : State) (cause : Nat) : State :=
  if s.rd Reg.CAP_STATE = 1 then
    (((s.wr Reg.TRIG_NS s.now).wr Reg.TRIG_CAUSE cause).wr Reg.capTrigAt (s.rd Reg.capFrameNo)).capFreeze
  else if s.rd Reg.CAP_STATE = 2 then (s.when (decide (cause = 0x802)) fun t => t.wr Reg.TRIG_CAUSE (cause : Nat)).capFreeze
  else s

end Sys2Proof.Machine
end

