-- ==== Sys2Proof/Machine/PduOps.lean ====
section
/-!
DEFINITION. Shared operations of Dengon PDUs (12_dictionary.md R496–R501, R527): the layout of a PDU, its tag and check, and
sending one.
-/
namespace Sys2Proof.Machine

/-- Bytes as natural numbers. -/
def natsOf (l : List Byte) : List Nat := l.map BitVec.toNat

/-- Natural numbers below 256 as bytes. -/
def bytesOf (l : List Nat) : List Byte := l.map (BitVec.ofNat 8)

/-- A PDU's header fields and body (R496). -/
structure Pdu where
  resp : Bool
  auth : Bool
  dst : Nat
  src : Nat
  ttl : Nat
  svc : Nat
  tid : Nat
  fresh : Nat
  body : List Byte
  deriving DecidableEq, Repr

/-- The 14-byte header (R496). -/
def Pdu.header (p : Pdu) : List Byte :=
  [BitVec.ofNat 8 (16 + (if p.resp then 8 else 0) + (if p.auth then 4 else 0)), BitVec.ofNat 8 p.dst, BitVec.ofNat 8 p.src,
    BitVec.ofNat 8 p.ttl, BitVec.ofNat 8 p.svc, 0] ++ leBytes 2 p.tid ++ leBytes 2 p.body.length ++ leBytes 4 p.fresh

/-- The tag under `key`: the first 8 bytes of the CMAC over the header with TTL taken as 0, and the body (R500). -/
def Pdu.tag (p : Pdu) (key : List Nat) : List Byte :=
  bytesOf ((cmac key (natsOf (Pdu.header { p with ttl := 0 } ++ p.body))).take 8)

/-- The PDU's bytes: header, body, tag when AUTH is 1, and FCHK (R496). -/
def Pdu.bytes (p : Pdu) (tag : List Byte) : List Byte :=
  let front := p.header ++ p.body ++ (if p.auth then tag else [])
  front ++ leBytes 2 (crc16 front)

/-- Dengon runs: from PLANE_READY on (15_start_bist_standby.md R639), and never during hold mode or a reset (R534). -/
def State.dengonUp (s : State) : Bool := s.shaftUp && s.on Reg.planeReady

/-- The part's own address. -/
def State.ownAddr (s : State) : Nat := s.rdN Reg.DOMAIN_ADDR

/-- The port that ROUTE names for an address (R527). -/
def State.routeOf (s : State) (a : Nat) : Nat := s.rdN (Reg.ROUTE a)

/-- ENABLE of a port. -/
def State.portEnabled (s : State) (c : Nat) : Bool :=
  if c = 1 then s.bit (flag Reg.T1S_CTRL 0)
  else if c = 2 then s.bit Bit.ETH_CTRL_ENABLE
  else if c ≤ 4 then s.bit (flag (Reg.CAN_CTRL (c - 3)) 0)
  else if c = 5 then s.bit (flag Reg.SPI_CTRL 0)
  else s.bit (Bit.TW_CTRL_ENABLE (c - 6))

/-- The port runs: the processor plane does, it is enabled, and its supply has not stopped it (R538; 16_balls_and_supplies.md R676) (log entry 57: DEDUCED). -/
def State.portRuns (s : State) (c : Nat) : Bool :=
  s.dengonUp && s.portEnabled c && !(if c = 2 then s.on (Reg.ioStopped 1) else decide (c ≠ 1 ∧ c ≠ 6) && s.on (Reg.ioStopped 0))

/-! ### Frames of the network ports (R517–R519; 13_links.md R542, R548) -/

/-- The MAC address that a PDU to address `d` takes on port `c`, 1 or 2 (R517). -/
def State.macFor (s : State) (c d : Nat) : Nat :=
  if d < 63 ∧ s.on (Reg.macTable (63 * (c - 1) + d)) = true then s.rdN (Reg.macTable (63 * (c - 1) + d)) - 1 else 0xFFFFFFFFFFFF

/-- The Ethernet frame that carries a PDU, up to its payload; on Ethernet with VLAN_EN the tag's priority bits are open (log entry 47: DEDUCED). -/
def State.etherFrame (s : State) (c : Nat) (b : List Byte) : List Byte :=
  let tag : List Byte := if c = 2 ∧ s.bit Bit.ETH_CTRL_VLAN_EN = true then
      [0x81, 0x00] ++ (leBytes 2 (s.rdN Reg.VLAN_ID + 4096 * (s.free % 16).toNat)).reverse else []
  (leBytes 6 (s.macFor c (ofLe (slice 1 1 b)))).reverse ++ (leBytes 6 (s.rdN Reg.MAC_ADDR)).reverse ++ tag ++ [0x88, 0xB5] ++ b

/-- The smallest CAN FD data length that holds `n` bytes (R519). -/
def fdLength (n : Nat) : Nat :=
  if n ≤ 8 then n else if n ≤ 12 then 12 else if n ≤ 16 then 16 else if n ≤ 20 then 20 else if n ≤ 24 then 24
  else if n ≤ 32 then 32 else if n ≤ 48 then 48 else 64

/-- The frames of a PDU from segment `i` on, `n` at most (R519). -/
def canSegments : Nat → Nat → List Byte → List (List Byte)
  | 0, _, _ => []
  | n + 1, i, b =>
    let last := decide (b.length ≤ 63)
    let place := if last then (if i = 0 then 0 else 3) else if i = 0 then 1 else 2
    let d := BitVec.ofNat 8 (64 * place + i) :: b.take 63
    if last then [d ++ List.replicate (fdLength d.length - d.length) 0xCC] else d :: canSegments n (i + 1) (b.drop 63)

/-- PRIO of a PDU (R518) (log entry 45: DEDUCED). -/
def canPrio (b : List Byte) : Nat :=
  let svc := ofLe (slice 4 1 b)
  if ofLe (b.take 1) / 8 % 2 = 1 then 3
  else if svc = 0x11 then 0 else if svc = 0x10 then 1 else if svc = 0x20 then 2 else if svc = 7 then 5 else if svc = 0x12 then 6 else 4

/-- The 29-bit identifier of a PDU's frames (R518) (log entry 45: DEDUCED). -/
def canId (b : List Byte) : Nat := canPrio b * 67108864 + ofLe (slice 1 1 b) * 1048576 + ofLe (slice 2 1 b) * 16384

/-- The port can send: it runs, Ethernet has its link, and a CAN FD controller is not in bus-off (13_links.md R543, R549) (log entry 44: DEDUCED). -/
def State.portSends (s : State) (c : Nat) : Bool :=
  s.portRuns c && (decide (c ≠ 2) || s.bit (flag Reg.ETH_STATUS 0)) && (decide (c ≠ 3 ∧ c ≠ 4) || decide (s.fld ⟨Reg.CAN_STATUS (c - 3), 0, 2⟩ ≠ 2))

/-- The transmit gallery of a port (11_shaft_and_pit_log.md R456). -/
def txGallery (c : Nat) : Nat := if c ≤ 4 then 2 * c - 1 else if c = 5 then 9 else 11

/-- The blocks of a PDU (11_shaft_and_pit_log.md R450). -/
def pduBlocks (b : List Byte) : Nat := (b.length + 255) / 256

/-- Blocks of a transmit gallery go back to the pool. -/
def State.txFree (s : State) (c n : Nat) : State := s.wr (Reg.USED (txGallery c)) (max 0 (s.rd (Reg.USED (txGallery c)) - (n : Nat)))

/-- A PDU in the blocks of its transmit gallery goes to its port: a network port sends it in its frames and returns the blocks; on a polled port
it waits in them (R527, R535). How many collisions and errors of the wire a frame on 10BASE-T1S meets is a free value (13_links.md R541; log entry 15:
DESIGN CHOICE). -/
def State.sendPdu (s : State) (port : Nat) (bytes : List Byte) : State :=
  let t := s.inc32 Reg.TX_PDUS
  if port = 1 then { (((t.inc32 Reg.T1s_TX_FRAMES).add 32 Reg.TX_ERRORS (s.free % 4294967296)).used).txFree 1 (pduBlocks bytes) with
      outbox := s.outbox ++ [Out.frame 1 0 (s.etherFrame 1 bytes)] }
  else if port = 2 then
    ({ (t.inc32 Reg.Eth_TX_FRAMES).txFree 2 (pduBlocks bytes) with outbox := s.outbox ++ [Out.frame 2 0 (s.etherFrame 2 bytes)] }).when
      (s.bit Bit.ETH_CTRL_VLAN_EN) State.used
  else if port ≤ 4 then
    let l := canSegments 17 0 bytes
    { (t.add 32 (Reg.Can_TX_FRAMES (port - 3)) (l.length : Nat)).txFree port (pduBlocks bytes) with
      outbox := s.outbox ++ l.map fun d => Out.frame port (canId bytes) d }
  else { t with outbox := s.outbox ++ [Out.pdu port bytes] }

/-- Offer a PDU to a port; port 0 is none. The application core that offers it waits while its transmit gallery gives no credit for it, behind
those that wait (R527; 11_shaft_and_pit_log.md R452). -/
def State.offerPdu (s : State) (port : Nat) (bytes : List Byte) : State :=
  if port = 0 ∨ s.portSends port = false then s
  else
    let g := txGallery port
    match if s.txWait.any fun w => decide (txGallery w.1 = g) then none else s.takeBlocks g (pduBlocks bytes) with
    | some t => (t.waitEnds g).sendPdu port bytes
    | none => { s with txWait := s.txWait ++ [(port, bytes)] }.waitBegins g

/-- What waits for credits asks again, in its order (11_shaft_and_pit_log.md R452). -/
def State.txRetry (s : State) : State :=
  if s.txWait.isEmpty then s else forAll s.txWait (fun w t => t.offerPdu w.1 w.2) { s with txWait := [] }

/-- A session has had a PDU within SESSION_IDLE_S (14_images_and_security.md R624). -/
def State.sessionLive (s : State) (x : Session) : Bool := decide (s.timebase < x.last + s.rdN Reg.SESSION_IDLE_S * 1000000000)

/-- The session with `peer`, if one is open (R624). -/
def State.session (s : State) (peer : Nat) : Option Session := s.sessions.find? fun x => x.peer = peer && s.sessionLive x

/-- The sessions open (R624). -/
def State.openSessions (s : State) : List Session := s.sessions.filter s.sessionLive

/-- Change the session with `peer`. -/
def State.setSession (s : State) (peer : Nat) (f : Session → Session) : State :=
  { s with sessions := s.sessions.map fun x => if x.peer = peer then f x else x }

/-- The next transaction ID of this part, and the count moved on. -/
def State.takeTid (s : State) : Nat × State :=
  (s.rdN Reg.ownTid, s.wr Reg.ownTid (((s.rdN Reg.ownTid + 1) % 65536 : Nat) : Int))

/-- The session with `peer` closes (R624). -/
def State.closeSession (s : State) (peer : Nat) : State := { s with sessions := s.sessions.filter fun x => x.peer ≠ peer }

/-- Debug or scan is active: no AUTH PDU is sent or accepted (14_images_and_security.md R630). -/
def State.authSilent (s : State) : Bool := s.bit (flag Reg.SEC_STATUS 0)

/-- Send a request with AUTH 1 under the session with `dst`; without a session nothing is sent (R500, R531). A session whose
FRESH would pass 0xFFFF_FFFF closes (R624). -/
def State.sendAuthed (s : State) (dst svc : Nat) (body : List Byte) : State :=
  match s.session dst with
  | some x =>
    if x.sent = 4294967295 then s.closeSession dst
    else if s.dengonUp && !s.authSilent && decide (s.ownAddr ≠ 0) then
      let t := (s.takeTid).2
      let p : Pdu := ⟨false, true, dst, s.ownAddr, 63, svc, (s.takeTid).1, x.sent + 1, body⟩
      let u := t.setSession dst fun y => { y with sent := y.sent + 1, last := s.timebase }
      { u.offerPdu (s.routeOf dst) (p.bytes (p.tag x.key)) with asks := s.asks ++ [⟨p.tid, dst, svc, s.timebase⟩] }
    else s
  | none => s

/-- Send an unanswered PDU with AUTH 0 (R528, R529). -/
def State.sendPlain (s : State) (dst svc : Nat) (body : List Byte) : State :=
  if s.dengonUp && decide (s.ownAddr ≠ 0) then
    let t := (s.takeTid).2
    let p : Pdu := ⟨false, false, dst, s.ownAddr, 63, svc, (s.takeTid).1, 0, body⟩
    t.offerPdu (s.routeOf dst) (p.bytes [])
  else s

/-- The key of slot `k` (14_images_and_security.md R621), as bytes; the empty list when the slot is empty, or when the key store
is locked and no block can read it (R629). -/
def State.keySlot (s : State) (k : Nat) : List Nat := if s.bit (flag Reg.SEC_STATUS 2) then [] else natsOf (s.blob (Reg.KEY k))

/-- The port codes named in BCAST_PORTS, but for `except` (R524) (log entry 30: DEDUCED). -/
def State.bcastPorts (s : State) (except : Nat) : List Nat :=
  ((List.range 9).filter fun c => (s.rdN Reg.BCAST_PORTS / 2 ^ c) % 2 = 1).filter fun c => c ≠ except && decide (1 ≤ c)

/-- Send a broadcast to address 63 under the domain key, on every port of BCAST_PORTS (R524, R530): the send counter under
K_DOM is in the always-on domain, and its mark is stored every 65 536 sends (14_images_and_security.md R625) (log entry 30: DEDUCED). -/
def State.sendBroadcast (s : State) (svc : Nat) (body : List Byte) : State :=
  if s.dengonUp && !s.authSilent && !(s.keySlot 0).isEmpty && decide (s.ownAddr ≠ 0) then
    let n := s.rdN Reg.domSend + 1
    let t := ((s.takeTid).2.wr Reg.domSend n).when (decide (n % 65536 = 0)) fun u => u.wr Reg.domStored n
    let p : Pdu := ⟨false, true, 63, s.ownAddr, 63, svc, (s.takeTid).1, n, body⟩
    forAll (s.bcastPorts 0) (fun port u => u.offerPdu port (p.bytes (p.tag (s.keySlot 0)))) t
  else s

/-- Send a request with AUTH 0 that awaits its response (R498). -/
def State.sendAsk (s : State) (dst svc : Nat) (body : List Byte) : State :=
  if s.dengonUp && decide (s.ownAddr ≠ 0) then
    let t := (s.takeTid).2
    let p : Pdu := ⟨false, false, dst, s.ownAddr, 63, svc, (s.takeTid).1, 0, body⟩
    { t.offerPdu (s.routeOf dst) (p.bytes []) with asks := s.asks ++ [⟨p.tid, dst, svc, s.timebase⟩] }
  else s

/-! ### Requests and responses (R499, R504, R535) -/

/-- A request as it is served: its source, the port it arrived on, the level it acts at, its TID and SVC, whether its AUTH is
1, whether it came to address 63, and the session it came under. -/
structure Req where
  src : Nat
  port : Nat
  level : Nat
  tid : Nat
  svc : Nat
  auth : Bool
  bcast : Bool
  under : Option Session
  deriving DecidableEq, Repr

/-- A request from host SPI or TW0 (14_images_and_security.md R626, R628). -/
def Req.near (q : Req) : Bool := decide (q.port = 5) || decide (q.port = 6)

/-- The response: ABORT, then the body; it leaves on the port ROUTE names, else the port of arrival (R499, R524, R527). A request that has itself
ended the session it came under is answered under it, as is a PROVE that is turned away (R501) (log entry 42: DEDUCED). -/
def State.respond (s : State) (q : Req) (abort : Nat) (body : List Byte) : State :=
  let t := (s.when (decide (abort ≠ 0)) fun u => u.inc32 Reg.Cnt_ABORTS).when (decide (abort = 0x0501)) fun u => u.inc32 Reg.STATE_ABORTS
  let port := if s.routeOf q.src = 0 then q.port else s.routeOf q.src
  let p : Pdu := ⟨true, false, q.src, s.ownAddr, 63, q.svc, q.tid, 0, leBytes 2 abort ++ body⟩
  if q.auth && !s.authSilent then
    if q.bcast then
      let n := s.rdN Reg.domSend + 1
      let p1 := { p with auth := true, fresh := n }
      let u := (t.wr Reg.domSend n).when (decide (n % 65536 = 0)) fun v => v.wr Reg.domStored n
      u.offerPdu port (p1.bytes (p1.tag (s.keySlot 0)))
    else
      match s.session q.src with
      | some x =>
        if x.sent = 4294967295 then t.closeSession q.src
        else
          let p1 := { p with auth := true, fresh := x.sent + 1 }
          (t.setSession q.src fun y => { y with sent := y.sent + 1, last := s.timebase }).offerPdu port (p1.bytes (p1.tag x.key))
      | none =>
        match q.under with
        | some x =>
          let p1 := { p with auth := true, fresh := x.sent + 1 }
          { t with opens := t.opens.map fun y => if y = x then { y with sent := y.sent + 1 } else y }.offerPdu port (p1.bytes (p1.tag x.key))
        | none => t.offerPdu port (p.bytes [])
  else t.offerPdu port (p.bytes [])

/-- A PDU has come whole from `src`, to the part's own address or, for `all`, to address 63: one with the part's own address is counted as a clash
(R525), and an unassigned part takes only what came to address 63 (R521) (log entry 46: DESIGN CHOICE). -/
def State.heardFrom (s : State) (src : Nat) (all : Bool) (f : State → State) : State :=
  let t := s.inc32 Reg.RX_PDUS
  if src = s.ownAddr ∧ s.ownAddr ≠ 0 then (t.inc32 Reg.ADDR_CLASH).setFld Bit.DG_CTRL_CLASH 1
  else if s.ownAddr = 0 ∧ all = false then t
  else f t

/-- A request that is turned away: the abort code alone (R499, R504). -/
def State.reject (s : State) (q : Req) (abort : Nat) : State := s.respond q abort []

end Sys2Proof.Machine
end

