-- ==== Sys2Proof/Machine/Collector.lean ====
section
/-!
DEFINITION. The fault collector (10_faults_watchdog_resets.md R407–R421): a raise, the step to severe, and the reaction
primitives it leaves to be applied on the edges that follow.
-/
namespace Sys2Proof.Machine

/-- The entries of the reaction chain that begins at entry `e` (R417, R419); a chain has at most 4. -/
def State.chain (s : State) (source : Nat) : Nat → Nat → List Reaction
  | 0, _ => []
  | n + 1, e =>
    if e = 0 then []
    else
      ⟨source, s.fld (Bit.REACT_PRIM (e - 1)), s.fld (Bit.REACT_ARG (e - 1))⟩ ::
        s.chain source n (s.fld (Bit.REACT_NEXT (e - 1)))

/-- REACTION of source `f` in effect: the entry before a commit of this very edge (R447). -/
def State.reactionOf (s : State) (f : Nat) : Nat :=
  match s.marked markReaction f with
  | some e => e.toNat
  | none => s.fld (Bit.SRC_CTRL_REACTION f)

/-- SEVERE, COUNT and the window of source `f` return to idle (R411, R412). -/
def State.srcIdle (s : State) (f : Nat) : State :=
  ((s.setFld (flag (Reg.SRC_STATUS f) 0) 0).setFld (flag (Reg.SRC_STATUS f) 1) 0).wr (Reg.COUNT f) 0

/-- Source `f` becomes severe (R411): the record, the notice, the capture trigger, and the chain of its reaction. -/
def State.severe (s : State) (f : Nat) : State :=
  let e := s.reactionOf f
  let applies := s.bit (Bit.SRC_CTRL_REACT_EN f) && decide (e ≠ 0)
  let s1 := ((s.setFld (flag (Reg.SRC_STATUS f) 0) 1).inc32 (Reg.SEVERES f)).wr (Reg.SEVERE_NS f) s.now
  let s2 := s1.notice ⟨s.timebase, 2, 0, f, e⟩
  let s3 := s2.when (decide (s.rdN Reg.TRIG_SRC = f) || s.bit Bit.CAP_CTRL_TRIG_ANY) fun t => t.capTrigger f
  let s4 := s3.when applies fun t =>
    let u := t.inc32 Reg.REACT_COUNT
    { u with reactions := u.reactions ++ u.chain f 4 e }
  if s.bit (Bit.SRC_CTRL_LATCH f) then s4 else s4.srcIdle f

/-- WINDOW_MS has passed since the window of source `f` started, with COUNT below COUNT_N (R410). -/
def State.windowOver (s : State) (f : Nat) : Bool :=
  s.bit (flag (Reg.SRC_STATUS f) 1) && s.on (Reg.WINDOW_MS f) && decide (s.rd (Reg.COUNT f) < s.fld (Bit.SRC_CTRL_COUNT_N f)) &&
    s.since (s.rd (Reg.srcWinNs f)) (s.rd (Reg.WINDOW_MS f) * 1000000)

/-- A raise of source `f` is counted (R410, R413). One that comes with the end of the window starts a new window, and a forced raise of
the same instant is the last (R447). -/
def State.raiseCount (s : State) (f : Nat) (forced : Bool) : State :=
  let runs := s.bit (flag (Reg.SRC_STATUS f) 1) && !s.windowOver f
  let c := if runs then satU 8 (s.rd (Reg.COUNT f) + 1) else 1
  let s0 := if runs then s else (s.setFld (flag (Reg.SRC_STATUS f) 1) 1).wr (Reg.srcWinNs f) s.now
  let s1 := ((s0.wr (Reg.COUNT f) c).inc32 (Reg.RAISES f)).wr (Reg.LAST_RAISE_NS f) s.now
  let s2 := s1.setBit (flag (Reg.SRC_STATUS f) 2) (forced || s1.markedNow markForced f)
  let s3 := s2.notice ⟨s.timebase, 1, if forced then 1 else 0, f, c.toNat⟩
  let s4 := if forced then s3.mark markForced f 0 else s3.stage (0x1000 + 4 * f) 32 1
  if decide ((s.fld (Bit.SRC_CTRL_COUNT_N f) : Int) ≤ c) && !s.bit (flag (Reg.SRC_STATUS f) 0) then s4.severe f else s4

/-- A write of 1 to CLEAR of source `f` (R412). -/
def State.srcClear (s : State) (f : Nat) : State :=
  let was := s.rd (Reg.COUNT f) + (if s.bit (flag (Reg.SRC_STATUS f) 1) then 256 else 0) + (if s.bit (flag (Reg.SRC_STATUS f) 0) then 512 else 0)
  (s.mark markClear f was).srcIdle f

/-- What CLEAR took from source `f` on this edge is put back, for a raise that comes with it (R447). -/
def State.srcUnclear (s : State) (f : Nat) (was : Nat) : State :=
  ((s.wr (Reg.COUNT f) (was % 256 : Nat)).setBit (flag (Reg.SRC_STATUS f) 1) (decide (256 ≤ was % 512))).setBit (flag (Reg.SRC_STATUS f) 0)
    (decide (512 ≤ was))

/-- Source `f` is raised (R410, R413). With a CLEAR of the same edge the raise acts first (R447). The collector takes no raise while the
power plane is in reset (01_architecture.md R21, R25). -/
def State.raiseAs (s : State) (f : Nat) (forced : Bool) : State :=
  if !s.ppRuns then s
  else match s.marked markClear f with
    | some was => ((s.srcUnclear f was.toNat).raiseCount f forced).srcIdle f
    | none => s.raiseCount f forced

/-- A block raises its source `f`. -/
def State.raise (s : State) (f : Nat) : State := s.raiseAs f false

end Sys2Proof.Machine
end

