-- ==== Sys2Proof/Machine/WinderOps.lean ====
section
/-!
DEFINITION. Shared operations of the winder (07_loop_engine.md R319–R323): a profile's position, velocity and
acceleration with 16 fraction bits, the start of a move, and one step of it.
-/
namespace Sys2Proof.Machine

/-- A profile's motion: position, velocity and acceleration in 1/65536 LSB. -/
structure Motion where
  pos : Int
  vel : Int
  acc : Int
  deriving DecidableEq, Repr

/-- A profile's limits, in 1/65536 LSB. -/
structure Limits where
  vmax : Int
  amax : Int
  jmax : Int
  deriving DecidableEq, Repr

/-- One step of 1 µs with the jerk held at `j` (R319). -/
def Motion.advance (m : Motion) (j : Int) : Motion :=
  { pos := m.pos + m.vel + (3 * m.acc + j) / 6, vel := m.vel + (2 * m.acc + j) / 2, acc := m.acc + j }

/-- How far a profile runs on before it can be at rest, when its velocity would still be positive with the acceleration
brought to 0, with phases of any length. -/
def restRough (v a : Int) (l : Limits) : Int :=
  let square := l.jmax * v + a * a / 2
  let root : Int := isqrt square.toNat
  let capped := l.amax < root
  let peak := if capped then l.amax else root
  let n := a + peak
  let first := (6 * l.jmax * v * n + 3 * a * n * n - n * n * n) / (6 * l.jmax * l.jmax)
  let v1 := v + (2 * a * n - n * n) / (2 * l.jmax)
  let v2 := l.amax * l.amax / (2 * l.jmax)
  let middle := if capped && decide (v2 < v1) then (v1 * v1 - v2 * v2) / (2 * l.amax) else 0
  first + middle + peak * peak * peak / (6 * l.jmax * l.jmax)

/-- The distance to rest in whole steps: `n1` of them take the acceleration to −p, `n2` hold it, and `n3` bring it to 0, where p is what makes the
velocity 0 with it; none where that breaks a limit (log entry 62: DEDUCED). -/
def restIn (v a : Int) (l : Limits) (n1 n2 n3 : Int) : Option Int :=
  let p := (2 * v + a * n1) / (n1 + 2 * n2 + n3)
  if 0 ≤ p ∧ p ≤ l.amax ∧ p ≤ l.jmax * n3 ∧ absI (a + p) ≤ l.jmax * n1 then
    some ((6 * v * n1 + n1 * n1 * (2 * a - p) + 3 * (2 * v + (a - p) * n1) * n2 - 3 * p * n2 * n2 + p * n3 * n3) / 6)
  else none

/-- The lesser of two distances, where there are two. -/
def lesser (a b : Option Int) : Option Int :=
  match a, b with
  | some x, some y => some (min x y)
  | some x, none => some x
  | none, y => y

/-- The shortest distance to rest in whole steps among the phase lengths next to those of the fastest stop, when the velocity would still be
positive with the acceleration brought to 0 (log entry 62: DEDUCED). -/
def restForward (v a : Int) (l : Limits) : Int :=
  let peak := min l.amax (isqrt (l.jmax * v + a * a / 2).toNat : Int)
  let k := ceilDiv (absI (a + peak)) l.jmax
  let m := ceilDiv peak l.jmax
  let best := fun (n1 n3 : Int) =>
    let n2 := max 0 (ceilDiv (ceilDiv (2 * v + a * n1) l.amax - n1 - n3) 2)
    lesser (restIn v a l n1 n2 n3) (restIn v a l n1 (n2 + 1) n3)
  let row := fun (n1 : Int) => lesser (best n1 m) (lesser (best n1 (m + 1)) (best n1 (max 0 (m - 1))))
  (lesser (row (max 1 k)) (lesser (row (k + 1)) (row (max 1 (k - 1))))).getD (restRough v a l)

/-- The velocity of a profile once its acceleration has been brought to 0 in whole steps, at the greatest jerk. -/
def settled (v a : Int) (l : Limits) : Int := v + a * ceilDiv (absI a) l.jmax / 2

/-- How far a profile runs on before it can be at rest (log entry 62: DEDUCED). -/
def restAfter (v a : Int) (l : Limits) : Int :=
  if 2 * v + a * max 1 (ceilDiv (absI a) l.jmax) < 0 then -restForward (-v) (-a) l else restForward v a l

/-- With jerk `j` for the next step the profile can still settle at or below VMAX and come to rest at or before `goal` (log entry 62: DEDUCED). -/
def jerkHolds (m : Motion) (goal : Int) (l : Limits) (j : Int) : Bool :=
  let n := m.advance j
  decide (settled n.vel n.acc l ≤ l.vmax) && decide (n.pos + restAfter n.vel n.acc l ≤ goal)

/-- The greatest jerk between `lo`, which holds, and `hi`, which does not, found by halving (log entry 62: DEDUCED). -/
def searchJerk (m : Motion) (goal : Int) (l : Limits) : Nat → Int → Int → Int
  | 0, lo, _ => lo
  | n + 1, lo, hi =>
    let mid := (lo + hi) / 2
    if jerkHolds m goal l mid then searchJerk m goal l n mid hi else searchJerk m goal l n lo mid

/-- The jerk of the next step toward a goal ahead: the greatest that still lets the profile stop at it. -/
def jerkToward (m : Motion) (goal : Int) (l : Limits) : Int :=
  let lo := max (-l.jmax) (-l.amax - m.acc)
  let hi := max lo (min l.jmax (l.amax - m.acc))
  if jerkHolds m goal l hi then hi
  else if jerkHolds m goal l lo then searchJerk m goal l 48 lo hi
  else lo

/-- The mirror image of a motion. -/
def Motion.mirror (m : Motion) : Motion := { pos := -m.pos, vel := -m.vel, acc := -m.acc }

/-- One step of the fastest trajectory to `goal` (R321), and whether it is the final one, which lands on the goal (log entry 62: DEDUCED). -/
def Motion.step (m : Motion) (goal : Int) (l : Limits) : Motion × Bool :=
  let rest := m.pos + restAfter m.vel m.acc l
  let back := decide (goal < rest) || (decide (goal = rest) && decide (m.vel < 0))
  let n := if back then (m.mirror.advance (jerkToward m.mirror (-goal) l)).mirror else m.advance (jerkToward m goal l)
  let near := min l.jmax (2 * l.amax)
  if decide (2 * absI (goal - n.pos) ≤ min near l.vmax) && decide (2 * absI n.vel ≤ near) && decide (2 * absI n.acc ≤ near) then
    ({ pos := goal, vel := 0, acc := 0 }, true)
  else (n, false)

/-- The motion of profile `w`. -/
def State.motion (s : State) (w : Nat) : Motion :=
  { pos := s.rd (Reg.wdPosF w), vel := s.rd (Reg.wdVelF w), acc := s.rd (Reg.wdAccF w) }

/-- Put a motion: POS, VEL and ACC read its integer parts, truncated toward zero (R319). -/
def State.setMotion (s : State) (w : Nat) (m : Motion) : State :=
  (((((s.wr (Reg.wdPosF w) m.pos).wr (Reg.wdVelF w) m.vel).wr (Reg.wdAccF w) m.acc).wr (Reg.POS w) (satI32 (m.pos.tdiv 65536))).wr
    (Reg.VEL w) (satI32 (m.vel.tdiv 65536))).wr (Reg.ACC w) (satI32 (m.acc.tdiv 65536))

/-- Profile `w` is moving. -/
def State.moving (s : State) (w : Nat) : Bool := s.bit (flag (Reg.W_STATUS w) 0)

/-- OWNER of profile `w`: 0 host, 1 rail, 2 slot. -/
abbrev ownerBits (w : Nat) : Bits := ⟨Reg.W_STATUS w, 1, 2⟩

/-- A move of profile `w` starts, or starts anew from where it is: the limits are latched (R320, R322) (log entry 61: DEDUCED). -/
def State.windTo (s : State) (w : Nat) (goal : Int) : State :=
  ((((s.wr (Reg.wdGoal w) goal).wr (Reg.wdVmaxL w) (s.rd (Reg.VMAX w))).wr (Reg.wdAmaxL w) (s.rd (Reg.AMAX w))).wr
    (Reg.wdJmaxL w) (s.rd (Reg.JMAX w))).setFld (flag (Reg.W_STATUS w) 0) 1

/-- A pre-biased start: POS takes a value, VEL and ACC become 0 (R323). -/
def State.windPreset (s : State) (w : Nat) (pos : Int) : State :=
  (s.setMotion w ⟨pos * 65536, 0, 0⟩).setFld (flag (Reg.W_STATUS w) 0) 0

/-- What the loop engine's signals show of a profile, published at each update (R310). -/
def State.windShow (s : State) (w : Nat) : State := (s.wr (Reg.wdSigPos w) (s.rd (Reg.POS w) / 65536)).wrB (Reg.wdSigMov w) (s.moving w)

/-- One step of a moving profile; the final one clears MOVING and counts the move (R321). -/
def State.windStep (s : State) (w : Nat) : State :=
  if s.moving w then
    let r := (s.motion w).step (s.rd (Reg.wdGoal w) * 65536)
      ⟨s.rd (Reg.wdVmaxL w) * 65536, s.rd (Reg.wdAmaxL w) * 65536, s.rd (Reg.wdJmaxL w) * 65536⟩
    let t := s.setMotion w r.1
    if r.2 then (t.setFld (flag (Reg.W_STATUS w) 0) 0).inc32 (Reg.MOVES w) else t
  else s

end Sys2Proof.Machine
end

