-- ==== Sys2Proof/Machine/RailOps.lean ====
section
/-!
DEFINITION. Shared operations of the converter core (02_converter_core.md): the phases of a rail, its reference and its
moves, enabling and disabling it, entering LIMIT, HICCUP and FAILED, caging a phase, and announced steps.
-/
namespace Sys2Proof.Machine

/-! ### Phases -/

/-- The phase belongs to rail `r` (R40). -/
def State.assigned (s : State) (r p : Nat) : Bool :=
  s.bit (Bit.PHASE_CTRL_ASSIGNED p) && decide (s.fld (Bit.PHASE_CTRL_RAIL p) = r)

/-- CAGED of PHASE_STATUS. -/
abbrev phCaged (p : Nat) : Bits := flag (Reg.PHASE_STATUS p) 0
/-- ACTIVE of PHASE_STATUS. -/
abbrev phActive (p : Nat) : Bits := flag (Reg.PHASE_STATUS p) 1
/-- SHED of PHASE_STATUS. -/
abbrev phShed (p : Nat) : Bits := flag (Reg.PHASE_STATUS p) 2
/-- LIMITED of PHASE_STATUS. -/
abbrev phLimited (p : Nat) : Bits := flag (Reg.PHASE_STATUS p) 3
/-- CAGE_CAUSE of PHASE_STATUS. -/
abbrev phCause (p : Nat) : Bits := ⟨Reg.PHASE_STATUS p, 4, 4⟩

/-- The assigned phases of rail `r`. -/
def State.phasesOf (s : State) (r : Nat) : List Nat := (List.range 16).filter fun p => s.assigned r p

/-- The assigned, uncaged phases of rail `r`. -/
def State.usable (s : State) (r : Nat) : List Nat := (s.phasesOf r).filter fun p => !s.bit (phCaged p)

/-- The active phases of rail `r`. -/
def State.active (s : State) (r : Nat) : List Nat := (s.usable r).filter fun p => s.bit (phActive p)

/-- RAIL_CAP_MA: the sum of ILIM_VALLEY_MA over the rail's assigned, uncaged phases (R46). -/
def State.railCap (s : State) (r : Nat) : Int :=
  (s.usable r).foldl (fun t p => t + s.rd (Reg.ILIM_VALLEY_MA p)) 0

/-- The off-time of phase `p` begins when its PWM leaves the high level (R50). -/
def State.onLeft (s : State) (p : Nat) : State := s.when (decide (s.rd (Reg.phPwm p) = 1)) fun t => t.wr (Reg.phOffNs p) (t.now + 1)

/-- The PWM output of a phase goes to the mid level: any on-time in progress ends (R43, R104). -/
def State.toMid (s : State) (p : Nat) : State :=
  (((s.onLeft p).wr (Reg.phPwm p) 0).wr (Reg.phTaps p) 0).wr (Reg.phZeroWait p) 0

/-- The PWM output of a phase goes low: any on-time in progress ends. -/
def State.toLow (s : State) (p : Nat) : State := ((s.onLeft p).wr (Reg.phPwm p) 2).wr (Reg.phTaps p) 0

/-- A turn-on of the phase waits for its valley limit no longer: the phase has been valley limited up to now (R88, R99). -/
def State.valleyOver (s : State) (p : Nat) : State :=
  if s.on (Reg.phWait p) then (s.wr (Reg.phWait p) 0).wr (Reg.rlValleyNs (s.fld (Bit.PHASE_CTRL_RAIL p))) (s.now + 1) else s

/-- No turn-on of the phase waits, for its off-time or for its valley limit. -/
def State.noTurnOn (s : State) (p : Nat) : State := (s.wr (Reg.phDue p) 0).valleyOver p

/-- An on-time in progress is cut short: what has passed of it, in taps, is compared when its rise is known (R100). -/
def State.onCut (s : State) (p : Nat) : State :=
  s.when (decide (s.rd (Reg.phPwm p) = 1)) fun t =>
    t.wr (Reg.phCmp p) (clampI 0 (max 128 (t.rd (Reg.phTaps p))) ((t.now - t.rd (Reg.phOnNs p)) * 32 / 5))

/-! ### Rail status -/

/-- STATE of a rail: 0 OFF, 1 START, 2 REG, 3 BURST, 4 LIMIT, 5 HICCUP, 6 FAILED. -/
abbrev rlState (r : Nat) : Bits := ⟨Reg.STATUS r, 0, 4⟩
/-- A rail enters a STATE (02_converter_core.md R41), which the sequencer follows (09_sequencing_and_states.md R388–R390). -/
def State.railTo (s : State) (r st : Nat) : State := (s.setFld (rlState r) st).wr Reg.seqDue 1
/-- MOVING of a rail. -/
abbrev rlMoving (r : Nat) : Bits := flag (Reg.STATUS r) 4
/-- FF_ACTIVE of a rail. -/
abbrev rlFfActive (r : Nat) : Bits := flag (Reg.STATUS r) 5
/-- PILEIN of a rail. -/
abbrev rlPilein (r : Nat) : Bits := flag (Reg.STATUS r) 6
/-- BRAKING of a rail. -/
abbrev rlBraking (r : Nat) : Bits := flag (Reg.STATUS r) 7
/-- SEL_UNUSED of a rail. -/
abbrev rlSelUnused (r : Nat) : Bits := flag (Reg.STATUS r) 8

/-- STATE of rail `r`. -/
def State.railSt (s : State) (r : Nat) : Nat := s.fld (rlState r)

/-- The rail switches: START, REG, BURST or LIMIT. -/
def State.switching (s : State) (r : Nat) : Bool := decide (1 ≤ s.railSt r) && decide (s.railSt r ≤ 4)

/-! ### Reference -/

/-- The reference code of a voltage at the output: round(mv × SENSE_GAIN / 4000) (R55). -/
def State.refCode (s : State) (r : Nat) (mv : Int) : Int := roundDiv (mv * s.rd (Reg.SENSE_GAIN r)) 4000

/-- The winder profile of rail `r`. -/
def State.profile (s : State) (r : Nat) : Nat := s.rdN (Reg.SLEW_PROFILE r)

/-- The offset of an announcement at timebase `t`, in nanovolts: linear over its span (R83). -/
def Announcement.offset (a : Announcement) (t : Nat) : Int :=
  if a.start + a.spanNs ≤ t then a.toNv
  else a.fromNv + (a.toNv - a.fromNv) * ((t - a.start : Nat) : Int) / (a.spanNs : Int)

/-- The reference offset of a rail in nanovolts: the sum of its announcements' offsets and of the loop engine's, which is in
DAC codes (07_loop_engine.md R312), clamped at 2.0 % of the present REF_MV (R46, R84) (log entry 70: DEDUCED). -/
def State.refOffset (s : State) (r : Nat) : Int :=
  let loop := s.rd (Reg.act (16 + r)) * 4000000000 / s.rd (Reg.SENSE_GAIN r)
  let sum := (s.anns.filter fun a => a.rail = r).foldl (fun t a => t + a.offset s.timebase) loop
  let lim := s.rd (Reg.REF_MV r) * 20000
  clampI (-lim) lim sum

/-- The code of a reference DAC update: the winder's output with the reference offset (R84, R87) and the share trim
(06_tally_and_sharing.md R285), rounded to the nearest of 4096 codes (R62) (log entry 70: DEDUCED). -/
def State.dacCode (s : State) (r : Nat) : Int :=
  let nv := s.refOffset r + s.rd (Reg.gpTrimFrac r) / 1000
  clampI 0 4095 (roundDiv (s.rd (Reg.wdPosF (s.profile r)) * 4000000000 + nv * s.rd (Reg.SENSE_GAIN r) * 4294967296) (4000000000 * 4294967296))

/-- REF_MV follows the present DAC code (R46). -/
def State.showRef (s : State) (r : Nat) : State :=
  s.wr (Reg.REF_MV r) (clampI 0 65535 (roundDiv (s.rd (Reg.rlDac r) * 4000) (s.rd (Reg.SENSE_GAIN r))))

/-- A reference DAC update (R46, R62; 07_loop_engine.md R313) (log entry 70: DEDUCED). -/
def State.refresh (s : State) (r : Nat) : State := (s.wr (Reg.rlDac r) (s.dacCode r)).showRef r

/-- `mv` at the output is below the rail's reference with `twiceMille` two-thousandths of it added. -/
def State.belowRef (s : State) (r : Nat) (mv twiceMille : Int) : Bool :=
  decide (mv * s.rd (Reg.SENSE_GAIN r) * 2000 < s.rd (Reg.rlDac r) * 4000 * (2000 + twiceMille))

/-- `mv` at the output is above it. -/
def State.aboveRef (s : State) (r : Nat) (mv twiceMille : Int) : Bool :=
  decide (s.rd (Reg.rlDac r) * 4000 * (2000 + twiceMille) < mv * s.rd (Reg.SENSE_GAIN r) * 2000)

/-- The margin of rail `r`, in thousandths (09_sequencing_and_states.md R403). -/
def State.marginOf (s : State) (r : Nat) : Int := s.rd (Reg.MARGIN r)

/-- The stored target with the margin applied (R403), in mV. -/
def State.goalMv (s : State) (r : Nat) : Int := roundDiv (s.rd (Reg.rlTarget r) * (1000 + s.marginOf r)) 1000

/-- The rail leaves BURST for REG, if it is in BURST (R76): the burst's remaining on-times do not follow. -/
def State.burstEnds (s : State) (r : Nat) : State :=
  if s.railSt r = 3 then
    let t := (s.railTo r 2).wr (Reg.rlBurstLeft r) 0
    forAll (t.usable r) (fun p u => if u.rd (Reg.phDue p) = 3 then u.wr (Reg.phDue p) 0 else u) t
  else s

/-- A winder move of the reference starts toward `mv` at the output (R62, R63): BURST ends, MOVING sets. -/
def State.moveRef (s : State) (r : Nat) (mv : Int) : State :=
  let t := (s.windTo (s.profile r) (s.refCode r mv * 65536)).wr (Reg.rlSoft r) 0
  (t.setFld (rlMoving r) 1).burstEnds r

/-- A rail stops following its profile where it stands. -/
def State.stopMove (s : State) (r : Nat) : State :=
  let w := s.profile r
  let t := ((s.setFld (rlMoving r) 0).wr (Reg.rlSoft r) 0).wr (Reg.rlToZero r) 0
  if s.bit (rlMoving r) then (t.setMotion w ⟨s.rd (Reg.wdPosF w), 0, 0⟩).setFld (flag (Reg.W_STATUS w) 0) 0 else t

/-- The target of a rail changes: stored in OFF, HICCUP and FAILED, else a move starts (R61, R62, R68). A rail on a
ramped disable keeps moving to 0. -/
def State.newTarget (s : State) (r : Nat) (mv : Int) : State :=
  let t := s.wr (Reg.rlTarget r) mv
  if t.switching r && !t.on (Reg.rlToZero r) then t.moveRef r (t.goalMv r) else t

/-- The set-point index in use: SOFT_SEL or the filtered pins (R58, R59). -/
def State.selIndex (s : State) (r : Nat) : Nat :=
  if s.bit (Bit.RAIL_CTRL_SOFT_VSEL r) then s.fld (Bit.RAIL_CTRL_SOFT_SEL r) else s.rdN (Reg.VSEL_PINS r)

/-- Take set-point index `i`: an unused entry keeps the present target and sets SEL_UNUSED (R60, R61). -/
def State.selectPoint (s : State) (r i : Nat) : State :=
  let t := s.wr (Reg.rlSelIdx r) i
  let mv := t.rd (Reg.SETPOINT r i)
  if mv = 0 then t.setFld (rlSelUnused r) 1 else (t.setFld (rlSelUnused r) 0).newTarget r mv

/-! ### Announcements -/

/-- FF_ACTIVE of a rail follows the announcements it pre-positions for, or decays. -/
def State.ffActive (s : State) (r : Nat) : State := s.setBit (rlFfActive r) (s.anns.any fun a => a.rail = r && a.prep)

/-- Remove announcements; ANNOUNCED of the part's own contexts clears with theirs. -/
def State.removeAnns (s : State) (gone : Announcement → Bool) : State :=
  let out := s.anns.filter gone
  let t := { s with anns := s.anns.filter fun a => !gone a }
  forAll out (fun a u => if a.owner = 64 then
    u.setBit (flag (Reg.CTX_STATUS a.ctx) 19) (u.anns.any fun b => b.owner = 64 && b.ctx = a.ctx && b.prep) else u) t

/-- A rail drops every announcement in force on it (R705). -/
def State.dropAnns (s : State) (r : Nat) : State :=
  let t := (s.removeAnns fun a => a.rail = r).wr (Reg.rlNoShed r) 0
  (forAll (t.phasesOf r) (fun p u => u.wr (Reg.phPrebias p) 0) t).ffActive r

/-- A phase of the rail is shed. -/
def State.someShed (s : State) (r : Nat) : Bool := (s.usable r).any fun p => s.bit (phShed p)

/-- The rotated ORDER of a phase (R73): the offset counts while at least one phase is shed. -/
def State.rotOrder (s : State) (r p : Nat) : Nat :=
  (s.fld (Bit.PHASE_CTRL_ORDER p) + 16 - (if s.someShed r then s.rdN (Reg.rlShedOfs r) % 16 else 0)) % 16

/-- The element of a list for which `key` is least. -/
def leastBy (key : Nat → Nat) : List Nat → Option Nat
  | [] => none
  | p :: t =>
    match leastBy key t with
    | none => some p
    | some q => if key q < key p then some q else some p

/-- Make the phase active. -/
def State.activate (s : State) (p : Nat) : State := (s.setFld (phActive p) 1).setFld (phShed p) 0

/-- A phase shed on this very edge is not shed after all: the add wins (R108). -/
def State.shedUndo (s : State) (r : Nat) : State :=
  match s.marked markShed r with
  | some v =>
    let p := v.toNat % 16
    if s.bit (phShed p) then
      let t := (s.activate p).when (decide (v.toNat / 16 = 2)) fun u => u.wr (Reg.phPwm p) 2
      t.wr (Reg.rlDwell r) (s.now + s.rd Reg.SHED_DWELL_US * 1000)
    else s
  | none => s

/-- Add the phase with the lowest rotated ORDER among those not active, if one remains (R72, R73). A phase that a commit has newly assigned
to a switching rail is neither active nor shed: it counts here among those that remain (log entry 109: DESIGN CHOICE). -/
def State.addPhase (s : State) (r : Nat) : State :=
  match leastBy (s.rotOrder r) ((s.usable r).filter fun p => !s.bit (phActive p)) with
  | some p => (s.activate p).wr (Reg.rlDwell r) (s.now + s.rd Reg.SHED_DWELL_US * 1000)
  | none => s

/-- Raise the number of active phases to at least `n`, as far as phases remain. -/
def State.raiseActive (s : State) (r : Nat) : Nat → State
  | 0 => s
  | n + 1 =>
    let t := s.raiseActive r n
    if (t.active r).length < n + 1 then t.addPhase r else t

/-- The number of phases that the steps not yet opened ask for (R83, R86): the smallest `n` with (IOUT_MA + ΔI) / `n` ≤ ADD_MA, limited
to the assigned, uncaged phases. -/
def State.annNeed (s : State) (r : Nat) : Nat :=
  let step := (s.anns.filter fun a => a.rail = r && !a.opened).foldl (fun t a => t + a.stepMa) 0
  max 1 (min (ceilDiv (s.rd (Reg.IOUT_MA r) + step) (s.rd (Reg.ADD_MA r))).toNat (s.usable r).length)

/-- A rail can pre-position (R82). -/
def State.canPreposition (s : State) (r : Nat) : Bool :=
  s.switching r && s.bit (Bit.RAIL_CTRL_FF_EN r) && !s.on (Reg.rlToZero r)

/-- An announcement reaches rail `r` (R76, R82, R83, R85): the rail leaves BURST and pre-positions, or counts FF_SKIPPED; either way it
stands among the announcements until its gate opens. -/
def State.announce (s : State) (r owner ctx annId : Nat) (stepMa : Int) (spanNs : Nat) : State :=
  let prep := s.canPreposition r
  let t := (s.shedUndo r).burstEnds r
  if prep then
    let a : Announcement := ⟨r, owner, ctx, annId, stepMa, true, 1, false, 0, stepMa * s.rd (Reg.FF_RES_UOHM r), s.timebase, spanNs⟩
    let n := ({ t with anns := t.anns ++ [a] }).annNeed r
    let u := ({ t with anns := t.anns ++ [{ a with phases := n }] }).raiseActive r n
    (u.when (decide (owner = 64)) fun v => v.setFld (flag (Reg.CTX_STATUS ctx) 19) 1).ffActive r
  else
    let a : Announcement := ⟨r, owner, ctx, annId, 0, false, 1, false, 0, 0, s.timebase, spanNs⟩
    ({ t with anns := t.anns ++ [a] }).inc16 (Reg.FF_SKIPPED r)

/-- The on-time pre-bias of a phase for a step, in taps: IND_NH × (ΔI / n) / (vin − vout) ns; none when vin is at or below
vout (R83) (log entry 22: DEDUCED). -/
def State.prebias (s : State) (r p : Nat) (stepMa : Int) (n : Nat) : Int :=
  let dv := s.rd (Reg.rlVin r) - s.rd (Reg.VOUT_MV r)
  if dv ≤ 0 then 0 else roundDiv (s.rd (Reg.IND_NH p) * stepMa * 32) (5 * max 1 (n : Int) * dv)

/-- Each announcement that `hit` names turns to its decay: over FF_DECAY_US to 0 from its present offset (R83, R124); one that the rail
did not pre-position for ends. -/
def State.decayAnns (s : State) (r : Nat) (hit : Announcement → Bool) : State :=
  let turn := fun (a : Announcement) =>
    { a with opened := true, fromNv := a.offset s.timebase, toNv := 0, start := s.timebase, spanNs := s.rdN (Reg.FF_DECAY_US r) * 1000 }
  { s with anns := (s.anns.filter fun a => !(hit a && !a.opened && !a.prep)).map fun a => if hit a && !a.opened then turn a else a }

/-- The no-shed interval of R85 and R124 ends SHED_DWELL_US from now. -/
def State.noShed (s : State) (r : Nat) : State :=
  s.wr (Reg.rlNoShed r) (max (s.rd (Reg.rlNoShed r)) (s.now + s.rd Reg.SHED_DWELL_US * 1000))

/-- An announcement of the rail that `hit` names waits for its gate. -/
def State.annWaits (s : State) (r : Nat) (hit : Announcement → Bool) : Bool := s.anns.any fun a => a.rail = r && hit a && !a.opened

/-- The gate of an announced step opens: pre-bias for the active phases, the offset decays, and the no-shed interval ends
SHED_DWELL_US later (R83, R85, R86); a dropped announcement is not taken up again (R705). -/
def State.annOpen (s : State) (r : Nat) (hit : Announcement → Bool) : State :=
  if s.annWaits r hit then
    let l := s.anns.filter fun a => a.rail = r && hit a && !a.opened
    let t := forAll l (fun a x => forAll (x.active r) (fun p u =>
      u.wr (Reg.phPrebias p) (u.rd (Reg.phPrebias p) + u.prebias r p a.stepMa a.phases)) x) s
    (t.decayAnns r fun a => a.rail = r && hit a).noShed r
  else s

/-- The gate of an announced step that has just opened stays closed after all (03_load_channels.md R155): the step waits again, with
no pre-bias of it. -/
def State.annUnopen (s : State) (r : Nat) (hit : Announcement → Bool) : State :=
  let back := fun (a : Announcement) => decide (a.rail = r) && hit a && a.opened && decide (a.start = s.timebase)
  let t := forAll (s.anns.filter back) (fun a x => forAll (x.active r) (fun p u =>
    u.wr (Reg.phPrebias p) (max 0 (u.rd (Reg.phPrebias p) - u.prebias r p a.stepMa a.phases))) x) s
  { t with anns := t.anns.map fun a => if back a then { a with opened := false, toNv := a.fromNv, spanNs := 0 } else a }

/-- An announced step is withdrawn before its gate opens: its offset decays, with no pre-bias (R124). -/
def State.annWithdraw (s : State) (r : Nat) (hit : Announcement → Bool) : State :=
  if s.annWaits r hit then (s.decayAnns r fun a => a.rail = r && hit a).noShed r else s

/-- Shedding and burst are held back on rail `r`: a move, or the no-shed interval of an announcement (R64, R85). -/
def State.lightHeld (s : State) (r : Nat) : Bool :=
  s.bit (rlMoving r) || s.on (Reg.rlSoft r) || (s.anns.any fun a => a.rail = r && !a.opened) || decide (s.now < s.rd (Reg.rlNoShed r))

/-! ### Share-link messages of a rail (13_links.md R572–R579) -/

/-- The part may originate share-link messages: it runs, is enabled and has a position (R575, R583). -/
def State.wsTalks (s : State) : Bool :=
  s.bit (Bit.WS_CTRL_ENABLE) && !s.bit (flag Reg.WS_STATUS 3)

/-- A message: TYPE, ORIG, ADDR, LEN, payload and CRC (R572). -/
def wsMessage (type orig addr : Nat) (payload : List Byte) : List Byte :=
  let b := leBytes 1 type ++ leBytes 1 orig ++ leBytes 1 addr ++ leBytes 1 payload.length ++ payload
  b ++ leBytes 2 (crc16 b)

/-- The place of a message's type in the order in which messages leave OUT (R573); a reserved type goes last (log entry 101: DEDUCED). -/
def wsRank (b : List Byte) : Nat :=
  match ofLe (b.take 1) with
  | 0x66 => 0
  | 0x44 => 1
  | 0x55 => 2
  | 0x22 => 3
  | 0x11 => 4
  | _ => 5

/-- The ns a message takes on the link, of which SOF and EOF are no part here (R571, R572). -/
def wsSpan (b : List Byte) : Nat := (b.length + 2) * 40

/-- A message leaves `late` ns later: the wait joins the CORR of a SYNC (R576, R586). -/
def wsLate (late : Nat) (b : List Byte) : List Byte :=
  if late = 0 ∨ wsRank b ≠ 4 ∨ b.length ≠ 18 then b
  else wsMessage 0x11 (ofLe (slice 1 1 b)) (ofLe (slice 2 1 b)) (slice 4 8 b ++ leBytes 4 ((ofLe (slice 12 4 b) + late) % 4294967296))

/-- The instants at which the messages that wait begin, once OUT is free (R573). -/
def wsRetime : Nat → List (Nat × List Byte) → List (Nat × List Byte)
  | _, [] => []
  | free, x :: l =>
    let at_ := max free x.1
    (at_, wsLate (at_ - x.1) x.2) :: wsRetime (at_ + wsSpan x.2) l

/-- A message among those that wait: behind those that go before it (R573). -/
def wsInsert (x : Nat × List Byte) : List (Nat × List Byte) → List (Nat × List Byte)
  | [] => [x]
  | y :: l => if wsRank x.2 < wsRank y.2 then x :: y :: l else y :: wsInsert x l

/-- The share-link messages that have not begun by the timebase `now`. -/
def wsWaiting (now : Nat) : List Out → List (Nat × List Byte)
  | [] => []
  | .share at_ b :: l => if now ≤ at_ then (at_, b) :: wsWaiting now l else wsWaiting now l
  | _ :: l => wsWaiting now l

/-- What else has been sent. -/
def wsBegun (now : Nat) (l : List Out) : List Out :=
  l.filter fun o =>
    match o with
    | .share at_ _ => decide (at_ < now)
    | _ => true

/-- When OUT has sent the messages that have begun. -/
def wsFree (l : List Out) : Nat :=
  l.foldl (fun t o => match o with
    | .share at_ b => max t (at_ + wsSpan b)
    | _ => t) 0

/-- A message is ready on OUT: it is sent when OUT is free, in the order of R573; none in progress is cut (log entry 101: DEDUCED). -/
def State.wsOut (s : State) (b : List Byte) : State :=
  let begun := wsBegun s.timebase s.outbox
  let l := wsRetime (wsFree begun) (wsInsert (s.timebase, b) (wsWaiting s.timebase s.outbox))
  { s with outbox := begun ++ l.map fun x => Out.share x.1 x.2 }

/-- A message received or originated, with LEN bytes of payload, joins the window's count of symbols (R572, R581) (log entry 101: DEDUCED). -/
def State.wsCount (s : State) (len : Nat) : State := s.add 16 Reg.wsSymbols ((8 + len : Nat) : Int)

/-- Originate a share-link message, with the part's POSITION and address and HOPS 0 (R572). -/
def State.wsSend (s : State) (type : Nat) (payload : List Byte) : State :=
  if s.wsTalks then (s.wsOut (wsMessage type (s.fld ⟨Reg.WS_STATUS, 0, 3⟩) (s.rdN Reg.DOMAIN_ADDR) payload)).wsCount payload.length else s

/-- The link stops once its FAULT messages have gone: what else waits is lost (R583). -/
def State.wsStop (s : State) : State :=
  { s with outbox := wsBegun s.timebase s.outbox ++ ((wsWaiting s.timebase s.outbox).filter fun x => wsRank x.2 = 0).map fun x => Out.share x.1 x.2 }

/-- GROUP_ID of rail `r` as a byte. -/
def State.groupByte (s : State) (r : Nat) : Byte := BitVec.ofNat 8 (s.fld (Bit.GROUP_CTRL_GROUP_ID r))

/-- The rail is part of a share group. -/
def State.shared (s : State) (r : Nat) : Bool := s.bit (Bit.RAIL_CTRL_SHARED r)

/-- Send FAULT for a SHARED rail (R579). -/
def State.wsFault (s : State) (r kind : Nat) : State :=
  if s.shared r then s.wsSend 0x66 [s.groupByte r, BitVec.ofNat 8 kind] else s

/-! ### Rail state changes -/

/-- A rail leaves regulation for `st`: outputs mid, no phase takes part, moves and announcements end (R43, R67, R705); an on-time that ends
so is still compared (R100). -/
def State.railQuiet (s : State) (r st : Nat) : State :=
  let t := (forAll (s.phasesOf r) (fun p u => (((u.onCut p).toMid p).setFld (phActive p) 0).noTurnOn p) s).wr (Reg.rlClampRun r) 0
  let u := ((((t.stopMove r).dropAnns r).setFld (rlBraking r) 0).setFld (rlPilein r) 0).wr (Reg.rlPileArmed r) 1
  (((u.wr (Reg.rlBurstLeft r) 0).wr (Reg.rlLimitHold r) 0).wr (Reg.rlOvlLim r) 0).railTo r st

/-- The rail enters OFF (R67). -/
def State.railOff (s : State) (r : Nat) : State := s.railQuiet r 0

/-- The rail enters FAILED: its source is raised, and a SHARED rail sends FAULT (R106; 13_links.md R579). -/
def State.railFailed (s : State) (r : Nat) : State :=
  if s.railSt r = 6 then s else ((s.railQuiet r 6).raise (60 + r)).wsFault r 2

/-- The rail enters HICCUP: HICCUP_COUNT and the hiccup source (R90); `follows` when it follows a group FAULT, which is
not passed on (13_links.md R579). -/
def State.railHiccup (s : State) (r : Nat) (follows : Bool) : State :=
  let t := (forAll (s.phasesOf r) (fun p u => u.wr (Reg.phValley p) 0) (s.railQuiet r 5)).mark markHiccup r 0
  let u := ((t.inc32 (Reg.HICCUP_COUNT r)).wr (Reg.rlStNs r) t.now).raise (48 + r)
  if follows then u else u.wsFault r 1

/-- The slow-overload average is above the limit (R95) (log entry 111: DESIGN CHOICE). -/
def State.avgAbove (s : State) (r : Nat) : Bool := s.on (Reg.OVL_LIMIT_MA r) && decide (s.rd (Reg.OVL_LIMIT_MA r) * 65536 < s.rd (Reg.rlAvg r))

/-- The conditions that put a rail in LIMIT (R97): its average is above OVL_LIMIT_MA, or a cage left IOUT_MA above
RAIL_CAP_MA (log entry 73: DEDUCED). -/
def State.limitDue (s : State) (r : Nat) : Bool :=
  s.avgAbove r || (s.on (Reg.rlCageLim r) && decide (s.railCap r < s.rd (Reg.IOUT_MA r)))

/-- The LIMIT of a rail is one of slow overload from now on: every usable phase is active (R96). -/
def State.overloaded (s : State) (r : Nat) : State := (forAll (s.usable r) (fun p v => v.activate p) s).wr (Reg.rlOvlLim r) 1

/-- The rail is in LIMIT: its source is raised, hiccup counting is suspended, and after a slow overload every usable phase
is active (R96–R98). -/
def State.inLimit (s : State) (r : Nat) : State :=
  let t := (((s.burstEnds r).railTo r 4).wr (Reg.rlLimitHold r) 1).wr (Reg.rlStNs r) s.now
  (t.when (s.avgAbove r) fun u => u.overloaded r).raise (56 + r)

/-- LIMIT from REG or BURST at once; START is judged at its end; other states do not enter LIMIT (R97). -/
def State.enterLimit (s : State) (r : Nat) : State :=
  if s.railSt r = 2 || s.railSt r = 3 then s.inLimit r else s

/-- START ends: REG, or LIMIT when a condition of R97 still holds (R66, R97) (log entry 73: DEDUCED). -/
def State.startEnds (s : State) (r : Nat) : State :=
  if s.limitDue r then s.inLimit r else s.railTo r 2

/-- The rail enters START with its assigned, uncaged phases active, and its reference at the measured output (R66, R91). -/
def State.railStart (s : State) (r : Nat) : State :=
  let t := forAll (s.usable r) (fun p u => (u.activate p).wr (Reg.phValley p) 0) s
  let u := (t.railTo r 1).wr (Reg.rlToZero r) 0
  (u.windPreset (u.profile r) (u.refCode r (u.rd (Reg.VOUT_MV r)) * 65536)).refresh r

/-- The converter refuses an enable of rail `r`: no usable phase, a RAIL_OFF block, no valid input voltage yet (R42, R52), or the rail
stays FAILED until a reset, whatever phases a commit has given it since (R47) (log entry 71: DEDUCED). -/
def State.enableRefused (s : State) (r : Nat) : Bool :=
  (s.usable r).isEmpty || s.on (Reg.rlOffBlock r) || !s.on (Reg.rlVinSeen r) || decide (s.railSt r = 6)

/-- An enable from the sequencer that is not refused (R47, R66, R67): in HICCUP it waits for the soft retry. -/
def State.railEnable (s : State) (r : Nat) : State :=
  if s.railSt r = 5 ∨ s.railSt r = 6 then s
  else
    let t := s.railStart r
    t.moveRef r (t.goalMv r)

/-- A disable from the sequencer (R67): FAILED stays FAILED, HICCUP and an immediate disable enter OFF at once, a ramped
one moves the reference to 0. -/
def State.railDisable (s : State) (r : Nat) (ramped : Bool) : State :=
  match s.railSt r with
  | 0 => s
  | 6 => s
  | 5 => s.railOff r
  | _ => if ramped then (s.moveRef r 0).wr (Reg.rlToZero r) 1 else s.railOff r

/-- The soft retry of R91: START, the reference rising from the measured output at setpoint / SOFT_RETRY_US. -/
def State.softRetry (s : State) (r : Nat) : State :=
  let t := s.railStart r
  let up := t.refCode r (t.goalMv r) * 65536 * 65536
  (t.wr (Reg.rlSoft r) 1).wr (Reg.rlSoftSlope r) (max 1 (up / max 1 (t.rd (Reg.SOFT_RETRY_US r))))

/-- One microsecond of a soft retry: the reference rises by its slope, and START ends when it reaches the target. -/
def State.softStep (s : State) (r : Nat) : State :=
  if s.on (Reg.rlSoft r) && decide (s.railSt r = 1) then
    let w := s.profile r
    let goal := s.refCode r (s.goalMv r) * 65536 * 65536
    let pos := s.rd (Reg.wdPosF w) + s.rd (Reg.rlSoftSlope r)
    if goal ≤ pos then (((s.setMotion w ⟨goal, 0, 0⟩).wr (Reg.rlSoft r) 0).refresh r).startEnds r
    else (s.setMotion w ⟨pos, 0, 0⟩).refresh r
  else s

/-- The rail's move has ended (R65–R67): MOVING clears, shedding may resume SHED_DWELL_US later; a move to 0 mV ends in OFF,
and START ends. -/
def State.moveEnds (s : State) (r : Nat) : State :=
  let t := (s.setFld (rlMoving r) 0).wr (Reg.rlNoShed r) (max (s.rd (Reg.rlNoShed r)) (s.now + s.rd Reg.SHED_DWELL_US * 1000))
  if s.on (Reg.rlToZero r) then t.railOff r
  else if s.railSt r = 1 then t.startEnds r
  else t

/-- Hiccup counting is suspended on rail `r` (R98); a valley-limited cycle on the edge of a cage that makes the rail enter LIMIT counts
(R108). -/
def State.countHeld (s : State) (r : Nat) : Bool :=
  decide (s.railSt r = 4) && s.on (Reg.rlLimitHold r) && (s.marked markCageLimit r).isNone

/-- A phase of the rail has completed HICCUP_N consecutive valley-limited cycles, and they count (R89, R98). -/
def State.hiccupDue (s : State) (r : Nat) : Bool :=
  s.switching r && !s.countHeld r && (s.usable r).any fun p => decide (s.rd (Reg.HICCUP_N r) ≤ s.rd (Reg.phValley p))

/-- Cage phase `p` (R103–R106): a caged phase is left as it is; the rail may fail or enter LIMIT, but does not where it is about to enter
HICCUP (R108). -/
def State.cagePhase (s : State) (p cause : Nat) : State :=
  if s.bit (phCaged p) then s
  else
    let r := s.fld (Bit.PHASE_CTRL_RAIL p)
    let due := s.bit (Bit.PHASE_CTRL_ASSIGNED p) && s.hiccupDue r
    let t := ((((s.setFld (phCause p) cause).setFld (phCaged p) 1).setFld (phActive p) 0).setFld (phShed p) 0).toMid p
    let u := (((t.wr (Reg.phCmp p) 0).wr (Reg.phOpenRun p) 0).wr (Reg.phValley p) 0).noTurnOn p
    if !u.bit (Bit.PHASE_CTRL_ASSIGNED p) then u
    else
      let m := u.mark markCagePhase p 1
      let v := if due then m.mark markCage r 1 else m
      if (v.usable r).isEmpty then v.railFailed r
      else if v.railCap r < v.rd (Reg.IOUT_MA r) then
        let w := v.wr (Reg.rlCageLim r) 1
        if due then w
        else if w.railSt r = 2 ∨ w.railSt r = 3 then (w.enterLimit r).mark markCageLimit r 0
        else w
      else v

/-- A commit takes phase `p` from its rail or to another: it stops switching and takes no part (R40, R43). A rail that a commit leaves
without a phase keeps its state (log entry 109: DESIGN CHOICE). -/
def State.phaseLeaves (s : State) (p : Nat) : State :=
  ((((((s.toMid p).wr (Reg.phCmp p) 0).setFld (phActive p) 0).setFld (phShed p) 0).noTurnOn p).wr (Reg.phValley p) 0).wr (Reg.phPrebias p) 0

/-- Rail `r`, which switches, follows another profile from now on: that one goes on from the motion of the former (R63) (log entry 70:
DEDUCED). -/
def State.profileMoved (s old : State) (r : Nat) : State :=
  let a := old.profile r
  let b := s.profile r
  if a = b ∨ s.switching r = false then s
  else
    let t := (s.setMotion b (s.motion a)).setBit (flag (Reg.W_STATUS b) 0) false
    let u := if s.bit (rlMoving r) && !s.on (Reg.rlSoft r) then t.windTo b (s.rd (Reg.wdGoal a)) else t
    (u.setMotion a ⟨s.rd (Reg.wdPosF a), 0, 0⟩).setBit (flag (Reg.W_STATUS a) 0) false

/-! ### On-times -/

/-- The nominal on-time in taps (R51, R52): the upper limit when the input voltage is at or below the reference (log entry 22: DEDUCED). -/
def State.nominalTaps (s : State) (r : Nat) (upper : Int) : Int :=
  let vin := s.rd (Reg.rlVin r)
  let ref := s.rd (Reg.REF_MV r)
  if vin ≤ ref then upper else roundDiv (6400000 * ref) (vin * s.rd (Reg.FSW_KHZ r))

/-- The upper limit of an on-time: the lesser of 65 535 taps and the per-phase period less 80 ns (R54) (log entry 22: DEDUCED). -/
def State.upperTaps (s : State) (r : Nat) : Int := min 65535 (6400000 / s.rd (Reg.FSW_KHZ r) - 512)

/-- The on-time delivered to phase `p` (R51–R54, R83): nominal times the frequency-lock factor, plus TON_TRIM, plus the
pre-bias, which is capped at PREBIAS_MAX_PCT of the nominal. -/
def State.onTaps (s : State) (r p : Nat) : Int :=
  let upper := s.upperTaps r
  let nominal := s.nominalTaps r upper
  let locked := roundDiv (nominal * s.rd (Reg.rlLock r)) 1000000
  let extra := min (s.rd (Reg.phPrebias p)) (nominal * s.rd (Reg.PREBIAS_MAX_PCT r) / 100)
  clampI 128 upper (locked + s.rd (Reg.TON_TRIM p) + extra)

/-- Phase `p` starts an on-time: the PWM goes high, the pre-bias is spent, and a turn-on that did not wait clears the
valley-limited run (R48, R83, R88); in BURST it is one of the burst's (R75). -/
def State.startOn (s : State) (r p : Nat) : State :=
  let t := ((s.wr (Reg.phTaps p) (s.onTaps r p)).wr (Reg.phPwm p) 1).wr (Reg.phPrebias p) 0
  let u := (t.wr (Reg.phOnNs p) s.now).wr (Reg.rlBurstLeft r) (max 0 (s.rd (Reg.rlBurstLeft r) - 1))
  if s.on (Reg.phWait p) then (u.noTurnOn p).wr (Reg.phCmp p) 0
  else (((u.noTurnOn p).wr (Reg.phCmp p) 0).setFld (phLimited p) 0).wr (Reg.phValley p) 0

/-- The active phase that fires next: the next ORDER above the last one fired, wrapping (R48). -/
def State.nextPhase (s : State) (r : Nat) : Option Nat :=
  leastBy (fun p => (s.fld (Bit.PHASE_CTRL_ORDER p) + 16 - s.rdN (Reg.rlLastOrder r)) % 16) (s.active r)

/-- Phase `p` is within its minimum off-time (R50). -/
def State.minOff (s : State) (p : Nat) : Bool := s.on (Reg.phOffNs p) && !s.since (s.rd (Reg.phOffNs p) - 1) 80

/-- A turn-on of phase `p` waits for its valley limit: the cycle counts, once (R88, R89, R98, R99). -/
def State.valleyWait (s : State) (r p : Nat) : State :=
  let t := s.wr (Reg.rlValleyNs r) (s.now + 1)
  if s.on (Reg.phWait p) then t
  else
    let u := (t.wr (Reg.phWait p) 1).setFld (phLimited p) 1
    if s.countHeld r then u else u.add 7 (Reg.phValley p) 1

/-- An on-time within the limits of R54 ends an episode of the clamp source. -/
def State.clampFree (s : State) (r p : Nat) : State :=
  if decide (128 < s.onTaps r p) && decide (s.onTaps r p < s.upperTaps r) then s.wr (Reg.rlClampRun r) 0 else s

/-- The offset in ns of a trigger of phase `p` at the present timebase from the nearest of its slot instants: GROUP_SLOT × (10⁶ / FSW_KHZ) /
N_SLOTS ns within the group period (06_tally_and_sharing.md R284). -/
def State.slotErr (s : State) (r p : Nat) : Int :=
  let f := s.rd (Reg.FSW_KHZ r)
  let x := s.now * f - s.rd (Reg.GROUP_SLOT p) * 1000000 / s.rd (Reg.N_SLOTS r)
  ((x + 500000) % 1000000 - 500000) / f

/-- The lock of a SHARED rail takes note of a trigger; a part left out of the group locks no phase (06_tally_and_sharing.md R284, R289). How far
it draws the next ones the spec leaves to the frequency lock, whose factor is a free value (log entry 72). -/
def State.slotNote (s : State) (r p : Nat) : State :=
  s.when (s.shared r && !s.on (Reg.gpClash r)) fun t => t.wr (Reg.phSlotErr p) (t.slotErr r p)

/-- The turn-on that waits at phase `p` of rail `r` takes place once the off-time is over, the voltage is below the overshoot threshold and
the current below the valley limit (R48, R50, R77, R80, R81, R88); but for a pile-in's it sets the place in the firing order (R78) (log
entry 71: DEDUCED). -/
def State.turnOn (s : State) (r p : Nat) : State :=
  if s.rd (Reg.phDue p) = 0 ∨ s.rd (Reg.phPwm p) = 1 ∨ s.minOff p = true ∨ s.bit (rlBraking r) = true ∨ s.on (Reg.rlAboveOvs r) = true then s
  else if s.on (Reg.phAbove p) then s.valleyWait r p
  else
    let t := ((s.clampFree r p).startOn r p).slotNote r p
    if s.rd (Reg.phDue p) = 2 then t else t.wr (Reg.rlLastOrder r) ((s.fld (Bit.PHASE_CTRL_ORDER p) + 1 : Nat) : Int)

/-- The turn-ons that wait on rail `r` and can take place (log entry 71: DEDUCED). -/
def State.turnOns (s : State) (r : Nat) : State := forAll (s.active r) (fun p t => t.turnOn r p) s

/-- What the passing of time alone brings about in the converter core: turn-ons at the end of a minimum off-time (R50, R77) (log entry
1: DESIGN CHOICE). -/
def State.railTime (s : State) : State :=
  if s.ppRuns then forUnits 4 (fun r t => t.turnOns r) s else s

end Sys2Proof.Machine
end

