-- ==== Sys2Proof/Machine/ContextOps.lean ====
section
/-!
DEFINITION. Shared operations of the breaker engine (03_load_channels.md) and of the tally's decision on an enable
(06_tally_and_sharing.md R254–R257): the enable path, turning a channel off, trips, cages, links and measurements.
-/
namespace Sys2Proof.Machine

/-! ### Status -/

/-- STATE of a context: 0 UNBOUND, 1 OFF, 2 DEFERRED, 3 LEAD, 4 INRUSH, 5 ON, 6 LIMIT, 7 RETRY_WAIT, 8 LOCKOUT, 9 SHED,
10 NO_LINK, 11 DAMAGED, 12 CAGED. -/
abbrev cxState (n : Nat) : Bits := ⟨Reg.CTX_STATUS n, 0, 4⟩
/-- CAUSE of a context. -/
abbrev cxCause (n : Nat) : Bits := ⟨Reg.CTX_STATUS n, 12, 4⟩
/-- AT_LIMIT of a context. -/
abbrev cxAtLimit (n : Nat) : Bits := flag (Reg.CTX_STATUS n) 16
/-- BACKFED of a context. -/
abbrev cxBackfed (n : Nat) : Bits := flag (Reg.CTX_STATUS n) 17
/-- TALLY_LIMIT of a context. -/
abbrev cxTallyLimit (n : Nat) : Bits := flag (Reg.CTX_STATUS n) 18
/-- ANNOUNCED of a context. -/
abbrev cxAnnounced (n : Nat) : Bits := flag (Reg.CTX_STATUS n) 19

/-- STATE of context `n`. -/
def State.ctxSt (s : State) (n : Nat) : Nat := s.fld (cxState n)

/-- Put STATE of context `n`. The retry timer stands still in NO_LINK, where what is left of it is kept, and resumes when the context leaves
(R150, R151) (log entry 119: DEDUCED). -/
def State.setCtxSt (s : State) (n st : Nat) : State :=
  let e := s.rd (Reg.cxRetryEnd n)
  let t :=
    if s.ctxSt n = 10 ∧ st ≠ 10 then s.wr (Reg.cxRetryEnd n) (e + s.now)
    else if s.ctxSt n ≠ 10 ∧ st = 10 then s.wr (Reg.cxRetryEnd n) (max 0 (e - s.now))
    else s
  t.setFld (cxState n) st

/-- CMD of context `n`. -/
def State.cmd (s : State) (n : Nat) : Bool := s.bit (Bit.CTX_CTRL_CMD n)

/-- The tally class of context `n`. -/
def State.classOf (s : State) (n : Nat) : Nat := s.fld (Bit.CTX_CTRL_CLASS n)

/-- FEED of context `n`: a local rail 0–3, or 4. -/
def State.feed (s : State) (n : Nat) : Nat := s.fld (Bit.CTX_CTRL_FEED n)

/-- The context is bound and in use (R112). -/
def State.valid (s : State) (n : Nat) : Bool := s.bit (Bit.BINDING_VALID n)

/-- The satellite position of a remote context. -/
def State.position (s : State) (n : Nat) : Nat := s.fld (Bit.BINDING_POSITION n)

/-- The gate is closed on the load: INRUSH, ON or LIMIT. -/
def State.conducting (s : State) (n : Nat) : Bool := decide (4 ≤ s.ctxSt n) && decide (s.ctxSt n ≤ 6)

/-- The channel input voltage in mV (R126): the feed rail's VOUT_MV, VIN of the satellite's report, or the direct
channel's own measurement (R707). -/
def State.ctxVin (s : State) (n : Nat) : Int :=
  if s.feed n < 4 then s.rd (Reg.VOUT_MV (s.feed n))
  else if n < 16 then s.rd (Reg.cxVin n)
  else s.rd (Reg.VIN_MV (s.position n))

/-! ### Estimates (06_tally_and_sharing.md R254) -/

/-- Input power for an output power: through the feed rail's efficiency, the fraction dropped. -/
def State.throughFeed (s : State) (n : Nat) (mw : Int) : Int :=
  if s.feed n < 4 then mw * 32768 / s.rd (Reg.EFF (s.feed n)) else mw

/-- The estimate of a context's input power. -/
def State.est (s : State) (n : Nat) : Int := s.throughFeed n (s.rd (Reg.P_MW n))

/-- The estimate of an enable not yet made; 0 when STEP_MA is 0. -/
def State.estEnable (s : State) (n : Nat) : Int :=
  s.throughFeed n (s.rd (Reg.STEP_MA n) * s.ctxVin n / 1000)

/-- PENDING: the estimates of enables granted but not yet measured (R255). -/
def State.pendingMw (s : State) : Int := s.grants.foldl (fun t e => t + e.mw) 0

/-- Take a context's estimate out of PENDING and out of the dues (R255, R259). -/
def State.ungrant (s : State) (n : Nat) : State :=
  { s with grants := s.grants.filter (fun e => e.ctx ≠ n), dues := s.dues.filter (fun e => e.ctx ≠ n) }

/-- ENABLE of TALLY_CTRL, while the tally is in use. -/
def State.tallyOn (s : State) : Bool := s.bit Bit.TALLY_CTRL_ENABLE && !s.on Reg.tyFail

/-- What remains of the headroom of the latest evaluation after the enables granted since (R257). -/
def State.headroomLeft (s : State) : Int := s.rd Reg.HEADROOM_MW - s.rd Reg.tySpent

/-- The tally would grant the enable of context `n` (R256, R257, R267, R268). -/
def State.wouldGrant (s : State) (n : Nat) : Bool :=
  if !s.tallyOn then true
  else
    let c := s.classOf n
    let defers := s.bit (Bit.CLASS_CTRL_DEFER_EN c)
    if c = 0 then true
    else if decide (s.feed n < 4) && decide (s.railSt (s.feed n) = 4) then false
    else if !defers then true
    else if s.on Reg.tyInvalid then false
    else decide (s.estEnable n ≤ s.headroomLeft)

/-- A granted estimate joins PENDING; the part of it above the remaining headroom is owed at the next evaluation (R257,
R259). -/
def State.grant (s : State) (n : Nat) : State :=
  let e := s.estEnable n
  let due := clampI 0 e (e - s.headroomLeft)
  let t := s.ungrant n
  let u := { t with grants := t.grants ++ [({ ctx := n, mw := e, since := s.timebase } : Estimate)], dues := if s.tallyOn && decide (0 < due) then t.dues ++ [({ ctx := n, mw := due, since := s.timebase } : Estimate)] else t.dues }
  u.wr Reg.tySpent (s.rd Reg.tySpent + e)

/-! ### The fault timer (R134) -/

/-- The fault timer after `us` microseconds: it rises while the channel is at its limit, falls at an eighth of the rate otherwise (R134),
and stands still in a ramp (R128, R266) (log entry 80: DESIGN CHOICE). -/
def State.stepTimer (s : State) (n : Nat) (us : Int) : State :=
  let e := s.rd (Reg.cxElapsed8 n)
  let e2 := if s.on (Reg.cxRegate n) then e else if s.bit (cxAtLimit n) then e + 8 * us else max 0 (e - us)
  (s.wr (Reg.cxElapsed8 n) e2).wr (Reg.TFAULT_ELAPSED_US n) (satU 32 (e2 / 8))

/-- The fault timer of a direct channel in ON or LIMIT, brought up to the present timebase in steps of 1 µs (R134) (log entry 80: DESIGN CHOICE). -/
def State.runTimer (s : State) (n : Nat) : State :=
  let us := (s.now - s.rd (Reg.cxTimerAt n)) / 1000
  if n < 16 ∧ (s.ctxSt n = 5 ∨ s.ctxSt n = 6) then (s.wr (Reg.cxTimerAt n) (s.rd (Reg.cxTimerAt n) + us * 1000)).stepTimer n us else s

/-! ### Turning off -/

/-- What the driver of a direct channel does (R125, R134): the slope in mV per µs and the current in mA that it regulates to. -/
def State.driveGate (s : State) (n : Nat) (slope ma : Int) : State :=
  s.when (decide (n < 16)) fun t => (t.wr (Reg.cxSlope n) slope).wr (Reg.cxHoldMa n) ma

/-- The rail that the step of context `n` has been announced to (R120): a commit of FEED leaves the announcement where it is (log entry 119: DEDUCED). -/
def State.annRail (s : State) (n : Nat) : Nat := s.rdN (Reg.cxAnnRail n) % 4

/-- What an edge keeps of a channel that is turned off on it: its state, its gate, whether it was re-opening, and its fault timer in eighths
(R155). -/
def State.gateWas (s : State) (n : Nat) : Int :=
  s.ctxSt n + 16 * (s.rd (Reg.cxGate n) + 4 * ((if s.on (Reg.cxRegate n) then 1 else 0) + 2 * (s.runTimer n).rd (Reg.cxElapsed8 n)))

/-- A context leaves what it is doing for the off state `st`: the gate opens, an announcement in force is withdrawn, the
estimate leaves PENDING, the fault timer returns to 0, and OFF_DECAY_MS starts when the gate was on (R118, R124, R134,
R255). A remote channel that is on while its context is taken out of NO_LINK to stay off goes off with RESYNC (R192; State.posLinked). -/
def State.turnOff (s : State) (n st : Nat) : State :=
  let was := s.conducting n || (decide (s.ctxSt n = 10) && decide (st ≠ 10) && s.on (Reg.cxLostOn n))
  let t :=
    if s.ctxSt n = 3 then
      let r := s.annRail n
      let u := s.annWithdraw r fun a => a.owner = 64 && a.ctx = n
      if u.shared r then u.wsSend 0x55 [u.groupByte r, BitVec.ofNat 8 (u.rdN (Reg.cxAnnId n))] else u
    else s.when (s.conducting n) fun u => u.mark markGateOff n (s.gateWas n)
  let u := t.ungrant n
  let v := { u with
    deferred := u.deferred.filter (fun m => m ≠ n),
    onOrder := u.onOrder.filter (fun (p : Nat × Nat) => p.1 ≠ n),
    shedList := u.shedList.filter (fun e => e.ctx ≠ n) }
  let w := ((((v.wr (Reg.cxGate n) 0).wr (Reg.cxOnBit n) 0).wr (Reg.cxCheckWait n) 0).wr (Reg.cxLeadOver n) 0).wr (Reg.cxRegate n) 0
  let x := ((((w.wr (Reg.cxElapsed8 n) 0).wr (Reg.TFAULT_ELAPSED_US n) 0).wr (Reg.cxI2tWait n) 0).wr (Reg.cxWindow n) 1).wr (Reg.cxWinEnd n) 0
  let y := ((x.setFld (cxAtLimit n) 0).setFld (cxTallyLimit n) 0).when was fun z => (z.wr (Reg.cxDecayDone n) 0).wr (Reg.cxOffNs n) z.now
  ((y.when (decide (st ≠ 10) && !(decide (s.ctxSt n = 10) && decide (8 ≤ st))) fun z => z.wr (Reg.cxLostOn n) 0).driveGate n 0 0).setCtxSt n st

/-- A shed that a CMD 0 or a trip of the same instant comes before is undone: SHED_COUNT and CREDIT (06_tally_and_sharing.md R292). -/
def State.unshed (s : State) (n : Nat) : State :=
  match s.nowMark markShedCtx n with
  | some v =>
    if s.ctxSt n ≠ 9 then s
    else ((s.wr Reg.SHED_COUNT (s.rd Reg.SHED_COUNT - 1)).wr Reg.tyCredit1 (s.rd Reg.tyCredit1 - v)).wr Reg.HEADROOM_MW (satI32 (s.rd Reg.HEADROOM_MW - v))
  | none => s

/-- STATE of context `n` as this edge found it, when it has been turned off on it (R155). -/
def State.stThen (s : State) (n : Nat) : Nat :=
  match s.marked markGateOff n with
  | some v => v.toNat % 16
  | none => s.ctxSt n

/-- The gate was closed on the load as this edge found it: INRUSH, ON or LIMIT. -/
def State.conductedThen (s : State) (n : Nat) : Bool := decide (4 ≤ s.stThen n) && decide (s.stThen n ≤ 6)

/-- The drive of the gate as this edge found it: 0 off, 1 ramping, 2 full. -/
def State.gateThen (s : State) (n : Nat) : Int :=
  match s.marked markGateOff n with
  | some v => v / 16 % 4
  | none => s.rd (Reg.cxGate n)

/-- The gate was re-opening after a LIMIT off-window as this edge found it. -/
def State.regateThen (s : State) (n : Nat) : Bool :=
  match s.marked markGateOff n with
  | some v => decide (v / 64 % 2 = 1)
  | none => s.on (Reg.cxRegate n)

/-- The fault timer in eighths of 1 µs, as this edge found it. -/
def State.elapsedThen (s : State) (n : Nat) : Int :=
  match s.marked markGateOff n with
  | some v => v / 128
  | none => s.rd (Reg.cxElapsed8 n)

/-- The retry timer starts for RETRY_MS (R138); in NO_LINK it stands still (R150). -/
def State.startRetry (s : State) (n : Nat) : State :=
  let ns := s.rd (Reg.RETRY_MS n) * 1000000
  (s.wr (Reg.cxRetryRun n) 1).wr (Reg.cxRetryEnd n) (if s.ctxSt n = 10 then ns else s.now + ns)

/-- Which of two causes on one edge is recorded (R155): a short before the fault timer, that before any other (log entry 81: DEDUCED). -/
def causeRank (cause : Nat) : Nat := if cause = 1 then 0 else if cause = 2 then 1 else 2

/-- The state that a trip decides on (R137); RETRIES saturates at 255, where RETRY_MAX allows more (log entry 112: DESIGN CHOICE). A context
in NO_LINK, whose satellite reports the trip before it is LINKED, locks out at once, or waits in NO_LINK with its retry counted and its timer
frozen, for the link to return (R115, R151) (log entry 119: DEDUCED). -/
def State.tripTo (s : State) (n cause : Nat) : State :=
  if cause = 1 ∧ s.bit (Bit.CTX_CTRL_SHORT_LATCH n) = true then s.turnOff n 8
  else if s.fld (Bit.CTX_CTRL_RETRY_MAX n) = 15 ∨ s.rd (Reg.RETRIES n) < s.fld (Bit.CTX_CTRL_RETRY_MAX n) then
    (if s.ctxSt n = 10 then s else s.turnOff n 7).inc8 (Reg.RETRIES n)
  else s.turnOff n 8

/-- A trip that has been recorded on this edge takes the cause that governs (R155). -/
def State.recause (s : State) (n cause retries : Nat) : State :=
  let t := s.mark markTrip n (cause + 16 * retries : Nat)
  if t.ctxSt n = 12 then t
  else
    let u := t.setFld (cxCause n) cause
    if cause = 1 ∧ u.bit (Bit.CTX_CTRL_SHORT_LATCH n) = true ∧ u.ctxSt n = 7 then (u.wr (Reg.RETRIES n) retries).setCtxSt n 8 else u

/-- A trip (R137, R138): the gate turns off, TRIPS, CAUSE and the source follow, the retry timer starts, and the context waits for a retry or
locks out. One that a commit of CMD 0 has put in OFF, or that waits in NO_LINK with CMD 0, one in LOCKOUT, DAMAGED or CAGED records the trip
and stays, the last with the CAUSE of the cage. Of several on one edge there is one (R132, R155) (log entry 81: DEDUCED). -/
def State.trip (s : State) (n cause : Nat) : State :=
  match s.marked markTrip n with
  | some v => if causeRank cause < causeRank (v.toNat % 16) then s.recause n cause (v.toNat / 16) else s
  | none =>
    let a := (s.unshed n).mark markTrip n (cause + 16 * s.rd (Reg.RETRIES n))
    let stays := [8, 11, 12].contains (s.ctxSt n) || ((decide (s.ctxSt n = 1) || decide (s.ctxSt n = 10)) && !s.cmd n)
    let t := if stays then a else a.tripTo n cause
    let u := if s.ctxSt n = 12 then t else t.setFld (cxCause n) cause
    ((u.inc32 (Reg.Ctx_TRIPS n)).startRetry n).raise (512 + n)

/-! ### The enable path (R117–R122) -/

/-- The pre-enable check fails (R119): LOCKOUT with CAUSE 0x5, or DAMAGED with CAUSE 0x6 when the output carries forward
current. -/
def State.enableFails (s : State) (n : Nat) : State :=
  if s.rd (Reg.IDAMAGE_MA n) ≤ s.rd (Reg.Ctx_I_MA n) then ((s.turnOff n 11).setFld (cxCause n) 6).raise (512 + n)
  else ((s.turnOff n 8).setFld (cxCause n) 5).raise (512 + n)

/-- What the driver of a ramping direct channel does (R125): a dV/dt start raises the output with DVDT_MV_US, its current held at ILIM_MA at
most (R126), a limited-current start regulates the current at INRUSH_MA. -/
def State.driveRamp (s : State) (n : Nat) : State :=
  if s.bit (Bit.CTX_CTRL_INRUSH_MODE n) then s.driveGate n 0 (s.rd (Reg.INRUSH_MA n))
  else s.driveGate n (s.rd (Reg.DVDT_MV_US n)) (s.rd (Reg.ILIM_MA n))

/-- A setting of a direct channel has been committed: its driver follows it at once, in a ramp and with the gate fully on (R125, R134; log entry
119: DEDUCED). -/
def State.redrive (s : State) (n : Nat) : State :=
  if s.rd (Reg.cxGate n) = 1 then s.driveRamp n
  else if s.rd (Reg.cxGate n) = 2 then s.driveGate n 0 (s.rd (Reg.ILIM_MA n))
  else s

/-- The gate ramps (R125, R266); a remote channel is commanded on. -/
def State.ramp (s : State) (n : Nat) : State := (((s.wr (Reg.cxGate n) 1).wr (Reg.cxOnBit n) 1).wr (Reg.cxRampNs n) s.now).driveRamp n

/-- INRUSH begins (R120, R121, R125). -/
def State.enterInrush (s : State) (n : Nat) : State :=
  (((s.ramp n).mark markOpen n (if s.ctxSt n = 3 then 1 else 0)).wr (Reg.cxLeadOver n) 0).setCtxSt n 4

/-- The gate is fully on (R126, R130). -/
def State.gateFull (s : State) (n : Nat) : State :=
  let t := (s.wr (Reg.cxGate n) 2).wr (Reg.cxFullNs n) s.now
  (t.driveGate n 0 (t.rd (Reg.ILIM_MA n))).when (decide (n < 16)) fun u => u.wr (Reg.cxGateUp n) 0

/-- The announcement of a context's step to its feed rail, and over the share link when the rail is SHARED (R120, R123;
13_links.md R578). -/
def State.announceCtx (s : State) (n : Nat) : State :=
  let r := s.feed n
  let lead := s.fld (Bit.LEAD_US_LEAD_US n)
  let id := s.rdN Reg.annIdNext
  let t := ((s.announce r 64 n id (s.rd (Reg.STEP_MA n)) (lead * 1000)).wr (Reg.cxLeadEnd n) (s.now + (lead * 1000 : Nat))).wr (Reg.cxAnnRail n) r
  if s.shared r then
    ((t.wr (Reg.cxAnnId n) id).wr Reg.annIdNext (((id + 1) % 256 : Nat) : Int)).wsSend 0x44
      ([s.groupByte r, BitVec.ofNat 8 id] ++ leBytes 4 (s.rdN (Reg.STEP_MA n)) ++ leBytes 4 (s.timebase + lead * 1000))
  else t

/-- The check passes: LEAD after an announcement, else INRUSH at once (R120). -/
def State.enablePasses (s : State) (n : Nat) : State :=
  let t := s.wr (Reg.cxCheckWait n) 0
  if t.rd (Reg.STEP_MA n) ≠ 0 ∧ t.feed n < 4 then (t.announceCtx n).setCtxSt n 3 else t.enterInrush n

/-- The pre-enable check of a granted enable (R118): it waits, in OFF, for the first sample of a new binding, and while the output may still be
decaying (log entry 119: DEDUCED). -/
def State.preEnable (s : State) (n : Nat) : State :=
  if !s.on (Reg.cxSampled n) then (s.wr (Reg.cxCheckWait n) 1).setCtxSt n 1
  else if s.rd (Reg.V_MV n) < s.rd (Reg.VDAMAGE_MV n) then s.enablePasses n
  else if s.on (Reg.cxDecayDone n) then s.enableFails n
  else (s.wr (Reg.cxCheckWait n) 1).setCtxSt n 1

/-- An enable is presented to the tally (R117): deferred, or granted and checked. While the retry timer runs the context
waits in RETRY_WAIT (R138, R140). -/
def State.present (s : State) (n : Nat) : State :=
  if s.on (Reg.cxRetryRun n) then s.setCtxSt n 7
  else if s.wouldGrant n then (s.grant n).preEnable n
  else ({ s.inc32 Reg.DEFER_COUNT with deferred := s.deferred.filter (fun m => m ≠ n) ++ [n] }).setCtxSt n 2

/-- A context enters OFF; with CMD at 1 it presents its enable (R117). -/
def State.enterOff (s : State) (n : Nat) : State :=
  let t := s.setCtxSt n 1
  if t.cmd n then t.present n else t

/-- CMD becomes 1 (R117): an enable is presented in OFF; elsewhere the command is held. -/
def State.cmdOn (s : State) (n : Nat) : State :=
  let t := s.setFld (Bit.CTX_CTRL_CMD n) 1
  if s.ctxSt n = 1 ∧ s.cmd n = false then t.present n else t

/-- A gate that has begun to open at the end of LEAD on this very edge stays closed (R155). -/
def State.leadRecalled (s : State) (n : Nat) : State :=
  if s.ctxSt n = 4 ∧ s.marked markOpen n = some 1 ∧ n < 16 then
    (s.annUnopen (s.annRail n) fun a => a.owner = 64 && a.ctx = n).setCtxSt n 3
  else s

/-- CMD is written 0 (R140–R142, R155): RETRIES clears; every state but UNBOUND, NO_LINK, DAMAGED and CAGED becomes OFF. -/
def State.cmdOff (s : State) (n : Nat) : State :=
  let t := (s.setFld (Bit.CTX_CTRL_CMD n) 0).wr (Reg.RETRIES n) 0
  match s.ctxSt n with
  | 0 => t
  | 10 => t
  | 11 => t
  | 12 => t
  | _ => ((t.unshed n).leadRecalled n).turnOff n 1

/-- A context is caged (R147): a caged context is left as it is (log entry 81: DEDUCED). A cage takes a context in DAMAGED too, which R145 lets
only a reset take out of it: R155 has a cage act in any state (log entry 126: DESIGN CHOICE). -/
def State.cageCtx (s : State) (n cause : Nat) : State :=
  if s.ctxSt n = 12 then s else (s.turnOff n 12).setFld (cxCause n) cause

/-- A context in ON in a class under a duty limit is limited with the others (R149; 06_tally_and_sharing.md R265). -/
def State.joinLimit (s : State) (n : Nat) : State :=
  s.when s.tallyOn fun v => v.when (decide (s.rd (Reg.DUTY (s.classOf n)) < 32767)) fun w => w.setFld (cxTallyLimit n) 1

/-- A context takes another class: in ON it is limited with the contexts of that class, or no more (R149; 06_tally_and_sharing.md R265; log entry
119: DEDUCED). -/
def State.changeClass (s : State) (n : Nat) : State := s.when (decide (s.ctxSt n = 5)) fun t => (t.setFld (cxTallyLimit n) 0).joinLimit n

/-- The context is the latest of its class to enter ON (06_tally_and_sharing.md R261). -/
def State.lastOn (s : State) (n : Nat) : State :=
  { s with onOrder := s.onOrder.filter (fun (p : Nat × Nat) => p.1 ≠ n) ++ [(n, s.timebase)] }.wr (Reg.cxLastOn n) s.now

/-- The output is fully on: the context enters ON (R126), the latest of its class to do so (06_tally_and_sharing.md R261). -/
def State.enterOn (s : State) (n : Nat) : State :=
  let t := s.lastOn n
  let u := (((t.gateFull n).wr (Reg.cxOnNs n) s.now).wr (Reg.cxTimerAt n) s.now).setFld (cxAtLimit n) 0
  (u.joinLimit n).setCtxSt n 5

/-! ### The link of a remote context (R150, R151) -/

/-- NO_LINK, with the gate's state unknown and the timers frozen (R150); nothing has been sampled any more (R118). -/
def State.ctxUnlink (s : State) (n : Nat) : State :=
  let t := s.wr (Reg.cxSampled n) 0
  if s.ctxSt n = 5 ∨ s.ctxSt n = 6 then ((t.ungrant n).wr (Reg.cxLostOn n) 1).setCtxSt n 10 else t.turnOff n 10

/-- The link of a bound remote context is lost: NO_LINK; its source is raised unless it was OFF or UNBOUND. CAGED stays CAGED, and DAMAGED
stays DAMAGED (R145, R147, R150) (log entry 112: DESIGN CHOICE). -/
def State.ctxLinkLost (s : State) (n : Nat) : State :=
  match s.ctxSt n with
  | 0 => s
  | 10 => s
  | 11 => s
  | 12 => s
  | 1 => s.ctxUnlink n
  | _ => ((s.ctxUnlink n).setFld (cxCause n) 7).raise (512 + n)

/-- The satellite of a bound remote context is no longer enumerated, its link not lost: NO_LINK without a raise (R115, R188) (log entry 82:
DEDUCED). -/
def State.ctxAway (s : State) (n : Nat) : State := if [0, 10, 11, 12].contains (s.ctxSt n) then s else s.ctxUnlink n

/-- The link returns (R151): a context with CMD 1 whose channel held on continues in ON, as the latest of its class to enter it (log entry 112:
DESIGN CHOICE); one whose channel went off takes the enable path, and one with CMD 0 enters OFF. A channel that was on, or has been until
RESYNC, is turned off now, and OFF_DECAY_MS runs, for a context that has been caged or locked out before as well. -/
def State.ctxLinkBack (s : State) (n : Nat) (held : Bool) : State :=
  if s.ctxSt n = 10 then
    if s.cmd n && held then ((s.wr (Reg.cxOnBit n) 1).wr (Reg.cxLostOn n) 0).enterOn n
    else (s.turnOff n 1).enterOff n
  else s.when (s.on (Reg.cxLostOn n)) fun t => ((t.wr (Reg.cxLostOn n) 0).wr (Reg.cxDecayDone n) 0).wr (Reg.cxOffNs n) t.now

/-! ### Measurements (R135, R143, R152, R153) -/

/-- The time that trips at the current limit: a remote channel's is 50 µs at least (R134) (log entry 80: DESIGN CHOICE). -/
def State.tfault (s : State) (n : Nat) : Int := if n < 16 then s.rd (Reg.TFAULT_US n) else max 50 (s.rd (Reg.TFAULT_US n))

/-- A channel in ON reaches its current limit (R134). -/
def State.limitOn (s : State) (n : Nat) : State := ((s.runTimer n).setFld (cxAtLimit n) 1).setCtxSt n 6

/-- The current is below the limit again (R134): the context enters ON anew (06_tally_and_sharing.md R261). -/
def State.limitOff (s : State) (n : Nat) : State := ((((s.runTimer n).setFld (cxAtLimit n) 0).joinLimit n).lastOn n).setCtxSt n 5

/-- Energy without loss over `us` microseconds, staged for the pit log as well (R153; 11_shaft_and_pit_log.md R475). -/
def State.ctxEnergy (s : State) (n : Nat) (us : Int) : State :=
  let e := s.rd (Reg.P_MW n) * us
  if 0 ≤ e then
    let f := s.rd (Reg.cxFwdFrac n) + e
    ((s.add 64 (Reg.ENERGY_MJ n) (f / 1000000)).wr (Reg.cxFwdFrac n) (f % 1000000)).stage (0x2000 + 16 * n) 64 (f / 1000000)
  else
    let f := s.rd (Reg.cxRevFrac n) - e
    ((s.add 64 (Reg.ENERGY_REV_MJ n) (f / 1000000)).wr (Reg.cxRevFrac n) (f % 1000000)).stage (0x2000 + 16 * n + 8) 64 (f / 1000000)

/-- The heat of the I²t model after a sample of `us` microseconds, in millionths of mA²: i is 0 while the gate is off (R135,
R136), but counts where it has gone off on this very edge (R155) (log entry 22: DEDUCED). -/
def State.ctxHeat (s : State) (n : Nat) (us : Int) : State :=
  let rated := s.rd (Reg.I2T_RATED_MA n)
  if rated = 0 then s.wr (Reg.I2T_PERMILLE n) 0
  else
    let i := if s.conductedThen n then s.rd (Reg.Ctx_I_MA n) else 0
    let h := s.rd (Reg.cxHeat n)
    let h2 := max 0 (h + (i * i * 1000000 - h) * us / (s.rd (Reg.I2T_TAU_MS n) * 1000))
    (s.wr (Reg.cxHeat n) h2).wr (Reg.I2T_PERMILLE n) (satU 16 (1000 * h2 / (rated * rated * 1000000)))

/-- The heat has reached the trip level (R135). -/
def State.ctxHot (s : State) (n : Nat) : Bool :=
  let rated := s.rd (Reg.I2T_RATED_MA n)
  decide (rated ≠ 0) && decide (rated * rated * 1000000 ≤ s.rd (Reg.cxHeat n))

/-- The output of a context that has been off for OFF_DECAY_MS is judged (R143, R147): DAMAGED, or BACKFED. -/
def State.judgeOutput (s : State) (n : Nat) : State :=
  if s.conducting n || s.ctxSt n = 0 || s.ctxSt n = 10 || !s.on (Reg.cxDecayDone n) || decide (s.rd (Reg.V_MV n) < s.rd (Reg.VDAMAGE_MV n)) then s
  else if s.rd (Reg.IDAMAGE_MA n) ≤ s.rd (Reg.Ctx_I_MA n) then
    if s.ctxSt n = 11 then s
    else if s.ctxSt n = 12 then
      if s.on (Reg.cxCageRaised n) then s else (s.wr (Reg.cxCageRaised n) 1).raise (512 + n)
    else ((s.turnOff n 11).setFld (cxCause n) 6).raise (512 + n)
  else s.setFld (cxBackfed n) 1

/-- INRUSH, or a re-opening ramp of a LIMIT window, ends when the output is within 300 mV of the input with the current
below ILIM_MA (R126, R266). -/
def State.rampDone (s : State) (n : Nat) : Bool :=
  decide (absI (s.ctxVin n - s.rd (Reg.V_MV n)) ≤ 300) && decide (s.rd (Reg.Ctx_I_MA n) < s.rd (Reg.ILIM_MA n))

/-- A telemetry record of 16 bytes: TIME_US, INDEX, SUB, a reserved byte and VALUE (12_dictionary.md R529). -/
def telemetryRecord (ns idx sub : Nat) (v : Int) : List Byte :=
  leBytes 4 (ns / 1000) ++ leBytes 2 idx ++ leBytes 1 sub ++ [0] ++ leBytes 8 (twos 64 v)

/-- The blocks of gallery `g`, oldest first. -/
def State.galBlocks (s : State) (g : Nat) : List GalBlock := s.blocks.filter fun b => b.gal = g

/-- Drop the oldest block of gallery `g`. -/
def dropOldest (g : Nat) : List GalBlock → List GalBlock
  | [] => []
  | b :: t => if b.gal = g then t else b :: dropOldest g t

/-- Remove the block of gallery `g` after its oldest. -/
def dropSecond (g : Nat) : List GalBlock → List GalBlock
  | [] => []
  | b :: t => if b.gal = g then b :: dropOldest g t else b :: dropSecond g t

/-- The blocks with the oldest one of a LATEST gallery reclaimed that no consumer is reading (11_shaft_and_pit_log.md R451, R488). -/
def State.reclaimed (s : State) (g : Nat) : List GalBlock := if s.markedNow markRead g then dropSecond g s.blocks else dropOldest g s.blocks

/-- Append to the newest block of gallery `g`. -/
def appendNewest (g : Nat) (d : List Byte) : List GalBlock → List GalBlock
  | [] => []
  | b :: t => if b.gal = g && !(t.any fun c => c.gal = g) then { b with data := b.data ++ d } :: t else b :: appendNewest g d t

/-- A LATEST gallery takes a record: into its newest block while it fits, else into a new block; a gallery without a credit
reclaims its oldest block, and one that holds none, or a Shaft in reset, drops (R450–R452, R37). -/
def State.record (s : State) (g : Nat) (d : List Byte) : State :=
  if !s.shaftUp then s.dropRecord g d.length
  else
    let room := match (s.galBlocks g).getLast? with
      | some b => decide (b.data.length + d.length ≤ 256)
      | none => false
    if room then { s with blocks := appendNewest g d s.blocks }
    else if s.credit g then
      let t := s.takeBlock g
      { t with blocks := t.blocks ++ [⟨g, d⟩] }
    else if (s.reclaimed g).length = s.blocks.length then s.dropRecord g d.length
    else { ((s.inc32 (Reg.OVERWRITES g)).fed g) with blocks := s.reclaimed g ++ [⟨g, d⟩] }

/-- The measurements of a channel (R152), P_MW truncated toward zero (log entry 22: DEDUCED); with the gate fully on P_MW is what the channel
draws without a duty limit (06_tally_and_sharing.md R260). An output below VDAMAGE_MV clears BACKFED (R144). -/
def State.ctxMeasure (s : State) (n : Nat) (iMa vMv : Int) : State :=
  let u := (((s.wr (Reg.Ctx_I_MA n) iMa).wr (Reg.V_MV n) vMv).wr (Reg.P_MW n) (satI32 ((vMv * iMa).tdiv 1000))).wr (Reg.cxSampled n) 1
  let t := u.when (decide (vMv < s.rd (Reg.VDAMAGE_MV n))) fun w => w.setFld (cxBackfed n) 0
  t.when (decide (t.rd (Reg.cxGate n) = 2)) fun u => u.wr (Reg.cxFullMw n) (u.rd (Reg.P_MW n))

/-- What a sample decides: an I²t trip, the end of a ramp, a waiting pre-enable check, the end of an I²t wait, and the judgement of an output
that is off (R118, R126, R135, R139, R143); a channel whose gate begins to open on this edge is still judged as off where its output carries
forward current, and one that has been turned off on it still trips (R155). -/
def State.ctxDecide (s : State) (n : Nat) : State :=
  if (s.marked markOpen n).isSome && decide (s.ctxSt n = 4) && decide (s.rd (Reg.VDAMAGE_MV n) ≤ s.rd (Reg.V_MV n)) &&
      decide (s.rd (Reg.IDAMAGE_MA n) ≤ s.rd (Reg.Ctx_I_MA n)) then (s.leadRecalled n).enableFails n
  else if s.conductedThen n && s.ctxHot n then s.trip n 3
  else if s.conducting n then
    if s.ctxSt n = 4 ∧ s.rampDone n = true then s.enterOn n
    else if s.on (Reg.cxRegate n) && s.rampDone n then (s.wr (Reg.cxRegate n) 0).gateFull n
    else s
  else if s.on (Reg.cxCheckWait n) then
    if s.rd (Reg.V_MV n) < s.rd (Reg.VDAMAGE_MV n) then s.enablePasses n else if s.on (Reg.cxDecayDone n) then s.enableFails n else s
  else if s.on (Reg.cxI2tWait n) && decide (s.rd (Reg.I2T_PERMILLE n) ≤ 500) && decide (s.ctxSt n = 7) then
    let w := s.judgeOutput n
    if w.ctxSt n = 7 then (w.wr (Reg.cxI2tWait n) 0).present n else w
  else s.judgeOutput n

/-- A sample of a channel, `us` microseconds after the one before (R135, R152, R153): the measurements, the pit log's mean
(11_shaft_and_pit_log.md R475), the energy, the heat, the telemetry of G16, and what the sample decides. -/
def State.ctxSample (s : State) (n : Nat) (iMa vMv : Int) (us : Int) : State :=
  let t := s.ctxMeasure n iMa vMv
  let u := t.when (t.conducting n) fun z => (z.wr (Reg.cxSum n) (z.rd (Reg.cxSum n) + iMa)).wr (Reg.cxCnt n) (z.rd (Reg.cxCnt n) + 1)
  let v := ((u.ctxEnergy n us).ctxHeat n us).runTimer n
  let w := ((v.record 16 (telemetryRecord s.timebase (0x3000 + n) 0x14 iMa)).record 16
    (telemetryRecord s.timebase (0x3000 + n) 0x15 vMv)).record 16 (telemetryRecord s.timebase (0x3000 + n) 0x16 (t.rd (Reg.P_MW n)))
  w.ctxDecide n

end Sys2Proof.Machine
end

