-- ==== Sys2Proof/Machine/Inputs.lean ====
section
/-!
DEFINITION. The analog inputs (08_sensing_and_thermal.md R333–R335): what a result stands for.
-/
namespace Sys2Proof.Machine

/-- The ends of an input's full scale at its pins, in µV (R333). -/
def fullScale (i : Nat) : Int × Int :=
  if i < 40 then (0, 1600000)
  else if i < 56 then (-125000, 125000)
  else if i < 72 then (0, 64000000)
  else if i < 74 then (-50000, 50000)
  else if i < 78 then (0, 64000000)
  else if i < 90 then (0, 1600000)
  else if i = 91 then (0, 80000000)
  else if i = 92 then (0, 6400000)
  else (0, 1600000)

/-- The input is bipolar (R333). -/
def bipolar (i : Nat) : Bool := decide ((fullScale i).1 < 0)

/-- The voltage at the pins that a result stands for, in µV (R335). -/
def pinUv (i : Nat) (code : Int) : Int := (code * (fullScale i).2).tdiv 32768

/-- The input has a valid result (R335). -/
def State.resultValid (s : State) (i : Nat) : Bool := decide (s.rd (Reg.RESULT i) ≠ -32768)

/-- The quantity in mV that result `code` of input `i` stands for: INPUT_GAIN scales inputs 0–17, SENSE_GAIN the rails' sense inputs 18–21
(R334). -/
def State.quantityOf (s : State) (i : Nat) (code : Int) : Int :=
  if i < 18 then code * 1600 * 10000 / (32768 * s.rd (Reg.INPUT_GAIN i))
  else if i < 22 then code * 1600 * 10000 / (32768 * s.rd (Reg.SENSE_GAIN (i - 18)))
  else (code * ((fullScale i).2 / 1000)).tdiv 32768

/-- The quantity of input `i` in mV. -/
def State.quantityMv (s : State) (i : Nat) : Int := s.quantityOf i (s.rd (Reg.RESULT i))

/-- The current in mA that the shunt voltage at input `i` stands for, with a shunt of `uohm` (R334). -/
def State.shuntMa (s : State) (i : Nat) (uohm : Int) : Int := (s.rd (Reg.RESULT i) * (fullScale i).2 * 1000).tdiv (32768 * uohm)

end Sys2Proof.Machine
end

