-- ==== Sys2Proof/Machine/LampCore.lean ====
section
/-!
DEFINITION. Shared operations of the lamp check (15_start_bist_standby.md R645–R651, R658, R659): its start, the entry of a unit,
the abandonment of one, and the record. The unit under test stands in `lampUnit`; 27 is past the last.
-/
namespace Sys2Proof.Machine

/-- VALID of LAMP_STATUS. -/
abbrev lmValid : Bits := flag Reg.LAMP_STATUS 0
/-- CLEAN of LAMP_STATUS. -/
abbrev lmClean : Bits := flag Reg.LAMP_STATUS 1
/-- QUICK of LAMP_STATUS. -/
abbrev lmQuick : Bits := flag Reg.LAMP_STATUS 2
/-- ABANDONED of LAMP_STATUS. -/
abbrev lmAbandoned : Bits := flag Reg.LAMP_STATUS 3
/-- RUNNING of LAMP_STATUS. -/
abbrev lmRunning : Bits := flag Reg.LAMP_STATUS 4

/-- A unit is under test. -/
def State.lampTesting (s : State) (u : Nat) : Bool := decide (s.rd Reg.lampPhase = 1) && decide (s.rdN Reg.lampUnit = u)

/-- The entry of unit `u` is recorded, and the next unit taken up (R646). -/
def State.lampEntry (s : State) (u result cov : Nat) (durUs : Int) : State :=
  let t := ((s.wr (Reg.lrResult u) (result : Nat)).wr (Reg.lrCov u) (cov : Nat)).wr (Reg.lrDur u) (satU 32 durUs)
  ((t.wr Reg.lampUnit ((u + 1 : Nat) : Int)).wr Reg.lampUnitNs s.now).wr Reg.seqDue 1

/-- The unit under test is abandoned: re-initialised and recorded UNTESTED with COVERAGE 0 (R648). -/
def State.lampAbandon (s : State) : State :=
  let u := s.rdN Reg.lampUnit
  if s.rd Reg.lampPhase = 1 ∧ u ≤ 26 then s.lampEntry u 2 0 ((s.now - s.rd Reg.lampUnitNs) / 1000) else s

/-- A service request for unit `u` (R648). -/
def State.lampService (s : State) (u : Nat) : State := if s.lampTesting u then s.lampAbandon else s

/-- A bit mask over units 0–26. -/
def unitMask (f : Nat → Bool) : Nat := (List.range 27).foldl (fun t u => t + if f u then 2 ^ u else 0) 0

/-- A FAIL_LOG entry (R659). -/
def failEntry (unit flags bit addr : Nat) : List Byte := leBytes 1 unit ++ leBytes 1 flags ++ leBytes 2 bit ++ leBytes 4 addr

/-- A failure is logged: FAIL_COUNT counts it and FAIL_LOG keeps the first 64 (R642). -/
def State.logFailure (s : State) (unit flags : Nat) (f : Nat × Nat) : State :=
  let t := s.inc16 Reg.FAIL_COUNT
  let b := t.blob Reg.FAIL_LOG
  if b.length < 512 then t.setBlob Reg.FAIL_LOG (b ++ failEntry unit flags f.2 f.1) else t

/-- The lamp record is written (R649, R650): FLAGS, TOTAL_US, LAMP_SEQ, and source 505 when a unit is UNTESTED (R661) (log entry 93: DESIGN CHOICE). -/
def State.lampWrite (s : State) (flags : Nat) : State :=
  let t := s.add 32 Reg.LAMP_SEQ 1
  let u := (((t.wr Reg.lrSeq (t.rd Reg.LAMP_SEQ)).wr Reg.lrFlags (flags : Nat)).wr Reg.lrTotal (satU 32 ((s.now - s.rd Reg.lampStartNs) / 1000)))
  let v := (((u.wr Reg.lrAge 0).wr Reg.lrAgeNs s.now).wr Reg.lrKept 1).wr Reg.UNTESTED_MASK (unitMask fun k => decide (5 ≤ k) && decide (u.rd (Reg.lrResult k) = 2) : Nat)
  let w := ((v.setFld lmValid 1).setFld lmRunning 0).setBit lmAbandoned (decide (flags / 2 % 2 = 1))
  if w.on Reg.UNTESTED_MASK then w.raise 505 else w

/-- Every unit not yet reached reads UNTESTED. -/
def State.lampRest (s : State) : State :=
  forUnits 27 (fun k t => if s.rdN Reg.lampUnit ≤ k then ((t.wr (Reg.lrResult k) 2).wr (Reg.lrCov k) 0).wr (Reg.lrDur k) 0 else t) s

/-- A STATE_CMD for CONFIGURED, RUN, ECONOMY or PARK ends the lamp check (R649). -/
def State.lampStop (s : State) : State :=
  match s.rdN Reg.lampPhase with
  | 0 => s
  | 1 => (s.lampAbandon.lampRest.lampWrite 2).wr Reg.lampPhase 0
  | _ => s.wr Reg.lampPhase 0

/-- The lamp check has taken 120 ms (R647) (log entry 93: DESIGN CHOICE). -/
def State.lampBudget (s : State) : State :=
  if s.rd Reg.lampPhase = 1 ∧ s.since (s.rd Reg.lampStartNs) 120000000 = true then (s.lampAbandon.lampRest.lampWrite 4).wr Reg.lampPhase 2 else s

/-- AGE_S of the lamp record (R658). -/
def State.lampAge (s : State) : Int := satU 32 (s.rd Reg.lrAge + (s.now - s.rd Reg.lrAgeNs) / 1000000000)

/-- LAMP_RECORD (R658). -/
def State.lampRecord (s : State) : List Byte :=
  let head := fun (age : Nat) => leBytes 4 (s.rdN Reg.lrSeq) ++ leBytes 4 age ++ leBytes 4 (s.rdN Reg.lrTotal) ++ leBytes 1 (s.rdN Reg.lrFlags) ++ leBytes 3 0
  let units := ((List.range 27).map fun u =>
    leBytes 1 (if u < 5 then 3 else s.rdN (Reg.lrResult u)) ++ [0] ++ leBytes 2 (s.rdN (Reg.lrCov u)) ++ leBytes 4 (s.rdN (Reg.lrDur u))).flatten
  head s.lampAge.toNat ++ units ++ leBytes 4 (crc32 (head 0 ++ units))

end Sys2Proof.Machine
end

