-- ==== Sys2Proof/Machine/RingOps.lean ====
section
/-!
DEFINITION. Shared operations of the ring ports, the input-fail warning and the prop converter (05_ring_and_holdup.md).
-/
namespace Sys2Proof.Machine

/-! ### Status fields -/

/-- STATE of a port: 0 OPEN, 1 PRECHARGE, 2 CLOSED, 3 TRIPPED, 4 FAILED. -/
abbrev rpState (p : Nat) : Bits := ⟨Reg.RP_STATUS p, 0, 3⟩
/-- CAUSE of a port. -/
abbrev rpCause (p : Nat) : Bits := ⟨Reg.RP_STATUS p, 4, 4⟩
/-- PILOT_OUT of a port. -/
abbrev rpPilotOut (p : Nat) : Bits := flag (Reg.RP_STATUS p) 8
/-- PILOT_IN of a port. -/
abbrev rpPilotIn (p : Nat) : Bits := flag (Reg.RP_STATUS p) 9
/-- PILOT_OK of a port. -/
abbrev rpPilotOk (p : Nat) : Bits := flag (Reg.RP_STATUS p) 10
/-- PILOT_STUCK of a port. -/
abbrev rpPilotStuck (p : Nat) : Bits := flag (Reg.RP_STATUS p) 11

/-- STATE of port `p`. -/
def State.rpSt (s : State) (p : Nat) : Nat := s.fld (rpState p)

/-- MODE of the prop converter: 0 DISABLED, 1 STANDBY, 2 CHARGE, 3 HOLD. -/
abbrev prMode : Bits := ⟨Reg.PROP_STATUS, 0, 2⟩
/-- CV of PROP_STATUS. -/
abbrev prCv : Bits := flag Reg.PROP_STATUS 4
/-- CHG_DONE of PROP_STATUS. -/
abbrev prDone : Bits := flag Reg.PROP_STATUS 5
/-- STORE_LOW of PROP_STATUS. -/
abbrev prStoreLow : Bits := flag Reg.PROP_STATUS 6
/-- EXHAUSTED of PROP_STATUS. -/
abbrev prExhausted : Bits := flag Reg.PROP_STATUS 7
/-- OVP of PROP_STATUS. -/
abbrev prOvp : Bits := flag Reg.PROP_STATUS 8
/-- CHG_INHIBIT of PROP_STATUS. -/
abbrev prInhibit : Bits := flag Reg.PROP_STATUS 9
/-- CAGED`k` of PROP_STATUS. -/
abbrev prCaged (k : Nat) : Bits := flag Reg.PROP_STATUS (10 + k)
/-- HOLD_CAUSE of PROP_STATUS. -/
abbrev prHoldCause : Bits := ⟨Reg.PROP_STATUS, 12, 4⟩

/-- MODE of the prop converter. -/
def State.propMode (s : State) : Nat := s.fld prMode

/-- Both prop phases are caged (R241). -/
def State.propCaged (s : State) : Bool := s.bit (prCaged 0) && s.bit (prCaged 1)

/-! ### Input-fail warning (R224–R227) -/

/-- IFWk follows its selected conditions (R225), and its pin takes the level that OPEN_DRAIN and ACTIVE_LOW give (R229); it is high-impedance in STARTING (16_balls_and_supplies.md R668). -/
def State.ifwPins (s : State) : State :=
  forUnits 4 (fun k t => (t.wr (Reg.ifwPin k)
    (if t.rd Reg.STATE = 2 ∨ t.bit (Bit.IFW_PIN_ENABLE k) = false then 0
     else if Nat.land (t.fld ⟨Reg.IFW_PIN k, 0, 4⟩) (t.fld ⟨Reg.IFW_STATUS, 0, 4⟩) ≠ 0 then 2 else 1)).wr (Reg.ifwOut k)
    (if t.rd Reg.STATE = 2 ∨ t.bit (Bit.IFW_PIN_ENABLE k) = false then 0
     else padLevel (t.bit (Bit.IFW_PIN_OPEN_DRAIN k)) (t.bit (Bit.IFW_PIN_ACTIVE_LOW k))
       (decide (Nat.land (t.fld ⟨Reg.IFW_PIN k, 0, 4⟩) (t.fld ⟨Reg.IFW_STATUS, 0, 4⟩) ≠ 0)))) s

/-- Condition `c` (0 FEED, 1 HOLD, 2 STORE, 3 PEER) takes a value: ANY, the pins, and on a change of ANY to 1 the count and
source 202; each change while the processor plane runs and BCAST_EN is 1 is to be broadcast (R224–R226, R250). -/
def State.ifwSet (s : State) (c : Nat) (b : Bool) : State :=
  let t := s.setBit (flag Reg.IFW_STATUS c) b
  let any := decide (t.fld ⟨Reg.IFW_STATUS, 0, 4⟩ ≠ 0)
  let was := s.bit (flag Reg.IFW_STATUS 4)
  let u := (t.setBit (flag Reg.IFW_STATUS 4) any).ifwPins
  if any = was then u
  else
    let v := (u.wr Reg.ifwChangeNs s.now).when (s.procRuns && s.on Reg.BCAST_EN) fun x =>
      { x with ifwDue := x.ifwDue ++ [(x.rdN Reg.IFW_STATUS, x.timebase)] }
    if any then ((v.wr Reg.ifwSetNs s.now).inc32 Reg.ASSERT_COUNT).raise 202 else v

/-- The device cannot hold as sized: a cause of STORE holds (R224). -/
def State.storeBad (s : State) : Bool :=
  !s.bit Bit.PROP_CTRL_ENABLE || s.bit (prCaged 0) || s.bit (prCaged 1) ||
    (decide (s.rd Reg.STORE_MV < s.rd Reg.STORE_RESERVE_MV) && decide (s.propMode ≠ 3))

/-- A cause of FEED, HOLD or STORE holds, or none does: a condition whose last cause has ceased starts its way to IFW_CLEAR_MS (R224). -/
def State.ifwHeld (s : State) (c : Nat) (b : Bool) : State :=
  if b then s.wr (Reg.ifwLastNs c) 0
  else if s.bit (flag Reg.IFW_STATUS c) && !s.on (Reg.ifwLastNs c) then s.wr (Reg.ifwLastNs c) (s.now + 1)
  else s

/-- A condition follows its causes: it sets as soon as one holds. -/
def State.ifwCause (s : State) (c : Nat) (b : Bool) : State :=
  (s.ifwHeld c b).when (b && !s.bit (flag Reg.IFW_STATUS c)) fun t => t.ifwSet c true

/-- STORE and HOLD follow their causes. -/
def State.ifwEval (s : State) : State :=
  let t := s.ifwCause 2 s.storeBad
  t.ifwCause 1 (decide (t.propMode = 3))

/-- The zone node in mV, by the latest result of NODE_SNS. -/
def State.node (s : State) : Int := s.quantityMv 0

/-- NODE_SNS has a result. -/
def State.nodeOk (s : State) : Bool := s.resultValid 0

/-- The fall of the node in mV across the 2 µs window of its 200 ns samples that ends with the latest (R224); 0 where the window is not
whole. -/
def State.nodeFall (s : State) : Int :=
  (((List.range 11).find? fun i => s.on (Reg.nodeNs i) && decide (s.rd (Reg.nodeNs i) + 2000 = s.rd (Reg.nodeNs 0))).map
    fun i => s.rd (Reg.nodeMv i) - s.rd (Reg.nodeMv 0)).getD 0

/-- The FEED slope condition: the node has fallen by more than IFW_SLOPE_MV_US × 2 µs across the window (R224). -/
def State.slopeHit (s : State) : Bool :=
  s.on Reg.IFW_SLOPE_MV_US && decide (s.rd Reg.IFW_SLOPE_MV_US * 2 < s.nodeFall)

/-- A cause of FEED holds (R224). -/
def State.feedCause (s : State) : Bool := (s.nodeOk && decide (s.node < s.rd Reg.IFW_LEVEL_MV)) || s.slopeHit

/-- The IFW broadcast: IFW_STATUS, seven reserved bytes and the timebase at the change (12_dictionary.md R530). -/
def State.ifwSend (s : State) (status : Nat) (ns : Int) : State :=
  (s.sendBroadcast 0x11 (leBytes 1 status ++ leBytes 7 0 ++ leBytes 8 ns.toNat)).wr Reg.ifwSentNs s.now

/-- PEER follows the warnings still set of other devices (R224). -/
def State.peerEval (s : State) : State :=
  let b := (List.range 64).any fun a => s.on (Reg.ifwPeerNs a)
  if b = s.bit (flag Reg.IFW_STATUS 3) then s else s.ifwSet 3 b

/-- An IFW broadcast of another device (R227; 12_dictionary.md R530). -/
def State.ifwReceive (s : State) (src status ns : Nat) : State :=
  if src = 0 ∨ 63 ≤ src ∨ src = s.ownAddr then s
  else
    let t := (s.wr Reg.PEER_LAST src).wr Reg.PEER_TIME_NS ns
    (t.wr (Reg.ifwPeerNs src) (if status / 16 % 2 = 1 then s.now + 1 else 0)).peerEval

/-! ### Prop converter (R230–R242) -/

/-- The charge current reference (R236, R237): CHG_MA, or its fraction that actuator point 20 asks for
(07_loop_engine.md R312). -/
def State.chargeRef (s : State) : Int :=
  if s.bit Bit.PROP_CTRL_CHG_SRC then clampI 0 (s.rd Reg.CHG_MA) (max 0 (s.rd (Reg.act 20)) * s.rd Reg.CHG_MA / 32768)
  else s.rd Reg.CHG_MA

/-- The level at which HOLD regulates the node (R220, R231). -/
def State.holdLevel (s : State) : Int := max (s.rd Reg.HOLD_MV) (s.rd Reg.ppHoldMv)

/-- The prop converter switches: in CHARGE, and in HOLD with its loop closed while the node is below the level it regulates (R231, R232). -/
def State.propRuns (s : State) : Bool :=
  decide (s.propMode = 2) || (decide (s.propMode = 3) && s.on Reg.ppLoop && s.nodeOk && decide (s.node < s.holdLevel))

/-- The modulator of the prop converter: the uncaged phases switch, in HOLD up to PROP_ILIM_MA each, or all stand at the mid level; and the
references of CHARGE (R43, R231, R232, R236, R237, R241). -/
def State.propDrive (s : State) : State :=
  let run := s.propRuns
  let charge := decide (s.propMode = 2)
  let t := forUnits 4 (fun k u => u.wrB (Reg.ppwm k) (run && !u.bit (prCaged (k / 2)))) s
  let u := forUnits 2 (fun k v => v.wr (Reg.ppIlim k) (if run && !v.bit (prCaged k) then v.rd Reg.PROP_ILIM_MA else 0)) t
  (u.wr Reg.ppChgMa (if charge then s.chargeRef else 0)).wr Reg.ppChgMv (if charge && s.bit prCv then s.rd Reg.CHG_VMAX_MV else 0)

/-- CHARGE ends in STANDBY. -/
def State.chargeLeave (s : State) : State := ((s.setFld prMode 1).setFld prCv 0).propDrive

/-- CHARGE is interrupted by an event of R230 or by R240: the hold-off starts (R238). -/
def State.propInterrupt (s : State) : State := (s.wr Reg.ppHoldoffNs (s.now + 1)).wr Reg.ppNeedEn 1

/-- The storage sensor is at or above its warning level (R238; 08_sensing_and_thermal.md R363). -/
def State.storeHot (s : State) : Bool :=
  let n := s.rdN Reg.STORE_NTC
  decide (n ≠ 0) && decide (1 ≤ s.fld ⟨Reg.TS_STATUS n, 0, 3⟩)

/-- The conditions of CHG_INHIBIT (R238). -/
def State.inhibitDue (s : State) : Bool :=
  (s.on Reg.ppHoldoffNs && decide (s.now < s.rd Reg.ppHoldoffNs - 1 + s.rd Reg.CHG_HOLDOFF_MS * 1000000)) ||
    s.storeHot || s.on Reg.ppOvpLatch || (!s.bit Bit.PROP_CTRL_AUTO_RESUME && s.on Reg.ppNeedEn)

/-- CHG_INHIBIT follows its conditions; it stops charging (R238) (log entry 21: DEDUCED). -/
def State.inhibitEval (s : State) : State :=
  (s.setBit prInhibit s.inhibitDue).when (s.inhibitDue && decide (s.propMode = 2)) State.chargeLeave

/-- An event of R230 with its HOLD_CAUSE code (R231): HOLD is entered from STANDBY or CHARGE, with the PPWM outputs at the mid level until
its loop is closed; two events on one edge leave the lowest code (R251); during HOLD and while no phase is left nothing changes. While the
storage is locked out the event ends CHARGE, but HOLD is not entered (R231, R234, R251; log entry 86: DEDUCED). -/
def State.holdEnter (s : State) (cause : Nat) : State :=
  if s.propMode = 3 then
    if s.rd Reg.ppHoldNs = s.now ∧ cause < s.fld prHoldCause then s.setFld prHoldCause cause else s
  else if s.propMode = 0 ∨ s.propCaged = true then s
  else if s.on Reg.ppLockout then if s.propMode = 2 then s.propInterrupt.chargeLeave.inhibitEval else s
  else
    let t := (s.lampService 9).when (decide (s.propMode = 2)) State.propInterrupt
    let u := ((((t.setFld prMode 3).setFld prHoldCause cause).setFld prExhausted 0).setFld prCv 0).wr Reg.ppHoldNs s.now
    ((((u.wr Reg.ppLoop 0).wr Reg.ppAboveNs 0).inc32 Reg.HOLD_COUNT).propDrive.raise 196).inhibitEval.ifwEval

/-- HOLD ends in STANDBY: its length, and the hold-off of charging (R233, R238). -/
def State.holdLeave (s : State) : State :=
  let us := (s.now - s.rd Reg.ppHoldNs) / 1000
  let t := (((s.setFld prMode 1).wr Reg.ppLoop 0).propDrive.wr Reg.HOLD_LAST_US (satU 32 us)).wr Reg.ppHoldMv 0
  (t.wr Reg.ppHoldoffNs (s.now + 1)).inhibitEval.ifwEval

/-- A 200 ns sample of NODE_SNS: the window of the FEED slope, the exit count of R233, FEED's causes, and the pulses of HOLD (R224, R232,
R233). -/
def State.nodeSample (s : State) : State :=
  if s.nodeOk then
    let t := (List.range 10).foldl (fun u i => (u.wr (Reg.nodeMv (10 - i)) (u.rd (Reg.nodeMv (9 - i)))).wr (Reg.nodeNs (10 - i)) (u.rd (Reg.nodeNs (9 - i)))) s
    let u := (t.wr (Reg.nodeMv 0) s.node).wr (Reg.nodeNs 0) (s.now + 1)
    let v := if u.node ≤ u.rd Reg.HOLD_EXIT_MV ∨ u.propMode ≠ 3 then u.wr Reg.ppAboveNs 0
      else if u.on Reg.ppAboveNs then u else u.wr Reg.ppAboveNs (s.now + 1)
    (v.ifwHeld 0 v.feedCause).propDrive
  else forUnits 11 (fun i t => t.wr (Reg.nodeNs i) 0) s

/-- 10 µs of the rise of the HOLD level toward VR_MV − 500 mV at 1 V per ms (R220). -/
def State.holdRaise (s : State) : State :=
  forUnits 2 (fun p t =>
    if t.propMode = 3 ∧ t.rpSt p = 1 ∧ t.rd Reg.NODE_MV < t.rd (Reg.VR_MV p) then
      let goal := t.rd (Reg.VR_MV p) - 500
      if t.holdLevel < goal then t.wr Reg.ppHoldMv (min goal (t.holdLevel + 10)) else t
    else t) s

/-- The storage's own levels: STORE_LOW and source 201, the lock-out of R234, the overvoltage latch, CHG_DONE, and the time spent below the
end-of-charge current (R234, R236, R238, R250). OVP clears with the latch of R238, below CHG_VMAX_MV (R239; log entry 121: DESIGN CHOICE). -/
def State.storeEval (s : State) : State :=
  let v := s.rd Reg.STORE_MV
  let low := decide (v < s.rd Reg.STORE_RESERVE_MV)
  let t := (s.setBit prStoreLow low).when (low && !s.bit prStoreLow) fun u => u.raise 201
  let u := t.when (decide (t.rd Reg.STORE_MIN_MV + 1000 < v)) fun x => x.wr Reg.ppLockout 0
  let w := u.when (decide (v < u.rd Reg.CHG_VMAX_MV)) fun x => (x.wr Reg.ppOvpLatch 0).setFld prOvp 0
  let x := w.when (decide (v < w.rd Reg.CHG_VMAX_MV - 500)) fun y => y.setFld prDone 0
  let taper := decide (x.propMode = 2) && x.bit prCv && decide (x.rd Reg.STORE_MA < x.rd Reg.CHG_TAPER_MA)
  let y := if !taper then x.wr Reg.ppTaperNs 0 else if x.on Reg.ppTaperNs then x else x.wr Reg.ppTaperNs (x.now + 1)
  y.inhibitEval.ifwEval.propDrive

/-- The storage current in mA, positive into the storage, by PCS0 and PCS1 (R244; 06_tally_and_sharing.md R268): the sum of the two phase currents,
truncated toward zero (log entry 121: DESIGN CHOICE). -/
def State.storeMa (s : State) : Int :=
  let uv := fun (k : Nat) => pinUv (38 + k) (s.rd (Reg.RESULT (38 + k))) - s.rd Reg.PCS_ZERO_MV * 1000
  satI32 (((uv 0 + uv 1) * 1000).tdiv (s.rd Reg.PCS_GAIN_UV))

/-- STORE_MA follows PCS0 and PCS1 while both have valid results (R242; log entry 112: DESIGN CHOICE). -/
def State.takeStoreMa (s : State) : State := s.when (s.resultValid 38 && s.resultValid 39) fun t => t.wr Reg.STORE_MA t.storeMa

/-- A 10 µs sample of the storage (R242): the charge, and the energy in picojoules without loss of fractions; the
pit log stages the energy (11_shaft_and_pit_log.md R475) (log entry 118: DESIGN CHOICE). -/
def State.storeCount (s : State) (mv ma : Int) : State :=
  let q := s.rd Reg.ppChgFrac + ma * 10
  let t := (s.wr Reg.CHARGE_MC (clampI (-(2 ^ 63 : Int)) (2 ^ 63 - 1) (s.rd Reg.CHARGE_MC + q / 1000000))).wr Reg.ppChgFrac (q % 1000000)
  let e := mv * absI ma * 10
  if 0 ≤ ma then
    let f := t.rd Reg.ppInFrac + e
    ((t.add 64 Reg.E_IN_MJ (f / 1000000000)).wr Reg.ppInFrac (f % 1000000000)).stage 0x148 64 (f / 1000000000)
  else
    let f := t.rd Reg.ppOutFrac + e
    ((t.add 64 Reg.E_OUT_MJ (f / 1000000000)).wr Reg.ppOutFrac (f % 1000000000)).stage 0x150 64 (f / 1000000000)

/-- Prop phase `k` is caged (R241): the other carries on, and with both caged HOLD and CHARGE end. -/
def State.propCage (s : State) (k : Nat) : State :=
  let t := (s.setFld (prCaged k) 1).raise (199 + k)
  if t.propCaged then
    if t.propMode = 3 then t.holdLeave
    else if t.propMode = 2 then t.chargeLeave.ifwEval
    else t.ifwEval
  else t.propDrive.ifwEval

/-- The storage is exhausted in HOLD (R234). -/
def State.storeExhausted (s : State) : State :=
  ((s.holdLeave.setFld prExhausted 1).wr Reg.ppLockout 1).raise 197

/-! ### Ring ports (R199–R223) -/

/-- A port raises a source of its own; a port not fitted raises none (R221). -/
def State.rpRaise (s : State) (p f : Nat) : State := if s.bit (Bit.RP_CTRL_ENABLE p) then s.raise (f + p) else s

/-- A close starts: the port regulates its current at PRECHG_MA (R216) (log entry 86: DEDUCED). -/
def State.rpClose (s : State) (p : Nat) : State :=
  let t := ((s.setFld (rpState p) 1).wr (Reg.rpGate p) 1).wr (Reg.rpJudge p) 0
  ((t.wr (Reg.rpPreNs p) s.now).wr (Reg.rpNearNs p) 0).wr (Reg.rpRegMa p) (s.rd (Reg.PRECHG_MA p))

/-- Port East has left PRECHARGE: a START_CLOSE of West that waits for it starts, if West is still fitted (R215). -/
def State.rpWest (s : State) (p : Nat) : State :=
  if p = 0 ∧ s.on Reg.rpWestNext = true then
    let t := s.wr Reg.rpWestNext 0
    if (t.rpSt 1 = 0 ∨ t.rpSt 1 = 3) ∧ t.bit (Bit.RP_CTRL_ENABLE 1) = true then t.rpClose 1 else t
  else s

/-- A port opens into `st` with its CAUSE (R200, R212) (log entry 86: DEDUCED). -/
def State.rpOpens (s : State) (p st cause : Nat) : State :=
  let t := ((((s.setFld (rpState p) st).setFld (rpCause p) cause).wr (Reg.rpGate p) 0).wr (Reg.rpJudge p) (s.now + 1)).wr (Reg.rpRegMa p) 0
  if s.rpSt p = 1 then t.rpWest p else t

/-- The shunt voltage of a port, in µV and positive for an outward current, exceeds that of a current (R199, R221). -/
def State.rpBeyond (s : State) (p : Nat) (ma shuntUv : Int) : Bool := decide (ma * s.rd (Reg.Ring_SHUNT_UOHM p) < shuntUv * 1000)

/-- A port that conducts trips (R207, R230). Without ISO_HOLD the trip ends CHARGE (R251); a prop converter held in a power-plane reset takes no
part (R249). -/
def State.rpTripNow (s : State) (p cause : Nat) : State :=
  let t := ((((s.lampService (10 + p)).rpOpens p 3 cause).inc32 (Reg.Ring_TRIPS p)).wr (Reg.rpTripNs p) (s.now + 1)).rpRaise p (182 + 2 * cause)
  if !t.ppRuns then t
  else if t.bit Bit.PROP_CTRL_ISO_HOLD then t.holdEnter 3
  else if t.propMode = 2 then t.propInterrupt.chargeLeave.inhibitEval else t

/-- A trip of a CLOSED port under R204, R205 or R206; on the edge of another trip of the port it is one trip with the lowest CAUSE, and its
source is raised as well; on that of a host open it is the trip that counts, and the open is turned away (R251). -/
def State.rpTrip (s : State) (p cause : Nat) : State :=
  let f := 182 + 2 * cause
  if s.rpSt p = 2 then s.rpTripNow p cause
  else if s.rpSt p = 0 ∧ s.markedNow markHostOpen p = true then (s.rpTripNow p cause).turnedAway
  else if s.rpSt p = 3 ∧ s.rd (Reg.rpTripNs p) = s.now + 1 ∧ s.fld (rpCause p) ≠ cause then
    (s.setFld (rpCause p) (min cause (s.fld (rpCause p)))).rpRaise p f
  else s

/-- The fault reaction "open a ring port" (R212): a port in PRECHARGE or CLOSED enters TRIPPED with CAUSE 0x4; any other stays as
it is (10_faults_watchdog_resets.md R447) (log entry 86: DEDUCED). A host close of the same instant is turned away (R251). -/
def State.rpReactOpen (s : State) (p : Nat) : State :=
  let t := s.mark markReactOpen p 0
  if s.rpSt p = 1 ∨ s.rpSt p = 2 then (t.rpOpens p 3 4).when (decide (s.rpSt p = 1) && s.markedNow markHostClose p) State.turnedAway else t

/-- A port sends and supervises the pilot: ENABLE and PILOT_EN are 1 (R202, R209, R210). -/
def State.pilotOn (s : State) (p : Nat) : Bool := s.bit (Bit.RP_CTRL_ENABLE p) && s.bit (Bit.RP_CTRL_PILOT_EN p)

/-- The level of RPx_PLTO for a shunt voltage and a ring-side voltage (R202). -/
def State.pilotDrive (s : State) (p : Nat) (shuntUv vrMv : Int) : Bool :=
  s.pilotOn p && (s.rpBeyond p (s.rd (Reg.ISO_DIR_MA p)) shuntUv || decide (vrMv < s.rd (Reg.VRING_UV_MV p)))

/-- Supervision of a port's pilot starts (R210). -/
def State.rpSupervise (s : State) (p : Nat) : State := (s.wr (Reg.rpMissed p) 0).wr (Reg.rpSupNs p) s.now

/-- The qualification of a pre-charge goes on or starts again (R216; log entry 86: DEDUCED). -/
def State.rpNear (s : State) (p : Nat) : State :=
  if s.rpSt p ≠ 1 ∨ 1000 < absI (s.rd (Reg.VL_MV p) - s.rd (Reg.VR_MV p)) then s.wr (Reg.rpNearNs p) 0
  else if s.on (Reg.rpNearNs p) then s else s.wr (Reg.rpNearNs p) (s.now + 1)

/-- The qualification of a pre-charge is complete (R216). -/
def State.rpQualified (s : State) (p : Nat) : Bool :=
  decide (s.rpSt p = 1) && s.on (Reg.rpNearNs p) && s.since (s.rd (Reg.rpNearNs p) - 1) 100000

/-- A pre-charge ends in CLOSED (R216). -/
def State.rpClosed (s : State) (p : Nat) : State :=
  (((s.setFld (rpState p) 2).wr (Reg.rpGate p) 2).wr (Reg.rpRegMa p) 0).rpWest p

/-- START_CLOSE at the first entry to CONFIGURED after a cold reset: East first (R214, R215) (log entry 86: DEDUCED). -/
def State.rpStartClose (s : State) : State :=
  let go := fun (p : Nat) => s.bit (Bit.RP_CTRL_START_CLOSE p) && s.bit (Bit.RP_CTRL_ENABLE p) && decide (s.rpSt p = 0) &&
    !s.on (Reg.rpUntested p)
  if go 0 then (s.rpClose 0).wrB Reg.rpWestNext (go 1)
  else if go 1 then s.rpClose 1
  else s

end Sys2Proof.Machine
end

