-- ==== Sys2Proof/Machine/SenseOps.lean ====
section
/-!
DEFINITION. Shared operations of the converter banks, the window monitors and the thermal manager
(08_sensing_and_thermal.md), with the registers that conversions feed.
-/
namespace Sys2Proof.Machine

/-! ### Inputs (R333–R339) -/

/-- The converters of a bank that are in service: `prec` false for FADC0–3, true for PADC0–1 (R338). -/
def State.bankLeft (s : State) (prec : Bool) : List Nat :=
  (if prec then [4, 5] else [0, 1, 2, 3]).filter fun c => !s.bit (flag Reg.BANK_STATUS c)

/-- Slot `e` of the scan table (R345). -/
def State.slotBits (s : State) (e : Nat) : Nat := s.rdN (Reg.ScanTab_ENTRY (e / 128) (e % 128))

/-- The enabled slots in use, of a bank (R340). -/
def State.slotsOf (s : State) (prec : Bool) : List Nat :=
  ((List.range (s.rdN Reg.SCAN_LEN)).map s.slotBits).filter fun v =>
    decide (v / 32768 = 1) && decide (v / 16384 % 2 = if prec then 1 else 0)

/-- Conversions that slots ask for in a round: 2^OVS each (R341) (log entry 91: DESIGN CHOICE). -/
def slotUse (l : List Nat) : Nat := l.foldl (fun t v => t + 2 ^ (v / 4096 % 4)) 0

/-- The input belongs to the reserved fast schedule (R336). -/
def State.reservedFast (s : State) (i : Nat) : Bool :=
  decide (i = 0) || (decide (18 ≤ i) && decide (i ≤ 77)) || decide (i = 94) || decide (i = 95) || decide (i = s.rdN Reg.STORE_INPUT) ||
    ((List.range 4).any fun r => s.rdN (Reg.VIN_INPUT r) = i) ||
    (decide (s.fld Bit.TALLY_CTRL_IN_SRC = 1) && (decide (s.rdN Reg.IN_V_INPUT = i) || decide (s.rdN Reg.IN_I_INPUT = i)))

/-- The input belongs to the reserved precision schedule: 78–89 for each enabled sensor (R336). -/
def State.reservedPrec (s : State) (i : Nat) : Bool :=
  (decide (90 ≤ i) && decide (i ≤ 95)) || (decide (78 ≤ i) && decide (i < 90) && s.bit (Bit.TS_CTRL_ENABLE (i - 77)))

/-- The reserved schedule of a bank. -/
def State.reserved (s : State) (prec : Bool) (i : Nat) : Bool := if prec then s.reservedPrec i else s.reservedFast i

/-- An entry of the table in effect, enabled and of a bank (R340, R342, R345). -/
def State.entryOf (s : State) (prec : Bool) (e : Nat) : Bool :=
  let v := s.rdN (Reg.scTab e)
  decide (e < s.rdN Reg.scLen) && decide (v / 32768 = 1) && decide (v / 16384 % 2 = if prec then 1 else 0)

/-- The inputs that the table in effect names for a bank. -/
def State.entryInputs (s : State) (prec : Bool) : List Nat :=
  ((List.range 256).filter (s.entryOf prec)).map fun e => s.rdN (Reg.scTab e) % 128

/-- A bank converts entries in this round: the fast bank with all four converters, the precision bank with both, or with one in an
even-numbered round (R339) (log entry 91: DESIGN CHOICE). -/
def State.entriesRun (s : State) (prec : Bool) : Bool :=
  let n := (s.bankLeft prec).length
  if prec then decide (n = 2) || (decide (n = 1) && decide (s.rd Reg.scCount % 2 = 0)) else decide (n = 4)

/-- The place of a bank in the registers of the round. -/
def bankNo (prec : Bool) : Nat := if prec then 1 else 0

/-- The entry that a bank converts next in the round in progress (R340). -/
def State.nextEntry (s : State) (prec : Bool) : Option Nat :=
  if s.on Reg.scanRound && s.entriesRun prec then
    (List.range 256).find? fun e => decide (s.rdN (Reg.scNext (bankNo prec)) ≤ e) && s.entryOf prec e
  else none

/-- What converts input `i` has no converter left, or is an entry of the fast bank with one of its converters caged: it reads 0x8000
(R339). -/
def State.inputLost (s : State) (i : Nat) : Bool :=
  let dead := fun (p : Bool) => (s.bankLeft p).isEmpty
  let named := fun (p : Bool) => s.reserved p i || (s.entryInputs p).contains i
  (dead false && (dead true || (named false && !named true))) || (dead true && named true && !named false) ||
    (decide ((s.bankLeft false).length < 4) && (s.entryInputs false).contains i && !s.reservedFast i && !s.reservedPrec i)

/-! ### Publishing a result (R335, R337) and what it feeds -/

/-- The input voltage of a rail (R51, R52): the last valid quantity of VIN_INPUT since the reset; the clamp source is raised once at the
start of each interval in which VIN_INPUT reads 0x8000. -/
def State.vinTake (s : State) (r : Nat) : State :=
  let i := s.rdN (Reg.VIN_INPUT r)
  let last := s.rd (Reg.inLast i)
  let t := if last = -32768 then s.wr (Reg.rlVinSeen r) 0 else (s.wr (Reg.rlVin r) (s.quantityOf i last)).wr (Reg.rlVinSeen r) 1
  if s.resultValid i then t.wr (Reg.rlVinBad r) 0
  else if t.on (Reg.rlVinBad r) then t
  else (t.wr (Reg.rlVinBad r) 1).raise (64 + r)

/-- The rails whose VIN_INPUT is `i` take its result. -/
def State.railVin (s : State) (i : Nat) : State := forUnits 4 (fun r t => if t.rdN (Reg.VIN_INPUT r) = i then t.vinTake r else t) s

/-- VOUT_MV of a rail follows its sense input every 10 µs, rounded down to mV, with telemetry and the pit log's extremes
(02_converter_core.md R46; 11_shaft_and_pit_log.md R475; log entry 118: DESIGN CHOICE). -/
def State.railSense (s : State) (r : Nat) : State :=
  let at10 := s.now / 10000 + 1
  if s.rd (Reg.rlSampleAt r) = at10 ∨ s.resultValid (18 + r) = false then s
  else
    let mv := satU 16 (s.rd (Reg.RESULT (18 + r)) * 1600 * 10000 / (32768 * s.rd (Reg.SENSE_GAIN r)))
    let t := ((s.wr (Reg.rlSampleAt r) at10).wr (Reg.VOUT_MV r) mv).record 17 (telemetryRecord s.timebase (0x2000 + r) 0x1E mv)
    if 2 ≤ t.railSt r ∧ t.railSt r ≤ 4 ∧ t.bit (rlMoving r) = false ∧ t.marginOf r = 0 then
      (t.stageMin (0x130 + 2 * r) mv).stageMax (0x138 + 2 * r) mv
    else t

/-- The average comes to exceed the limit again only after it has been at or below it (02_converter_core.md R95). -/
def State.avgFell (s : State) (r : Nat) : State := s.when (!s.avgAbove r) fun t => t.wr (Reg.rlOvlAbove r) 0

/-- One step of the slow-overload average, each 10 µs in which the rail switches with OVL_LIMIT_MA not 0 (02_converter_core.md R95); it
keeps its value in between (log entry 111: DESIGN CHOICE). -/
def State.avgStep (s : State) (r : Nat) : State :=
  let at10 := s.now / 10000 + 1
  let last := s.rd (Reg.rlAvgAt r)
  if last = at10 then s
  else
    let tau := 100 * s.rd (Reg.OVL_TAU_MS r)
    let n := if last = 0 then 1 else clampI 1 tau (at10 - last)
    let avg := s.rd (Reg.rlAvg r)
    ((s.wr (Reg.rlAvgAt r) at10).when (s.switching r && s.on (Reg.OVL_LIMIT_MA r)) fun t =>
      t.wr (Reg.rlAvg r) (avg + (s.rd (Reg.IOUT_MA r) * 65536 - avg) * n / tau)).avgFell r

/-- How long the current of a rail has been below BURST_ENTRY_MA (02_converter_core.md R74) (log entry 73: DEDUCED). -/
def State.burstStamp (s : State) (r : Nat) : State :=
  if s.rd (Reg.BURST_ENTRY_MA r) ≤ s.rd (Reg.IOUT_MA r) then s.wr (Reg.rlLowNs r) 0
  else if s.on (Reg.rlLowNs r) then s else s.wr (Reg.rlLowNs r) (s.now + 1)

/-- IOUT_MA of a rail: the sum of the currents of its phases (02_converter_core.md R46), and what follows it; a negative sum reads as 0
(log entry 118: DESIGN CHOICE). -/
def State.railSum (s : State) (r : Nat) : State :=
  let t := s.wr (Reg.IOUT_MA r) (satU 32 ((s.phasesOf r).foldl (fun t p => t + s.rd (Reg.IPHASE_MA p)) 0))
  (t.when (decide (t.rd (Reg.IOUT_MA r) ≤ t.railCap r)) fun u => u.wr (Reg.rlCageLim r) 0).burstStamp r

/-- The current of a rail is updated, every 10 µs (02_converter_core.md R46, R95). -/
def State.railCurrent (s : State) (r : Nat) : State := (s.railSum r).avgStep r

/-- IPHASE_MA of a phase, rounded toward zero to mA, and IOUT_MA of its rail follow the current sense every 10 µs (02_converter_core.md
R41, R44, R46; log entry 118: DESIGN CHOICE). -/
def State.phaseSense (s : State) (p : Nat) : State :=
  let at10 := s.now / 10000 + 1
  if s.rd (Reg.phSampleAt p) = at10 ∨ s.resultValid (22 + p) = false then s
  else
    let ma := satI32 (((pinUv (22 + p) (s.rd (Reg.RESULT (22 + p))) - s.rd (Reg.CS_ZERO_MV p) * 1000) * 1000).tdiv (s.rd (Reg.CS_GAIN_UV p)))
    let t := ((s.wr (Reg.phSampleAt p) at10).wr (Reg.IPHASE_MA p) ma).record 17 (telemetryRecord s.timebase (0x2010 + p) 9 ma)
    if t.bit (Bit.PHASE_CTRL_ASSIGNED p) then
      let r := t.fld (Bit.PHASE_CTRL_RAIL p)
      let u := t.railCurrent r
      u.record 17 (telemetryRecord u.timebase (0x2000 + r) 0x1F (u.rd (Reg.IOUT_MA r)))
    else t

/-- Publish a result of input `i`. -/
def State.publish (s : State) (i : Nat) (code : Int) : State :=
  let t := ((s.wr (Reg.RESULT i) code).when (decide (code ≠ -32768)) fun u => u.wr (Reg.inLast i) code).railVin i
  if 18 ≤ i ∧ i < 22 then t.railSense (i - 18)
  else if 22 ≤ i ∧ i < 38 then t.phaseSense (i - 22)
  else if i = 0 then t.nodeSample
  else t

/-- The result of an entry of the round in progress that has been published: it stands until the next round (R376). -/
def State.roundHas (s : State) (i : Nat) : Bool :=
  s.on Reg.scanRound && [false, true].any fun p => (List.range (s.rdN (Reg.scNext (bankNo p)))).any fun e => s.entryOf p e && decide (s.rdN (Reg.scTab e) % 128 = i)

/-- The inputs that nothing converts any more read 0x8000, but for what the round in progress has published (R339, R376). -/
def State.dropLost (s : State) : State :=
  if s.rd Reg.BANK_STATUS = 0 then s
  else forAll ((List.range 96).filter fun i => s.resultValid i && s.inputLost i && !s.roundHas i) (fun i t => t.publish i (-32768)) s

/-- Converter `c` is caged (R338, R339). -/
def State.cageConverter (s : State) (c : Nat) : State := ((s.setFld (flag Reg.BANK_STATUS c) 1).raise 501).dropLost

/-- A reference check of converter `c` on input 94 or 95 (R338): two in a row outside 2 % of full scale cage it. -/
def State.refCheck (s : State) (c i : Nat) (code : Int) : State :=
  let nominal : Int := if i = 94 then 8192 else 24576
  if 655 < absI (code - nominal) then
    let t := (s.inc32 Reg.REF_ERRORS).add 2 (Reg.bankBadRun c) 1
    if 2 ≤ t.rd (Reg.bankBadRun c) then t.cageConverter c else t
  else s.wr (Reg.bankBadRun c) 0

/-- The level at the pins within the full scale of the input (R335). -/
def clampCode (i : Nat) (code : Int) : Int := clampI (if bipolar i then -32767 else 0) 32767 code

/-- A conversion of input `i` by converter `c`: beyond the full scale the input is out of range (06_tally_and_sharing.md R268; log entry 114:
DESIGN CHOICE), and one of input 94 or 95 is a reference check (R338). -/
def State.checkLevel (s : State) (c i : Nat) (code : Int) : State :=
  let t := s.wrB (Reg.inOut i) (decide (clampCode i code ≠ code))
  if i = 94 ∨ i = 95 then t.refCheck c i (clampCode i code) else t

/-- A conversion for entry `e`: after 2^OVS of them their mean, to the nearest, is the entry's result, and the bank comes to its next entry
(R340, R341) (log entry 91: DESIGN CHOICE). -/
def State.entryConverts (s : State) (prec : Bool) (e i : Nat) (v : Int) : State :=
  let b := bankNo prec
  let n := s.rd (Reg.scConv b) + 1
  let sum := s.rd (Reg.scSum b) + v
  let all : Int := (2 ^ (s.rdN (Reg.scTab e) / 4096 % 4) : Nat)
  if n < all then (s.wr (Reg.scConv b) n).wr (Reg.scSum b) sum
  else (((s.wr (Reg.scConv b) 0).wr (Reg.scSum b) 0).wr (Reg.scNext b) ((e + 1 : Nat) : Int)).publish i (roundDiv sum all)

/-- A conversion of input `i` by converter `c` completes (R335–R341), `code` being the level at the pins before the clamp to the full scale:
one of the reserved schedule of the converter's bank, or, for `some e`, one of entry `e` of the slot table when that is the bank's
next. A caged converter publishes nothing, and T0 is read as a temperature only (R333) (log entry 91: DESIGN CHOICE). -/
def State.convert (s : State) (c i : Nat) (code : Int) (entry : Option Nat) : State :=
  let prec := decide (4 ≤ c)
  let v := clampCode i code
  if s.bit (flag Reg.BANK_STATUS c) || decide (i = 90) then s
  else match entry with
    | none => if s.reserved prec i then (s.publish i v).checkLevel c i code else s
    | some e => if s.nextEntry prec = some e ∧ s.rdN (Reg.scTab e) % 128 = i then (s.entryConverts prec e i v).checkLevel c i code else s

/-! ### The scan sequencer (R340, R342) -/

/-- The slot table, SCAN_LEN and SCAN_PERIOD_US committed take effect (R342). -/
def State.scanTake (s : State) : State :=
  let t := forUnits 256 (fun e u => u.wr (Reg.scTab e) (u.slotBits e : Nat)) s
  let u := (t.wr Reg.scLen (t.rd Reg.SCAN_LEN)).wr Reg.scPeriod (t.rd Reg.SCAN_PERIOD_US)
  (u.wr Reg.FAST_USE (slotUse (u.slotsOf false) : Nat)).wr Reg.PREC_USE (slotUse (u.slotsOf true) : Nat)

/-- The next multiple of the scan period in effect at which no round has begun: until a round has begun since the enable, the period is the
one committed (R340, R342) (log entry 10: DESIGN CHOICE). -/
def State.toScanRound (s : State) : State :=
  let ns := (if s.on Reg.scRun then s.rdN Reg.scPeriod else s.rdN Reg.SCAN_PERIOD_US) * 1000
  let t := s.toMultiple ns
  if t.on Reg.scRun = true ∧ t.now = t.rd Reg.scAt then t.advance ns else t

/-- A scan round begins (R339, R340, R342). -/
def State.roundBegins (s : State) : State :=
  let t := s.toScanRound
  let u := ((t.wr Reg.scCount (if t.on Reg.scRun then t.rd Reg.scCount + 1 else 0)).wr Reg.scRun 1).wr Reg.scAt t.now
  let v := forUnits 2 (fun b x => ((x.wr (Reg.scNext b) 0).wr (Reg.scSum b) 0).wr (Reg.scConv b) 0) (u.wr Reg.scanRound 1)
  v.scanTake.dropLost

/-- Every result of the round in progress has been published (R340). -/
def State.roundDone (s : State) : Bool := s.on Reg.scanRound && (s.nextEntry false).isNone && (s.nextEntry true).isNone

/-! ### The tally's input power (06_tally_and_sharing.md R252) -/

/-- The inputs that P_IN uses (06_tally_and_sharing.md R268). -/
def State.powerInputs (s : State) : List Nat :=
  if s.fld Bit.TALLY_CTRL_IN_SRC = 0 then
    (if s.bit (Bit.RP_CTRL_ENABLE 0) then [72, 74] else []) ++ (if s.bit (Bit.RP_CTRL_ENABLE 1) then [73, 76] else []) ++
      (if s.bit Bit.PROP_CTRL_ENABLE then [s.rdN Reg.STORE_INPUT, 38, 39] else [])
  else [s.rdN Reg.IN_V_INPUT, s.rdN Reg.IN_I_INPUT]

/-- P_IN of a 10 µs sample, or none when an input it uses has no valid result or is out of its range. -/
def State.powerSample (s : State) : Option Int :=
  if s.powerInputs.any fun i => !s.resultValid i || s.on (Reg.inOut i) then none
  else if s.fld Bit.TALLY_CTRL_IN_SRC = 0 then
    let port := fun (p : Nat) => max 0 (-(s.rd (Reg.Ring_I_MA p))) * s.rd (Reg.VL_MV p) / 1000
    some (port 0 + port 1 + max 0 (-(s.rd Reg.STORE_MA)) * s.rd Reg.STORE_MV / 1000)
  else
    let v := s.rdN Reg.IN_V_INPUT
    let i := s.rdN Reg.IN_I_INPUT
    some ((s.quantityMv v * ((pinUv i (s.rd (Reg.RESULT i)) * 1000).tdiv (s.rd Reg.IN_I_GAIN_UV))).tdiv 1000)

/-- The ten latest samples of P_IN are kept. -/
def State.samplePower (s : State) : State :=
  let l := s.powerIn ++ [s.powerSample]
  { s with powerIn := l.drop (l.length - 10) }

/-! ### Window monitors (R347–R356) -/

/-- OUT of a monitor. -/
abbrev mnOut (m : Nat) : Bits := flag (Reg.WM_STATUS m) 0
/-- OUT_F of a monitor. -/
abbrev mnOutF (m : Nat) : Bits := flag (Reg.WM_STATUS m) 1
/-- CHECKING of a monitor. -/
abbrev mnChecking (m : Nat) : Bits := flag (Reg.WM_STATUS m) 2
/-- CHECK_FAIL of a monitor. -/
abbrev mnCheckFail (m : Nat) : Bits := flag (Reg.WM_STATUS m) 3

/-- LO_CODE of a monitor before the commits of this instant (R376). -/
def State.loBefore (s : State) (m : Nat) : Int := (s.nowFirst markLoCode m).getD (s.rd (Reg.LO_CODE m))

/-- HI_CODE of a monitor before the commits of this instant (R376). -/
def State.hiBefore (s : State) (m : Nat) : Int := (s.nowFirst markHiCode m).getD (s.rd (Reg.HI_CODE m))

/-- OUT after the input stands at `uv` µV, under thresholds of codes `lo` and `hi`, from the state `was` (R347, R348): both sides are taken
1024 × (FS_HI − FS_LO) times. -/
def State.mnEval (s : State) (m : Nat) (lo hi uv : Int) (was : Bool) : Bool :=
  let fs := fullScale (s.rdN (Reg.INPUT m))
  let span := fs.2 - fs.1
  let x := 1024 * (uv - fs.1)
  let h : Int := match s.fld (Bit.WM_CTRL_HYS m) with
    | 0 => 0
    | 1 => 4
    | 2 => 8
    | _ => 16
  match s.fld (Bit.WM_CTRL_MODE m) with
  | 0 => if hi * span < x then true else if x < lo * span then false else was
  | 1 => if x < lo * span then true else if hi * span < x then false else was
  | _ => if hi * span < x ∨ x < lo * span then true else if (lo + h) * span ≤ x ∧ x ≤ (hi - h) * span then false else was

/-- The pin-path output of a monitor (R351). -/
def State.mnPin (s : State) (m : Nat) : Bool := if s.bit (Bit.WM_CTRL_FILT_PIN m) then s.bit (mnOutF m) else s.bit (mnOut m)

/-- A monitor in a CMPO pin's mask has its pin-path output at 1. -/
def State.cmpoHit (s : State) (k : Nat) : Bool :=
  (List.range 48).any fun m => decide (s.rdN (Reg.CMPO_MASK k) / 2 ^ m % 2 = 1) && s.mnPin m

/-- The CMPO pins follow their monitors; an asserted pin with LATCH stays so; a pin is high-impedance with ENABLE at 0 and in
STARTING, and its level and drive are those of ACTIVE_LOW and OPEN_DRAIN (R353, R358; 16_balls_and_supplies.md R668). -/
def State.cmpoPins (s : State) : State :=
  forUnits 8 (fun k t =>
    let hit := t.cmpoHit k
    let held := t.bit (Bit.CMPO_CTRL_LATCH k) && (t.on (Reg.cmpoLatched k) || hit)
    let on := hit || held
    let u := (t.wrB (Reg.cmpoLatched k) held).setBit (flag Reg.CMPO_STATE k) on
    u.wr (Reg.cmpoPin k) (if t.rd Reg.STATE = 2 ∨ t.bit (Bit.CMPO_CTRL_ENABLE k) = false then 0
      else padLevel (t.bit (Bit.CMPO_CTRL_OPEN_DRAIN k)) (t.bit (Bit.CMPO_CTRL_ACTIVE_LOW k)) on)) s

/-- A write of 1 to CLEAR of a CMPO pin: it releases the latch when no masked output is still 1 (R353). -/
def State.cmpoClear (s : State) (k : Nat) : State :=
  if s.cmpoHit k then s else (s.wr (Reg.cmpoLatched k) 0).cmpoPins

/-- A capture event of a monitor's OUT_F (11_shaft_and_pit_log.md R466): 16 bytes, the newest 256 kept. -/
def State.capEvent (s : State) (m : Nat) (b : Bool) : State :=
  if (s.rd Reg.CAP_STATE = 1 ∨ s.rd Reg.CAP_STATE = 2) ∧ s.rdN Reg.EVT_MASK / 2 ^ m % 2 = 1 ∧ s.shaftUp = true then
    let l := s.capEvents ++ [leBytes 8 s.timebase ++ leBytes 1 m ++ leBytes 1 (if b then 1 else 0) ++ leBytes 6 0]
    let kept := l.drop (l.length - 256)
    let used : Int := min (s.rd (Reg.QUOTA 21)) (ceilDiv ((kept.length : Int) * 16) 256)
    (({ s with capEvents := kept } : State).setUsed 21 used).fed 21
  else s

/-- OUT_F follows OUT, and the sequencer it (R351, R352; 11_shaft_and_pit_log.md R466, R467). -/
def State.mnFilter (s : State) (m : Nat) : State :=
  let b := s.bit (mnOut m)
  if s.bit (Bit.WM_CTRL_ENABLE m) = false ∨ s.bit (mnChecking m) = true ∨ s.bit (mnOutF m) = b then s
  else
    let t := ((s.setBit (mnOutF m) b).wr (Reg.Mon_LAST_CHANGE_NS m) s.now).capEvent m b
    let u := if b && t.bit (Bit.WM_CTRL_SRC_EN m) then (t.inc32 (Reg.Mon_TRIPS m)).raise (400 + m) else t
    ((u.when (b && decide (u.rdN Reg.TRIG_MON_MASK / 2 ^ m % 2 = 1)) fun v => v.capTrigger (0x400 + m)).cmpoPins).wr Reg.seqDue 1

/-- The filter time of a monitor in ns: 2^FILT cycles of CLK_SYS (R351). -/
def State.mnFilterNs (s : State) (m : Nat) : Int := 5 * (2 ^ s.fld (Bit.WM_CTRL_FILT m) : Nat)

/-- OUT has held for the filter time (R351). -/
def State.mnHeld (s : State) (m : Nat) : Bool := s.since (s.rd (Reg.mnOutNs m)) (s.mnFilterNs m)

/-- With FILT at 0, OUT_F is OUT on the next edge (R351). -/
def State.mnFollow (s : State) (m : Nat) : State := if s.fld (Bit.WM_CTRL_FILT m) = 0 then s.mnFilter m else s

/-- OUT becomes `b`. -/
def State.mnOutput (s : State) (m : Nat) (b : Bool) : State :=
  ((if s.bit (mnOut m) = b then s else (s.setBit (mnOut m) b).wr (Reg.mnOutNs m) s.now).cmpoPins).mnFollow m

/-- OUT follows the level last given under thresholds of codes `lo` and `hi` (R348); during a check the outputs hold and only the live
output moves (R355). -/
def State.mnApply (s : State) (m : Nat) (lo hi : Int) : State :=
  let uv := s.rd (Reg.mnUv m)
  if s.bit (Bit.WM_CTRL_ENABLE m) = false ∨ s.on (Reg.mnSeen m) = false then s
  else if s.bit (mnChecking m) then s.wrB (Reg.mnLive m) (s.mnEval m lo hi uv (s.on (Reg.mnLive m)))
  else s.mnOutput m (s.mnEval m lo hi uv (s.bit (mnOut m)))

/-- OUT follows the level last given under the thresholds committed, which apply with OUT kept (R348, R350). -/
def State.mnNow (s : State) (m : Nat) : State := s.mnApply m (s.rd (Reg.LO_CODE m)) (s.rd (Reg.HI_CODE m))

/-- The input of a monitor stands at `uv` µV (R347, R348): a crossing of a threshold that a commit of this instant replaces acts under the old
threshold, and the new ones apply after it (R376). -/
def State.mnCross (s : State) (m : Nat) (uv : Int) : State :=
  let t := (s.wr (Reg.mnUv m) uv).wr (Reg.mnSeen m) 1
  (t.mnApply m (t.loBefore m) (t.hiBefore m)).mnNow m

/-- A monitor becomes enabled or disabled (R349, R357): OUT and OUT_F take PU_STATE, or read 0, and any check ends; then an input beyond
the threshold for leaving that state is reported. -/
def State.mnEnable (s : State) (m : Nat) (b : Bool) : State :=
  let v := b && s.bit (Bit.WM_CTRL_PU_STATE m)
  let t := (((s.setBit (mnOut m) v).setBit (mnOutF m) v).setFld (mnChecking m) 0).wr (Reg.mnCheck m) 0
  ((((t.wr (Reg.mnAuto m) 0).wr (Reg.mnAutoNs m) 0).wr (Reg.mnOutNs m) t.now).wr Reg.seqDue 1).cmpoPins.mnNow m

/-- A check starts (R354, R355): the outputs hold. -/
def State.mnCheckStart (s : State) (m type : Nat) (auto : Bool) : State :=
  (((s.setFld (mnChecking m) 1).wr (Reg.mnCheck m) type).wrB (Reg.mnAuto m) auto).wrB (Reg.mnLive m) (s.bit (mnOut m))

/-- An automatic check of a monitor is due: CHECK_PERIOD_MS since the one before (R354, R358). -/
def State.mnAutoDue (s : State) (m : Nat) : Bool :=
  s.bit (Bit.WM_CTRL_ENABLE m) && s.bit (Bit.WM_CTRL_AUTO_CHECK m) &&
    (decide (s.rd (Reg.mnAutoNs m) = 0) || s.since (s.rd (Reg.mnAutoNs m) - 1) (s.rd Reg.CHECK_PERIOD_MS * 1000000))

/-- A due automatic check: it waits while one of another monitor is in progress, and for the next period where a check of this one is
(R355, R376). -/
def State.mnAutoCheck (s : State) (m : Nat) (known : Bool) : State :=
  if !s.mnAutoDue m then s
  else if s.bit (mnChecking m) then s.wr (Reg.mnAutoNs m) (s.now + 1)
  else if (List.range 48).any fun k => s.on (Reg.mnAuto k) then s
  else ((s.wr (Reg.mnAutoNs m) (s.now + 1)).mark markAuto m 0).mnCheckStart m (if known then 2 else 1) true

/-- The input of a monitor lies within 8 codes of the threshold of one of its comparators (R354) (log entry 90: DESIGN CHOICE). -/
def State.mnNear (s : State) (m : Nat) : Bool :=
  let fs := fullScale (s.rdN (Reg.INPUT m))
  let span := fs.2 - fs.1
  let x := 1024 * (s.rd (Reg.mnUv m) - fs.1)
  [s.rd (Reg.LO_CODE m), s.rd (Reg.HI_CODE m)].any fun c => decide (absI (x - c * span) ≤ 8 * span)

/-- A check of this type, at the level last given, can have the result (R354): a swap check is inconclusive where the input lies near a threshold
and nowhere else, and a known-level check never is (log entry 90: DESIGN CHOICE). -/
def State.mnResultFits (s : State) (m result : Nat) : Bool :=
  if s.rd (Reg.mnCheck m) ≠ 1 then decide (result ≠ 2) else !s.on (Reg.mnSeen m) || decide (decide (result = 2) = s.mnNear m)

/-- A check ends (R354–R356): passed (0), failed (1) or inconclusive (2); the outputs take the live state, and an inconclusive host request is
then repeated at once (log entry 90: DESIGN CHOICE). -/
def State.mnCheckEnd (s : State) (m result : Nat) : State :=
  if !s.bit (mnChecking m) || !s.mnResultFits m result then s
  else
    let t := if result = 1 then ((s.setFld (mnCheckFail m) 1).inc32 Reg.CHECK_FAILS).raise 502
      else if result = 0 then s.setFld (mnCheckFail m) 0 else s
    let u := (((t.setFld (mnChecking m) 0).wr (Reg.mnCheck m) 0).wr (Reg.mnAuto m) 0).mnOutput m (t.on (Reg.mnLive m))
    u.when (decide (result = 2) && !s.on (Reg.mnAuto m)) fun v => v.mnCheckStart m 1 false

/-! ### Thermal manager (R359–R370) -/

/-- LEVEL of a sensor: 0 NORMAL, 1 WARN, 2 THROTTLE, 3 SHUTDOWN. -/
abbrev tsLevel (x : Nat) : Bits := ⟨Reg.TS_STATUS x, 0, 3⟩
/-- BROKEN of a sensor. -/
abbrev tsBroken (x : Nat) : Bits := flag (Reg.TS_STATUS x) 3
/-- FAST of a sensor. -/
abbrev tsFast (x : Nat) : Bits := flag (Reg.TS_STATUS x) 4

/-- A fraction bit of the fixed-point logarithms: 2^64 stands for 1. -/
def one64 : Int := 18446744073709551616

/-- 2·atanh of `y`/2^64 by its series, `n` terms from the power `pw` on. -/
def atanhSeries (y2 : Int) : Nat → Int → Int → Int
  | 0, _, _ => 0
  | n + 1, pw, k => 2 * pw / k + atanhSeries y2 n (pw * y2 / one64) (k + 2)

/-- ln(a/b) × 2^64 for `a`, `b` positive with 1 ≤ a/b < 2. -/
def lnUnit (a b : Int) : Int :=
  let y := (a - b) * one64 / (a + b)
  atanhSeries (y * y / one64) 24 y 1

/-- ln(a/b) × 2^64 for positive `a` and `b`: the powers of two are counted apart (log entry 92: DEDUCED). -/
def lnRatio : Nat → Int → Int → Int
  | 0, a, b => lnUnit a b
  | n + 1, a, b =>
    if a < b then lnRatio n (2 * a) b - 12786308645202655660
    else if 2 * b ≤ a then lnRatio n a (2 * b) + 12786308645202655660
    else lnUnit a b

/-- The temperature of an NTC at `uv` µV, in 0.01 °C (R359), or none where the formula gives no value that TEMP_CDEG holds (log entry 92: DEDUCED). -/
def ntcTemp (uv pullup ntc25 beta : Int) : Option Int :=
  if uv ≤ 0 ∨ 1600000 ≤ uv then none
  else
    let l := lnRatio 80 (pullup * uv) ((1600000 - uv) * ntc25)
    let den := 20 * one64 * beta + 5963 * l
    if den ≤ 0 then none
    else
      let t := roundDiv (596300 * one64 * beta) den - 27315
      if -32768 ≤ t ∧ t ≤ 32767 then some t else none

/-- A sensor is sampled (R357, R372). -/
def State.tsOn (s : State) (x : Nat) : Bool := decide (x = 0) || s.bit (Bit.TS_CTRL_ENABLE x)

/-- The substitute reading of a broken sensor (R366). -/
def State.substitute (s : State) (x : Nat) : Int :=
  let b := s.rdN (Reg.BACKUP x)
  let thr := s.rd (Reg.THR_CDEG x)
  if b < 13 ∧ s.tsOn b = true ∧ s.bit (tsBroken b) = false then max thr (s.rd (Reg.TEMP_CDEG b) + s.rd (Reg.BACKUP_OFS_CDEG x))
  else thr

/-- The highest level a reading is at or above, each level lowered by `less` (R361). -/
def State.levelOf (s : State) (x : Nat) (v less : Int) : Nat :=
  if s.rd (Reg.SHUT_CDEG x) - less ≤ v then 3
  else if s.rd (Reg.THR_CDEG x) - less ≤ v then 2
  else if s.rd (Reg.WARN_CDEG x) - less ≤ v then 1
  else 0

/-- LEVEL rises to `l`: each level passed raises its source (R362). -/
def State.levelRise (s : State) (x old l : Nat) : State :=
  let t := if old < 1 ∧ 1 ≤ l then s.raise (448 + x) else s
  let u := if old < 2 ∧ 2 ≤ l then t.raise (461 + x) else t
  if old < 3 ∧ 3 ≤ l then u.raise (474 + x) else u

/-- A bit mask over the sensors. -/
def sensorMask (f : Nat → Bool) : Nat := (List.range 13).foldl (fun t x => t + if f x then 2 ^ x else 0) 0

/-- The sensor with the highest reading, the lower number on a tie. -/
def State.hottest (s : State) : Nat :=
  (List.range 13).foldl (fun b x => if s.tsOn x && decide (s.rd (Reg.TEMP_CDEG b) < s.rd (Reg.TEMP_CDEG x)) then x else b) 0

/-- The thermal summary, the tally's throttle condition, and the storage sensor's effect (R363, R371; 05_ring_and_holdup.md
R238). -/
def State.thermSummary (s : State) : State :=
  let lv := fun (l x : Nat) => s.tsOn x && decide (l ≤ s.fld (tsLevel x))
  let t := ((s.wr Reg.WARN_MASK (sensorMask (lv 1))).wr Reg.THR_MASK (sensorMask (lv 2))).wr Reg.SHUT_MASK (sensorMask (lv 3))
  let u := t.wr Reg.BROKEN_MASK (sensorMask fun x => s.tsOn x && s.bit (tsBroken x))
  let v := (u.wr Reg.HOTTEST (s.hottest : Nat)).wr Reg.HOTTEST_CDEG (s.rd (Reg.TEMP_CDEG s.hottest))
  (v.wrB Reg.tyThrottle ((List.range 13).any fun x => lv 2 x && s.bit (Bit.TS_CTRL_THR_TALLY x))).inhibitEval

/-- FAST of a sensor: what makes its samples come every 100 µs (R360). -/
def State.tsPace (s : State) (x : Nat) : State :=
  s.setBit (tsFast x) (decide (s.rd (Reg.THR_CDEG x) - 1000 ≤ s.rd (Reg.TEMP_CDEG x)) || decide (0 < s.fld (tsLevel x)) || s.bit (tsBroken x))

/-- LEVEL after a reading (R361): the first sample sets it, two samples at or above a level raise it, two below a level less
HYST_CDEG lower it. -/
def State.tsJudge (s : State) (x : Nat) (v : Int) : State :=
  let up := s.levelOf x v 0
  let stay := s.levelOf x v (s.rd (Reg.HYST_CDEG x))
  let old := s.fld (tsLevel x)
  let rise := min up (s.rdN (Reg.tsRiseRun x))
  let keep := max stay (s.rdN (Reg.tsFallRun x))
  let l := if s.on (Reg.tsFirst x) then up else if old < rise then rise else if keep < old then keep else old
  let t := (((s.setFld (tsLevel x) l).wr (Reg.tsRiseRun x) (up : Nat)).wr (Reg.tsFallRun x) (stay : Nat)).wr (Reg.tsFirst x) 0
  (t.levelRise x (if s.on (Reg.tsFirst x) then 0 else old) l).tsPace x

/-- A sensor's samples decide whether it is broken (R365); all are while the thermal manager's test has failed (R634). -/
def State.tsHealth (s : State) (x : Nat) (bad : Bool) : State :=
  if bad then
    let t := (s.add 2 (Reg.tsBadRun x) 1).wr (Reg.tsGoodRun x) 0
    if t.bit (tsBroken x) = false ∧ (x = 0 ∨ 2 ≤ t.rd (Reg.tsBadRun x)) then (t.setFld (tsBroken x) 1).raise (487 + x) else t
  else
    let t := (s.wr (Reg.tsBadRun x) 0).add 4 (Reg.tsGoodRun x) 1
    if t.bit (tsBroken x) ∧ 10 ≤ t.rd (Reg.tsGoodRun x) ∧ t.on Reg.tmFail = false then t.setFld (tsBroken x) 0 else t

/-- THERM_LOCK clears on two T0 samples below WARN_CDEG − HYST_CDEG (R370) (log entry 87: DEDUCED). -/
def State.lockEval (s : State) (x : Nat) (v : Int) : State :=
  if x ≠ 0 then s
  else if v < s.rd (Reg.WARN_CDEG 0) - s.rd (Reg.HYST_CDEG 0) then
    let t := s.add 2 Reg.tsCoolRun 1
    if 2 ≤ t.rd Reg.tsCoolRun then (t.wr Reg.THERM_LOCK 0).wr Reg.seqDue 1 else t
  else s.wr Reg.tsCoolRun 0

/-- A power-plane reset is requested by source `f` (10_faults_watchdog_resets.md R436, R438); `die`: under R368. -/
def State.wantPpReset (s : State) (f : Nat) (die : Bool) : State :=
  let t := (s.wr Reg.ppReqd 1).wr Reg.ppSourceReq (min (s.rd Reg.ppSourceReq) (f : Int))
  t.when die fun u => u.wr Reg.ppDie 1

/-- The next sample of a sensor: 1 ms after the one before, or 100 µs while FAST (R360). -/
def State.toSample (s : State) (x : Nat) : State :=
  let t := s.toAfter (s.rd (Reg.tsNs x)) (if s.bit (tsFast x) then 100000 else 1000000)
  t.wr (Reg.tsNs x) (t.now + 1)

/-- A sample of sensor `x` (R359–R370): `v` is the pin voltage in µV, or for T0 the diode's reading in 0.01 °C, and `good`
says whether that reading lies inside the diode's calibrated range. -/
def State.thermReading (s : State) (x : Nat) (v : Int) (good : Bool) : State :=
  let bad := if x = 0 then !good else decide (v < 16000) || decide (1584000 < v)
  let m := if x = 0 then some v else ntcTemp v (s.rd (Reg.PULLUP_OHM x)) (s.rd (Reg.NTC25_OHM x)) (s.rd (Reg.BETA_K x))
  let t := s.tsHealth x bad
  let w := if t.bit (tsBroken x) then (t.substitute x, t) else match m with
    | some c => (c, t)
    | none => (t.free, t.used)
  let r := satI16 w.1
  let u := (w.2.wr (Reg.TEMP_CDEG x) r).tsJudge x r
  let p := if u.on (Reg.tsPeakSet x) then max (u.rd (Reg.PEAK_CDEG x)) r else r
  let y := ((u.wr (Reg.PEAK_CDEG x) p).wr (Reg.tsPeakSet x) 1).record 18 (telemetryRecord u.timebase (0x3601 + x) 0x0B r)
  let z := (y.lockEval x r).thermSummary
  if x = 0 ∧ s.fld (tsLevel 0) < 3 ∧ z.fld (tsLevel 0) = 3 then z.wantPpReset 474 true else z

/-- An enabled sensor is sampled. -/
def State.thermSample (s : State) (x : Nat) (v : Int) (good : Bool) : State := if s.tsOn x then (s.toSample x).thermReading x v good else s

/-- A sensor is enabled or disabled by a commit (R361, R372): the next sample is its first. -/
def State.tsEnable (s : State) (x : Nat) : State :=
  let t := (((s.wr (Reg.tsFirst x) 1).wr (Reg.tsBadRun x) 0).wr (Reg.tsGoodRun x) 0).wr (Reg.tsNs x) 0
  (if t.tsOn x then t else t.wr (Reg.TS_STATUS x) 0).thermSummary.dropLost

end Sys2Proof.Machine
end

