-- ==== Sys2Proof/Machine/TallyOps.lean ====
section
/-!
DEFINITION. Shared operations of the tally (06_tally_and_sharing.md R252–R281): the budget, freeing power class by class, the
deferred enables, releases and duty, and borrowing.
-/
namespace Sys2Proof.Machine

/-- UNMET of TALLY_STATUS. -/
abbrev tyUnmet : Bits := flag Reg.TALLY_STATUS 7
/-- THROTTLED of TALLY_STATUS. -/
abbrev tyThrottled : Bits := flag Reg.TALLY_STATUS 6
/-- HOLD_BUDGET of TALLY_STATUS. -/
abbrev tyHoldBudget : Bits := flag Reg.TALLY_STATUS 5
/-- RAIL_CONSTRAINT of TALLY_STATUS. -/
abbrev tyRail : Bits := flag Reg.TALLY_STATUS 4
/-- OVER of TALLY_STATUS. -/
abbrev tyOver : Bits := flag Reg.TALLY_STATUS 3
/-- ACT_CLASS of TALLY_STATUS. -/
abbrev tyActClass : Bits := ⟨Reg.TALLY_STATUS, 0, 3⟩

/-- MODE of the prop converter is HOLD (05_ring_and_holdup.md R243). -/
def State.propHolding (s : State) : Bool := decide (s.fld ⟨Reg.PROP_STATUS, 0, 2⟩ = 3)

/-- The contexts of a class. -/
def State.ctxsOf (s : State) (c : Nat) : List Nat :=
  (List.range 512).filter fun n => decide (s.ctxSt n ≠ 0) && decide (s.classOf n = c)

/-- The duty of class `c`, Q15. -/
def State.duty (s : State) (c : Nat) : Int := s.rd (Reg.DUTY c)

/-! ### The LIMIT gate pattern (R265, R266; 07_loop_engine.md R315) -/

/-- LIM_PERIOD_MS of class `c`, in ns. -/
def State.limPeriod (s : State) (c : Nat) : Int := s.rd (Reg.LIM_PERIOD_MS c) * 1000000

/-- The start of the period that a timebase falls into; the periods of a class begin at the timebase multiples of LIM_PERIOD_MS (log entry
114: DESIGN CHOICE). -/
def State.limStart (s : State) (c : Nat) (at_ : Int) : Int := at_ / s.limPeriod c * s.limPeriod c

/-- A DUTY takes a value; the present period goes on with the one before (R265, R292). -/
def State.setDuty (s : State) (c : Nat) (v : Int) : State :=
  let p := s.limStart c s.now + 1
  (s.when (decide (s.rd (Reg.tyDutyAt c) ≠ p)) fun t => (t.wr (Reg.tyDutyOld c) (t.duty c)).wr (Reg.tyDutyAt c) p).wr (Reg.DUTY c) v

/-- The DUTY in force in the period that the timebase `at_` falls into (R265). -/
def State.dutyInForce (s : State) (c : Nat) (at_ : Int) : Int :=
  if s.rd (Reg.tyDutyAt c) = s.limStart c at_ + 1 then s.rd (Reg.tyDutyOld c) else s.duty c

/-- The class whose period duty point `k` follows. -/
def State.pointClass (s : State) (k : Nat) : Nat := s.classOf (s.rdN (Reg.DUTY_CTX k) % 512)

/-- A duty point takes a value; the present period goes on with the one before (07_loop_engine.md R315). -/
def State.setPoint (s : State) (k : Nat) (v : Int) : State :=
  let p := s.limStart (s.pointClass k) s.now + 1
  (s.when (decide (s.rd (Reg.dpAt k) ≠ p)) fun t => (t.wr (Reg.dpOld k) (t.rd (Reg.act (64 + k)))).wr (Reg.dpAt k) p).wr (Reg.act (64 + k)) v

/-- The duty that point `k` asks for in the period that the timebase `at_` falls into: a negative value acts as 0 (07_loop_engine.md R312, R315). -/
def State.pointInForce (s : State) (k : Nat) (at_ : Int) : Int :=
  max 0 (if s.rd (Reg.dpAt k) = s.limStart (s.pointClass k) at_ + 1 then s.rd (Reg.dpOld k) else s.rd (Reg.act (64 + k)))

/-- The duty point that drives context `n` (07_loop_engine.md R315). -/
def State.dutyPoint (s : State) (n : Nat) : Option Nat := (List.range 64).find? fun k => s.rdN (Reg.DUTY_CTX k) = n

/-- The instant up to which the gate pattern of a context has come: the timebase, for a remote context the last nanosecond whose nearest report round
has begun, so that each edge falls on the report round of its port nearest to it, a half up (R266, R180; 00_scope.md R706) (log entry 119: DEDUCED). -/
def State.winNow (s : State) (n : Nat) : Int :=
  if n < 16 then s.now
  else
    let phase : Int := (s.position n / 8 % 4 : Nat) * 12500
    phase + (s.now - phase) / 50000 * 50000 + 24999

/-- The duty of a context's gate in the present period: DUTY of its class, or the lesser of that and its duty point (R265, R269;
07_loop_engine.md R315). -/
def State.gateDuty (s : State) (n : Nat) : Int :=
  match s.dutyPoint n with
  | some k => min (s.pointInForce k (s.winNow n)) (s.dutyInForce (s.classOf n) (s.winNow n))
  | none => s.dutyInForce (s.classOf n) (s.winNow n)

/-- The contexts of class `c` that are duty-limited in the period that the timebase `at_` falls into (R265). -/
def State.limited (s : State) (c : Nat) (at_ : Int) : List Nat :=
  if s.dutyInForce c at_ < 32767 then (s.ctxsOf c).filter fun n => s.ctxSt n = 5 else []

/-- Where a context's on-window begins within the period: at its rank among the limited contexts of the class, or at the start (R265;
07_loop_engine.md R315). -/
def State.winOffset (s : State) (n : Nat) : Int :=
  let l := s.limited (s.classOf n) (s.winNow n)
  if l.contains n then ((l.filter fun m => m < n).length : Int) * s.limPeriod (s.classOf n) / (l.length : Int) else 0

/-- The start of the latest on-window of a context, before it is rounded to a report round. -/
def State.winStart (s : State) (n : Nat) : Int :=
  let p := s.limPeriod (s.classOf n)
  let off := s.winOffset n
  (s.winNow n - off) / p * p + off

/-- The length of an on-window that begins in the present period. -/
def State.winLen (s : State) (n : Nat) : Int := s.gateDuty n * s.limPeriod (s.classOf n) / 32768

/-- The gate of a context in ON is to be on now: at full duty, in the on-window in progress, or in the one that the pattern gives (R265). -/
def State.winOn (s : State) (n : Nat) : Bool :=
  decide (32767 ≤ s.gateDuty n) || (s.on (Reg.cxWindow n) && decide (s.winNow n < s.rd (Reg.cxWinEnd n))) || decide (s.winNow n < s.winStart n + s.winLen n)

/-- The gate of a context in ON goes off for its off-window (R265, R266). -/
def State.winClose (s : State) (n : Nat) : State :=
  ((((s.wr (Reg.cxGate n) 0).wr (Reg.cxOnBit n) 0).wr (Reg.cxWindow n) 0).wr (Reg.cxRegate n) 0).driveGate n 0 0

/-- It re-opens with the context's INRUSH_MODE (R266). -/
def State.winOpen (s : State) (n : Nat) : State :=
  (((s.ramp n).wr (Reg.cxWindow n) 1).wr (Reg.cxRegate n) 1).wr (Reg.cxWinEnd n) (s.winStart n + s.winLen n)

/-- The estimate of a context without its duty limit (R260; log entry 114: DESIGN CHOICE). -/
def State.fullEst (s : State) (n : Nat) : Int :=
  s.throughFeed n (if s.on (Reg.cxWindow n) && !s.on (Reg.cxRegate n) then s.rd (Reg.P_MW n) else s.rd (Reg.cxFullMw n))

/-! ### The budget (R253) -/

/-- BUDGET_EFF_MW, with the status bits that say what is in force. -/
def State.setBudget (s : State) : State :=
  let hold := s.propHolding && s.on Reg.HOLD_BUDGET_MW
  let base := if hold then s.rd Reg.HOLD_BUDGET_MW else s.rd Reg.BUDGET_MW
  let full := base + s.rd Reg.BORROWED_MW - s.rd Reg.LENT_MW
  let b := if s.on Reg.tyThrottle then full * s.rd Reg.THR_SCALE / 32768 else full
  ((s.wr Reg.BUDGET_EFF_MW (satU 32 b)).setBit tyHoldBudget hold).setBit tyThrottled (s.on Reg.tyThrottle)

/-- The mean of the valid samples among the last ten, and whether there is one (R252). -/
def meanPower (l : List (Option Int)) : Option Int :=
  match l.filterMap id with
  | [] => none
  | v => some (v.foldl (· + ·) 0 / (v.length : Int))

/-- CREDIT: what the two previous evaluations freed (R255). -/
def State.creditMw (s : State) : Int := s.rd Reg.tyCredit1 + s.rd Reg.tyCredit2

/-! ### Freeing power (R258–R261) -/

/-- An evaluation in progress: the state, what has been credited, the classes whose duty was lowered, and the lowest class
acted on (0 none), whether a rail constraint could not shed all it needed, and whether there was an excess. -/
structure Eval where
  s : State
  credit : Int
  lowered : List Nat
  act : Nat
  railLeft : Bool
  excess : Bool

/-- P_EFF as the evaluation stands (R255); while an input is invalid it is BUDGET_EFF_MW (R268). -/
def Eval.peff (e : Eval) : Int :=
  if e.s.on Reg.tyInvalid then e.s.rd Reg.BUDGET_EFF_MW
  else e.s.rd Reg.P_MEAS_MW + e.s.pendingMw - e.s.creditMw - e.credit

/-- Class `k` has been acted on. -/
def Eval.mark (e : Eval) (k : Nat) : Eval := { e with act := if e.act = 0 then k else min e.act k }

/-- The context conducted in ON or LIMIT and has tripped at this very instant (R292). -/
def State.trippedNow (s : State) (n : Nat) : Bool :=
  (s.nowMark markTrip n).isSome && (((s.nowMark markGateOff n).map fun v => decide (v.toNat % 16 = 5) || decide (v.toNat % 16 = 6)).getD false)

/-- The fairness order among contexts `pick` names (R261): those in ON or LIMIT longest first, those within MIN_ON_MS after
them, and then those in LEAD or INRUSH by their grants. Equal times give the higher context number first. One that trips at this very instant
is still chosen, though not shed (R292). -/
def State.fairness (s : State) (pick : Nat → Bool) : List Nat :=
  let runs := (s.onOrder.filter fun (p : Nat × Nat) => pick p.1 && (s.ctxSt p.1 = 5 || s.ctxSt p.1 = 6)) ++
    ((List.range 512).filter fun n => pick n && s.trippedNow n).map fun n => (n, s.rdN (Reg.cxLastOn n))
  let tied := tieSort runs
  let held := fun (p : Nat × Nat) => decide (s.now < (p.2 : Int) + s.rd (Reg.MIN_ON_MS (s.classOf p.1)) * 1000000)
  (tied.filter fun p => !held p).map (·.1) ++ (tied.filter held).map (·.1) ++
    (tieSort ((s.grants.filter fun g => pick g.ctx && (s.ctxSt g.ctx = 3 || s.ctxSt g.ctx = 4)).map fun g => (g.ctx, g.since))).map (·.1)
where
  /-- Insert in order of time, and on equal times the higher number first. -/
  tieInsert (x : Nat × Nat) : List (Nat × Nat) → List (Nat × Nat)
    | [] => [x]
    | y :: t => if x.2 < y.2 ∨ (x.2 = y.2 ∧ y.1 < x.1) then x :: y :: t else y :: tieInsert x t
  /-- Sort in that order. -/
  tieSort : List (Nat × Nat) → List (Nat × Nat)
    | [] => []
    | x :: t => tieInsert x (tieSort t)

/-- Shed a context (R148, R255, R263): it enters SHED without a trip; what it frees is credited when it was in ON or LIMIT,
and leaves PENDING otherwise. One that trips at this very instant is not shed (R292). -/
def Eval.shed (e : Eval) (n : Nat) : Eval × Int :=
  let s := e.s
  if s.trippedNow n then (e, s.est n)
  else
    let runs := s.ctxSt n = 5 ∨ s.ctxSt n = 6
    let est := if runs then s.est n else ((s.grants.find? fun g => g.ctx = n).map (·.mw)).getD 0
    let t := ((s.turnOff n 9).inc32 Reg.SHED_COUNT).mark markShedCtx n (if runs then est else 0)
    let u := { t with shedList := t.shedList ++ [({ ctx := n, mw := est, since := s.timebase } : Estimate)] }
    ({ e.mark (s.classOf n) with s := u, credit := if runs then e.credit + est else e.credit }, est)

/-- Shed in the given order until `need` is freed. -/
def Eval.shedUntil (e : Eval) (need : Int) : List Nat → Eval × Int
  | [] => (e, 0)
  | n :: t =>
    if need ≤ 0 then (e, 0)
    else
      let r := e.shed n
      let r2 := r.1.shedUntil (need - r.2) t
      (r2.1, r.2 + r2.2)

/-- Lower the duty of class `k` by one step, once per evaluation, to no lower than DUTY_MIN (R260). -/
def Eval.lowerDuty (e : Eval) (k : Nat) : Eval × Int :=
  if k ∈ e.lowered then (e, 0)
  else
    let old := e.s.duty k
    let new := max (e.s.rd (Reg.DUTY_MIN k)) (old - e.s.rd (Reg.DUTY_STEP k))
    if old ≤ new then (e, 0)
    else
      let on := (e.s.ctxsOf k).filter fun n => e.s.ctxSt n = 5
      let freed := (old - new) * on.foldl (fun t n => t + e.s.fullEst n) 0 / 32768
      let s1 := forAll on (fun n u => u.setFld (cxTallyLimit n) 1) (e.s.setDuty k new)
      ({ e.mark k with s := s1, credit := e.credit + freed, lowered := k :: e.lowered }, freed)

/-- free(k, a) of R259: free up to `need` from class `k` by its ACTION (R260). -/
def Eval.free (e : Eval) (k : Nat) (need : Int) : Eval × Int :=
  if need ≤ 0 then (e, 0)
  else
    let order := e.s.fairness fun n => decide (e.s.classOf n = k)
    match e.s.fld (Bit.CLASS_CTRL_ACTION k) with
    | 0 => e.shedUntil need order
    | 1 => if e.s.rd (Reg.DUTY_MIN k) < e.s.duty k then e.lowerDuty k else e.shedUntil need order
    | _ => e.lowerDuty k

/-- Free up to `need` from the classes above `floor`, from class 7 downward. -/
def Eval.freeAbove (e : Eval) (floor : Nat) : List Nat → Int → Eval × Int
  | [], _ => (e, 0)
  | k :: t, need =>
    if k ≤ floor then (e, 0)
    else
      let r := e.free k need
      let r2 := r.1.freeAbove floor t (need - r.2)
      (r2.1, r.2 + r2.2)

/-- Classes 7 to 1. -/
def classesDown : List Nat := [7, 6, 5, 4, 3, 2, 1]

/-- The sum of dues. -/
def dueSum (l : List Estimate) : Int := l.foldl (fun t e => t + e.mw) 0

/-- The last due of the highest class in a list that is in grant order, if one is left. -/
def State.highestDue (s : State) : List Estimate → Option Estimate
  | [] => none
  | e :: t =>
    match s.highestDue t with
    | some f => if s.classOf f.ctx < s.classOf e.ctx ∧ 0 < e.mw then some e else some f
    | none => if 0 < e.mw then some e else none

/-- Take `d` off the due of a context. -/
def takeDue (n : Nat) (d : Int) (l : List Estimate) : List Estimate :=
  l.map fun e => if e.ctx = n then { e with mw := e.mw - d } else e

/-- Take `d` off the dues `pick` names, highest class and latest grant first; answer what is left of `d`. -/
def State.payDues (s : State) (pick : Estimate → Bool) : Nat → List Estimate → Int → List Estimate × Int
  | 0, l, d => (l, d)
  | n + 1, l, d =>
    match s.highestDue (l.filter pick) with
    | none => (l, d)
    | some e => if d ≤ 0 then (l, d) else s.payDues pick n (takeDue e.ctx (min e.mw d) l) (d - min e.mw d)

/-- The loop over classes of R259: what remains of the dues and of the rest of the excess. -/
def Eval.freeDues (e : Eval) : List Nat → List Estimate → Int → Eval × List Estimate × Int
  | [], dues, other => (e, dues, other)
  | k :: t, dues, other =>
    let below := fun (d : Estimate) => decide (e.s.classOf d.ctx < k)
    let r := e.free k (other + dueSum (dues.filter below))
    let paid := e.s.payDues below dues.length dues r.2
    r.1.freeDues t paid.1 (max 0 (other - paid.2))

/-- The excess of an evaluation is freed, and what cannot be is UNMET (R259, R260, R262) (log entry 83: DEDUCED). -/
def Eval.freeExcess (e : Eval) : Eval :=
  let x := max 0 (e.peff - e.s.rd Reg.BUDGET_EFF_MW)
  let rest := dueSum e.s.dues - x
  let dues := (e.s.payDues (fun _ => true) e.s.dues.length e.s.dues rest).1
  let r := e.freeDues classesDown dues (x - dueSum dues)
  let unmet := decide (0 < dueSum r.2.1 + r.2.2) || e.railLeft
  let s1 := { r.1.s with dues := [] }
  let s2 := s1.setBit tyUnmet unmet
  { r.1 with s := if unmet then (s2.inc32 Reg.UNMET_COUNT).raise 208 else s2 }

/-- The rail constraint of R267 on rail `r`: sheds until the shed currents cover IOUT_MA − RAIL_CAP_MA + RAIL_MARGIN_MA; what
classes 7 to 1 cannot cover is UNMET. -/
def Eval.railShed (e : Eval) (r : Nat) : List Nat → Int → Eval
  | [], need => { e with railLeft := e.railLeft || decide (0 < need) }
  | n :: t, need =>
    if need ≤ 0 then e
    else
      let i := e.s.rd (Reg.Ctx_I_MA n)
      (e.shed n).1.railShed r t (need - i)

/-- A rail is in LIMIT (R267). -/
def State.railLimited (s : State) : Bool := (List.range 4).any fun r => s.railSt r = 4

/-- The rail constraint on every rail in LIMIT (R267). -/
def Eval.railConstraint (e : Eval) : Eval :=
  let one := fun (e : Eval) (r : Nat) =>
    if e.s.railSt r = 4 then
      let order := (classesDown.map fun k => e.s.fairness fun n => decide (e.s.feed n = r) && decide (e.s.classOf n = k)).flatten
      e.railShed r order (e.s.rd (Reg.IOUT_MA r) - e.s.railCap r + e.s.rd Reg.RAIL_MARGIN_MA)
    else e
  let e1 := (List.range 4).foldl one e
  { e1 with s := e1.s.setBit tyRail e1.s.railLimited }

/-- The deferred enables in ascending class order, and within a class in the order they were deferred. -/
def State.deferredOrder (s : State) : List Nat :=
  ((List.range 8).map fun c => s.deferred.filter fun n => s.classOf n = c).flatten

/-- A deferred enable at an evaluation (R258): room is made from the classes above its own; granted when the room is there. -/
def Eval.tryDeferred (e : Eval) (n : Nat) : Eval :=
  let s := e.s
  if s.ctxSt n ≠ 2 then e
  else if s.classOf n ≠ 0 ∧ s.feed n < 4 ∧ s.railSt (s.feed n) = 4 then e
  else
    let short := s.estEnable n - (s.rd Reg.BUDGET_EFF_MW - e.peff)
    let r := if 0 < short then e.freeAbove (s.classOf n) classesDown short else (e, 0)
    if short ≤ r.2 ∨ s.classOf n = 0 then
      let t := { r.1.s with deferred := r.1.s.deferred.filter (fun m => m ≠ n) }
      let u := t.ungrant n
      let v := { u with grants := u.grants ++ [({ ctx := n, mw := s.estEnable n, since := s.timebase } : Estimate)] }
      { r.1 with s := if v.on (Reg.cxRetryRun n) then v.setCtxSt n 7 else v.preEnable n }
    else r.1

/-- A context of a class below `c` is still shed or deferred (R263). -/
def State.waitsBelow (s : State) (c : Nat) : Bool :=
  (s.shedList.any fun e => decide (s.classOf e.ctx < c)) || (s.deferred.any fun n => decide (s.classOf n < c))

/-- The shed contexts in order of release: ascending class, the longest shed first (R263). -/
def State.releaseOrder (s : State) : List Estimate :=
  ((List.range 8).map fun c => s.shedList.filter fun e => s.classOf e.ctx = c).flatten

/-- Release a shed context (R148): with CMD 1 it takes the enable path from the pre-enable check, or waits for its retry
timer; its estimate joins PENDING (R263). -/
def State.release (s : State) (n : Nat) (mw : Int) : State :=
  let t := { s with shedList := s.shedList.filter (fun e => e.ctx ≠ n) }
  if !t.cmd n then t.setCtxSt n 1
  else if t.on (Reg.cxRetryRun n) then t.setCtxSt n 7
  else
    let u := t.ungrant n
    { u with grants := u.grants ++ [({ ctx := n, mw := mw, since := s.timebase } : Estimate)] }.preEnable n

/-- The releases of an evaluation (R263) (log entry 83: DEDUCED). -/
def Eval.releases (e : Eval) : List Estimate → Nat → Eval
  | [], _ => e
  | _, 0 => e
  | x :: t, n + 1 =>
    let s := e.s
    let c := s.classOf x.ctx
    if s.since x.since (s.rd (Reg.MIN_OFF_MS c) * 1000000) && decide (e.peff + x.mw ≤ s.rd Reg.BUDGET_EFF_MW - s.rd Reg.HYST_MW)
        && !s.waitsBelow c then
      { e with s := s.release x.ctx x.mw }.releases t n
    else e.releases t (n + 1)

/-- Every class is back at full duty. -/
def State.dutyFull (s : State) : Bool := (List.range 8).all fun c => s.duty c = 32767

/-- Raise the duty of the lowest-numbered limited class by one step (R264). -/
def Eval.raiseDuty (e : Eval) : Eval :=
  match (List.range 8).find? fun c => e.s.duty c ≠ 32767 with
  | none => e
  | some c =>
    let new := min 32767 (e.s.duty c + e.s.rd (Reg.DUTY_STEP c))
    let t := e.s.setDuty c new
    { e with s := if new = 32767 then forAll (t.ctxsOf c) (fun n u => u.setFld (cxTallyLimit n) 0) t else t }

/-- The restoring half of an evaluation (R263, R264): with HYST_MW to spare, a duty only where there was no excess (log entry 83: DEDUCED). -/
def Eval.restore (e : Eval) : Eval :=
  if e.s.rd Reg.BUDGET_EFF_MW - e.s.rd Reg.HYST_MW < e.peff then e
  else if e.s.dutyFull then e.releases e.s.releaseOrder (e.s.rdN Reg.RELEASE_MAX)
  else if e.excess then e
  else e.raiseDuty

/-- Contexts whose estimate has now been in ON or LIMIT at an evaluation leave PENDING (R255). -/
def State.measured (s : State) : State :=
  { s with grants := s.grants.filter fun g => s.ctxSt g.ctx ≠ 5 ∧ s.ctxSt g.ctx ≠ 6 }

/-! ### Borrowing (R270, R271, R276) -/

/-- The peer of LEND_PEER `i`. -/
def State.lendPeer (s : State) (i : Nat) : Nat := s.rdN (Reg.LEND_PEER i)

/-- The next peer from index `i` on that is non-zero and lends nothing yet (R271, R277). -/
def State.nextPeer (s : State) (i : Nat) : Option Nat :=
  (List.range 4).find? fun j => decide (i ≤ j) && decide (s.lendPeer j ≠ 0) && !(s.borrowed.any fun l => l.peer = s.lendPeer j)

/-- The context a borrow request is for, with its estimate: of the contexts of class 1–7 that have been shed or deferred for ten evaluations in a
row, the first deferred in ascending class order, else the first in release order (R270) (log entry 83: DEDUCED). -/
def State.borrowFor (s : State) : Option (Nat × Int) :=
  let waited := fun (n : Nat) => decide (s.classOf n ≠ 0) && decide (s.rd (Reg.cxWaits n) = 10)
  match s.deferredOrder.filter waited with
  | n :: _ => some (n, s.estEnable n)
  | [] =>
    match s.releaseOrder.filter fun e => waited e.ctx with
    | e :: _ => some (e.ctx, e.mw)
    | [] => none

/-- A loan message to a peer (12_dictionary.md R531). -/
def State.sendLoan (s : State) (peer op id : Nat) (mw lease : Int) : State :=
  s.sendAuthed peer 0x20 ([BitVec.ofNat 8 op, 0] ++ leBytes 2 id ++ leBytes 4 mw.toNat ++ leBytes 2 lease.toNat ++ [0, 0])

/-- The contexts of class 1–7 that wait in SHED or DEFERRED. -/
def State.waiters (s : State) : List Nat :=
  ((s.shedList.map (·.ctx)) ++ s.deferred).filter fun n => s.classOf n ≠ 0

/-- The evaluations through which a context waits are counted afresh (R256, R271). -/
def State.waitAfresh (s : State) : State := forAll ((List.range 512).filter fun n => s.on (Reg.cxWaits n)) (fun n t => t.wr (Reg.cxWaits n) 0) s

/-- Ask the next peer from index `i` on, or stop asking for 1 s when none is left (R270, R271). -/
def State.askPeer (s : State) (i : Nat) : State :=
  match s.borrowFor with
  | none => s.wr Reg.tyAwait 0
  | some x =>
    match s.nextPeer i with
    | none =>
      ((s.wr Reg.tyAwait 0).waitAfresh.wrB Reg.tyBackoff ((List.range 4).any fun j => s.lendPeer j ≠ 0)).wr Reg.tyBackNs s.now
    | some j =>
      let step := s.rd Reg.BORROW_STEP_MW
      let amount := max step (ceilDiv (x.2 + s.rd Reg.HYST_MW - s.rd Reg.HEADROOM_MW) step * step)
      let id := s.rdN Reg.tyLoanId
      let t := (((s.wr Reg.tyAwait 1).wr Reg.tyAskNs s.now).wr Reg.tyPeerIdx j).wr Reg.tyAwaitId id
      (t.wr Reg.tyLoanId (((id + 1) % 65536 : Nat) : Int)).sendLoan (s.lendPeer j) 1 id amount (s.rd Reg.LEASE_MS)

/-- The borrower's count of the evaluations through which each context has been shed or deferred, `before` being those that were when this one
began, and its first request once one has been for ten (R270; log entry 83: DEDUCED). Nothing is sent in hold mode. -/
def State.borrowCount (s : State) (before : List Nat) : State :=
  let waits := s.waiters.filter before.contains
  let t := forAll ((List.range 512).filter fun n => s.on (Reg.cxWaits n) || waits.contains n)
    (fun n u => u.wr (Reg.cxWaits n) (if waits.contains n then min 10 (u.rd (Reg.cxWaits n) + 1) else 0)) s
  if t.borrowFor.isSome ∧ s.bit Bit.TALLY_CTRL_BORROW_EN = true ∧ s.on Reg.tyAwait = false ∧ s.on Reg.tyBackoff = false ∧ s.dengonUp = true then t.askPeer 0 else t

/-! ### The evaluation (R255) -/

/-- The evaluation's own instant, measurement and budget. -/
def State.tallyMeasure (s : State) : State :=
  match meanPower s.powerIn with
  | some p => (s.wr Reg.P_MEAS_MW (satU 32 p)).wr Reg.tyInvalid 0
  | none => if s.powerIn.isEmpty then s else (s.wr Reg.tyInvalid 1).when (!s.on Reg.tyInvalid) fun u => u.raise 210

/-- Contexts in SHED or DEFERRED (07_loop_engine.md R310, signal 668). -/
def State.waitingCount (s : State) : Nat := ((List.range 512).filter fun n => decide (s.ctxSt n = 2) || decide (s.ctxSt n = 9)).length

/-- The duties that the loop engine's signals show are published at each evaluation (07_loop_engine.md R310). -/
def State.dutyShow (s : State) : State := forUnits 8 (fun c t => t.wr (Reg.tySigDuty c) (t.duty c)) s

/-- HEADROOM_MW at the end of an evaluation, the credits moved on (R255), and since when it exceeds each loan (R276) (log entry 83:
DEDUCED). -/
def Eval.close (e : Eval) : State :=
  let room := e.s.rd Reg.BUDGET_EFF_MW - e.peff
  let t := ((e.s.wr Reg.HEADROOM_MW (satI32 room)).wr Reg.tySpent 0).wr Reg.tyCredit2 (e.s.rd Reg.tyCredit1)
  let u := (((t.wr Reg.tyCredit1 e.credit).setFld tyActClass e.act).wr Reg.tyWaiting (t.waitingCount : Nat)).dutyShow.measured
  { u with borrowed := u.borrowed.map fun l =>
      { l with spare := if u.rd Reg.HEADROOM_MW ≤ l.mw + u.rd Reg.HYST_MW then 0 else if l.spare = 0 then u.timebase + 1 else l.spare } }

/-- One evaluation of the tally (R255–R268, R279): while an input is invalid the rail constraint defers but does not shed (R267, R268; log
entry 83: DEDUCED). -/
def State.evaluate (s : State) : State :=
  let before := s.waiters
  let m := s.tallyMeasure.setBudget
  let x := decide (m.rd Reg.BUDGET_EFF_MW < (⟨m, 0, [], 0, false, false⟩ : Eval).peff)
  let t := (m.setBit tyOver x).setFld tyUnmet 0
  let e0 : Eval := ⟨t, 0, [], 0, false, x⟩
  if !t.tallyOn then ({ e0 with s := { t.setFld tyRail 0 with dues := [] } }).close.waitAfresh
  else if t.on Reg.tyInvalid then
    ({ e0 with s := { t.setBit tyRail t.railLimited with dues := [] } }).close.borrowCount before
  else
    let e2 := e0.railConstraint.freeExcess
    let e3 := e2.s.deferredOrder.foldl (fun e n => e.tryDeferred n) e2
    e3.restore.close.borrowCount before

/-- The commit that sets ENABLE to 0 undoes the actions in force (R256). -/
def State.tallyUndo (s : State) : State :=
  let t := forUnits 8 (fun c u => u.setDuty c 32767) s.waitAfresh
  let u := forUnits 512 (fun n v => v.setFld (cxTallyLimit n) 0) t
  let v := ((u.setFld tyUnmet 0).setFld tyRail 0).setFld tyActClass 0
  let w := forAll v.deferredOrder (fun n x =>
    if x.ctxSt n = 2 then ({ x with deferred := x.deferred.filter (fun m => m ≠ n) }.grant n).preEnable n else x) v
  forAll w.releaseOrder (fun e x => x.release e.ctx e.mw) w

end Sys2Proof.Machine
end

