-- ==== Sys2Proof/Machine/LoopOps.lean ====
section
/-!
DEFINITION. Shared operations of the loop engine and of the winder's owners (07_loop_engine.md): instruction words, the
checks on a program, signals, actuator points, frames, runs and the following-error action.
-/
namespace Sys2Proof.Machine

/-! ### Instruction words (R303) -/

/-- OP in its place (log entry 8: DEDUCED). -/
def wOp (op : Nat) : Nat := op * 67108864
/-- D, or N, in its place (log entry 8: DEDUCED). -/
def wD (d : Nat) : Nat := d * 4194304
/-- A in its place (log entry 8: DEDUCED). -/
def wA (a : Nat) : Nat := a * 262144
/-- B in its place (log entry 8: DEDUCED). -/
def wB (b : Nat) : Nat := b * 16384
/-- COND in its place. -/
def wCond (c : Nat) : Nat := c * 8388608

/-- OP of a word (log entry 60: DEDUCED). -/
def opOf (w : Nat) : Nat := w / 67108864
/-- A field of a word. -/
def wField (w lo n : Nat) : Nat := w / 2 ^ lo % 2 ^ n

/-- The fields an opcode uses besides OP, as a mask of bits 25:0, and its cycles (R303); none for an undefined opcode. In SATA the table
puts N into bits of D (log entry 8: DEDUCED). -/
def opShape (op : Nat) : Option (Nat × Nat) :=
  let d := wD 15
  let n := wD 3
  let a := wA 15
  let b := wB 15
  match op with
  | 0x00 => some (0, 1)
  | 0x01 => some (0, 1)
  | 0x02 => some (0, 1)
  | 0x03 => some (d + 65535, 1)
  | 0x04 => some (d + a, 1)
  | 0x05 => some (d + 2097152 + 1023, 2)
  | 0x06 => some (d + 7, 1)
  | 0x07 => some (a + 131072 + 511, 1)
  | 0x08 => some (a + b + 31, 2)
  | 0x10 => some (d + a + b, 1)
  | 0x11 => some (d + a + b, 1)
  | 0x12 => some (d + a + 65535, 1)
  | 0x13 => some (d + a + b, 1)
  | 0x14 => some (d + a, 1)
  | 0x15 => some (d + a, 1)
  | 0x16 => some (d + a + b, 1)
  | 0x17 => some (d + a + b, 1)
  | 0x18 => some (d + a + b, 1)
  | 0x19 => some (d + a + 15, 1)
  | 0x1A => some (d + a + 15, 1)
  | 0x1B => some (d + a + b, 2)
  | 0x20 => some (n, 1)
  | 0x21 => some (n + a, 1)
  | 0x22 => some (n + a + b, 1)
  | 0x23 => some (n + a + b, 1)
  | 0x24 => some (n + a, 1)
  | 0x25 => some (n + 15, 1)
  | 0x26 => some (d + 15, 1)
  | 0x27 => some (n + a + b, 1)
  | 0x30 => some (wCond 7 + a + b + 255, 1)
  | 0x31 => some (a + b, 1)
  | _ => none

/-- A word is an instruction: a defined opcode, 0 in every reserved bit, a defined condition with A and B 0 for CLP, and a
count of at least 1 (R298, R303, R304) (log entry 8: DEDUCED). -/
def wordOk (w : Nat) : Bool :=
  match opShape (opOf w) with
  | none => false
  | some p =>
    decide (Nat.land (w % 67108864) p.1 = w % 67108864) &&
      (decide (opOf w ≠ 0x30) ||
        (decide (wField w 23 3 ≠ 7) && (decide (wField w 23 3 ≠ 6) || decide (wField w 14 8 = 0)) && decide (wField w 0 8 ≠ 0)))

/-- Word `a` of a program image; words beyond it are 0 (R327). -/
def progWord (img : List Byte) (a : Nat) : Nat := ofLe (slice (4 * a) 4 img)

/-- The words from address `a` up to the first END, at most `n` of them; none when END is not among them. -/
def routine (img : List Byte) : Nat → Nat → Option (List Nat)
  | 0, _ => none
  | n + 1, a =>
    let w := progWord img a
    if opOf w = 1 then some [w]
    else match routine img n (a + 1) with
      | some l => some (w :: l)
      | none => none

/-- The routine of a slot within 0–8191 (R298). -/
def routineAt (img : List Byte) (start : Nat) : Option (List Nat) := routine img (8192 - start) start

/-- Cycles of a word. -/
def wordCycles (w : Nat) : Nat := ((opShape (opOf w)).map (·.2)).getD 0

/-- CYC_WORST of a routine (R298). -/
def cycWorst (l : List Nat) : Nat := l.foldl (fun t w => t + wordCycles w) 0

/-- Every SKP of a routine lands at or before its END (R298). -/
def skipsOk : List Nat → Bool
  | [] => true
  | w :: t => (decide (opOf w ≠ 0x30) || decide (wField w 0 8 + 1 ≤ t.length)) && skipsOk t

/-- A signal of the signal map (R310). -/
def sigDefined (i : Nat) : Bool := decide (i ≤ 668) || (decide (672 ≤ i) && decide (i ≤ 847))

/-- A point of the actuator map (R312). -/
def actDefined (i : Nat) : Bool := decide (i ≤ 20) || (decide (32 ≤ i) && decide (i ≤ 191))

/-- The signal index of an RDS with base `base` (R311). -/
def rdsIndex (w base : Nat) : Nat := wField w 0 10 + wField w 21 1 * base

/-- The actuator point of a WRA with base `base` (R311). -/
def wraPoint (w base : Nat) : Nat := wField w 0 9 + wField w 17 1 * base

/-- What a routine writes: actuator points, with a winder target as its point 32–63 (R298, R312). -/
def routineWrites (l : List Nat) (base : Nat) : List Nat :=
  l.filterMap fun w => if opOf w = 7 then some (wraPoint w base) else if opOf w = 8 then some (32 + wField w 0 5) else none

/-- The signals and points of a routine are defined (R298). -/
def indexesOk (l : List Nat) (sig act : Nat) : Bool :=
  l.all fun w => (decide (opOf w ≠ 5) || sigDefined (rdsIndex w sig)) && (decide (opOf w ≠ 7) || actDefined (wraPoint w act))

/-! ### Commit checks (R298) -/

/-- The program image committed. -/
def State.progImage (s : State) : List Byte := s.blob Reg.PROGRAM

/-- The routine of slot `j` in the committed configuration. -/
def State.slotRoutine (s : State) (j : Nat) : Option (List Nat) := routineAt s.progImage (s.rdN (Reg.START j))

/-- The enabled slots of a lane. -/
def State.slotsOn (s : State) (l : Nat) : List Nat :=
  ((List.range 64).map (· + 64 * l)).filter fun j => s.bit (Bit.SLOT_CTRL_ENABLE j)

/-- FRAME_CYC (R328). -/
def State.frameCyc (s : State) (l : Nat) : Nat := (s.slotsOn l).foldl (fun t j => t + s.rdN (Reg.BUDGET_CYC j)) 0

/-- The points an enabled slot writes. -/
def State.slotWrites (s : State) (j : Nat) : List Nat :=
  match s.slotRoutine j with
  | some l => routineWrites l (s.rdN (Reg.ACT_BASE j))
  | none => []

/-- Checks 1–4, 6 and 7 of R298 for slot `j`. -/
def State.slotOk (s : State) (j : Nat) : Bool :=
  match s.slotRoutine j with
  | none => false
  | some l =>
    let w := routineWrites l (s.rdN (Reg.ACT_BASE j))
    l.all wordOk && skipsOk l && decide (cycWorst l ≤ s.rdN (Reg.BUDGET_CYC j)) &&
      indexesOk l (s.rdN (Reg.SIG_BASE j)) (s.rdN (Reg.ACT_BASE j)) &&
      (w.all fun p => !((List.range 4).any fun r => decide (p = 32 + s.rdN (Reg.SLEW_PROFILE r)))) &&
      (w.all fun p => decide (p < 64) || decide (128 ≤ p) || decide (s.rd (Reg.DUTY_CTX (p - 64)) ≠ 65535))

/-- No two lists share an element. -/
def apart : List (List Nat) → Bool
  | [] => true
  | a :: t => (t.all fun b => a.all fun x => !b.contains x) && apart t

/-- All checks of R298 on the configuration and program that would result. -/
def State.loopChecks (s : State) : Bool :=
  let on := s.slotsOn 0 ++ s.slotsOn 1
  (on.all fun j => s.slotOk j) && apart (on.map fun j => s.slotWrites j) &&
    ((List.range 2).all fun l => decide (s.fld (Bit.LANE_CTRL_TRIG l) ≠ 0) || decide (5 * s.frameCyc l ≤ 2 * s.rdN (Reg.FRAME_NS l)))

/-- An enabled slot writes point `p` (R314, R320). -/
def State.slotOwns (s : State) (p : Nat) : Bool := (s.slotsOn 0 ++ s.slotsOn 1).any fun j => (s.slotWrites j).contains p

/-- OWNER of profile `w` (R320): 1 the rail that runs on it, 2 a slot that writes its target, 0 the host. -/
def State.windOwner (s : State) (w : Nat) : Nat :=
  if (List.range 4).any fun r => s.rdN (Reg.SLEW_PROFILE r) = w && s.switching r then 1
  else if s.slotOwns (32 + w) then 2 else 0

/-! ### Signals (R310) -/

/-- A mean current of a phase in mA from its sense input. -/
def State.phaseNow (s : State) (p : Nat) : Int :=
  if s.resultValid (22 + p) then
    ((pinUv (22 + p) (s.rd (Reg.RESULT (22 + p))) - s.rd (Reg.CS_ZERO_MV p) * 1000) * 1000).tdiv (s.rd (Reg.CS_GAIN_UV p))
  else s.rd (Reg.IPHASE_MA p)

/-- The present value of signal `i`, before saturation. -/
def State.sigRaw (s : State) (i : Nat) : Int :=
  if i < 96 then s.rd (Reg.RESULT i)
  else if i < 112 then (s.phaseNow (i - 96)).tdiv 2
  else if i < 116 then s.rd (Reg.RESULT (i - 94))
  else if i < 120 then s.rd (Reg.rlDac (i - 116)) * 8192 / 1000
  else if i < 124 then s.rd (Reg.IOUT_MA (i - 120)) / 32
  else if i < 128 then ((s.active (i - 124)).length : Int)
  else if i < 640 then (s.rd (Reg.Ctx_I_MA (i - 128))).tdiv 4
  else if i < 653 then s.rd (Reg.TEMP_CDEG (i - 640))
  else if i = 653 then s.rd Reg.NODE_MV / 2
  else if i = 654 then s.rd Reg.STORE_MV / 2
  else if i = 655 then (s.rd Reg.STORE_MA).tdiv 4
  else if i < 658 then (s.rd (Reg.Ring_I_MA (i - 656))).tdiv 16
  else if i = 658 then (s.rd Reg.HEADROOM_MW).tdiv 1000
  else if i = 659 then s.rd Reg.BUDGET_EFF_MW / 1000
  else if i < 668 then s.rd (Reg.tySigDuty (i - 660))
  else if i = 668 then s.rd Reg.tyWaiting
  else if i < 672 then 0
  else if i < 704 then s.rd (Reg.wdSigPos (i - 672))
  else if i < 736 then (if s.on (Reg.wdSigMov (i - 704)) then 0x7FFF else 0)
  else if i < 800 then s.rd (Reg.act (i - 608))
  else if i < 848 then (if s.bit (mnOut (i - 800)) then 0x7FFF else 0)
  else 0

/-- A signal reads its value saturated to 16 bits. -/
def State.sigValue (s : State) (i : Nat) : Int := satI16 (s.sigRaw i)

/-! ### Actuator points and winder targets (R306, R312, R313, R320–R322) -/

/-- A target of profile `w` is written: a move starts when it changes, or when the profile stands elsewhere at rest. -/
def State.windTarget (s : State) (w : Nat) (goal : Int) : State :=
  let t := s.wr (Reg.TARGET w) goal
  if goal ≠ s.rd (Reg.TARGET w) ∨ (s.moving w = false ∧ s.rd (Reg.wdPosF w) ≠ goal * 65536) then t.windTo w goal else t

/-- A value takes effect at an actuator point (R312). -/
def State.actWrite (s : State) (p : Nat) (v : Int) : State :=
  if 32 ≤ p ∧ p < 64 then s.windTarget (p - 32) (v * 65536)
  else if 64 ≤ p ∧ p < 128 then s.setPoint (p - 64) v
  else if p = 20 then (s.wr (Reg.act 20) v).propDrive
  else
    let t := s.wr (Reg.act p) v
    if p < 16 then t.wr (Reg.TON_TRIM p) (clampI (-256) 255 v) else t

/-- The points of a list take their safe values (R309, R312, R317). -/
def State.actSafe (s : State) (l : List Nat) : State :=
  forAll l (fun p t => if 32 ≤ p ∧ p < 64 then t else t.actWrite p 0) s

/-- Buffered writes of a lane take effect: destinations from 1000 on are winder targets written whole (R303, R306). -/
def State.loopCommit (s : State) (l : Nat) : State :=
  let mine := s.loopWrites.filter fun x => x.1 = l
  let t := { s with loopWrites := s.loopWrites.filter fun x => x.1 ≠ l }
  forAll mine (fun x u => if 1000 ≤ x.2.1 then u.windTarget (x.2.1 - 1000) x.2.2 else u.actWrite x.2.1 x.2.2) t

/-- Discard the writes a lane has buffered. -/
def State.loopDrop (s : State) (l : Nat) : State := { s with loopWrites := s.loopWrites.filter fun x => x.1 ≠ l }

/-- Buffer a write; a later write to the same point replaces an earlier one, and a target written by WTG and one written at
its point 32–63 are the same. -/
def State.loopBuffer (s : State) (l p : Nat) (v : Int) : State :=
  let same := fun (q : Nat) => decide (q = p) || (decide (1000 ≤ p) && decide (q = p - 968)) || (decide (1000 ≤ q) && decide (p = q - 968))
  { s with loopWrites := (s.loopWrites.filter fun x => !(decide (x.1 = l) && same x.2.1)) ++ [(l, p, v)] }

/-! ### Slot registers -/

/-- V`i` of slot `j`. -/
def State.vreg (s : State) (j i : Nat) : Int := s.rd (Reg.slV (16 * j + i))

/-- Put V`i` of slot `j`. -/
def State.setV (s : State) (j i : Nat) (x : Int) : State := s.wr (Reg.slV (16 * j + i)) x

/-- Put V`i` of slot `j` saturated to 16 bits; SAT sets when that changes the value (R300, R301). -/
def State.satV (s : State) (j i : Nat) (x : Int) : State :=
  let t := s.setV j i (satI16 x)
  if satI16 x = x then t else t.wr (Reg.slSat j) 1

/-- A`n` of slot `j`. -/
def State.areg (s : State) (j n : Nat) : Int := s.rd (Reg.slA (4 * j + n))

/-- Put A`n` of slot `j`. -/
def State.setA (s : State) (j n : Nat) (x : Int) : State := s.wr (Reg.slA (4 * j + n)) x

/-- sat40 of R300. -/
def sat40 (x : Int) : Int := clampI (-549755813888) 549755813887 x

/-- Put A`n` of slot `j` saturated to 40 bits; SAT sets when that changes the value (R300, R301). -/
def State.satA (s : State) (j n : Nat) (x : Int) : State :=
  let t := s.setA j n (sat40 x)
  if sat40 x = x then t else t.wr (Reg.slSat j) 1

/-- rnd15 of R300. -/
def rnd15 (x : Int) : Int := (x + 16384) / 32768

/-- Every register, accumulator and flag of slot `j`, and its following-error timer when `timer`, becomes 0 (R299, R318). -/
def State.slotZero (s : State) (j : Nat) (timer : Bool) : State :=
  let t := forUnits 4 (fun n u => u.setA j n 0) (forUnits 16 (fun i u => u.setV j i 0) s)
  if timer then ((((t.wr (Reg.slClp j) 0).wr (Reg.slSat j) 0).wr (Reg.slFeNs j) 0).wr (Reg.FE_ELAPSED_US j) 0).setFld (flag (Reg.SLOT_STATUS j) 5) 0
  else t

/-! ### Frames and runs (R293–R297, R299, R306–R309) -/

/-- RUNNING follows: enabled and not stopped (R326). -/
def State.slotRunning (s : State) (j : Nat) : State :=
  s.setBit (flag (Reg.SLOT_STATUS j) 0) (s.bit (Bit.SLOT_CTRL_ENABLE j) && !s.bit (flag (Reg.SLOT_STATUS j) 4))

/-- PROG_WORDS and PROG_CRC read the image in effect (R327). -/
def State.progShow (s : State) : State :=
  (s.wr Reg.PROG_WORDS ((s.progImage.length / 4 : Nat) : Int)).wr Reg.PROG_CRC (if s.progImage.isEmpty then 0 else (crc32 s.progImage : Nat))

/-- Lane `l` takes its own configuration: rounds are counted from its enabling, and no trigger of before waits (R293, R299). -/
def State.laneOwn (s : State) (l : Nat) : State :=
  let on := s.bit (Bit.LANE_CTRL_ENABLE l)
  let t := s.when (on != s.on (Reg.ltOn l)) fun u => (u.wr (Reg.lnTrig l) 0).wr (Reg.lnRounds l) 0
  ((t.wrB (Reg.ltOn l) on).wr (Reg.ltTrig l) (t.fld (Bit.LANE_CTRL_TRIG l))).wr (Reg.ltFrameNs l) (t.rd (Reg.FRAME_NS l))

/-- An accepted commit takes effect in lane `l` at its frame boundary (R299). -/
def State.laneTake (s : State) (l : Nat) : State :=
  if s.on (Reg.lnDirty l) then
    let one := fun (k : Nat) (t : State) =>
      let j := 64 * l + k
      let u := (t.wrB (Reg.ltEn j) (t.bit (Bit.SLOT_CTRL_ENABLE j))).wr (Reg.ltStart j) (t.rd (Reg.START j))
      let v := ((u.wr (Reg.ltDiv j) (t.rd (Reg.DIV j))).wr (Reg.ltPhase j) (t.rd (Reg.PHASE j))).wr (Reg.ltSig j) (t.rd (Reg.SIG_BASE j))
      let w := (v.wr (Reg.ltAct j) (t.rd (Reg.ACT_BASE j))).wr (Reg.ltBud j) (t.rd (Reg.BUDGET_CYC j))
      w.when (t.on (Reg.slClear j)) fun x => (x.wr (Reg.ltClear j) 1).wr (Reg.slClear j) 0
    (((forUnits 64 one s).setBlob (Reg.ltProg l) s.progImage).laneOwn l).progShow.wr (Reg.lnDirty l) 0
  else s

/-- A frame of lane `l` is running at the present timebase (R297). -/
def State.frameRuns (s : State) (l : Nat) : Bool := s.on (Reg.lnSlot l) || decide (2 * s.now < s.rd (Reg.lnFrameEnd l))

/-- The budgets in effect of the enabled slots of lane `l` among its first `n`, in cycles (R294). -/
def State.budgets (s : State) (l n : Nat) : Nat :=
  (List.range n).foldl (fun t k => if s.on (Reg.ltEn (64 * l + k)) then t + s.rdN (Reg.ltBud (64 * l + k)) else t) 0

/-- The first CLK_LOOP edge at or after the present timebase, in half nanoseconds (R294). -/
def State.loopEdge (s : State) : Int := (2 * s.now + 4) / 5 * 5

/-- The timebase moves on to `h` half nanoseconds unless it stands there or beyond. -/
def State.toHalf (s : State) (h : Int) : State := s.advance (((h + 1) / 2 - s.now).toNat)

/-- A frame of lane `l` begins at the present trigger (R294). -/
def State.frameBegin (s : State) (l : Nat) : State :=
  let t := forUnits 64 (fun k u => u.wr (Reg.slNew (64 * l + k)) 0) (((s.inc32 (Reg.FRAMES l)).wr (Reg.lnLeft l) 64).wr (Reg.lnRunFrame l) (s.rd (Reg.lnFrameNo l)))
  (t.wr (Reg.lnStart l) t.loopEdge).wr (Reg.lnFrameEnd l) (t.loopEdge + 5 * (t.budgets l 64 : Nat))

/-- A trigger of lane `l` with its frame number: an overrun while a frame runs, else a frame boundary, at which a lane that has been
disabled stops (R293, R297, R299). -/
def State.laneTrigger (s : State) (l : Nat) (number : Int) : State :=
  let t := (s.wr (Reg.lnFrameNo l) number).wr (Reg.FRAME_NO l) (number % 4294967296)
  if t.frameRuns l then (t.inc32 (Reg.OVERRUNS l)).raise (384 + l)
  else
    let u := t.laneTake l
    if u.on (Reg.ltOn l) then u.frameBegin l else u

/-- The end of a scan round is a trigger of the lanes with TRIG at SCAN (R293). -/
def State.laneScan (s : State) : State :=
  forUnits 2 (fun l t =>
    if t.on (Reg.ltOn l) then
      (t.wr (Reg.lnRounds l) (t.rd (Reg.lnRounds l) + 1)).when (decide (t.rd (Reg.ltTrig l) = 1)) fun u => u.wr (Reg.lnTrig l) (u.rd (Reg.lnTrig l) + 1)
    else t) s

/-- The routine slot `j` runs, in the image in effect in its lane. -/
def State.ownRoutine (s : State) (j : Nat) : List Nat := (routineAt (s.blob (Reg.ltProg (j / 64))) (s.rdN (Reg.ltStart j))).getD []

/-- The points slot `j` writes in the configuration in effect. -/
def State.ownPoints (s : State) (j : Nat) : List Nat := routineWrites (s.ownRoutine j) (s.rdN (Reg.ltAct j))

/-- The slot stops with its cause (R309, R317). -/
def State.slotStop (s : State) (j cause : Nat) : State :=
  ((s.setFld (flag (Reg.SLOT_STATUS j) 4) 1).setFld ⟨Reg.SLOT_STATUS j, 2, 2⟩ cause).slotRunning j

/-- Slot `j` runs in the present frame of its lane (R295): enabled as in effect, not stopped, and not restarted within the frame (R318). -/
def State.slotRuns (s : State) (j : Nat) : Bool :=
  s.on (Reg.ltOn (j / 64)) && s.on (Reg.ltEn j) && !s.bit (flag (Reg.SLOT_STATUS j) 4) && !s.on (Reg.slNew j) &&
    decide (s.rd (Reg.lnRunFrame (j / 64)) % s.rd (Reg.ltDiv j) = s.rd (Reg.ltPhase j))

/-- The instant at which slot `j` begins in the present frame, in half nanoseconds: offset_j cycles after the frame (R294). -/
def State.slotAt (s : State) (j : Nat) : Int := s.rd (Reg.lnStart (j / 64)) + 5 * (s.budgets (j / 64) (j % 64) : Nat)

/-- The slots of the lane of `j` that have not had their turn in the present frame, from number `64 * l` up to below `j`. -/
def State.turnsBefore (s : State) (j : Nat) : List Nat :=
  ((List.range (j % 64)).filter fun k => decide (64 ≤ s.rdN (Reg.lnLeft (j / 64)) + k)).map (· + 64 * (j / 64))

/-- The run of slot `j` is due in the present frame: it runs in the frame, its turn has not passed, no lower slot's run is in progress
or still due, and its budget is not over (R294, R295) (log entry 60: DEDUCED). -/
def State.slotDue (s : State) (j : Nat) : Bool :=
  s.slotRuns j && !s.on (Reg.lnSlot (j / 64)) && decide (64 ≤ s.rdN (Reg.lnLeft (j / 64)) + j % 64) &&
    !(s.turnsBefore j).any s.slotRuns && decide (2 * s.now < s.slotAt j + 5 * s.rd (Reg.ltBud j))

/-- The run of slot `j` begins, at its offset in the frame (R294, R296, R299, R301, R307) (log entry 60: DEDUCED). -/
def State.slotBegin (s : State) (j : Nat) : State :=
  let r := (s.toHalf (s.slotAt j)).wr (Reg.lnRunAt (j / 64)) (s.slotAt j)
  let t := if r.on (Reg.ltClear j) then (r.slotZero j false).wr (Reg.ltClear j) 0 else r
  let u := forUnits 8 (fun k v => v.wr (Reg.slParam (8 * j + k)) (v.rd (Reg.PARAM j k))) t
  let v := (((u.wr (Reg.slSat j) 0).wr (Reg.slRaised j) 0).wr (Reg.slFeDue j) 0).wr (Reg.slCyc j) 0
  let w := (v.wr (Reg.slPc j) (v.rd (Reg.ltStart j))).wr (Reg.lnLeft (j / 64)) ((63 - j % 64 : Nat) : Int)
  (w.wr (Reg.lnSlot (j / 64)) ((j + 1 : Nat) : Int)).loopDrop (j / 64)

/-- SLOT_STATUS at the end of a run: SAT, CLAMPED and RAISED of the run (R301, R326). -/
def State.runStatus (s : State) (j : Nat) : State :=
  ((s.setBit (flag (Reg.SLOT_STATUS j) 7) (s.on (Reg.slSat j))).setBit (flag (Reg.SLOT_STATUS j) 6) (s.on (Reg.slClp j))).setBit
    (flag (Reg.SLOT_STATUS j) 1) (s.on (Reg.slRaised j))

/-- What the end of a run leaves of it (R301, R303, R305): its status, the cycles it used, SAT_COUNT, and source 256 + j for a RAISE, or where
`more` calls for it (log entry 122: DEDUCED). -/
def State.runEnd (s : State) (j : Nat) (more : Bool) : State :=
  let t := ((s.runStatus j).wr (Reg.CYC_LAST j) (s.rd (Reg.slCyc j))).when (s.on (Reg.slSat j)) fun x => x.inc32 (Reg.SAT_COUNT j)
  t.when (s.on (Reg.slRaised j) || more) fun x => x.raise (256 + j)

/-- An uncorrectable fetch ends the run with nothing committed and stops the slot (R309); the run is not a completed one, and of a
following-error action that it has brought about the source is raised, the slot being stopped by the error (R317) (log entry 122: DEDUCED). -/
def State.slotEcc (s : State) (j : Nat) : State :=
  let t := (((s.wr (Reg.lnSlot (j / 64)) 0).loopDrop (j / 64)).runEnd j (s.on (Reg.slFeDue j))).slotStop j 2
  (t.actSafe (t.ownPoints j)).raise 386

/-- What the fetches of a run find, as one number: a digit to base 3 each, the first one lowest (R308, R309). -/
def eccDigits (l : List (Fin 3)) : Nat := l.foldr (fun d n => d.val + 3 * n) 0

/-- The lane fetches the next instruction of its run, if one is in progress: a single-bit error is corrected and counted (R308), an
uncorrectable one ends the run (R309) (log entry 60: DEDUCED). -/
def State.fetch (s : State) (l : Nat) : State :=
  if s.rd (Reg.lnEcc l) = 0 ∨ s.rd (Reg.lnSlot l) = 0 then s
  else
    let t := s.wr (Reg.lnEcc l) (s.rd (Reg.lnEcc l) / 3)
    match s.rdN (Reg.lnEcc l) % 3 with
    | 0 => t
    | 1 => t.inc32 Reg.ECC_CORRECTED
    | _ => t.slotEcc (s.rdN (Reg.lnSlot l) - 1)

/-- The lane executes one instruction of its running slot and fetches the next: the word at the slot's address must be `w` in the bits
of `mask` (R296, R302, R305, R308); else nothing happens (log entry 60: DEDUCED). -/
def State.loopDo (s : State) (l w mask cyc : Nat) (f : Nat → State → State) : State :=
  if s.rd (Reg.lnSlot l) = 0 then s
  else
    let j := s.rdN (Reg.lnSlot l) - 1
    let pc := s.rdN (Reg.slPc j)
    if Nat.land (progWord (s.blob (Reg.ltProg l)) pc) mask = w then
      (f j ((s.wr (Reg.slPc j) ((pc + 1 : Nat) : Int)).wr (Reg.slCyc j) (s.rd (Reg.slCyc j) + cyc))).fetch l
    else s

/-- Every bit of a word (log entry 63: DEDUCED). -/
def wAll : Nat := 4294967295

/-- The following-error step (R316, R317): the timer advances by the slot period while the error is above its limit. -/
def State.fel (s : State) (j : Nat) (err lim : Int) : State :=
  if lim < absI err then
    let old := s.rd (Reg.slFeNs j)
    let new := old + s.rd (Reg.ltDiv j) * s.rd (Reg.ltFrameNs (j / 64))
    let limit := s.rd (Reg.FE_TIME_US j) * 1000
    let t := ((s.wr (Reg.slFeNs j) new).wr (Reg.FE_ELAPSED_US j) (satU 32 (new / 1000))).setFld (flag (Reg.SLOT_STATUS j) 5) 1
    if old < limit ∧ limit ≤ new then t.wr (Reg.slFeDue j) 1 else t
  else ((s.wr (Reg.slFeNs j) 0).wr (Reg.FE_ELAPSED_US j) 0).setFld (flag (Reg.SLOT_STATUS j) 5) 0

/-- The following-error action at the end of a run, with the run's commit (R306, R317). -/
def State.feAction (s : State) (j : Nat) : State :=
  let l := j / 64
  if !s.on (Reg.slFeDue j) then s.loopCommit l
  else match s.fld (Bit.SLOT_CTRL_FE_ACTION j) with
    | 0 => s.loopCommit l
    | 1 => (((s.loopCommit l).slotStop j 1).wr (Reg.slFeNs j) 0).wr (Reg.FE_ELAPSED_US j) 0
    | _ => (((((s.loopDrop l).actSafe (s.ownPoints j)).slotStop j 1).wr (Reg.slFeNs j) 0).wr (Reg.FE_ELAPSED_US j) 0)

/-- END completes on its cycle's edge (R301, R303, R305, R306, R317): the writes commit, the status of the run is written, and source 256 + j is
raised once for a RAISE or a following-error action (log entry 63: DEDUCED). -/
def State.slotEnd (s : State) (j : Nat) : State :=
  let t := ((s.toHalf (s.rd (Reg.lnRunAt (j / 64)) + 5 * s.rd (Reg.slCyc j))).feAction j).wr (Reg.lnSlot (j / 64)) 0
  (t.inc32 (Reg.RUNS j)).runEnd j (t.on (Reg.slFeDue j))

/-- RESTART of a stopped slot: it runs from its next scheduled frame, not in one in progress (R318) (log entry 60: DEDUCED). -/
def State.slotRestart (s : State) (j : Nat) : State :=
  if s.bit (flag (Reg.SLOT_STATUS j) 4) then
    ((((s.slotZero j true).setFld (flag (Reg.SLOT_STATUS j) 4) 0).setFld ⟨Reg.SLOT_STATUS j, 2, 2⟩ 0).wr (Reg.slNew j) 1).slotRunning j
  else s

/-- What an accepted commit changed of the slots, from the state `old` to `s` (R298, R299): CYC_WORST, the slots to clear, and
the lanes that take the commit at their next frame boundary, or at once where the lane runs no frames. -/
def State.loopAccept (s old : State) : State :=
  let one := fun (j : Nat) (t : State) =>
    let worst := match t.slotRoutine j with
      | some l => cycWorst l
      | none => 0
    let changed := t.bit (Bit.SLOT_CTRL_ENABLE j) != old.bit (Bit.SLOT_CTRL_ENABLE j) || decide (t.rd (Reg.START j) ≠ old.rd (Reg.START j)) ||
      decide (t.rd (Reg.BUDGET_CYC j) ≠ old.rd (Reg.BUDGET_CYC j)) || decide (t.slotRoutine j ≠ old.slotRoutine j)
    ((t.when (t.bit (Bit.SLOT_CTRL_ENABLE j)) fun u => u.wr (Reg.CYC_WORST j) (worst : Nat)).when changed fun u => u.wr (Reg.slClear j) 1).slotRunning j
  forUnits 2 (fun l u => let v := u.wr (Reg.lnDirty l) 1; if v.on (Reg.ltOn l) then v else v.laneTake l) (forUnits 128 one s)

/-- PRESET of profile `w`: POS takes signal START_SIG in its upper half (R323) (log entry 61: DEDUCED). -/
def State.windStart (s : State) (w : Nat) : State := s.windPreset w (s.sigValue (s.rdN (Reg.START_SIG w)) * 65536)

end Sys2Proof.Machine
end

