-- ==== Sys2Proof/Machine/PitOps.lean ====
section
/-!
DEFINITION. Shared operations of the galleries, the capture and the pit log (11_shaft_and_pit_log.md): credits and waits, the
image in flash with its staging deltas, the live image, and epochs.
-/
namespace Sys2Proof.Machine

/-! ### Galleries (R450–R455) -/

/-- CLASS of a gallery: 0 LOSSLESS, 1 LATEST, 2 CAPTURE, 3 SECURE (R456). -/
def galClass (g : Nat) : Nat :=
  if g = 20 ∨ g = 21 then 2 else if g = 26 then 3 else if (16 ≤ g ∧ g ≤ 18) ∨ 32 ≤ g then 1 else 0

/-- A gallery whose starved producer drops and counts: the power plane's (R452). -/
def galDrops (g : Nat) : Bool := decide (16 ≤ g ∧ g ≤ 22)

/-- A gallery whose producer waits: the application cores, the NVM manager, the card reader, the security block (R452). -/
def galWaits (g : Nat) : Bool := (decide (g < 12) && decide (g % 2 = 1)) || (decide (23 ≤ g) && decide (g ≤ 26))

/-- A block of a gallery goes back to the pool: its consumer has released it, or it is reclaimed (R450, R451). -/
def State.freeBlock (s : State) (g : Nat) : State :=
  if s.on (Reg.USED g) then
    { s.wr (Reg.USED g) (s.rd (Reg.USED g) - 1) with blocks := dropOldest g s.blocks }
  else s

/-- A producer of gallery `g` asks for a credit for a block it fills with `d` (R450–R452); a write of a SECURE one that comes with debug or scan
entry is dropped (R488). -/
def State.askCredit (s : State) (g : Nat) (d : List Byte) : State :=
  if galClass g = 1 then s.record g d
  else if g = 26 ∧ s.markedNow markDebug 0 = true then s.dropBlock g
  else if s.credit g then
    let t := (s.waitEnds g).takeBlock g
    { t with blocks := t.blocks ++ [⟨g, d.take 256⟩] }
  else if galClass g = 2 then s
  else if galDrops g then s.dropBlock g
  else if galWaits g then s.waitBegins g
  else s

/-- A LATEST gallery gives a block back that no consumer is reading (R451, R488). -/
def State.reclaimOne (s : State) (g : Nat) : State :=
  if (s.reclaimed g).length = s.blocks.length then s
  else { (s.wr (Reg.USED g) (s.rd (Reg.USED g) - 1)).inc32 (Reg.OVERWRITES g) with blocks := s.reclaimed g }

/-- A commit of QUOTA: below USED a LATEST gallery gives its oldest blocks back at once, and what waits for a credit asks again (R452, R455). -/
def State.reclaim (s : State) (g : Nat) : State :=
  if galClass g = 1 then forUnits (s.rd (Reg.USED g) - s.rd (Reg.QUOTA g)).toNat (fun _ t => t.reclaimOne g) s
  else s.txRetry

/-! ### Capture (R465–R471) -/

/-- The capture's frames, at most CAP_MAX; the blocks of G20 follow (R463, R465). -/
def State.capWrite (s : State) (frame : List Int) : State :=
  let l := s.capFrames ++ [frame]
  let kept := l.drop (l.length - s.capMax.toNat)
  let used : Int := min (s.rd (Reg.QUOTA 20)) (ceilDiv ((kept.length : Int) * 80) 256)
  let t := { s with capFrames := kept }.wr Reg.CAP_FRAMES (kept.length : Nat)
  ((t.setUsed 20 used).fed 20).wr Reg.capFrameNo (s.rd Reg.capFrameNo + 1)

/-- The words of a frame (R465): `node`: the five conversions of input 0; `scan`: the scan sequencer's conversions. -/
def State.capWords (s : State) (node scan : List Int) : List Int :=
  let us := s.timebase / 1000
  let r := us % 4294967296 % 10
  let at16 := fun (v : Nat) => ofTwos 16 v
  [at16 (us % 65536), at16 (us / 65536 % 65536)] ++ (node ++ List.replicate 5 (-32768)).take 5 ++
    ((List.range 20).map fun i => s.rd (Reg.RESULT (18 + i))) ++ ((List.range 4).map fun i => s.rd (Reg.RESULT (38 + 4 * r + i))) ++
    (scan ++ List.replicate 9 (-32768)).take 9

/-- G20 and G21 are empty and the capture is ARMED (R470) (log entry 96: DEDUCED). -/
def State.capArm (s : State) : State :=
  let t := ((({ s with capFrames := [], capEvents := [] }.wr (Reg.USED 20) 0).wr (Reg.USED 21) 0).wr Reg.CAP_STATE 1).wr Reg.capFrameNo 0
  ((t.wr Reg.CAP_FRAMES 0).wr Reg.capLastUs 0).mark markArm 0 0

/-! ### The image (R473, R474) -/

/-- Width in bits of the field at an image offset. -/
def imgBits (off : Nat) : Nat :=
  if 0x130 ≤ off ∧ off < 0x148 then 16
  else if (0x148 ≤ off ∧ off < 0x158) ∨ (0x2000 ≤ off ∧ off < 0x4000) then 64
  else 32

/-- The field is a lowest value. -/
def imgMin (off : Nat) : Bool := (decide (0x130 ≤ off) && decide (off < 0x138)) || decide (off = 0x140) || decide (off = 0x144)

/-- The field is a highest value. -/
def imgMax (off : Nat) : Bool := (decide (0x138 ≤ off) && decide (off < 0x140)) || decide (off = 0x142) || decide (off = 0x146)

/-- What a field holds before anything has counted. -/
def imgFirst (off : Nat) : Int := if imgMin off then 0xFFFF else 0

/-- The field of an image at an offset. -/
def Image.get (m : Image) (off : Nat) : Int := (storeFind off m.fields).getD (imgFirst off)

/-- Put a field of an image. -/
def Image.put (m : Image) (off : Nat) (v : Int) : Image :=
  { m with fields := if v = imgFirst off then storeErase off m.fields else storeInsert off v (storeErase off m.fields) }

/-- Merge one staging delta: counters by saturating addition, extremes by minimum or maximum (R477); a staged extreme is the
value plus one. -/
def Image.merge (m : Image) (p : Nat × Int) : Image :=
  if imgMin p.1 then m.put p.1 (min (m.get p.1) (p.2 - 1))
  else if imgMax p.1 then m.put p.1 (max (m.get p.1) (p.2 - 1))
  else m.put p.1 (satU (imgBits p.1) (m.get p.1 + p.2))

/-- The committed slot with the highest EPOCH (R482). -/
def newestSlot : List (Nat × Image) → Option (Nat × Image)
  | [] => none
  | x :: t =>
    match newestSlot t with
    | none => some x
    | some y => if y.2.epoch < x.2.epoch then some x else some y

/-- The slot an epoch is programmed into: a slot without an image, an erased one before others, else the one with the lowest EPOCH (R480). -/
def State.oldestSlot (s : State) : Nat :=
  let live := (List.range 8).filter fun k => !s.on (Reg.slotDead k)
  let free := live.filter fun k => !(s.slots.any fun x => x.1 = k)
  match (free.filter fun k => !s.on (Reg.slotDirty k)) ++ free with
  | k :: _ => k
  | [] => (leastBy (fun k => ((s.slots.find? fun x => x.1 = k).map fun x => x.2.epoch).getD 0) live).getD 0

/-- The image of the last committed epoch, or an empty one (R477). -/
def State.baseImage (s : State) : Image := ((newestSlot s.slots).map (·.2)).getD ⟨0, 5, 0, 0, []⟩

/-- FLAGS of an image: GAP and STAGE_SAT (R474). -/
def State.imgFlags (s : State) : Nat := s.fld (flag Reg.PL_STATUS 5) + 2 * s.fld (flag Reg.PL_STATUS 2)

/-- The base with the staging deltas merged in (R477). -/
def State.mergedImage (s : State) (epoch reason : Nat) : Image :=
  s.staging.foldl Image.merge ⟨epoch, reason, s.imgFlags, s.timebase, s.baseImage.fields⟩

/-- WD_MIRROR takes the watchdog resets since the last refresh (R475). -/
def State.mirrorWd (s : State) : State :=
  let n := s.rd Reg.WD_RESETS
  let last := s.rd Reg.plLast
  (s.stage 0x120 32 (if last ≤ n then n - last else n)).wr Reg.plLast n

/-- A refresh of the live image in the 192 blocks of G23: SEQ passes through an odd value to the next even one (R477); it waits while the gallery
cannot hold the image (R452). -/
def State.liveRefresh (s : State) : State :=
  match s.mirrorWd.takeRun 23 (192 - s.rd (Reg.USED 23)) with
  | none => s.mirrorWd.waitBegins 23
  | some u =>
    let t := (u.waitEnds 23).wr Reg.livePoison 0
    ({ t with live := t.mergedImage t.baseImage.epoch 5 }.wr Reg.SEQ ((t.rd Reg.SEQ + 2) % 4294967296)).wr Reg.liveNs (t.now + 1)

/-- `n` fields of `bytes` bytes each from an offset on. -/
def Image.run (m : Image) (off bytes n : Nat) : List Byte :=
  ((List.range n).map fun i => leBytes bytes (m.get (off + bytes * i)).toNat).flatten

/-- The header, with its CRC and COMMIT (R474). -/
def Image.head (m : Image) (unitId crc commit : Nat) : List Byte :=
  leBytes 4 0x504C4F47 ++ leBytes 2 1 ++ leBytes 1 m.reason ++ leBytes 1 m.flags ++ leBytes 4 m.epoch ++ leBytes 4 0 ++ leBytes 8 m.time ++
    leBytes 8 unitId ++ List.replicate 216 0 ++ leBytes 4 crc ++ leBytes 4 commit

/-- The summary (R474). -/
def Image.summary (m : Image) : List Byte :=
  m.run 0x100 4 12 ++ m.run 0x130 2 12 ++ m.run 0x148 8 2 ++ m.run 0x158 4 13 ++ List.replicate 116 0

/-- The image from 0x0200 to 0xBFFF (R473). -/
def Image.rest (m : Image) : List Byte :=
  m.run 0x200 4 480 ++ List.replicate 1664 0 ++ m.run 0x1000 4 1024 ++ m.run 0x2000 8 1024 ++ m.run 0x4000 4 8192

/-- The 49 152 bytes of an image; CRC is taken with 0x0F8–0x0FF as 0 (R474). -/
def Image.bytes (m : Image) (unitId commit : Nat) : List Byte :=
  let crc := crc32 (m.head unitId 0 0 ++ m.summary ++ m.rest)
  m.head unitId crc commit ++ m.summary ++ m.rest

/-! ### Epochs (R480–R484, R488) -/

/-- A power-down that waits for its epoch goes on (R481; 15_start_bist_standby.md R650) (log entry 94: DEDUCED). -/
def State.epochOver (s : State) (reason : Nat) : State := if reason = 3 then (s.wr Reg.epochEnded 1).wr Reg.seqDue 1 else s

/-- An epoch with its REASON waits for the one being written to end; of the same REASON one waits (R488) (log entry 94: DEDUCED). -/
def State.epochWait (s : State) (reason : Nat) : State :=
  let v := s.rdN Reg.plNextReason
  if v = 0 then s.wr Reg.plNextReason reason
  else if v % 8 = reason ∨ v / 8 = reason then s
  else s.wr Reg.plNextReason ((v % 8 + 8 * reason : Nat) : Int)

/-- Bits of the failed sectors of a slot that are set (R479). -/
def failedSectors (mask : Nat) : Nat := ((List.range 16).filter fun i => decide (mask / 2 ^ i % 2 = 1)).length

/-- The sector of a slot that holds its image's sector `j`: the others stand in for those that have failed (R479) (log entry 94: DEDUCED). -/
def goodSector (mask j : Nat) : Nat := (((List.range 16).filter fun i => decide (mask / 2 ^ i % 2 = 0))[j]?).getD 15

/-- The first sector from `i` on that has not failed, 16 for none. -/
def nextGood (mask i : Nat) : Nat := ((List.range 16).find? fun j => decide (i ≤ j) && decide (mask / 2 ^ j % 2 = 0)).getD 16

/-- The slot that the pit log erases: the one to be written where it is not erased yet, and between epochs one that holds no committed image
(R480, R482). -/
def State.plToErase (s : State) : Option Nat :=
  if s.bit (flag Reg.PL_STATUS 0) then
    if s.rd (Reg.slotDirty (s.rdN Reg.plSlot - 1)) = 1 then some (s.rdN Reg.plSlot - 1) else none
  else (List.range 8).find? fun k => s.on (Reg.slotDirty k) && !s.on (Reg.slotDead k)

/-- Sectors left, from the one under erase on, of the erase of slot `k`. -/
def State.plLeft (s : State) (k : Nat) : Nat :=
  if s.rdN Reg.plErSlot = k + 1 then s.rdN Reg.plErase else 16 - nextGood (s.rdN (Reg.slotBad k)) 0

/-- The erase of slot `k` has come to the sector that leaves `left`; with none left the slot is erased. -/
def State.plErased (s : State) (k left : Nat) : State :=
  if left = 0 then ((s.wr (Reg.slotDirty k) 0).wr Reg.plErSlot 0).wr Reg.plErase 0
  else (s.wr Reg.plErSlot ((k + 1 : Nat) : Int)).wr Reg.plErase (left : Nat)

/-- The 16-byte word of the image that step `i` of its programming writes: the body in order, then CRC, and COMMIT last (R474, R480). -/
def stepWord (i : Nat) : Nat := if i < 15 then i else if i < 3071 then i + 1 else 15

/-- The first step of the image's sector `j`. -/
def sectorStep (j : Nat) : Nat := if j = 0 then 0 else 256 * j - 1

/-- An epoch with its REASON is to be written (R480, R483, R484, R488): the snapshot is taken; one that falls in another epoch's
write follows it, unless it is the period's (log entry 94: DEDUCED). -/
def State.epochStart (s : State) (reason : Nat) : State :=
  if s.bit (flag Reg.PL_STATUS 0) then
    if reason = 1 then s else s.epochWait reason
  else if s.bit (flag Reg.PL_STATUS 4) then s.epochOver reason
  else if s.rd Reg.EPOCH = 4294967295 then
    let t := if s.bit (flag Reg.PL_STATUS 3) then s else (s.setFld (flag Reg.PL_STATUS 3) 1).raise 74
    t.epochOver reason
  else
    let t := s.liveRefresh
    let k := t.oldestSlot
    let u := { t with snap := t.mergedImage (t.rdN Reg.EPOCH + 1) reason, snapStaged := t.staging, slots := t.slots.filter fun x => x.1 ≠ k }
    let v := u.when (t.slots.any fun x => decide (x.1 = k)) fun w => w.wr (Reg.slotDirty k) 1
    ((v.setFld (flag Reg.PL_STATUS 0) 1).wr Reg.plSlot ((k + 1 : Nat) : Int)).wr Reg.plWord 0

/-- What a snapshot held leaves the staging counters (R480). -/
def subtractStaged (snap : List (Nat × Int)) (l : List (Nat × Int)) : List (Nat × Int) :=
  (l.map fun p =>
    match storeFind p.1 snap with
    | none => p
    | some v => if imgMin p.1 || imgMax p.1 then (p.1, if p.2 = v then 0 else p.2) else (p.1, p.2 - v)).filter fun p => p.2 ≠ 0

/-- The epoch being written has ended; one that waited follows, and a power-down goes on once none for it waits (R481, R488). -/
def State.epochEnds (s : State) : State :=
  let t := ((s.setFld (flag Reg.PL_STATUS 0) 0).wr Reg.plSlot 0).wr Reg.plWord 0
  let v := t.rdN Reg.plNextReason
  let u := if v % 8 = 3 ∨ v / 8 = 3 then t else t.epochOver s.snap.reason
  if v = 0 then u else (u.wr Reg.plNextReason ((v / 8 : Nat) : Int)).epochStart (v % 8)

/-- COMMIT verifies (R480): the deltas of the snapshot leave the staging counters, and the next oldest slot is to be erased. The last EPOCH
exhausts the counter (R484). -/
def State.epochCommit (s : State) : State :=
  if s.bit (flag Reg.PL_STATUS 0) then
    let k := s.rdN Reg.plSlot - 1
    let kept := s.slots.filter fun x => x.1 ≠ k
    let t := { s with slots := kept ++ [(k, s.snap)], staging := subtractStaged s.snapStaged s.staging }.wr (Reg.slotDirty k) 0
    let next := t.oldestSlot
    let u := ({ t with slots := t.slots.filter fun x => x.1 ≠ next || decide (x.1 = k) } : State).when (decide (next ≠ k)) fun x => x.wr (Reg.slotDirty next) 1
    let v := ((u.wr Reg.EPOCH (s.snap.epoch : Nat)).wr Reg.EPOCH_NS s.now).wr Reg.plAtNs s.now
    let w := v.when (decide (s.snap.reason = 2)) fun x => x.wr Reg.plHostNs (x.now + 1)
    let y := w.when (decide (s.snap.epoch = 4294967295)) fun x => (x.setFld (flag Reg.PL_STATUS 3) 1).raise 74
    (y.setFld (flag Reg.PL_STATUS 5) 0).epochEnds
  else s

/-- A slot with more than four failed sectors is retired, and with fewer than two left the pit log stops (R479, R483). -/
def State.slotRetire (s : State) (k : Nat) : State :=
  let t := (((s.wr Reg.SLOTS_OK (max 0 (s.rd Reg.SLOTS_OK - 1))).wr (Reg.slotDead k) 1).wr (Reg.slotDirty k) 0).wr Reg.plErSlot 0
  if t.rd Reg.SLOTS_OK < 2 then t.setFld (flag Reg.PL_STATUS 4) 1 else t

/-- The epoch being written is lost (R479, R483): its slot is free, to be erased again, or `retired`; nothing staged is lost. -/
def State.epochDrop (s : State) (retired : Bool) : State :=
  let k := s.rdN Reg.plSlot - 1
  let t := ({ s with slots := s.slots.filter fun x => x.1 ≠ k }.inc32 Reg.EPOCH_FAILS).wr (Reg.slotDirty k) 1
  (if retired then t.slotRetire k else t).raise 73

/-- The epoch fails (R479, R483). -/
def State.epochFail (s : State) (retired : Bool) : State := if s.bit (flag Reg.PL_STATUS 0) then (s.epochDrop retired).epochEnds else s

/-- A sector of slot `k` has failed (R479): with more than four the slot is retired, and an epoch that is written into it fails. -/
def State.sectorFails (s : State) (k sector : Nat) : State × Bool :=
  let mask := s.rdN (Reg.slotBad k)
  let m := if mask / 2 ^ sector % 2 = 1 then mask else mask + 2 ^ sector
  (s.wr (Reg.slotBad k) (m : Nat), decide (4 < failedSectors m))

/-- An operation of the pit log has failed for the second time (R479; 14_images_and_security.md R592): another sector stands in for the one
that failed, but for the sector of CRC and COMMIT once its body stands: then the epoch fails (log entry 94: DEDUCED). -/
def State.plOpLost (s : State) (erase : Bool) : State :=
  if erase then
    match s.plToErase with
    | none => s
    | some k =>
      let i := 16 - s.plLeft k
      let t := (s.sectorFails k i).1
      if (s.sectorFails k i).2 then
        if s.bit (flag Reg.PL_STATUS 0) then t.epochFail true
        else (t.slotRetire k).when (decide (t.rd Reg.SLOTS_OK = 2)) fun u => u.raise 73
      else t.plErased k (16 - nextGood (t.rdN (Reg.slotBad k)) (i + 1))
  else if s.bit (flag Reg.PL_STATUS 0) then
    let k := s.rdN Reg.plSlot - 1
    let j := stepWord (s.rdN Reg.plWord) / 256
    let r := s.sectorFails k (goodSector (s.rdN (Reg.slotBad k)) j)
    if r.2 || decide (3071 ≤ s.rd Reg.plWord) then r.1.epochFail r.2 else r.1.wr Reg.plWord ((sectorStep j : Nat) : Int)
  else s

/-- An operation of the pit log has verified (R480) (log entry 94: DEDUCED). -/
def State.plOpDone (s : State) (erase : Bool) : State :=
  if erase then
    match s.plToErase with
    | none => s
    | some k => s.plErased k (16 - nextGood (s.rdN (Reg.slotBad k)) (16 - s.plLeft k + 1))
  else if 3072 ≤ s.rd Reg.plWord then s.epochCommit
  else s.wr Reg.plWord (s.rd Reg.plWord + 1)

/-- The next operation of the pit log, and its address (R480) (log entry 94: DEDUCED). -/
def State.plNext (s : State) : Option (Bool × Nat) :=
  match s.plToErase with
  | some k => some (true, 0x1000000 + 65536 * k + 4096 * (16 - s.plLeft k))
  | none =>
    if s.bit (flag Reg.PL_STATUS 0) then
      let k := s.rdN Reg.plSlot - 1
      let w := stepWord (s.rdN Reg.plWord)
      some (false, 0x1000000 + 65536 * k + 4096 * goodSector (s.rdN (Reg.slotBad k)) (w / 256) + 16 * (w % 256))
    else none

/-- What the pit log reads of its flash at a start (R482–R484): whether it has stopped, and whether its counter is exhausted (log entry 94: DEDUCED). -/
def State.plShow (s : State) : State :=
  (s.setBit (flag Reg.PL_STATUS 4) (decide (s.rd Reg.SLOTS_OK < 2))).setBit (flag Reg.PL_STATUS 3) (decide (s.rd Reg.EPOCH = 4294967295))

/-! ### The tick (R475) -/

/-- The histogram bin of context `n`: its mean current of the second against ILIM_MA; without a sample in that second the mean
is an open value. -/
def State.ctxBin (s : State) (n : Nat) : Int :=
  let lim := max 1 (s.rd (Reg.ILIM_MA n))
  let c := s.rd (Reg.cxCnt n)
  if c ≤ 0 then clampI 0 15 (16 * max 0 s.free / lim) else min 15 (16 * max 0 (s.rd (Reg.cxSum n)) / (c * lim))

/-- The tick of a context. -/
def State.tickCtx (s : State) (n : Nat) : State :=
  let t := if s.conducting n then
      let u := s.stage (0x4000 + 64 * n + 4 * (s.ctxBin n).toNat) 32 1
      if s.rd (Reg.cxCnt n) ≤ 0 then u.used else u
    else s
  (t.wr (Reg.cxSum n) 0).wr (Reg.cxCnt n) 0

/-- The tick of a temperature sensor. -/
def State.tickSensor (s : State) (x : Nat) : State :=
  if !s.tsOn x then s
  else if s.bit (tsBroken x) then s.stage (0x158 + 4 * x) 32 1
  else s.stage (0x300 + 128 * x + 4 * (clampI 0 31 ((s.rd (Reg.TEMP_CDEG x) + 4000) / 600)).toNat) 32 1

/-- The tick of a ring port; a CLOSED port without a sample in the second has an open mean. -/
def State.tickPort (s : State) (p : Nat) : State :=
  let c := s.rd (Reg.rpCnt p)
  let bin := if c ≤ 0 then clampI 0 31 ((s.free + 400000) / 25000) else clampI 0 31 ((s.rd (Reg.rpSum p) + 400000 * c) / (25000 * c))
  let t := if s.rpSt p = 2 then
      let u := s.stage (0x200 + 128 * p + 4 * bin.toNat) 32 1
      if c ≤ 0 then u.used else u
    else s
  (t.wr (Reg.rpSum p) 0).wr (Reg.rpCnt p) 0

/-- The tick (R475). -/
def State.pitTick (s : State) : State :=
  let t := forUnits 2 (fun p u => u.tickPort p) (forUnits 13 (fun x u => u.tickSensor x) (forUnits 512 (fun n u => u.tickCtx n) s))
  let v := t.stage (0x100 + 4 * (t.rdN Reg.STATE)) 32 1
  if v.on Reg.holdActive then v.stage 0x11C 32 1 else v

/-- The extremes and means of a 10 µs storage sample (R475). -/
def State.pitStorage (s : State) : State :=
  let n := s.rd Reg.NODE_MV
  let v := s.rd Reg.STORE_MV
  let t := (((s.stageMin 0x140 n).stageMax 0x142 n).stageMin 0x144 v).stageMax 0x146 v
  forUnits 2 (fun p u => (u.wr (Reg.rpSum p) (u.rd (Reg.rpSum p) + u.rd (Reg.Ring_I_MA p))).wr (Reg.rpCnt p) (u.rd (Reg.rpCnt p) + 1)) t

end Sys2Proof.Machine
end

