-- ==== Sys2Proof/Machine/SatOps.lean ====
section
/-!
DEFINITION. Shared operations of the satellite link (04_satellite_link.md): the frames of a round, the mailbox,
enumeration, and the states of positions and ports.
-/
namespace Sys2Proof.Machine

/-! ### Status -/

/-- STATE of a position: 0 EMPTY, 1 CONFIG, 2 LINKED, 3 LOST, 4 MISMATCH, 5 REFUSED. -/
abbrev stState (q : Nat) : Bits := ⟨Reg.POS_STATUS q, 0, 3⟩
/-- STATE of a port: 0 DISABLED, 1 ENUMERATING, 2 UP, 3 DOWN. -/
abbrev slState (p : Nat) : Bits := ⟨Reg.PORT_STATUS p, 0, 2⟩
/-- NPOS of a port. -/
abbrev slNpos (p : Nat) : Bits := ⟨Reg.PORT_STATUS p, 4, 4⟩
/-- ENUM_COUNT of a port. -/
abbrev slCount (p : Nat) : Bits := ⟨Reg.PORT_STATUS p, 8, 8⟩

/-- STATE of position `q`. -/
def State.posSt (s : State) (q : Nat) : Nat := s.fld (stState q)

/-- The valid contexts of position `q` (R112, R158). -/
def State.ctxsAt (s : State) (q : Nat) : List Nat :=
  ((List.range 496).map (· + 16)).filter fun n => s.valid n && decide (s.position n = q)

/-- The satellite channel of a context. -/
def State.channel (s : State) (n : Nat) : Nat := s.fld (Bit.BINDING_CHANNEL n)

/-- The valid context of channel `c` of position `q`, if one names it (R113, R116). -/
def State.ctxAt (s : State) (q c : Nat) : Option Nat := (s.ctxsAt q).find? fun n => decide (s.channel n = c)

/-- The satellite of position `q` is enumerated and in use. -/
def State.enumerated (s : State) (q : Nat) : Bool := decide (1 ≤ s.posSt q) && decide (s.posSt q ≤ 3)

/-! ### Mailbox (R177–R179) -/

/-- The parameter of code `c` of context `n`, in the units of the context object (R177). -/
def State.mbxValue (s : State) (n c : Nat) : Nat :=
  match c with
  | 0 => s.rdN (Reg.ILIM_MA n)
  | 1 => s.rdN (Reg.Ctx_ISC_MA n)
  | 2 => s.rdN (Reg.INRUSH_MA n)
  | 3 => s.rdN (Reg.DVDT_MV_US n)
  | _ => s.fld (Bit.CTX_CTRL_INRUSH_MODE n)

/-- Parameter `5 × channel + code` of position `q` is pending. -/
def State.mbxPending (s : State) (q i : Nat) : Bool := decide (s.rdN (Reg.stPend q) / 2 ^ i % 2 = 1)

/-- Set or clear a pending parameter. -/
def State.setPending (s : State) (q i : Nat) (b : Bool) : State :=
  s.wr (Reg.stPend q) (withBits (s.rd (Reg.stPend q)) i 1 (if b then 1 else 0))

/-- The next mailbox sequence of position `q`, which wraps from 255 to 1 (R178). -/
def State.takeMseq (s : State) (q : Nat) : State :=
  let m := s.rd (Reg.stMseqNext q)
  (s.wr (Reg.stMseq q) m).wr (Reg.stMseqNext q) (if m = 255 then 1 else m + 1)

/-- Put parameter `i` of position `q` in flight under a new sequence; one that no context names is not sent. -/
def State.mbxFly (s : State) (q i : Nat) : State :=
  match s.ctxAt q (i / 5) with
  | none => s.setPending q i false
  | some n =>
    let t := (s.takeMseq q).wr (Reg.stMaddr q) ((i / 5 * 16 + i % 5 : Nat) : Int)
    (t.wr (Reg.stMvalue q) (s.mbxValue n (i % 5) : Nat)).wr (Reg.stNext q) (((i + 1) % 80 : Nat) : Int)

/-- The parameter in flight, as `5 × channel + code`. -/
def State.mbxFlying (s : State) (q : Nat) : Nat := s.rdN (Reg.stMaddr q) / 16 * 5 + s.rdN (Reg.stMaddr q) % 16

/-- A parameter of a channel becomes pending; one in flight is replaced at once by its newest value, under a new MSEQ (R178, R198; log entry
113: DESIGN CHOICE). -/
def State.mbxSet (s : State) (q i : Nat) : State :=
  let t := s.setPending q i true
  if t.on (Reg.stMseq q) ∧ t.mbxFlying q = i then t.mbxFly q i else t

/-- The ON bit of channel `c` of position `q` in the next command block (R116, R121, R147, R192). In CONFIG before RESYNC the ON bits are those held
from before (R188; log entry 120: DESIGN CHOICE). -/
def State.onBit (s : State) (q c : Nat) : Bool :=
  match s.ctxAt q c with
  | none => false
  | some n =>
    if s.on (Reg.stResync q) then
      s.cmd n && decide (s.ctxSt n = 10) && (decide (s.rd (Reg.stChState (16 * q + c)) = 2) || decide (s.rd (Reg.stChState (16 * q + c)) = 3))
    else s.on (Reg.cxOnBit n)

/-- The next pending parameter: one of a channel about to be turned on comes first, else the next in ascending channel and
code after the one served last (R178). -/
def State.mbxNext (s : State) (q : Nat) : Option Nat :=
  let l := (List.range 80).filter fun i => s.mbxPending q i
  let rank := fun (i : Nat) => (i + 80 - s.rdN (Reg.stNext q) % 80) % 80
  match leastBy rank (l.filter fun i => s.onBit q (i / 5) && decide (s.rd (Reg.stChState (16 * q + i / 5)) ≤ 1)) with
  | some i => some i
  | none => leastBy rank l

/-- Serve the mailbox of position `q` for the coming round (log entry 82: DEDUCED). -/
def State.mbxServe (s : State) (q : Nat) : State :=
  if (s.posSt q = 1 ∨ s.posSt q = 2) ∧ s.on (Reg.stMseq q) = false then
    match s.mbxNext q with
    | some i => s.mbxFly q i
    | none => s
  else s

/-- Channel `c` of position `q` is no context's any more: nothing of it is pending. -/
def State.mbxDrop (s : State) (q c : Nat) : State := (List.range 5).foldl (fun t i => t.setPending q (5 * c + i) false) s

/-- All five parameters of a context's channel become pending (R188). -/
def State.mbxCtx (s : State) (n : Nat) : State :=
  (List.range 5).foldl (fun t c => t.mbxSet (t.position n) (5 * t.channel n + c)) s

/-! ### Frames (R162–R171) -/

/-- A header with its CRC (R163). -/
def slHeader (ftype rseq npos : Nat) : List Byte :=
  let h := leBytes 1 ftype ++ leBytes 2 rseq ++ leBytes 1 npos
  h ++ leBytes 2 (crc16 h)

/-- A block with the CRC seeded by its ring index (R162). -/
def slBlock (k : Nat) (b : List Byte) : List Byte := b ++ leBytes 2 (crc16 (BitVec.ofNat 8 k :: b))

/-- A report block or identity slot no satellite has written: zeros and the inverse of the CRC (R171). -/
def slBlank (k n : Nat) : List Byte :=
  let b := leBytes (n - 2) 0
  b ++ leBytes 2 (65535 - crc16 (BitVec.ofNat 8 k :: b))

/-- Sixteen bits as a number. -/
def bits16 (f : Nat → Bool) : Nat := (List.range 16).foldl (fun t c => t + if f c then 2 ^ c else 0) 0

/-- The command block of position `q` (R166); `stop`: the all-off block of R193. A position in REFUSED or MISMATCH goes on being sent the CTRL,
ON bits, HOLD bits and mailbox fields that stand (R187; log entry 120: DESIGN CHOICE). -/
def State.cmdBlock (s : State) (q : Nat) (stop : Bool) : List Byte :=
  let ctrl := if stop || s.on (Reg.stGoOrphan q) then 0x80 else if s.on (Reg.stResync q) then 0x40 else 0
  let on := if stop then 0 else bits16 fun c => s.onBit q c
  let hold := if stop then 0 else bits16 fun c =>
    match s.ctxAt q c with
    | some n => s.bit (Bit.CTX_CTRL_ORPHAN_HOLD n)
    | none => false
  let mbx := if stop then leBytes 6 0 else
    leBytes 1 (s.rdN (Reg.stMseq q)) ++ leBytes 1 (s.rdN (Reg.stMaddr q)) ++ leBytes 4 (s.rdN (Reg.stMvalue q))
  slBlock (q % 8) (leBytes 1 ctrl ++ leBytes 2 on ++ leBytes 2 hold ++ mbx)

/-- Send a frame on port `p`: RSEQ counts it (R163). -/
def State.slSend (s : State) (p ftype npos : Nat) (body : List Byte) : State :=
  let t := s.wr (Reg.slRseq p) (((s.rdN (Reg.slRseq p) + 1) % 65536 : Nat) : Int)
  { t with outbox := t.outbox ++ [.ring p (slHeader ftype (s.rdN (Reg.slRseq p)) npos ++ body)] }

/-- A CYCLE frame (R165). -/
def State.slCycle (s : State) (p : Nat) (stop : Bool) : State :=
  let n := s.fld (slNpos p)
  s.slSend p 0x5A n (((List.range n).map fun k => s.cmdBlock (8 * p + k) stop ++ slBlank k 62).flatten)

/-- An ENUM frame (R181). -/
def State.slEnum (s : State) (p : Nat) : State :=
  s.slSend p 0xA5 0 (((List.range 8).map fun k => slBlank k 20).flatten)

/-- An enabled port sends three all-off CYCLE frames and stops (R193). -/
def State.slStop (s : State) (p : Nat) : State :=
  let t := if s.fld (slState p) ≠ 0 ∧ s.fld (slNpos p) ≠ 0 then ((s.slCycle p true).slCycle p true).slCycle p true else s
  t.setFld (slState p) 0

/-! ### Positions (R186–R191) -/

/-- The contexts of a position lose their link (R150, R187). -/
def State.posUnlink (s : State) (q : Nat) : State := forAll (s.ctxsAt q) (fun n t => t.ctxLinkLost n) s

/-- The contexts of a position whose satellite is no longer enumerated, its link not lost (R115). -/
def State.posAway (s : State) (q : Nat) : State := forAll (s.ctxsAt q) (fun n t => t.ctxAway n) s

/-- The position enters LOST (R189). -/
def State.posLost (s : State) (q : Nat) : State :=
  let t := (((s.setFld (stState q) 3).wr (Reg.stGoOrphan q) 1).wr (Reg.stResync q) 0).wr (Reg.stGoodRun q) 0
  ((t.inc16 (Reg.LOST_COUNT q)).raise (120 + q)).posUnlink q

/-- A binding the satellite cannot carry: its CHANNEL is at or above NCH (R187). -/
def State.unusable (s : State) (n : Nat) : Bool := decide (s.rdN (Reg.NCH (s.position n)) ≤ s.channel n)

/-- Every parameter of the position has been acknowledged. -/
def State.mbxDone (s : State) (q : Nat) : Bool := decide (s.rd (Reg.stPend q) = 0) && !s.on (Reg.stMseq q)

/-- In CONFIG, RESYNC is sent while every parameter is acknowledged (R188). -/
def State.posReady (s : State) (q : Nat) : State := if s.posSt q = 1 then s.wrB (Reg.stResync q) (s.mbxDone q) else s

/-- An accepted position enters CONFIG with every parameter of its usable contexts pending, and until it is LINKED its contexts are in
NO_LINK (R115, R188). -/
def State.posConfig (s : State) (q : Nat) : State :=
  let t := (((s.setFld (stState q) 1).posAway q).wr (Reg.stPend q) 0).wr (Reg.stMseq q) 0
  let u := ((t.wr (Reg.stResync q) 0).wr (Reg.stGoOrphan q) 0).wr (Reg.stBadRun q) 0
  let v := (u.wr (Reg.stGoodRun q) 0).wr (Reg.stBadRep q) 0
  (forAll (v.ctxsAt q) (fun n w => if w.unusable n then w else w.mbxCtx n) v).posReady q

/-- A context's binding has been committed (R112, R115, R117, R188): UNBOUND, OFF for a direct channel or a linked
position, else NO_LINK. An enable that waits for its check is presented anew, and no sample of the new binding has been taken (R118). -/
def State.bindCtx (s0 : State) (n : Nat) : State :=
  let s := if n < 16 ∧ s0.valid n = true ∧ s0.ctxSt n ≠ 0 then s0 else ((s0.ungrant n).wr (Reg.cxCheckWait n) 0).wr (Reg.cxSampled n) 0
  if !s.valid n then (s.turnOff n 0)
  else if n < 16 then if s.ctxSt n = 0 then s.enterOff n else s
  else
    let q := s.position n
    let t := (s.wr (Reg.cxLostOn n) 0).setCtxSt n 10
    if t.enumerated q = false then t
    else if t.unusable n then t.raise (152 + q)
    else if t.posSt q = 3 then t
    else
      let u := (t.mbxCtx n).posReady q
      if u.posSt q = 2 then u.enterOff n else u

/-! ### Judging a round (R164, R168, R169, R180) -/

/-- The bytes of a returned frame; a symbol received in error is `none` (R157). -/
abbrev Symbols : Type := List (Option Byte)

/-- A block of `n` bytes at offset `off`, when it arrived whole. -/
def slTake (off n : Nat) (f : Symbols) : Option (List Byte) :=
  let b := (slice off n f).filterMap id
  if b.length = n then some b else none

/-- HCRC of a returned frame passes (R163). -/
def slHcrc (f : Symbols) : Bool :=
  match slTake 0 6 f with
  | none => false
  | some h => decide (crc16 (slice 0 4 h) = ofLe (slice 4 2 h))

/-- The header of a returned frame is good: FTYPE, HCRC and NPOS (R164). -/
def slGood (f : Symbols) (ftype : Nat) : Bool :=
  match slTake 0 6 f with
  | none => false
  | some h =>
    slHcrc f && decide (ofLe (slice 0 1 h) = ftype) &&
      (decide (ftype = 0xA5) || (decide (1 ≤ ofLe (slice 3 1 h)) && decide (ofLe (slice 3 1 h) ≤ 8)))

/-- The body of a block whose seeded CRC passes. -/
def slCheck (k : Nat) (b : Option (List Byte)) : Option (List Byte) :=
  match b with
  | none => none
  | some l =>
    let d := l.take (l.length - 2)
    if crc16 (BitVec.ofNat 8 k :: d) = ofLe (l.drop (l.length - 2)) then some d else none

/-- CH_STATE of channel `c` in a report (R167). -/
def repState (r : List Byte) (c : Nat) : Nat := ofLe (slice (2 + c / 2) 1 r) / 16 ^ (c % 2) % 16

/-- The 12-bit current of channel `c` (R169). -/
def repI (r : List Byte) (c : Nat) : Int := ofTwos 12 (ofLe (slice (12 + 3 * c) 3 r) % 4096)

/-- The 12-bit voltage of channel `c` (R169). -/
def repV (r : List Byte) (c : Nat) : Nat := ofLe (slice (12 + 3 * c) 3 r) / 4096

/-- The current in mA that a report gives context `n` (R169). -/
def State.repMa (s : State) (r : List Byte) (n : Nat) : Int := satI32 ((repI r (s.channel n) * s.rd (Reg.ILSB_UA (s.position n))).tdiv 1000)

/-- The voltage in mV that a report gives context `n`; V_MV saturates (R169; log entry 113: DESIGN CHOICE). -/
def State.repMv (s : State) (r : List Byte) (n : Nat) : Int :=
  satU 16 ((repV r (s.channel n) * s.rdN (Reg.VLSB_UV (s.position n)) / 1000 : Nat) : Int)

/-- A satellite reports ORPHAN at 0 after RESYNC: the position is LINKED and its contexts resume on what this report measured (R118, R151,
R188). -/
def State.posLinked (s : State) (q : Nat) (r : List Byte) : State :=
  let held := fun (n : Nat) => decide (s.rd (Reg.stChState (16 * q + s.channel n)) = 2) || decide (s.rd (Reg.stChState (16 * q + s.channel n)) = 3)
  let t := (s.wr (Reg.stResync q) 0).setFld (stState q) 2
  forAll (t.ctxsAt q) (fun n w =>
    if w.unusable n then w else ((w.ctxMeasure n (w.repMa r n) (w.repMv r n)).ctxLinkBack n (held n))) t

/-- A report block that passes its CRC is good: no reserved CH_STATE and no current of −2048 (R168, R169). -/
def repGood (r : List Byte) : Bool :=
  (List.range 16).all fun c => decide (repState r c ≤ 5) && decide (repI r c ≠ -2048)

/-- A refused mailbox write (R179): the channel goes off and the context locks out (log entry 81: DEDUCED), before its position is LINKED as
well; CMD 0 then takes it to OFF, from which it may be enabled (R140; log entry 126: DESIGN CHOICE). -/
def State.mbxRefused (s : State) (q c : Nat) : State :=
  let t := (s.inc16 (Reg.MBX_NAKS q)).raise (152 + q)
  match t.ctxAt q c with
  | none => t
  | some n =>
    let u := t.wr (Reg.cxOnBit n) 0
    let v := if u.ctxSt n = 11 ∨ u.ctxSt n = 12 then u else u.turnOff n 8
    (v.setFld (cxCause n) 8).raise (512 + n)

/-- MACK of a report is matched with the write in flight (R178, R179) (log entry 82: DEDUCED). -/
def State.mbxAck (s : State) (q : Nat) (mack : Nat) (nak : Bool) : State :=
  if s.on (Reg.stMseq q) = true ∧ s.rdN (Reg.stMseq q) = mack then
    let t := (s.setPending q (s.mbxFlying q) false).wr (Reg.stMseq q) 0
    if nak then t.mbxRefused q (s.rdN (Reg.stMaddr q) / 16) else t
  else s

/-- A report first carries a short or a fault of context `n` (R132): a trip, whatever the device has commanded meanwhile. `was`: the channel's
state before this report. -/
def State.ctxTripped (s : State) (n was st : Nat) : State :=
  if s.ctxSt n ≠ 0 ∧ (st = 4 ∨ st = 5) ∧ was ≠ 4 ∧ was ≠ 5 then s.trip n (if st = 4 then 1 else 8) else s

/-- A report shows that the channel of a context without a link is on, inrush included: it will be turned off with RESYNC unless it continues
(R151, R192; log entry 119: DEDUCED). -/
def State.ctxHeld (s : State) (n st : Nat) : State :=
  s.when (decide (s.posSt (s.position n) ≠ 2) && decide (1 ≤ st) && decide (st ≤ 3)) fun t => t.wr (Reg.cxLostOn n) 1

/-- What a report says of one context of a linked position (R134, R152, R153): the at-limit flag, 50 µs of the fault timer, and the sample, `us`
microseconds after the one before. -/
def State.ctxReport (s : State) (n st : Nat) (i v us : Int) : State :=
  if s.ctxSt n = 0 ∨ s.ctxSt n = 10 then s
  else
    let t :=
      if s.ctxSt n = 5 ∧ st = 3 ∧ s.on (Reg.cxRegate n) = false then s.limitOn n
      else if s.ctxSt n = 6 ∧ st ≠ 3 then s.limitOff n
      else if s.ctxSt n = 4 then s.setBit (cxAtLimit n) (decide (st = 3))
      else s
    (if t.ctxSt n = 5 ∨ t.ctxSt n = 6 then t.stepTimer n 50 else t).ctxSample n i v us

/-- A good report block of position `q` (R167, R188, R189): the trips it carries come before a refusal (R198). VIN_MV saturates (log entry 113:
DESIGN CHOICE). -/
def State.posReport (s : State) (q : Nat) (r : List Byte) : State :=
  let st := ofLe (slice 0 1 r)
  let vin := ofLe (slice 10 2 r) % 4096 * s.rdN (Reg.VLSB_UV q) / 1000
  let was := fun (c : Nat) => s.rdN (Reg.stChState (16 * q + c))
  let t := ((s.setBit (flag (Reg.POS_STATUS q) 5) (decide (st / 8 % 2 = 1))).setBit (flag (Reg.POS_STATUS q) 4) (decide (st / 4 % 2 = 1))).wr
    (Reg.VIN_MV q) (satU 16 vin)
  let t1 := if st / 32 % 2 = 1 then t.inc32 (Reg.CMD_BAD q) else t
  let t2 := forUnits 16 (fun c u => u.wr (Reg.stChState (16 * q + c)) (repState r c)) t1
  let t3 := ((t2.wr (Reg.stBadRun q) 0).add 3 (Reg.stGoodRun q) 1).wrB (Reg.stBadRep q) (decide (64 ≤ st))
  let us := 50 * (1 + s.rd (Reg.stBadRun q))
  let t4 := forAll (t3.ctxsAt q) (fun n u =>
    (u.ctxHeld n (repState r (u.channel n))).ctxTripped n (was (u.channel n)) (repState r (u.channel n))) t3
  let t5 := if t4.posSt q = 2 then
      forAll (t4.ctxsAt q) (fun n u => u.ctxReport n (repState r (u.channel n)) (u.repMa r n) (u.repMv r n) us) t4
    else t4
  let t6 := (t5.mbxAck q (ofLe (slice 1 1 r)) (decide (st / 16 % 2 = 1))).posReady q
  if t6.posSt q = 1 ∧ s.on (Reg.stResync q) = true ∧ t6.on (Reg.stResync q) = true ∧ st / 128 = 0 then t6.posLinked q r else t6

/-- A bad or missing report block of position `q` (R168, R189). -/
def State.posBad (s : State) (q : Nat) : State :=
  if s.enumerated q then ((s.inc32 (Reg.RPT_BAD q)).add 4 (Reg.stBadRun q) 1).wr (Reg.stGoodRun q) 0 else s

/-- The report of ring index `k` of a CYCLE frame; those of a position that is not enumerated, or is refused or mismatched, are not judged (log
entry 113: DESIGN CHOICE). -/
def State.posJudge (s : State) (p k : Nat) (f : Symbols) : State :=
  let q := 8 * p + k
  match slCheck k (slTake (19 + 75 * k) 62 f) with
  | some r => if !s.enumerated q then s else if repGood r then s.posReport q r else s.posBad q
  | none => s.posBad q

/-- The fields of an identity slot are within R182. -/
def slotValid (d : List Byte) : Bool :=
  let n := ofLe (slice 9 1 d)
  let c := ofLe (slice 14 1 d)
  decide (ofLe (slice 8 1 d) = 1) && decide (1 ≤ n) && decide (n ≤ 16) && decide (1 ≤ ofLe (slice 10 2 d)) &&
    decide (1 ≤ ofLe (slice 12 2 d)) && decide (1 ≤ c) && decide (c ≤ 3)

/-- A position is refused or mismatched (R187). -/
def State.posRefuse (s : State) (q st : Nat) : State := ((s.setFld (stState q) st).raise (152 + q)).posUnlink q

/-- The slot of ring index `k` in a returned ENUM frame (R186–R188). -/
def State.slotJudge (s : State) (p k : Nat) (f : Symbols) : State :=
  let q := 8 * p + k
  match slCheck k (slTake (6 + 20 * k) 20 f) with
  | none => s.posRefuse q 5
  | some d =>
    let ty := ofLe (slice 0 4 d)
    let un := ofLe (slice 4 4 d)
    let exp := s.rdN (Reg.EXPECT_UNIT q)
    if !slotValid d then s.posRefuse q 5
    else if (exp ≠ 0 ∧ un ≠ exp) ∨ (exp = 0 ∧ s.on (Reg.stRecSet q) = true ∧ (s.rdN (Reg.stRecType q) ≠ ty ∨ s.rdN (Reg.stRecUnit q) ≠ un)) then
      s.posRefuse q 4
    else
      let t := ((s.wr (Reg.TYPE_ID q) ty).wr (Reg.Sat_UNIT_ID q) un).wr (Reg.NCH q) (ofLe (slice 9 1 d))
      let u := ((t.wr (Reg.ILSB_UA q) (ofLe (slice 10 2 d))).wr (Reg.VLSB_UV q) (ofLe (slice 12 2 d))).wr (Reg.CAPS q) (ofLe (slice 14 1 d))
      let v := if u.on (Reg.stRecSet q) then u
        else ((u.wr (Reg.stRecType q) ty).wr (Reg.stRecUnit q) un).wr (Reg.stRecSet q) 1
      let w := v.posConfig q
      forAll (w.ctxsAt q) (fun n x => if x.unusable n then (x.ctxLinkLost n).raise (152 + q) else x) w

/-- A position beyond the counter of an enumeration: one that was LOST stays so, any other is EMPTY (R115, R190). -/
def State.slotAbsent (s : State) (q : Nat) : State :=
  if s.posSt q = 3 ∨ s.posSt q = 0 then s else (s.setFld (stState q) 0).posUnlink q

/-- An enumeration that counts (R183–R188). -/
def State.enumResult (s : State) (p : Nat) (f : Symbols) : State :=
  let count := match slTake 3 1 f with
    | some b => ofLe b
    | none => 0
  let n := min count 8
  let t := ((s.setFld (slCount p) count).setFld (slNpos p) n).setFld (slState p) 2
  let u := ((t.wr (Reg.slEnumDue p) 0).wr (Reg.slEmpty p) 0).wr (Reg.slDownRounds p) 0
  let v := if 8 < count then u.raise (116 + p) else u
  forUnits 8 (fun k w => if k < n then w.slotJudge p k f else w.slotAbsent (8 * p + k)) v

/-- A round without a frame with a passing HCRC (R190). -/
def State.roundEmpty (s : State) (p : Nat) : State :=
  forUnits (s.fld (slNpos p)) (fun k t => t.posBad (8 * p + k)) (s.add 4 (Reg.slEmpty p) 1)

/-- The number of symbols received in error. -/
def slErrs (f : Symbols) : Nat := (f.filter Option.isNone).length

/-- The reports of a round of port `p` are judged (R164, R165, R180, R195). `f`: the frame that returned, empty when none
did; `rttNs`: its ring latency; `errs`: further invalid code groups and disparity errors. -/
def State.roundJudge (s : State) (p : Nat) (f : Symbols) (rttNs errs : Nat) : State :=
  let t := s.add 32 (Reg.CODE_ERR p) ((slErrs f + errs : Nat) : Int)
  if f.isEmpty then (t.inc32 (Reg.ROUNDS_EMPTY p)).roundEmpty p
  else
    let u := (t.wr (Reg.RTT_NS p) (satU 32 rttNs)).when (slHcrc f) fun v => (v.inc32 (Reg.FRAMES_OK p)).wr (Reg.slEmpty p) 0
    let n := u.fld (slNpos p)
    if slGood f 0xA5 then (u.when (decide (f.length ≠ 166)) fun v => v.inc32 (Reg.LEN_ERR p)).enumResult p f
    else if slGood f 0x5A then
      forUnits n (fun k w => w.posJudge p k f) (u.when (decide (f.length ≠ 6 + 75 * n)) fun w => w.inc32 (Reg.LEN_ERR p))
    else if slHcrc f then forUnits n (fun k v => v.posBad (8 * p + k)) (u.inc32 (Reg.HCRC_ERR p))
    else (u.inc32 (Reg.HCRC_ERR p)).roundEmpty p

/-- The port becomes DOWN (R190). -/
def State.portDown (s : State) (p : Nat) : State :=
  let t := ((s.setFld (slState p) 3).wr (Reg.slDownRounds p) 0).raise (112 + p)
  forUnits 8 (fun k u => if u.posSt (8 * p + k) = 1 ∨ u.posSt (8 * p + k) = 2 then u.posLost (8 * p + k) else u) t

/-- The gate of a context begins to open: an announced step of its feed rail goes off, and INRUSH begins (R121). -/
def State.gateOpens (s : State) (n : Nat) : State :=
  let t := if s.ctxSt n = 3 then s.annOpen (s.annRail n) fun a => a.owner = 64 && a.ctx = n else s
  t.enterInrush n

/-- The SOF of port `p` leaves (R180, R183, R184): contexts whose LEAD has ended go on in this frame, the mailboxes are
served, and an ENUM frame takes the place of the CYCLE frame where one is due: on a port that is DOWN in every tenth round, whether or not the
one before failed, and in every round of a port without positions, DOWN or not (log entry 113: DESIGN CHOICE). -/
def State.roundStart (s : State) (p : Nat) : State :=
  let st := s.fld (slState p)
  if st = 0 then s
  else
    let due := s.on (Reg.slEnumDue p) || decide (st = 1) || decide (s.fld (slNpos p) = 0) || decide (st = 3 ∧ s.rd (Reg.slDownRounds p) = 9)
    let t := if st = 3 then s.wr (Reg.slDownRounds p) ((s.rdN (Reg.slDownRounds p) + 1) % 10 : Nat) else s
    if due then t.slEnum p
    else
      let go := ((List.range 496).map (· + 16)).filter fun n => t.valid n && decide (t.position n / 8 = p) && t.on (Reg.cxLeadOver n)
      let u := forAll go (fun n v => v.gateOpens n) t
      (forUnits (u.fld (slNpos p)) (fun k v => v.mbxServe (8 * p + k)) u).slCycle p false

/-- A commit of ENABLE to 1, or a RESCAN of a port that is UP, starts an enumeration (R183). -/
def State.portStart (s : State) (p : Nat) : State :=
  let st := s.fld (slState p)
  let t := if st = 0 ∨ st = 2 then s.setFld (slState p) 1 else s
  t.wr (Reg.slEnumDue p) 1

/-- A commit of ENABLE to 0 stops the port; its contexts lose their link (R195) (log entry 82: DEDUCED). -/
def State.portStop (s : State) (p : Nat) : State :=
  let t := ((((s.setFld (slState p) 0).setFld (slNpos p) 0).wr (Reg.slEnumDue p) 0).wr (Reg.slEmpty p) 0).wr (Reg.slJudge p) 0
  forUnits 8 (fun k u => (u.setFld (stState (8 * p + k)) 0).posUnlink (8 * p + k)) t

/-- A write to RESCAN (R183, R186, R196) (log entry 82: DEDUCED). -/
def State.portRescan (s : State) (p : Nat) : State :=
  (forUnits 8 (fun k t => t.wr (Reg.stRecSet (8 * p + k)) 0) s).portStart p

/-- The next round instant of port `p` at which its frame has not left yet: a multiple of 50 µs plus `p` times 12.5 µs (R180) (log entry 10: DESIGN
CHOICE). -/
def State.toRound (s : State) (p : Nat) : State :=
  let t := s.advance ((50000 + p * 12500 - s.timebase % 50000) % 50000)
  let u := if t.rd (Reg.slRoundNs p) = t.now + 1 then t.advance 50000 else t
  (u.wr (Reg.slRoundNs p) (u.now + 1)).wr (Reg.slJudge p) (min 2 (u.rd (Reg.slJudge p) + 1))

end Sys2Proof.Machine
end

