-- ==== Sys2Proof/Machine/SeqOps.lean ====
section
/-!
DEFINITION. Shared operations of the sequencer (09_sequencing_and_states.md R377–R406): targets, power-good, the steps of a
node, failures and their dependants, the loss shut-down, power states, and the edges on which nodes follow what has changed.
-/
namespace Sys2Proof.Machine

/-- STATE of a node: 0 OFF, 1 WAIT, 2 DELAY_ON, 3 RAMP_UP, 4 QUALIFY, 5 UP, 6 DELAY_OFF, 7 RAMP_DOWN, 8 FAULT. -/
abbrev ndState (k : Nat) : Bits := ⟨Reg.NODE_STATUS k, 0, 4⟩
/-- FT_RUN of a node. -/
abbrev ndFtRun (k : Nat) : Bits := flag (Reg.NODE_STATUS k) 4
/-- CAUSE of a node. -/
abbrev ndCause (k : Nat) : Bits := ⟨Reg.NODE_STATUS k, 8, 4⟩
/-- LOSS_DOWN of SEQ_STATUS. -/
abbrev sqLossDown : Bits := flag Reg.SEQ_STATUS 1
/-- LOSS_HALTED of SEQ_STATUS. -/
abbrev sqLossHalted : Bits := flag Reg.SEQ_STATUS 2

/-- STATE of node `k`. -/
def State.nodeSt (s : State) (k : Nat) : Nat := s.fld (ndState k)

/-- TYPE of node `k`: 0 unused, 1 internal, 2 external, 3 virtual. -/
def State.nodeType (s : State) (k : Nat) : Nat := s.fld (Bit.NODE_CTRL_TYPE k)

/-- The rail, or the EN pin, of node `k`. -/
def State.nodeTarget (s : State) (k : Nat) : Nat := s.fld (Bit.NODE_CTRL_TARGET k)

/-- Node `k` depends on node `i`. -/
def State.dependsOn (s : State) (k i : Nat) : Bool := decide (s.rdN (Reg.DEPS k) / 2 ^ i % 2 = 1)

/-- The node counts as down: OFF, WAIT or FAULT (R386). -/
def State.nodeDown (s : State) (k : Nat) : Bool := decide (s.nodeSt k ≤ 1) || decide (s.nodeSt k = 8)

/-- The node's bit for the present STATE (R385). -/
def State.nodeOnBit (s : State) (k : Nat) : Bool :=
  match s.rdN Reg.STATE with
  | 3 => s.bit (Bit.NODE_CTRL_ON_CONFIGURED k)
  | 4 => s.bit (Bit.NODE_CTRL_ON_RUN k)
  | 5 => s.bit (Bit.NODE_CTRL_ON_ECONOMY k)
  | 6 => s.bit (Bit.NODE_CTRL_ON_PARK k)
  | _ => false

/-- The node's target (R385, R398–R400), off as well while it goes down in order after a lost dependency (R394). -/
def State.nodeWants (s : State) (k : Nat) : Bool :=
  s.nodeOnBit k && !s.bit (Bit.NODE_CTRL_HOST_OFF k) && !(s.bit sqLossDown && !s.bit sqLossHalted) && !s.on (Reg.ndLossHeld k) &&
    !s.on (Reg.ndOrdered k)

/-- Power-good of a node is good (R389). -/
def State.nodeGood (s : State) (k : Nat) : Bool :=
  let p := s.rdN (Reg.PG_SRC k)
  if p < 48 then !s.bit (mnOutF p)
  else if 64 ≤ p ∧ p < 80 then s.on (Reg.pgGood (p - 64))
  else if s.nodeType k = 1 then decide (2 ≤ s.railSt (s.nodeTarget k)) && decide (s.railSt (s.nodeTarget k) ≤ 4)
  else true

/-- The node has a fault condition (R390). -/
def State.nodeFaulty (s : State) (k : Nat) : Bool :=
  let b := s.rdN (Reg.BAND_MON k)
  let internal := decide (s.nodeType k = 1)
  let r := s.nodeTarget k
  !s.nodeGood k || (decide (b < 48) && s.bit (mnOutF b) && !(internal && decide (s.marginOf r ≠ 0))) ||
    (internal && (decide (s.railSt r = 0) || decide (5 ≤ s.railSt r)))

/-- MARGIN of the node's rail returns to 0 as the node leaves UP (R403), and a margin written on the same edge is turned away (R406). -/
def State.marginEnds (s : State) (k : Nat) : State :=
  let r := s.nodeTarget k
  if s.nodeType k = 1 ∧ s.marginOf r ≠ 0 then ((s.wr (Reg.MARGIN r) 0).newTarget r (s.rd (Reg.rlTarget r))).when (s.markedNow markMargin r) State.turnedAway else s

/-- The fault timer of a node follows its fault condition (R390). -/
def State.ftFollow (s : State) (k : Nat) : State :=
  let b := s.nodeFaulty k
  if b = s.bit (ndFtRun k) then s
  else if b then (s.setFld (ndFtRun k) 1).wr (Reg.ndFtNs k) s.now
  else (s.setFld (ndFtRun k) 0).wr (Reg.ndOkNs k) s.now

/-- Node `k` enters `st` (R383); the fault timer runs in QUALIFY and UP only (log entry 87: DEDUCED). -/
def State.nodeEnter (s : State) (k st : Nat) : State :=
  let t := if s.nodeSt k = 5 ∧ st ≠ 5 then s.marginEnds k else s
  let u := ((t.setFld (ndState k) st).wr (Reg.Node_LAST_CHANGE_NS k) s.now).wr Reg.seqDue 1
  let v := if st = 4 ∨ st = 5 then u else u.setFld (ndFtRun k) 0
  if st = 0 then
    let w := v.wr (Reg.ndOrdered k) 0
    if w.nodeType k = 1 then w.wr (Reg.rlOffBlock (w.nodeTarget k)) 0 else w
  else v

/-- The EN pins follow their nodes, at the levels and with the drive of EN_ACTIVE_LOW and EN_OPEN_DRAIN (R387, R402; 16_balls_and_supplies.md
R667). -/
def State.enPins (s : State) : State :=
  forUnits 16 (fun k t => t.wr (Reg.enPin k) (if t.on Reg.enLive then
    padLevel (decide (t.rdN Reg.EN_OPEN_DRAIN / 2 ^ k % 2 = 1)) (decide (t.rdN Reg.EN_ACTIVE_LOW / 2 ^ k % 2 = 1)) (t.on (Reg.enOn k)) else 0)) s

/-- The node withdraws its output (R388, R393). -/
def State.nodeWithdraw (s : State) (k : Nat) (ramped : Bool) : State :=
  if s.on (Reg.ndOn k) then
    let t := s.wr (Reg.ndOn k) 0
    match s.nodeType k with
    | 1 => t.railDisable (s.nodeTarget k) (ramped && s.bit (Bit.NODE_CTRL_RAMPED_OFF k))
    | 2 => (t.wr (Reg.enOn (s.nodeTarget k)) 0).enPins
    | _ => t
  else s

/-- The nodes that depend on a node of the mask, directly or through others, added to it. -/
def State.dependants (s : State) : Nat → Nat → Nat
  | 0, mask => mask
  | n + 1, mask =>
    let more := (List.range 64).foldl (fun t d => if t / 2 ^ d % 2 = 0 ∧ Nat.land (s.rdN (Reg.DEPS d)) t ≠ 0 ∧ s.nodeType d ≠ 0 then t + 2 ^ d else t) mask
    if more = mask then mask else s.dependants n more

/-- A dependant of a failed node loses its dependency (R394). -/
def State.loseDep (s : State) (d : Nat) : State :=
  if s.nodeSt d = 2 then (s.setFld (ndCause d) 5).nodeEnter d 0
  else if s.nodeDown d then s
  else
    let t := s.setFld (ndCause d) 5
    if t.bit (Bit.NODE_CTRL_FAIL_DROP d) then (t.nodeWithdraw d false).nodeEnter d 0
    else (t.wr (Reg.ndOrdered d) 1).wr Reg.seqDue 1

/-- Node `k` leaves UP other than by R388 (R394). -/
def State.depLost (s : State) (k : Nat) : State :=
  let mask := s.dependants 64 (2 ^ k)
  forUnits 64 (fun d t => if d ≠ k ∧ mask / 2 ^ d % 2 = 1 then t.loseDep d else t) s

/-- The node enters FAULT with its CAUSE 1–4 (R393, R404) (log entry 87: DEDUCED). -/
def State.nodeFault (s : State) (k cause : Nat) : State :=
  let was := s.nodeSt k
  let t := ((s.nodeWithdraw k false).setFld (ndCause k) cause).nodeEnter k 8
  let u := (((t.inc32 (Reg.FAULTS k)).wr Reg.LAST_FAULT_NODE (k : Nat)).mark markNodeFault k 0).raise (218 + cause)
  if was = 5 then u.depLost k else u

/-- The node enters RAMP_UP and asserts its output (R387, R392, R396, R397). -/
def State.nodeAssert (s : State) (k : Nat) : State :=
  let r := s.nodeTarget k
  match s.nodeType k with
  | 1 =>
    if s.enableRefused r then s.nodeFault k 4
    else if s.switching r && s.on (Reg.rlToZero r) then
      let t := s.wr (Reg.rlToZero r) 0
      ((t.moveRef r (t.goalMv r)).wr (Reg.ndOn k) 1).nodeEnter k 3
    else ((s.railEnable r).wr (Reg.ndOn k) 1).nodeEnter k 3
  | 2 => ((s.wr (Reg.enOn r) 1).enPins.wr (Reg.ndOn k) 1).nodeEnter k 3
  | _ => (s.wr (Reg.ndOn k) 1).nodeEnter k 3

/-- Every node in DEPS is UP. -/
def State.depsUp (s : State) (k : Nat) : Bool := (List.range 64).all fun i => !s.dependsOn k i || decide (s.nodeSt i = 5)

/-- Every node whose DEPS names `k` is down. -/
def State.dependantsDown (s : State) (k : Nat) : Bool :=
  (List.range 64).all fun d => !(s.dependsOn d k && decide (s.nodeType d ≠ 0)) || s.nodeDown d

/-- `ns` nanoseconds have passed since the node's last change of STATE. -/
def State.nodeSince (s : State) (k : Nat) (ns : Int) : Bool := s.since (s.rd (Reg.Node_LAST_CHANGE_NS k)) ns

/-- The fault timer of a node has reached FAULT_US (R390). -/
def State.ftOver (s : State) (k : Nat) : Bool :=
  s.bit (ndFtRun k) && s.nodeFaulty k && s.since (s.rd (Reg.ndFtNs k)) (s.rd (Reg.FAULT_US k) * 1000)

/-- Power-good has been good and the fault timer idle for PG_DELAY (R390). -/
def State.nodeQualified (s : State) (k : Nat) : Bool :=
  s.nodeGood k && !s.nodeFaulty k && !s.bit (ndFtRun k) && s.since (s.rd (Reg.ndOkNs k)) (s.rd (Reg.PG_DELAY_US k) * 1000)

/-- PG_TIMEOUT_MS has passed in RAMP_UP (R387). -/
def State.pgOver (s : State) (k : Nat) : Bool := s.nodeSince k (s.rd (Reg.PG_TIMEOUT_MS k) * 1000000)

/-- Power-good in RAMP_UP: QUALIFY, where a fault condition of the same edge starts the fault timer (R387, R391), or FAULT where the timeout
comes with it (R406). -/
def State.nodeRise (s : State) (k : Nat) : State :=
  if !s.nodeGood k then s
  else if s.pgOver k then s.nodeFault k 1
  else ((s.nodeEnter k 4).wr (Reg.ndOkNs k) s.now).ftFollow k

/-- The node enters RAMP_DOWN and withdraws its output (R388, R396). -/
def State.nodeRampDown (s : State) (k : Nat) : State := (s.nodeWithdraw k true).nodeEnter k 7

/-- RAMP_DOWN is complete: an internal node's rail is OFF; an external node's DISCHARGE_US has passed and its power-good, where it has one,
is not good (R388). -/
def State.nodeDone (s : State) (k : Nat) : Bool :=
  match s.nodeType k with
  | 1 => decide (s.railSt (s.nodeTarget k) = 0)
  | 2 => s.nodeSince k (s.rd (Reg.DISCHARGE_US k) * 1000) && (decide (s.rdN (Reg.PG_SRC k) = 255) || !s.nodeGood k)
  | _ => true

/-- One edge of node `k`, which takes no second step on the edge of one (R387): the step of R387, R388, R390 and R396 whose conditions hold. A fault timer that ends, and a qualification that ends,
come before a target that goes off with them (R406). -/
def State.nodeStep (s : State) (k : Nat) : State :=
  if s.nodeType k = 0 ∨ s.rd (Reg.Node_LAST_CHANGE_NS k) = s.now then s
  else
    let want := s.nodeWants k
    match s.nodeSt k with
    | 0 => if want then s.nodeEnter k 1 else s
    | 1 =>
      if !want then s.nodeEnter k 0
      else if s.on Reg.THERM_LOCK then s.setFld (ndCause k) 6
      else
        let t := if s.fld (ndCause k) = 6 then s.setFld (ndCause k) 0 else s
        if t.depsUp k then t.nodeEnter k 2 else t
    | 2 => if !want then s.nodeEnter k 0 else if s.nodeSince k (s.rd (Reg.ON_DELAY_US k) * 1000) then s.nodeAssert k else s
    | 3 => if want then s.nodeRise k else s.nodeRampDown k
    | 4 =>
      let t := s.ftFollow k
      if t.nodeQualified k then t.nodeEnter k 5 else if want then t else if t.ftOver k then t.nodeFault k 2 else t.nodeRampDown k
    | 5 =>
      let t := s.ftFollow k
      if want || !t.dependantsDown k then t else if t.ftOver k then t.nodeFault k 2 else t.nodeEnter k 6
    | 6 => if want then s.nodeEnter k 5 else if s.nodeSince k (s.rd (Reg.OFF_DELAY_US k) * 1000) then s.nodeRampDown k else s
    | 7 => if want then s.nodeAssert k else if s.nodeDone k then s.nodeEnter k 0 else s
    | _ => s

/-- One edge of every node (R387). -/
def State.seqEdge (s : State) : State := forUnits 64 (fun k t => t.nodeStep k) (s.wr Reg.seqDue 0)

/-- The CLK_SYS edges on which nodes follow what has changed, 5 ns each, until one changes nothing (R387; 01_architecture.md R34). -/
def State.seqRun (s : State) : Nat → State
  | 0 => s
  | n + 1 =>
    let t := s.wr Reg.seqDue 0
    let u := (t.advance 5).seqEdge
    if u.on Reg.seqDue ∨ u.regs ≠ t.regs then u.seqRun n else t

/-- Every used node is OFF or FAULT (R380). -/
def State.nodesOff (s : State) : Bool :=
  (List.range 64).all fun k => decide (s.nodeType k = 0) || decide (s.nodeSt k = 0) || decide (s.nodeSt k = 8)

/-! ### The lamp check with the power states (R380; 15_start_bist_standby.md R645–R650) -/

/-- The lamp check begins (15_start_bist_standby.md R645). -/
def State.lampBegin (s : State) : State :=
  let t := forUnits 512 (fun n u => u.cmdOff n) s
  let u := forUnits 4 (fun p v => if v.fld (slState p) ≠ 0 then v.slStop p else v) t
  let v := (((u.setFld lmValid 0).wr Reg.lrKept 0).setFld lmRunning 1).setFld lmAbandoned 0
  (((v.wr Reg.lampPhase 1).wr Reg.lampUnit 5).wr Reg.lampStartNs s.now).wr Reg.lampUnitNs s.now

/-- The power-down's last step (15_start_bist_standby.md R650): the ports open, the core supply is removed, and the pins take their reset
state (16_balls_and_supplies.md R666, R667); without VKEEP the
always-on domain loses power with it (16_balls_and_supplies.md R686). -/
def State.powerDown (s : State) : State :=
  let t := forUnits 2 (fun p u => if u.rpSt p = 1 ∨ u.rpSt p = 2 then u.rpOpens p 0 5 else u) s
  let u := ((forUnits 8 (fun k v => v.wr (Reg.cmpoPin k) 0) (forUnits 4 (fun k v => v.wr (Reg.ifwOut k) 0) (t.wr Reg.enLive 0))).enPins.wr Reg.lampPhase 0).wr
    Reg.corePowered 0
  if s.bit (flag Reg.SUP_STATUS 5) then u else u.wr Reg.alwaysOn 0

/-- The lamp check goes on without time: unit 20 is passed over while the share link is enabled (R646), the record is written
after unit 26, and the power-down ends once the epoch has ended (R650). -/
def State.lampSettle (s : State) : State :=
  let t := if s.lampTesting 20 && s.bit Bit.WS_CTRL_ENABLE then s.lampEntry 20 2 0 0 else s
  let u := if t.lampTesting 27 then (t.lampWrite 1).wr Reg.lampPhase 2 else t
  if 2 ≤ u.rd Reg.lampPhase ∧ u.on Reg.epochEnded = true ∧ u.rd Reg.STATE ≤ 1 ∧ u.procRuns = true then u.powerDown else u

/-- The sequencer and the lamp check on the edges after a command. -/
def State.seqSettle (s : State) : State :=
  if s.on Reg.seqDue then
    let t := s.seqEdge.seqRun 200
    let u := if t.rd Reg.STATE ≤ 1 ∧ t.rd Reg.lampPhase = 0 ∧ t.nodesOff = true ∧ t.ppRuns = true then t.lampBegin else t
    u.lampSettle
  else s

/-! ### Power states (R377–R382) -/

/-- STATE changes, with a notice of it (R380, R382; 12_dictionary.md R528, whose DATA and FLAGS for it are 0: log entry 125: DESIGN CHOICE). -/
def State.enterState (s : State) (v : Nat) : State :=
  let t := ((s.wr Reg.STATE (v : Nat)).wr Reg.LAST_STATE_NS s.now).wr Reg.seqDue 1
  (t.notice ⟨s.timebase, 3, 0, v, 0⟩).ifwPins.cmpoPins

/-- An accepted STATE_CMD (R379, R380; 11_shaft_and_pit_log.md R481): it clears RESTORE_HALTED (10_faults_watchdog_resets.md R439), one for the
present state does no more, and one for the other of STANDBY and OFF in the lamp check changes only the final state (log entry 49: DEDUCED). -/
def State.stateCmd (s0 : State) (v : Nat) : State :=
  let s := s0.setFld (flag Reg.RST_STATUS 0) 0
  if s.rdN Reg.STATE = v then s
  else
    let t := (s.inc32 Reg.STATE_CHANGES).enterState v
    if v ≤ 1 ∧ s.rd Reg.STATE ≤ 1 ∧ s.on Reg.lampPhase = true then t
    else if v ≤ 1 then (t.wr Reg.epochEnded 0).epochStart 3
    else if s.rd Reg.STATE ≤ 1 then t.lampStop else t

/-! ### Loss shut-down (R398–R400) -/

/-- A trigger of R398 holds: 0 HOLD for LOSS_HOLD_MS, 1 the storage level, 2 no storage to hold with. -/
def State.lossDue (s : State) (trigger : Nat) : Bool :=
  s.bit (flag Reg.SEQ_CTRL 0) &&
    match trigger with
    | 0 => decide (s.propMode = 3) && s.on Reg.LOSS_HOLD_MS && s.since (s.rd Reg.ppHoldNs) (s.rd Reg.LOSS_HOLD_MS * 1000000)
    | 1 => decide (s.propMode = 3) && s.on Reg.LOSS_STORE_MV && decide (s.rd Reg.STORE_MV < s.rd Reg.LOSS_STORE_MV)
    | _ => s.bit (flag Reg.IFW_STATUS 0) && (decide (s.propMode = 0) || s.bit prExhausted || s.propCaged)

/-- The loss shut-down starts (R398); one in force and not halted goes on (R406). -/
def State.lossStart (s : State) (trigger : Nat) : State :=
  if s.bit sqLossDown && !s.bit sqLossHalted then s
  else
    let mark := fun (k : Nat) (t : State) =>
      if t.nodeType k ≠ 0 ∧ t.nodeSt k ≠ 0 ∧ t.nodeSt k ≠ 8 then t.setFld (ndCause k) 7 else t
    let t := forUnits 64 (fun k u => (mark k u).wr (Reg.ndLossHeld k) 0) s
    let u := ((t.setFld sqLossDown 1).setFld sqLossHalted 0).wrB Reg.lossThird (decide (trigger = 2))
    (((u.inc32 Reg.Seq_LOSS_COUNT).raise 223).wr Reg.seqDue 1).epochStart 4

/-- The held nodes come back (R400). -/
def State.lossResume (s : State) : State :=
  let t := forUnits 64 (fun k u => u.wr (Reg.ndLossHeld k) 0) s
  ((t.setFld sqLossDown 0).setFld sqLossHalted 0).wr Reg.seqDue 1

/-- The nodes whose OFF_DELAY_US ends with the return of the feed: their step to RAMP_DOWN has begun (R406). -/
def State.fallsBegun (s : State) : State :=
  forUnits 64 (fun k t => if t.nodeSt k = 6 ∧ t.nodeSince k (t.rd (Reg.OFF_DELAY_US k) * 1000) = true then t.nodeRampDown k else t) s

/-- The feed returns during a loss shut-down (R399, R400). -/
def State.lossHalt (s0 : State) : State :=
  if s0.bit sqLossDown && !s0.bit sqLossHalted then
    let s := s0.fallsBegun
    let held := fun (k : Nat) => decide (s.nodeType k ≠ 0) && (s.nodeDown k || decide (s.nodeSt k = 7))
    let t := forUnits 64 (fun k u => u.wrB (Reg.ndLossHeld k) (held k)) s
    let u := (t.setFld sqLossHalted 1).wr Reg.seqDue 1
    if u.bit (flag Reg.SEQ_CTRL 1) then u.lossResume else u
  else s0

/-- HOLD ends under R233, which is the return of the feed but after the third trigger (R399). -/
def State.feedByHold (s : State) : State := if s.on Reg.lossThird then s else s.lossHalt

/-- FEED clears, which is the return of the feed after the third trigger or an exhaustion (R399). -/
def State.feedByWarning (s : State) : State := if s.on Reg.lossThird then s.lossHalt else s

/-- HOLD has ended by exhaustion after the shut-down started (R399). -/
def State.holdUnable (s : State) : State := if s.bit sqLossDown && !s.bit sqLossHalted then s.wr Reg.lossThird 1 else s

/-! ### Margining (R403) -/

/-- A node that names rail `r` is UP. -/
def State.railUp (s : State) (r : Nat) : Bool :=
  (List.range 64).any fun k => decide (s.nodeType k = 1) && decide (s.nodeTarget k = r) && decide (s.nodeSt k = 5)

/-- A margin is put in force: one move to the margined target. -/
def State.setMargin (s : State) (r : Nat) (m : Int) : State := ((s.wr (Reg.MARGIN r) m).newTarget r (s.rd (Reg.rlTarget r))).wr Reg.seqDue 1

/-! ### Objects that read what the nodes are (R402) -/

/-- SEQ_STATUS. -/
def State.seqStatus (s : State) : Int :=
  let any := fun (f : Nat → Bool) => if (List.range 64).any f then (1 : Int) else 0
  any (fun k => decide (2 ≤ s.nodeSt k) && decide (s.nodeSt k ≤ 7) && decide (s.nodeSt k ≠ 5)) + s.rd Reg.SEQ_STATUS +
    8 * any (fun k => decide (s.fld (ndCause k) = 6)) + 16 * any (fun k => decide (s.nodeSt k = 8))

end Sys2Proof.Machine
end

