-- ==== Sys2Proof/Machine/ShareOps.lean ====
section
/-!
DEFINITION. Shared operations of the share link and the share groups (13_links.md R571–R583; 06_tally_and_sharing.md R282–R289):
the layout and forwarding of messages, election and timebase, share values and their sums, announcements and faults of
other members.
-/
namespace Sys2Proof.Machine

/-! ### Status -/

/-- POSITION of WS_STATUS. -/
abbrev wsPosition : Bits := ⟨Reg.WS_STATUS, 0, 3⟩
/-- NO_POSITION of WS_STATUS. -/
abbrev wsNoPosition : Bits := flag Reg.WS_STATUS 3
/-- MASTER of WS_STATUS. -/
abbrev wsMaster : Bits := flag Reg.WS_STATUS 4
/-- SYNC_OK of WS_STATUS. -/
abbrev wsSyncOk : Bits := flag Reg.WS_STATUS 5
/-- IN_OK of WS_STATUS. -/
abbrev wsInOk : Bits := flag Reg.WS_STATUS 6

/-- The share link runs with ENABLE at 1 (R583, R584). -/
def State.wsUp (s : State) : Bool := s.bit Bit.WS_CTRL_ENABLE

/-- AS_SUSPENDED: a disciplining device has stopped being master (R545) (log entry 100: DEDUCED). -/
def State.asSuspend (s : State) : State :=
  if s.bit Bit.ETH_CTRL_AS_DISCIPLINE then s.setFld (flag Reg.ETH_STATUS 4) 1 else s

/-- The device has no position: it originates nothing and is no master; source 242 is raised once (R575) (log entry 101: DEDUCED). -/
def State.wsLost (s : State) : State :=
  let t := (((s.when (s.bit wsMaster) State.asSuspend).setFld wsNoPosition 1).setFld wsPosition 0).setFld wsMaster 0
  if s.on Reg.wsNoPos then t else (t.wr Reg.wsNoPos 1).raise 242

/-- A position is taken (R575) (log entry 101: DEDUCED). -/
def State.wsPlace (s : State) (pos : Nat) : State :=
  if 8 ≤ pos then s.wsLost else ((s.setFld wsPosition pos).setFld wsNoPosition 0).wr Reg.wsNoPos 0

/-- The steering of the timebase by an error in ns (R576): a step while every rail is off, else the trim in ppb; `integ`: the
register of the integrator. The watchdog counts its own clock and takes no part in the step (10_faults_watchdog_resets.md R427). -/
def State.servo (s : State) (integ : Nat) (err : Int) : State :=
  if 1000 < absI err ∧ (List.range 4).all (fun r => decide (s.railSt r = 0)) then
    (({ s with timebase := ((s.now - err) % 18446744073709551616).toNat }).wr integ 0).wr Reg.wdNs (s.rd Reg.wdNs - err)
  else
    let i := clampI (-200000) 200000 (s.rd integ - 100 * err)
    (s.wr integ i).wr Reg.PLL_TRIM_PPB (clampI (-200000) 200000 (i - 1000 * err))

/-- SYNC_OK clears (R576). -/
def State.syncLost (s : State) : State :=
  let t := (s.wr Reg.wsGoodRun 0).wr Reg.wsBadRun 0
  if s.bit wsSyncOk then ((t.setFld wsSyncOk 0).inc32 Reg.SYNC_LOSSES).raise 243 else t

/-- SYNC_OK follows the errors of consecutive SYNCs (R576). -/
def State.syncJudge (s : State) (err : Int) : State :=
  if absI err ≤ 20 then
    let t := (s.wr Reg.wsBadRun 0).add 4 Reg.wsGoodRun 1
    if 10 ≤ t.rd Reg.wsGoodRun then t.setFld wsSyncOk 1 else t
  else if absI err ≤ 25 then (s.wr Reg.wsGoodRun 0).wr Reg.wsBadRun 0
  else
    let t := (s.wr Reg.wsGoodRun 0).add 2 Reg.wsBadRun 1
    if 3 ≤ t.rd Reg.wsBadRun then t.syncLost else t

/-- No SYNC of the master has been received for 1 ms (R576). -/
def State.syncSilent (s : State) : Bool := !s.on Reg.syncNs || s.since (s.rd Reg.syncNs - 1) 1000000

/-- No SYNC of a lower address has been received for 1 ms (R575). -/
def State.lowSilent (s : State) : Bool := !s.on Reg.wsLowNs || s.since (s.rd Reg.wsLowNs - 1) 1000000

/-- A SYNC of another device (R575, R576) (log entry 18: DESIGN CHOICE). One of a lower address than its own stops the part's own; the position and the
timebase follow the lowest address only, until that has been silent for 1 ms (log entry 101: DEDUCED). -/
def State.syncReceive (s : State) (addr hops : Nat) (tMaster corr : Int) : State :=
  if !s.wsUp || decide (addr = 0) || (decide (s.ownAddr ≠ 0) && decide (s.ownAddr ≤ addr)) then s
  else
    let low := (s.wr Reg.wsSending 0).wr Reg.wsLowNs (s.now + 1)
    if !s.syncSilent && decide (s.rdN Reg.MASTER_ADDR < addr) then low
    else
      let t := low.when (s.bit wsMaster) State.asSuspend
      let u := (t.setFld wsMaster 0).wr Reg.MASTER_ADDR (addr : Nat)
      let v := if s.ownAddr = 0 then u.wsLost else u.wsPlace (hops + 1)
      let err := v.now - (tMaster + corr + Config.wsFixedDelay + v.rd Reg.LINK_DELAY_NS)
      let w := ((v.wr Reg.TB_ERR_NS (satI32 err)).syncJudge err).servo Reg.wsInteg err
      (w.wr Reg.syncNs (w.now + 1)).wr Reg.wsLowNs (w.now + 1)

/-- The next instant of R577 at which no SHARE has been sent: a timebase multiple of 10 µs plus POSITION × 1250 ns (log entry 10: DESIGN CHOICE). -/
def State.toShare (s : State) : State :=
  let t := s.advance ((s.fld wsPosition * 1250 + 10000 - s.timebase % 10000) % 10000)
  let u := if t.rd (Reg.tickNs 16) = t.now + 1 then t.advance 10000 else t
  u.wr (Reg.tickNs 16) (u.now + 1)

/-- A SYNC of this part at a timebase multiple of 100 µs, the instant T_MASTER names; what it waits for OUT joins its CORR (R575, R586). -/
def State.syncSend (s : State) : State :=
  if !s.wsUp || !s.on Reg.wsSending then s
  else if s.ownAddr = 0 then s.wsLost
  else
    let t := ((s.wsPlace 0).setFld wsMaster 1).wr Reg.MASTER_ADDR (s.ownAddr : Nat)
    let u := if s.bit wsMaster then t else t.setFld (flag Reg.ETH_STATUS 4) 0
    (u.wsOut (wsMessage 0x11 0 u.ownAddr (leBytes 8 u.timebase ++ leBytes 4 0))).wsCount 12

/-! ### Share values (06_tally_and_sharing.md R283–R289) -/

/-- The slot numbers of a rail's assigned phases. -/
def State.ownSlots (s : State) (r : Nat) : List Nat := (s.phasesOf r).map fun p => s.rdN (Reg.GROUP_SLOT p)

/-- The slices that hold at least one of a list of slots. -/
def slicesOf (l : List Nat) : List Nat := (List.range 8).filter fun i => l.any fun x => x / 16 = i

/-- The SLICE_MAP of slice `i`. -/
def sliceMap (l : List Nat) (i : Nat) : Nat := (List.range 16).foldl (fun t b => t + if l.any (fun x => x = 16 * i + b) then 2 ^ b else 0) 0

/-- The slice sent next: the first above the one sent last, wrapping (R577). -/
def State.nextSlice (s : State) (r : Nat) : Nat :=
  let l := slicesOf (s.ownSlots r)
  match l.find? fun i => s.rdN (Reg.wsSlice r) ≤ i with
  | some i => i
  | none => l.head?.getD 0

/-- The share entry of rail `r` (R577). -/
def State.shareEntry (s : State) (r : Nat) : List Byte :=
  let i := s.nextSlice r
  leBytes 1 (s.fld (Bit.GROUP_CTRL_GROUP_ID r) + 16 * i) ++ leBytes 1 (s.active r).length ++
    leBytes 2 (satU 16 (roundDiv (s.rd (Reg.IOUT_MA r)) 10)).toNat ++ leBytes 2 (satU 16 (roundDiv (s.railCap r) 10)).toNat ++
    leBytes 2 (s.rdN (Reg.FSW_KHZ r)) ++ leBytes 1 (s.rdN (Reg.N_SLOTS r)) ++ leBytes 2 (sliceMap (s.ownSlots r) i)

/-- The SHARED rails, in ascending order. -/
def State.sharedRails (s : State) : List Nat := (List.range 4).filter fun r => s.shared r

/-- A SHARE message (R577). -/
def State.shareSend (s : State) : State :=
  if s.wsTalks && !s.sharedRails.isEmpty then
    let body := (s.sharedRails.map fun r => s.shareEntry r).flatten
    let t := s.wsSend 0x22 body
    forAll s.sharedRails (fun r u => u.wr (Reg.wsSlice r) ((s.nextSlice r + 1 : Nat) : Int)) t
  else s

/-- One share entry of another device reaches rail `r`'s group (R577; 06_tally_and_sharing.md R288). -/
def State.shareTake (s : State) (r addr pos : Nat) (e : List Byte) : State :=
  let gs := ofLe (slice 0 1 e)
  let old := s.members.find? fun m => m.rail = r && m.addr = addr
  let kept := ((old.map (·.slices)).getD []).filter fun x => x.1 ≠ gs / 16 % 8
  let prev := fun (f : Member → Bool) => (old.map f).getD false
  let m : Member := ⟨r, addr, pos, ofLe (slice 2 2 e) * 10, ofLe (slice 1 1 e), ofLe (slice 4 2 e) * 10, ofLe (slice 6 2 e),
    ofLe (slice 8 1 e), kept ++ [(gs / 16 % 8, ofLe (slice 9 2 e), 0)], true, 0, min 10 (((old.map (·.good)).getD 0) + 1),
    prev (·.left), prev (·.clash)⟩
  { s with members := s.members.filter (fun x => !(x.rail = r && x.addr = addr)) ++ [m] }

/-- A SHARE message of another device: the entries whose GROUP_ID is that of an own SHARED rail (R577). -/
def State.shareReceive (s : State) (addr pos : Nat) : Nat → List Byte → State
  | 0, _ => s
  | n + 1, b =>
    if b.length < 11 then s
    else
      let id := ofLe (slice 0 1 b) % 16
      let t := match s.sharedRails.find? fun r => s.fld (Bit.GROUP_CTRL_GROUP_ID r) = id with
        | some r => s.shareTake r addr pos (b.take 11)
        | none => s
      t.shareReceive addr pos n (b.drop 11)

/-- The slots a member's slices name. -/
def Member.slotSet (m : Member) : List Nat :=
  (m.slices.map fun x => ((List.range 16).filter fun b => x.2.1 / 2 ^ b % 2 = 1).map fun b => 16 * x.1 + b).flatten

/-- The members of rail `r`'s group that have not been dropped. -/
def State.groupOf (s : State) (r : Nat) : List Member := s.members.filter fun m => m.rail = r && !m.left

/-- The lowest of this part's address and its members'. -/
def State.leadOf (s : State) (r : Nat) : Nat := (s.groupOf r).foldl (fun t m => min t m.addr) s.ownAddr

/-- What the lead of rail `r`'s group sends of FSW_KHZ and N_SLOTS. -/
def State.leadShape (s : State) (r : Nat) : Nat × Nat :=
  match (s.groupOf r).find? fun m => m.addr = s.leadOf r with
  | some m => (m.fsw, m.slots)
  | none => (s.rdN (Reg.FSW_KHZ r), s.rdN (Reg.N_SLOTS r))

/-- Two lists share an element. -/
def meet (a b : List Nat) : Bool := a.any fun x => b.contains x

/-- A device is left out of the group (06_tally_and_sharing.md R289). -/
def State.leftOut (s : State) (r addr fsw slots : Nat) (set : List Nat) : Bool :=
  decide ((fsw, slots) ≠ s.leadShape r) || ((s.groupOf r).any fun m => decide (m.addr < addr) && meet set m.slotSet) ||
    (decide (s.ownAddr < addr) && meet set (s.ownSlots r))

/-- Who is left out of rail `r`'s group is judged; source 215 + r is raised on the device left out and on the lead (R289) (log entry 84: DEDUCED). -/
def State.groupJudge (s : State) (r : Nat) : State :=
  let own := s.leftOut r s.ownAddr (s.rdN (Reg.FSW_KHZ r)) (s.rdN (Reg.N_SLOTS r)) (s.ownSlots r)
  let new := fun (m : Member) => s.leftOut r m.addr m.fsw m.slots m.slotSet
  let rise := (own && !s.on (Reg.gpClash r)) ||
    (decide (s.leadOf r = s.ownAddr) && (s.groupOf r).any fun m => new m && !m.clash)
  let t := { s with members := s.members.map fun (m : Member) => if m.rail = r && !m.left then { m with clash := new m } else m }
  let u := t.wrB (Reg.gpClash r) own
  if rise then u.raise (215 + r) else u

/-- GROUP_IOUT_MA, GROUP_PHASES, GROUP_CAP_MA, MEMBERS and LEAD_ADDR (06_tally_and_sharing.md R283, R288–R290) (log entry 84: DEDUCED). -/
def State.groupSums (s : State) (r : Nat) : State :=
  let l := if s.on (Reg.gpClash r) then [] else (s.groupOf r).filter fun m => !m.clash
  let sum := fun (f : Member → Nat) => (l.foldl (fun t m => t + f m) 0 : Nat)
  let t := ((s.wr (Reg.GROUP_IOUT_MA r) (satU 32 (s.rd (Reg.IOUT_MA r) + sum (·.ioutMa)))).wr (Reg.GROUP_PHASES r)
    (satU 8 (((s.active r).length + sum (·.active) : Nat) : Int))).wr (Reg.GROUP_CAP_MA r) (satU 32 (s.railCap r + sum (·.capMa)))
  let mask := (List.range 8).foldl (fun t k => t + if (s.groupOf r).any (fun m => m.pos = k) then 2 ^ k else 0) 0
  (t.wr (Reg.MEMBERS r) (mask : Nat)).wr (Reg.LEAD_ADDR r) (s.leadOf r : Nat)

/-- The end of a period for the members of rail `r`: who was not heard has missed one, and a slice that has not been
renewed for 9 periods after the one it came in goes (R288; 13_links.md R577) (log entry 84: DEDUCED). -/
def State.groupAge (s : State) (r : Nat) : State :=
  { s with members := s.members.map fun (m : Member) =>
      if m.rail ≠ r then m
      else
        let x := (m.slices.map fun y => (y.1, y.2.1, y.2.2 + 1)).filter fun y => y.2.2 < 10
        if m.heard then { m with heard := false, slices := x } else { m with missed := m.missed + 1, good := 0, slices := x } }

/-- The step of the share trim in pV: 2π × SHARE_BW_HZ × 10 µs × (mean − own) × SHARE_RES_UOHM (R285) (log entry 22: DEDUCED). -/
def State.trimStep (s : State) (r : Nat) : Int :=
  let n : Int := (s.active r).length
  let ph := s.rd (Reg.GROUP_PHASES r)
  if n = 0 ∨ ph = 0 then 0
  else (6283185307 * s.rd (Reg.SHARE_BW_HZ r) * s.rd (Reg.SHARE_RES_UOHM r) *
    (s.rd (Reg.GROUP_IOUT_MA r) * n - s.rd (Reg.IOUT_MA r) * ph)) / (100000000000 * ph * n)

/-- Put the trim, in pV. -/
def State.setTrim (s : State) (r : Nat) (pv : Int) : State :=
  (s.wr (Reg.gpTrimFrac r) pv).wr (Reg.TRIM_MV r) (satI16 (roundDiv pv 1000000000))

/-- 10 µs of the share group of rail `r` (R283, R285, R288, R289) (log entry 70: DEDUCED). -/
def State.groupPeriod (s : State) (r : Nat) : State :=
  if !s.shared r then s
  else
    let t := (s.groupJudge r).groupSums r
    let alone := (t.groupOf r).isEmpty || t.on (Reg.gpClash r)
    let old := t.rd (Reg.gpTrimFrac r)
    let lim := t.rd (Reg.REF_MV r) * t.rd (Reg.TRIM_MAX_PERMILLE r) * 1000000
    let u :=
      if !t.bit (Bit.GROUP_CTRL_TRIM_EN r) then (t.setTrim r 0).wr (Reg.gpDecay r) 0
      else if alone then
        let step := if t.on (Reg.gpDecay r) then t.rd (Reg.gpDecay r) else ceilDiv (absI old) 100
        let new := if 0 ≤ old then max 0 (old - step) else min 0 (old + step)
        (t.setTrim r new).wr (Reg.gpDecay r) (if new = 0 then 0 else step)
      else (t.setTrim r (clampI (-lim) lim (old + t.trimStep r))).wr (Reg.gpDecay r) 0
    u.groupAge r

/-- Three periods without a share value of a member (R288). -/
def State.memberLoss (s : State) (r addr : Nat) : State :=
  if s.members.any fun m => m.rail = r && m.addr = addr && decide (3 ≤ m.missed) && !m.left then
    let t := { s with members := s.members.map fun (m : Member) => if m.rail = r && m.addr = addr then { m with left := true, good := 0 } else m }
    (((t.inc32 (Reg.Group_LOSS_COUNT r)).raise (211 + r)).groupJudge r).groupSums r
  else s

/-- Ten consecutive good values of a dropped member (R288). -/
def State.memberRejoin (s : State) (r addr : Nat) : State :=
  if s.members.any fun m => m.rail = r && m.addr = addr && decide (10 ≤ m.good) && m.left then
    let t := { s with members := s.members.map fun (m : Member) => if m.rail = r && m.addr = addr then { m with left := false } else m }
    (t.groupJudge r).groupSums r
  else s

/-! ### Announcements and faults of other members (R578, R579) -/

/-- The SHARED rail whose GROUP_ID a message carries. -/
def State.railOfGroup (s : State) (group : Nat) : Option Nat := s.sharedRails.find? fun r => s.fld (Bit.GROUP_CTRL_GROUP_ID r) = group % 16

/-- ANNOUNCE of another member (R578, R586; 02_converter_core.md R76, R82, R85): after T_GATE the rail only adds phases. -/
def State.announceReceive (s : State) (addr group annId : Nat) (stepMa : Int) (tGate : Nat) : State :=
  match s.railOfGroup group with
  | none => s
  | some r =>
    if s.withdrawn.any fun x => x = (addr, group % 16, annId) then
      { s with withdrawn := s.withdrawn.filter fun x => x ≠ (addr, group % 16, annId) }
    else
      let d := (tGate + 4294967296 - s.timebase % 4294967296) % 4294967296
      if 0 < d ∧ d < 2147483648 then s.announce r addr 0 annId stepMa d
      else
        let late := (4294967296 - d) % 4294967296
        let need := ceilDiv (s.rd (Reg.IOUT_MA r) + stepMa) (s.rd (Reg.ADD_MA r))
        let t := (s.shedUndo r).burstEnds r
        let u := if t.switching r then t.raiseActive r (min need.toNat 16) else t
        (u.wr (Reg.rlNoShed r) (max (u.rd (Reg.rlNoShed r)) (u.now - (late : Int) + u.rd Reg.SHED_DWELL_US * 1000))).inc16 (Reg.FF_SKIPPED r)

/-- WITHDRAW of another member (R578, R586). -/
def State.withdrawReceive (s : State) (addr group annId : Nat) : State :=
  match s.railOfGroup group with
  | none => s
  | some r =>
    if s.anns.any fun a => a.rail = r && a.owner = addr && a.annId = annId && !a.opened then
      s.annWithdraw r fun a => a.rail = r && a.owner = addr && a.annId = annId
    else if s.anns.any fun a => a.rail = r && a.owner = addr && a.annId = annId then s
    else { s with withdrawn := s.withdrawn.filter (fun x => x ≠ (addr, group % 16, annId)) ++ [(addr, group % 16, annId)] }

/-- The gates of other members' announcements whose T_GATE has come (R578). -/
def State.remoteGates (s : State) (r : Nat) : State :=
  let due := fun (a : Announcement) => a.rail = r && a.owner ≠ 64 && !a.opened && decide (a.start + a.spanNs ≤ s.timebase)
  if s.anns.any due then s.annOpen r due else s

/-- FAULT of another member (R579). -/
def State.faultReceive (s : State) (addr group kind : Nat) : State :=
  match s.railOfGroup group with
  | none => s
  | some r =>
    let t := s.wr Reg.LAST_FAULT (((addr % 64) * 256 + (group % 16) * 16 + kind % 16 : Nat) : Int)
    let st := t.railSt r
    if kind = 1 ∧ t.bit Bit.WS_CTRL_FOLLOW_HICCUP = true ∧ st ≠ 5 ∧ st ≠ 0 ∧ st ≠ 6 then t.railHiccup r true else t

/-- What a message of another device does at this part, whether or not it is forwarded (R573, R574). -/
def State.wsAct (s : State) (type orig addr : Nat) (payload : List Byte) : State :=
  match type with
  | 0x11 => if payload.length = 12 then s.syncReceive addr (orig / 8 % 16) (ofLe (slice 0 8 payload) : Nat) (ofLe (slice 8 4 payload) : Nat) else s
  | 0x22 => s.shareReceive addr (orig % 8) 4 payload
  | 0x44 => if payload.length = 10 then
      s.announceReceive addr (ofLe (slice 0 1 payload)) (ofLe (slice 1 1 payload)) (ofLe (slice 2 4 payload) : Nat) (ofLe (slice 6 4 payload)) else s
  | 0x55 => if payload.length = 2 then s.withdrawReceive addr (ofLe (slice 0 1 payload)) (ofLe (slice 1 1 payload)) else s
  | 0x66 => if payload.length = 2 then s.faultReceive addr (ofLe (slice 0 1 payload)) (ofLe (slice 1 1 payload)) else s
  | _ => s

/-- CORR of a SYNC as forwarded (R576): the residence time, the fixed path delay and the link's delay are added. The residence
time depends on what else OUT sends: a free value (log entry 18: DESIGN CHOICE). -/
def State.syncCorr (s : State) (body : List Byte) : Nat :=
  twos 32 ((ofLe (slice 8 4 body) : Nat) + s.free + Config.wsFixedDelay + s.rd Reg.LINK_DELAY_NS)

/-- A message arrives on IN; `bad`: it contains K30.7 (R573). Nothing of it acts again when it comes back to its originator, whose own count of
it stands (R581; log entry 101: DEDUCED). -/
def State.wsReceive (s : State) (b : List Byte) (bad : Bool) : State :=
  if !s.wsUp then s
  else
    let len := ofLe (slice 3 1 b)
    let body := b.take (4 + len)
    if bad || decide (b.length ≠ 6 + len) || decide (44 < len) || decide (crc16 body ≠ ofLe (slice (4 + len) 2 b)) then
      (s.wsCount (b.length - 6)).inc32 Reg.CRC_ERRORS
    else
      let orig := ofLe (slice 1 1 b)
      let addr := ofLe (slice 2 1 b) % 64
      if addr = s.ownAddr ∧ s.ownAddr ≠ 0 then s
      else
        let t := (s.wsCount len).wsAct (ofLe (slice 0 1 b)) orig addr (slice 4 len b)
        let hops := orig / 8 % 16 + 1
        if 15 < hops then t.inc32 Reg.HOP_DROPS
        else
          let type := ofLe (slice 0 1 b)
          let body := slice 4 len b
          let sync := decide (type = 0x11) && decide (len = 12)
          let out := wsMessage type (orig % 8 + 8 * hops + orig / 128 * 128) (ofLe (slice 2 1 b)) (if sync then body.take 8 ++ leBytes 4 (t.syncCorr body) else body)
          (t.wsOut out).when sync State.used

/-- A window of 10 µs of ring load (R581). -/
def State.loadWindow (s : State) : State :=
  let v := satU 16 (s.rd Reg.wsSymbols * 4)
  let t := (s.wr Reg.Ws_LOAD_PERMILLE v).wr Reg.wsSymbols 0
  if v ≤ 800 then t.wr Reg.wsOverRun 0
  else
    let u := t.add 4 Reg.wsOverRun 1
    if u.rd Reg.wsOverRun = 10 then u.raise 244 else u

end Sys2Proof.Machine
end

