-- ==== Sys2Proof/Machine/LinkOps.lean ====
section
/-!
DEFINITION. Shared operations of the host-facing links (13_links.md R537–R570): receive buffers, the fast status block, the host SPI
target, and the two-wire ports. A port is named by its port code (12_dictionary.md R527): 1 10BASE-T1S, 2 Ethernet, 3 and 4 CAN FD, 5
host SPI, 6–8 TW0–TW2; a polled port also by 0 for SPI and 1–3 for TW0–TW2.
-/
namespace Sys2Proof.Machine

/-- The receive gallery of a port (11_shaft_and_pit_log.md R456). -/
def rxGallery (c : Nat) : Nat :=
  if c = 1 then 0 else if c = 2 then 2 else if c = 3 then 4 else if c = 4 then 6 else if c = 5 then 8 else 10

/-- What a port's own receive buffer holds at most, in frames or PDUs (R537). -/
def rxRoom (c : Nat) : Nat := if c = 1 then 2 else if c = 2 then 4 else if c ≤ 4 then 32 else 1

/-- The contents of a port's receive buffer, oldest first. -/
def State.rxOf (s : State) (c : Nat) : List (Nat × List Byte) := s.rxbuf.filter fun x => x.1 = c

/-- RX_FRAMES of a network port. -/
def rxFrames (c : Nat) : Nat := if c = 1 then Reg.T1s_RX_FRAMES else if c = 2 then Reg.Eth_RX_FRAMES else Reg.Can_RX_FRAMES (c - 3)

/-- RX_DROPS of a network port. -/
def rxDrops (c : Nat) : Nat := if c = 1 then Reg.T1s_RX_DROPS else if c = 2 then Reg.Eth_RX_DROPS else Reg.Can_RX_DROPS (c - 3)

/-- The Ethernet destination addresses the device takes (R542). -/
def State.macMine (s : State) (b : List Byte) : Bool :=
  let d := b.take 6
  decide (d = (leBytes 6 (s.rdN Reg.MAC_ADDR)).reverse) || decide (d = List.replicate 6 0xFF) || decide (d = [0x01, 0x80, 0xC2, 0, 0, 0x0E])

/-- The CAN FD identifiers the device takes (R548). -/
def State.canMine (s : State) (id : Nat) : Bool :=
  let dst := id / 1048576 % 64
  decide (id % 16384 = 0) && (decide (dst = 63) || decide (dst = s.ownAddr) || s.bit (flag Reg.DG_CTRL 0))

/-- The unit of the lamp check a port belongs to. -/
def lampUnitOf (c : Nat) : Nat := if c = 1 then 21 else if c = 2 then 22 else if c ≤ 4 then 23 else if c = 5 then 24 else 25

/-- Where a frame's EtherType stands: behind an IEEE 802.1Q tag, or not (log entry 47: DEDUCED). -/
def etherAt (b : List Byte) : Nat := if slice 12 2 b = [0x81, 0x00] then 16 else 12

/-- A tagged frame is taken only with VLAN_EN and the tag of VLAN_ID (R542). -/
def State.vlanMine (s : State) (c : Nat) (b : List Byte) : Bool :=
  decide (etherAt b = 12) || (decide (c = 2) && s.bit Bit.ETH_CTRL_VLAN_EN &&
    decide (ofLe (slice 14 2 b).reverse % 4096 = s.rdN Reg.VLAN_ID))

/-- The frame's Ethernet source address is noted for the SRC of the PDU that it carries (12_dictionary.md R517). -/
def State.macLearn (s : State) (c : Nat) (b : List Byte) : State :=
  let a := etherAt b
  let src := ofLe (slice (a + 4) 1 b)
  if slice a 2 b = [0x88, 0xB5] ∧ src < 63 then s.wr (Reg.macTable (63 * (c - 1) + src)) ((ofLe (slice 6 6 b).reverse + 1 : Nat) : Int) else s

/-- A frame arrives (R537, R542, R548): it is taken into the receive buffer, or dropped when that is full. A port whose unit is
under test receives nothing (15_start_bist_standby.md R648). -/
def State.frameReceive (s : State) (c id : Nat) (b : List Byte) (fcsOk : Bool) : State :=
  if !s.portRuns c || s.lampTesting (lampUnitOf c) then s
  else if c = 2 ∧ s.bit (flag Reg.ETH_STATUS 0) = false then s
  else if 3 ≤ c ∧ s.fld ⟨Reg.CAN_STATUS (c - 3), 0, 2⟩ = 2 then s
  else if !fcsOk then (if c = 2 then s.inc32 Reg.FCS_ERRORS else s)
  else if c ≤ 2 ∧ (1522 < b.length ∨ s.macMine b = false ∨ s.vlanMine c b = false) then s
  else if 3 ≤ c ∧ s.canMine id = false then s
  else if (s.rxOf c).length < rxRoom c then
    ({ s.inc32 (rxFrames c) with rxbuf := s.rxbuf ++ [(c, b)] }).when (decide (c ≤ 2)) fun t => t.macLearn c b
  else s.inc32 (rxDrops c)

/-- The oldest content of a receive buffer goes to the gallery, a block for each credit (R538); what no credit was granted for
stays. -/
def State.moveChunks (s : State) (g : Nat) : Nat → List Byte → State × List Byte
  | 0, b => (s, b)
  | n + 1, b =>
    if b.isEmpty then (s, [])
    else if s.credit g then
      let t := s.takeBlock g
      ({ t with blocks := t.blocks ++ [(⟨g, b.take 256⟩ : GalBlock)] }).moveChunks g n (b.drop 256)
    else (s, b)

/-- Drop the first entry of a port. -/
def dropFirst (c : Nat) : List (Nat × List Byte) → List (Nat × List Byte)
  | [] => []
  | x :: t => if x.1 = c then t else x :: dropFirst c t

/-- Put `b` in place of the first entry of a port. -/
def putFirst (c : Nat) (b : List Byte) : List (Nat × List Byte) → List (Nat × List Byte)
  | [] => []
  | x :: t => if x.1 = c then (c, b) :: t else x :: putFirst c b t

/-- The first byte of a write sets the pointer, or has the port ignore the transfer until STOP (R561). -/
def State.twSetPtr (s : State) (k v : Nat) : State := if v < 64 then s.wr (Reg.twPtr k) (v : Nat) else s.wr (Reg.twIgnore k) 1

/-- The port lets SCL go, and the byte it held back sets the pointer (R561, R563) (log entry 102: DEDUCED). -/
def State.twLetGo (s : State) (k : Nat) : State :=
  let t := (s.wr (Reg.twStretch k) 0).wr (Reg.twHeld k) 0
  if s.on (Reg.twHeld k) then t.twSetPtr k (s.rdN (Reg.twHeld k) - 1) else t

/-- A link moves data from its buffer to its receive gallery (R538); a two-wire port that held SCL for want of room lets go, and a controller's takes the
PDU that it has read for it (R566). -/
def State.bufferOut (s : State) (c : Nat) : State :=
  if !s.portRuns c then s
  else match (s.rxOf c).head? with
    | none => s
    | some x =>
      let r := s.moveChunks (rxGallery c) 8 x.2
      let t := { r.1 with rxbuf := if r.2.isEmpty then dropFirst c r.1.rxbuf else putFirst c r.2 r.1.rxbuf }
      if r.2.isEmpty && decide (6 ≤ c) then
        let owed := t.blob (Reg.twOwed (c - 6))
        ((if owed.isEmpty then t else { t with rxbuf := t.rxbuf ++ [(c, owed)] }).setBlob (Reg.twOwed (c - 6)) []).twLetGo (c - 6)
      else t

/-! ### The PDU that waits on a polled port, and the fast status block (R551, R552) -/

/-- The first PDU that waits on port `c`. -/
def State.waiting (s : State) (c : Nat) : Option (List Byte) :=
  s.outbox.findSome? fun o =>
    match o with
    | .pdu d b => if d = c then some b else none
    | _ => none

/-- The first PDU of port `c` has been delivered, or is dropped. -/
def takeWaiting (c : Nat) : List Out → List Out
  | [] => []
  | o :: t =>
    match o with
    | .pdu d _ => if d = c then t else o :: takeWaiting c t
    | _ => o :: takeWaiting c t

/-- Release the first PDU of port `c`: its blocks go back, and what waits for credits asks again (11_shaft_and_pit_log.md R450, R452). -/
def State.releasePdu (s : State) (c : Nat) : State :=
  match s.waiting c with
  | none => s
  | some b => ({ s.txFree c (pduBlocks b) with outbox := takeWaiting c s.outbox }).txRetry

/-- OUT_LEN of a port. -/
def State.outLen (s : State) (c : Nat) : Nat := ((s.waiting c).map List.length).getD 0

/-- IN_FREE of a port: its buffer holds one PDU, of at most 1048 bytes (R537, R551). -/
def State.inFree (s : State) (c : Nat) : Nat := if (s.rxOf c).isEmpty then 1048 else 0

/-- FS0 of polled port `q` (R551). -/
def State.fs0 (s : State) (q : Nat) : Nat :=
  let b := fun (x : Bool) (i : Nat) => if x then 2 ^ i else 0
  128 + b (decide (s.outLen (5 + q) ≠ 0)) 5 + b (decide (1048 ≤ s.inFree (5 + q))) 4 +
    b ((List.range 1024).any fun f => s.bit (flag (Reg.SRC_STATUS f) 0)) 3 + b (s.bit (flag Reg.IFW_STATUS 4)) 2 +
    b (s.on (Reg.readyNew q)) 1 + b (decide (16 ≤ s.seqStatus % 32)) 0

/-- Bytes 0–10 of the block (R551). -/
def State.fsBytes (s : State) (q : Nat) : List Byte :=
  leBytes 1 (s.fs0 q) ++ leBytes 1 (s.rdN Reg.STATE) ++ leBytes 2 (s.outLen (5 + q)) ++ leBytes 2 (s.inFree (5 + q)) ++ leBytes 1 (s.rdN Reg.IFW_STATUS) ++
    leBytes 1 s.seqStatus.toNat ++ leBytes 1 (s.rdN Reg.TALLY_STATUS % 256) ++ leBytes 1 (s.fld ⟨Reg.LAST_RESET, 8, 8⟩) ++
    leBytes 1 (s.fld ⟨Reg.LAST_RESET, 0, 2⟩)

/-- The block of polled port `q` changes: FS_SEQ rises (R551), and a target port is to request an FS0 bit selected in IRQ_MASK that has changed to 1
(R565). What a command brings about counts as one change (log entry 102: DEDUCED). -/
def State.fsChange (s : State) (q : Nat) : State :=
  let b := s.fsBytes q
  if s.blob (Reg.fsLast q) = b then s
  else
    let rise := Nat.land (Nat.land (ofLe (b.take 1)) (255 - ofLe ((s.blob (Reg.fsLast q)).take 1))) (s.rdN (Reg.Tw_IRQ_MASK (q - 1)))
    let t := (s.setBlob (Reg.fsLast q) b).wr (Reg.fsSeqs q) ((s.rd (Reg.fsSeqs q) + 1) % 65536)
    t.when (decide (q ≠ 0) && s.portRuns (5 + q) && !s.bit (Bit.TW_CTRL_CONTROLLER (q - 1)) && s.bit (Bit.TW_CTRL_IBR_EN (q - 1)) && decide (rise ≠ 0))
      fun u => u.wr (Reg.twIbrWant (q - 1)) 1

/-- The block of each port is followed from PLANE_READY on. -/
def State.fsFollow (s : State) : State :=
  forUnits 4 (fun q t => if (t.blob (Reg.fsLast q)).isEmpty then t else t.fsChange q) s

/-- PLANE_READY sets: READY_NEW with it, at every port (R551). -/
def State.fsReady (s : State) : State := forUnits 4 (fun q t => (t.wr (Reg.readyNew q) 1).fsChange q) s

/-- A snapshot of the block (R552). -/
def State.snapshot (s : State) (q : Nat) : List Byte × State :=
  let t := s.fsChange q
  let d := t.blob (Reg.fsLast q) ++ [0] ++ leBytes 2 (t.rdN (Reg.fsSeqs q))
  (d ++ leBytes 2 (crc16 d), t)

/-- Drive bytes on a polled port. -/
def State.drive (s : State) (q : Nat) (b : List Byte) : State := { s with outbox := s.outbox ++ [.bus (5 + q) b] }

/-- `n` bytes of a string, then 0xFF. -/
def padFF (n : Nat) (b : List Byte) : List Byte := (b ++ List.replicate n 0xFF).take n

/-- The bytes a PDU takes, from its LEN and AUTH (R554). -/
def pduNeeds (b : List Byte) : Nat := 14 + ofLe (slice 8 2 b) + (if ofLe (slice 0 1 b) / 4 % 2 = 1 then 8 else 0) + 2

/-! ### Host SPI (R553–R557) -/

/-- SPI_CS_N falls: a test of unit 24 is abandoned and the transaction refused (15_start_bist_standby.md R648). Answers whether the
transaction is served. -/
def State.spiFall (s : State) : Bool × State :=
  if s.lampTesting 24 then (false, s.lampService 24) else (s.portRuns 5, s.wr Reg.spiTook 0)

/-- READ_STATUS with `n` further bytes (R552, R553). -/
def State.spiStatus (s : State) (n : Nat) : State :=
  let f := s.spiFall
  if !f.1 then f.2
  else
    let x := f.2.snapshot 0
    let t := x.2.drive 0 (padFF (n + 1) x.1)
    if 15 ≤ n then t.wr (Reg.readyNew 0) 0 else t

/-- WRITE_PDU: FS0, then a 0x00 for each byte (R553, R554). -/
def State.spiWrite (s : State) (b : List Byte) : State :=
  let g := s.spiFall
  let f := (g.1, if g.1 then g.2.drive 0 (leBytes 1 (g.2.fs0 0) ++ List.replicate b.length 0) else g.2)
  if !f.1 then (if s.lampTesting 24 then f.2.inc32 Reg.IN_REFUSED else f.2)
  else if b.length < 10 then f.2.wr Reg.spiTook 1
  else if s.inFree 5 < pduNeeds b ∨ 1024 < ofLe (slice 8 2 b) then f.2.inc32 Reg.IN_REFUSED
  else if b.length < pduNeeds b then f.2.wr Reg.spiTook 1
  else { f.2 with rxbuf := f.2.rxbuf ++ [(5, b.take (pduNeeds b))] }

/-- READ_PDU with `n` further bytes (R553, R555). -/
def State.spiRead (s : State) (n : Nat) : State :=
  let f := s.spiFall
  if !f.1 then f.2
  else
    let p := (f.2.waiting 5).getD []
    let t := f.2.drive 0 (leBytes 1 (f.2.fs0 0) ++ padFF n (leBytes 2 p.length ++ p))
    if p.length ≠ 0 ∧ 2 + p.length ≤ n then t.wr Reg.spiTook 2 else t

/-- SPI_CS_N rises (R554, R555). -/
def State.spiRise (s : State) : State :=
  let t := s.wr Reg.spiTook 0
  if s.rd Reg.spiTook = 1 then t.inc32 Reg.SPI_ABORTS
  else if s.rd Reg.spiTook = 2 then t.releasePdu 5
  else t

/-- HOST_IRQ is asserted: an FS0 bit selected in IRQ_MASK is 1, and the processor plane is out of reset (R556, R557). -/
def State.hostIrq (s : State) : Bool := s.portRuns 5 && decide (Nat.land (s.fs0 0) (s.rdN Reg.Spi_IRQ_MASK) ≠ 0)

/-! ### Two-wire ports (R559–R569) -/

/-- The device is grouped (R563). -/
def State.grouped (s : State) : Bool :=
  !s.sharedRails.isEmpty || (List.range 62).any fun i => decide (i + 1 ≠ s.ownAddr) && decide (s.routeOf (i + 1) ≠ 0)

/-- Port `k` runs as a target, or serves as one the transfer whose arbitration it has lost (R568). -/
def State.twTarget (s : State) (k : Nat) : Bool := s.portRuns (6 + k) && (!s.bit (Bit.TW_CTRL_CONTROLLER k) || s.on (Reg.twServe k))

/-- Port `k` serves as a target and does not hold SCL low (R563). -/
def State.twFree (s : State) (k : Nat) : Bool := s.twTarget k && !s.on (Reg.twStretch k)

/-- Port `k` runs as a controller. -/
def State.twMaster (s : State) (k : Nat) : Bool := s.portRuns (6 + k) && s.bit (Bit.TW_CTRL_CONTROLLER k)

/-- A controller's START at port `k`: the port's unit is served, and a request of the port is withdrawn, to be made again after the STOP (R586). -/
def State.twStart (s : State) (k : Nat) : State :=
  (((s.lampService 25).wr (Reg.twBus k) 1).wrB (Reg.twIbrWant k) (s.on (Reg.twIbr k) || s.on (Reg.twIbrWant k))).wr (Reg.twIbr k) 0

/-- A write begins with its first byte (R561); while the port cannot take a further PDU it holds SCL low before that byte (R563) (log entry 102: DEDUCED). -/
def State.twPoint (s : State) (k v : Nat) : State :=
  let t := (s.twStart k).wr (Reg.twFull k) 0
  if (t.rxOf (6 + k)).isEmpty then t.twSetPtr k v
  else ((t.wr (Reg.twStretch k) 1).wr (Reg.twHoldNs k) t.now).wr (Reg.twHeld k) ((v + 1 : Nat) : Int)

/-- The pointer after `n` bytes: it stays at 0x30 and 0x38 (R561). -/
def twAdvance : Nat → Nat → Nat
  | 0, p => p
  | n + 1, p => if p = 0x30 ∨ p = 0x38 then p else twAdvance n ((p + 1) % 64)

/-- How many of `n` bytes written from a pointer on come before IN_FIFO at 0x30 (R560, R561). -/
def twBefore : Nat → Nat → Nat
  | 0, _ => 0
  | n + 1, p => if p = 0x30 then 0 else if p = 0x38 then n + 1 else 1 + twBefore n ((p + 1) % 64)

/-- Bytes written outside IN_FIFO: those at reserved registers count in ABORTS (R560). -/
def twReserved : Nat → Nat → Nat
  | 0, _ => 0
  | n + 1, p => (if p < 16 ∨ p = 0x38 then 0 else 1) + if p = 0x38 then 0 else twReserved n ((p + 1) % 64)

/-- Bytes written to IN_FIFO (R560, R562); what follows a complete PDU in its transfer is ignored (R554). -/
def State.twFill (s : State) (k : Nat) (b : List Byte) : State :=
  let all := s.blob (Reg.twPart k) ++ b
  if 10 ≤ all.length ∧ 1024 < ofLe (slice 8 2 all) then s.setBlob (Reg.twPart k) (all.take 10)
  else if 10 ≤ all.length ∧ pduNeeds all ≤ all.length then
    { (s.setBlob (Reg.twPart k) []).wr (Reg.twFull k) 1 with rxbuf := s.rxbuf ++ [(6 + k, all.take (pduNeeds all))] }
  else s.setBlob (Reg.twPart k) all

/-- Bytes written at the pointer (R560–R563). -/
def State.twWrite (s : State) (k : Nat) (b : List Byte) : State :=
  if s.on (Reg.twIgnore k) || s.on (Reg.twFull k) then s
  else
    let p := s.rdN (Reg.twPtr k)
    let m := twBefore b.length p
    let t := (s.add 32 (Reg.Tw_ABORTS k) (twReserved m p : Nat)).wr (Reg.twPtr k) (twAdvance m p : Nat)
    if m < b.length then t.twFill k (b.drop m) else t

/-- The register at a pointer reads, of a snapshot (R560). -/
def twReg (snap : List Byte) (p : Nat) : Byte := if p < 16 then (snap[p]?).getD 0 else 0

/-- `n` bytes read from the pointer on, `fifo` being what is left of the PDU at OUT_FIFO (R561, R562). -/
def twBytes (snap fifo : List Byte) : Nat → Nat → List Byte
  | 0, _ => []
  | n + 1, p => if p = 0x38 then padFF (n + 1) fifo else twReg snap p :: twBytes snap fifo n (if p = 0x30 then p else (p + 1) % 64)

/-- How many of `n` bytes read from the pointer on come from OUT_FIFO (R561). -/
def twFromFifo : Nat → Nat → Nat
  | 0, _ => 0
  | n + 1, p => if p = 0x38 then n + 1 else twFromFifo n (if p = 0x30 then p else (p + 1) % 64)

/-- A read of `n` bytes from the pointer on, with the status block from a snapshot (R552, R560, R561). -/
def State.twStatus (s : State) (k n : Nat) : State :=
  let x := s.snapshot (1 + k)
  let p := s.rdN (Reg.twPtr k)
  let fifo := ((s.waiting (6 + k)).getD []).drop (s.rdN (Reg.twOutAt k))
  let t := (x.2.drive (1 + k) (twBytes x.1 fifo n p)).wr (Reg.twPtr k) (twAdvance n p : Nat)
  let u := if s.outLen (6 + k) = 0 then t else t.wr (Reg.twOutAt k) ((s.rdN (Reg.twOutAt k) + twFromFifo n p : Nat) : Int)
  if (p = 0 ∨ 0x38 < p) ∧ (64 - p) % 64 + 16 ≤ n then u.wr (Reg.readyNew (1 + k)) 0 else u

/-- Bytes read at the pointer from 0x38 (R562); a read from elsewhere starts in the other registers. -/
def State.twRead (s : State) (k n : Nat) : State :=
  if s.rd (Reg.twPtr k) = 0x38 then
    let p := (s.waiting (6 + k)).getD []
    let at_ := s.rdN (Reg.twOutAt k)
    (s.drive (1 + k) (padFF n (p.drop at_))).wr (Reg.twOutAt k) ((if p.isEmpty then at_ else at_ + n : Nat) : Int)
  else s.twStatus k n

/-- STOP, or a repeated START, at a target: a partial PDU is discarded, and one read whole is released (R561, R562). -/
def State.twStop (s : State) (k : Nat) : State :=
  let t := if (s.blob (Reg.twPart k)).isEmpty then s else (s.setBlob (Reg.twPart k) []).inc32 (Reg.Tw_ABORTS k)
  let n := t.outLen (6 + k)
  let u := if n ≠ 0 ∧ n ≤ t.rdN (Reg.twOutAt k) then t.releasePdu (6 + k) else t
  ((u.wr (Reg.twOutAt k) 0).wr (Reg.twFull k) 0).wr (Reg.twServe k) 0

/-- The bus is idle: the port takes part again (R561, R563). -/
def State.twIdle (s : State) (k : Nat) : State := ((s.wr (Reg.twIgnore k) 0).wr (Reg.twAway k) 0).wr (Reg.twBus k) 0

/-- The transfer of a controller is lost: it is made again as a whole after the next STOP, and after 8 losses on one PDU that is dropped (R568) (log entry 102: DEDUCED). -/
def State.twLoss (s : State) (k : Nat) : State :=
  let t := (s.wr (Reg.twXfer k) 0).wr (Reg.twBus k) 1
  if !s.on (Reg.twXfer k) then t
  else
    let u := t.add 4 (Reg.twLosses k) 1
    if 8 ≤ u.rd (Reg.twLosses k) then (((u.releasePdu (6 + k)).dropBlock 11).wr (Reg.twLosses k) 0) else u

/-- What a target, or a controller that serves as one, sees on its bus (R561–R563) (log entry 102: DEDUCED). -/
def State.twSees (s : State) (k : Nat) (e : BusEvent) : State :=
  match e with
  | .stop => (s.twStop k).twIdle k
  | .restart => s.twStop k
  | .idle => if s.on (Reg.twAway k) then s.twIdle k else s
  | .stray => s

/-- What a controller sees on its bus: its own STOP, with which its PDU has gone; another's, after which it begins again; or a START or STOP that it does
not drive (R566, R568) (log entry 102: DEDUCED). -/
def State.twMasterSees (s : State) (k : Nat) (e : BusEvent) : State :=
  match e with
  | .stop =>
    (s.when (s.on (Reg.twXfer k)) fun t => ((t.releasePdu (6 + k)).wr (Reg.twLosses k) 0).wr (Reg.twXfer k) 0).twIdle k
  | .restart => s
  | .idle => if s.on (Reg.twXfer k) then s else s.twIdle k
  | .stray => s.when (s.on (Reg.twXfer k)) fun t => (t.inc32 (Reg.Tw_ABORTS k)).twLoss k

/-- A controller with a PDU begins its transfer: the bus is idle, and no bus clear goes before it (R566, R569). -/
def State.twDue (s : State) (k : Nat) : Bool :=
  s.twMaster k && !s.on (Reg.twBus k) && !s.on (Reg.twXfer k) && decide (s.rd (Reg.twClear k) ≠ 2) && !s.bit (flag (Reg.TW_STATUS k) 1) &&
    decide (s.outLen (6 + k) ≠ 0)

/-- The transfer: the address of PEER_ADDR, the pointer 0x30 and the PDU (R566) (log entry 102: DEDUCED). -/
def State.twGo (s : State) (k : Nat) : State :=
  if s.twDue k then
    let t := s.drive (1 + k) (leBytes 1 (2 * s.rdN (Reg.PEER_ADDR k)) ++ [0x30] ++ (s.waiting (6 + k)).getD [])
    ((t.wr (Reg.twXfer k) 1).wr (Reg.twBus k) 1).wr (Reg.twClear k) 0
  else s

/-- What the polled ports do of themselves after a command: controllers begin their transfers, and the fast status blocks are followed. -/
def State.linkFollow (s : State) : State := ((s.twGo 1).twGo 2).fsFollow

/-- They do nothing. -/
def State.linkCalm (s : State) : Bool :=
  !s.twDue 1 && !s.twDue 2 && (List.range 4).all fun q => (s.blob (Reg.fsLast q)).isEmpty || decide (s.blob (Reg.fsLast q) = s.fsBytes q)

/-- A port resets itself (R563). -/
def State.twReset (s : State) (k : Nat) : State :=
  let t := ((((s.setBlob (Reg.twPart k) []).wr (Reg.twPtr k) 0).wr (Reg.twStretch k) 0).wr (Reg.twHeld k) 0).wr (Reg.twFull k) 0
  let u := ((((t.wr (Reg.twOutAt k) 0).wr (Reg.twIbr k) 0).wr (Reg.twIbrWant k) 0).wr (Reg.twServe k) 0).wr (Reg.twXfer k) 0
  ((u.setBlob (Reg.twOwed k) []).wr (Reg.twLosses k) 0).twIdle k

/-- A stretch has timed out: the port resets itself, and takes the bus as idle at the next STOP or once it has been high for 50 µs (R563). -/
def State.twTimeout (s : State) (k : Nat) : State :=
  (((((s.twReset k).wr (Reg.twIgnore k) 1).wr (Reg.twAway k) 1).wr (Reg.twBus k) 1).inc32 (Reg.TIMEOUTS k)).raise (238 + k)

/-- A bus clear with its outcome: one that frees SDA ends in a STOP (R569). -/
def State.busClear (s : State) (k : Nat) (freed : Bool) : State :=
  let t := (s.inc32 (Reg.CLEARS k)).wr (Reg.twClear k) 0
  if freed then (t.setFld (flag (Reg.TW_STATUS k) 1) 0).wr (Reg.twBus k) 0
  else (((t.setFld (flag (Reg.TW_STATUS k) 1) 1).wr (Reg.twClearNs k) (t.now + 1)).inc32 (Reg.CLEAR_FAILS k)).raise (238 + k)

/-- TW_STATUS of port `k` (R570). -/
def State.twStatusReg (s : State) (k : Nat) : Int :=
  (if s.on (Reg.twBus k) then 1 else 0) + s.rd (Reg.TW_STATUS k) + (if s.grouped then 4 else 0)

/-! ### Ports going down -/

/-- The blocks that PDUs waiting on port `c` take. -/
def State.txHeld (s : State) (c : Nat) : Nat :=
  s.outbox.foldl (fun n o => match o with
    | .pdu d b => if d = c then n + pduBlocks b else n
    | _ => n) 0

/-- A polled or network port stops as a processor reset stops it (R538; 16_balls_and_supplies.md R676): its buffer is empty, what it
was taking in is lost, and what waited on it is gone. -/
def State.portReset (s : State) (c : Nat) : State :=
  let t := { s.txFree c (s.txHeld c) with
    txWait := s.txWait.filter (fun x => x.1 ≠ c), rxbuf := s.rxbuf.filter (fun x => x.1 ≠ c), canParts := s.canParts.filter (fun x => x.1 + 3 ≠ c),
    outbox := s.outbox.filter fun o =>
      match o with
      | .pdu d _ => decide (d ≠ c)
      | _ => true }
  if c = 5 then t.wr Reg.spiTook 0
  else if 6 ≤ c then (t.twReset (c - 6)).wr (Reg.twClear (c - 6)) 1
  else t

end Sys2Proof.Machine
end

