-- ==== Sys2Proof/Machine/Digest.lean ====
section
/-!
DEFINITION. The digests and the signature of an image (14_images_and_security.md R597): SHA-256, ECDSA over P-256 with SHA-256,
and AES-128-GCM, each by the standard the spec names it by (log entry 20). Bytes are natural numbers below 256.
-/
namespace Sys2Proof.Machine

/-! ### SHA-256

The eight starting words and the sixty-four round words are the first 32 bits behind the binary point of the square and of the cube
roots of the first primes, as the standard defines them; they are computed here. -/

/-- The greatest `r` with `r ^ e ≤ v`, found bit by bit over `n` bits on top of `r`. -/
def rootBits (e v : Nat) : Nat → Nat → Nat
  | 0, r => r
  | n + 1, r => rootBits e v n (if (r + 2 ^ n) ^ e ≤ v then r + 2 ^ n else r)

/-- The first 32 bits behind the binary point of the `e`-th root of a number below 2¹⁰. -/
def rootFraction (e p : Nat) : Nat := rootBits e (p * 2 ^ (32 * e)) 37 0 % 2 ^ 32

/-- The primes below 312, of which there are sixty-four. -/
def smallPrimes : List Nat :=
  (List.range 312).filter fun n => decide (2 ≤ n) && [2, 3, 5, 7, 11, 13, 17].all fun d => n == d || n % d != 0

/-- The exclusive or of a 32-bit word turned right by each of the counts. -/
def turned (x : Nat) (counts : List Nat) : Nat :=
  counts.foldl (fun t n => Nat.xor t (x / 2 ^ n + x % 2 ^ n * 2 ^ (32 - n))) 0

/-- A digest under way: the sixteen schedule words that come next, and the two shift registers of four words each. -/
structure ShaState where
  ahead : List Nat
  upper : List Nat
  lower : List Nat

/-- The schedule word that follows sixteen words. -/
def ShaState.follows (w : List Nat) : Nat :=
  let near := nth w 14
  let far := nth w 1
  (nth w 0 + nth w 9 + Nat.xor (turned far [7, 18]) (far / 8) + Nat.xor (turned near [17, 19]) (near / 1024)) % 2 ^ 32

/-- One round with the round word `k`: one word enters each shift register. -/
def ShaState.round (t : ShaState) (k : Nat) : ShaState :=
  let top := nth t.upper 0
  let low := nth t.lower 0
  let chosen := Nat.xor (nth t.lower 2) (Nat.land low (Nat.xor (nth t.lower 1) (nth t.lower 2)))
  let most := Nat.xor (Nat.land top (nth t.upper 1)) (Nat.land (nth t.upper 2) (Nat.xor top (nth t.upper 1)))
  let sum := nth t.lower 3 + turned low [6, 11, 25] + chosen + k + nth t.ahead 0
  { ahead := t.ahead.drop 1 ++ [ShaState.follows t.ahead],
    upper := (sum + turned top [2, 13, 22] + most) % 2 ^ 32 :: t.upper.take 3,
    lower := (sum + nth t.upper 3) % 2 ^ 32 :: t.lower.take 3 }

/-- A digest taken through one 64-byte block. -/
def shaBlock (h b : List Nat) : List Nat :=
  let words := (List.range 16).map fun i => blockNat ((b.drop (4 * i)).take 4)
  let t := (smallPrimes.map (rootFraction 3)).foldl ShaState.round ⟨words, h.take 4, h.drop 4⟩
  List.zipWith (fun x y => (x + y) % 2 ^ 32) h (t.upper ++ t.lower)

/-- What follows a message of `n` bytes up to a whole block: a one bit, zeros, and its length in bits. -/
def shaTail (n : Nat) : List Nat := 128 :: List.replicate ((119 - n % 64) % 64) 0 ++ beBytes 8 (n * 8)

/-- SHA-256 of a byte string, 32 bytes. -/
def sha256 (m : List Nat) : List Nat :=
  let whole := m ++ shaTail m.length
  let last := (List.range (whole.length / 64)).foldl (fun h i => shaBlock h ((whole.drop (64 * i)).take 64))
    ((smallPrimes.take 8).map (rootFraction 2))
  (last.map (beBytes 4)).flatten

/-! ### ECDSA over P-256 -/

/-- The prime of the field. -/
def p256P : Nat := 0xFFFFFFFF00000001000000000000000000000000FFFFFFFFFFFFFFFFFFFFFFFF

/-- The order of the base point. -/
def p256N : Nat := 0xFFFFFFFF00000000FFFFFFFFFFFFFFFFBCE6FAADA7179E84F3B9CAC2FC632551

/-- The base point. -/
def p256G : Nat × Nat := (0x6B17D1F2E12C4247F8BCE6E563A440F277037D812DEB33A0F4A13945D898C296,
  0x4FE342E2FE1A7F9B8EE7EB4A7C0F9E162BCE33576B315ECECBB6406837BF51F5)

/-- `x` to the power `e` modulo `m`, over `n` bits of `e`. -/
def powMod : Nat → Nat → Nat → Nat → Nat
  | 0, _, _, m => 1 % m
  | n + 1, x, e, m =>
    let t := powMod n (x * x % m) (e / 2) m
    if e % 2 = 1 then t * x % m else t

/-- The inverse of `x` modulo a prime. -/
def invMod (x m : Nat) : Nat := powMod 256 (x % m) (m - 2) m

/-- The line of slope `l` through the point with coordinate `x1`, `y1` meets the curve again under `x1`, `x2`. -/
def ecChord (l x1 y1 x2 : Nat) : Option (Nat × Nat) :=
  let x3 := (l * l + 2 * p256P - x1 - x2) % p256P
  some (x3, (l * (x1 + p256P - x3) + p256P - y1) % p256P)

/-- Addition of points; `none` is the point at infinity. -/
def ecAdd : Option (Nat × Nat) → Option (Nat × Nat) → Option (Nat × Nat)
  | none, q => q
  | p, none => p
  | some (x1, y1), some (x2, y2) =>
    if x1 = x2 then
      if y1 = y2 ∧ y1 ≠ 0 then ecChord ((3 * x1 * x1 + p256P - 3) * invMod (2 * y1) p256P % p256P) x1 y1 x2 else none
    else ecChord ((y2 + p256P - y1) * invMod (x2 + p256P - x1) p256P % p256P) x1 y1 x2

/-- `k` times a point, over `n` bits of `k`. -/
def ecMul : Nat → Nat → Option (Nat × Nat) → Option (Nat × Nat)
  | 0, _, _ => none
  | n + 1, k, p =>
    let t := ecMul n (k / 2) (ecAdd p p)
    if k % 2 = 1 then ecAdd t p else t

/-- The signature `sig` (r then s) over the digest verifies under the public key (X then Y). -/
def ecdsaVerify (key digest sig : List Nat) : Bool :=
  let r := blockNat (sig.take 32)
  let s := blockNat ((sig.drop 32).take 32)
  if r = 0 ∨ s = 0 ∨ p256N ≤ r ∨ p256N ≤ s then false
  else
    let w := invMod s p256N
    let q := some (blockNat (key.take 32), blockNat ((key.drop 32).take 32))
    match ecAdd (ecMul 256 (blockNat digest * w % p256N) (some p256G)) (ecMul 256 (r * w % p256N) q) with
    | some (x, _) => decide (x % p256N = r)
    | none => false

/-! ### AES-128-GCM -/

/-- The product in the field of GHASH, over `n` bits of `x` from its most significant on; `v` is the other factor so far. -/
def ghashMul : Nat → Nat → Nat → Nat → Nat
  | 0, _, _, z => z
  | n + 1, x, v, z =>
    ghashMul n x (if v % 2 = 1 then Nat.xor (v / 2) 0xE1000000000000000000000000000000 else v / 2)
      (if x / 2 ^ n % 2 = 1 then Nat.xor z v else z)

/-- GHASH over `n` 16-byte blocks, the last filled up with zeros. -/
def ghash (h : Nat) : Nat → Nat → List Nat → Nat
  | 0, y, _ => y
  | n + 1, y, m =>
    ghash h n (ghashMul 128 (Nat.xor y (blockNat (m.take 16 ++ List.replicate (16 - (m.take 16).length) 0))) h 0) (m.drop 16)

/-- Zeros that fill a byte string up to whole blocks. -/
def padBlock (m : List Nat) : List Nat := List.replicate ((16 - m.length % 16) % 16) 0

/-- The tag of a ciphertext with its additional data. -/
def gcmTag (key iv aad cipher : List Nat) : List Nat :=
  let h := blockNat (aesEncrypt key zeroBlock)
  let m := aad ++ padBlock aad ++ cipher ++ padBlock cipher ++ beBytes 8 (aad.length * 8) ++ beBytes 8 (cipher.length * 8)
  xorBytes (beBytes 16 (ghash h (m.length / 16) 0 m)) (aesEncrypt key (iv ++ [0, 0, 0, 1]))

/-- `n` blocks of the counter stream from counter value `c` on, combined with the text. -/
def gcmStream (key iv : List Nat) : Nat → Nat → List Nat → List Nat
  | 0, _, _ => []
  | n + 1, c, m => xorBytes (m.take 16) (aesEncrypt key (iv ++ beBytes 4 c)) ++ gcmStream key iv n ((c + 1) % 4294967296) (m.drop 16)

/-- A text enciphered or deciphered. -/
def gcmText (key iv m : List Nat) : List Nat := gcmStream key iv ((m.length + 15) / 16) 2 m

end Sys2Proof.Machine
end

