-- ==== Sys2Proof/Machine/ImageOps.lean ====
section
/-!
DEFINITION. Shared operations of flash, images and trials (14_images_and_security.md R587–R618): the operation record, the install,
the boot record, and the choice of a bank.
-/
namespace Sys2Proof.Machine

/-! ### Banks and headers -/

/-- IMG_FAULT of UPD_STATUS (R619). -/
abbrev updFault : Bits := ⟨Reg.UPD_STATUS, 12, 4⟩
/-- EPOCH_CONFLICT. -/
abbrev updConflict : Bits := flag Reg.UPD_STATUS 11
/-- RECOVERY. -/
abbrev updRecovery : Bits := flag Reg.UPD_STATUS 10
/-- FALLBACK. -/
abbrev updFallback : Bits := flag Reg.UPD_STATUS 9
/-- ACTIVITY. -/
abbrev updActivity : Bits := ⟨Reg.UPD_STATUS, 0, 4⟩

/-- A reset of the processor plane with CAUSE `c` is due on the next edge (10_faults_watchdog_resets.md R434). -/
def State.wantReset (s : State) (c : Nat) : State := s.setFld (flag Reg.procReqd c) 1

/-- State of bank `b` (R602, R620). -/
abbrev bankState (b : Nat) : Bits := ⟨Reg.BANK_STATE, 4 * b, 4⟩

/-- The running bank. -/
def State.activeBank (s : State) : Nat := s.rdN Reg.ACTIVE_BANK

/-- The bank an install writes (R603). -/
def State.idleBank (s : State) : Nat := 1 - s.activeBank

/-- The bank in TRIAL, if one is (R602). -/
def State.trialBank (s : State) : Option Nat := (List.range 2).find? fun b => decide (s.fld (bankState b) = 3)

/-- An install or a reception is under way (R604). -/
def State.installing (s : State) : Bool := s.on Reg.instSrc

/-- A relay is under way (R608). -/
def State.relaying (s : State) : Bool := s.on Reg.rlyStep

/-- COMPAT_EPOCH, PEER_MIN and PEER_MAX of the running image (R620). -/
def State.epochs (s : State) : Nat × Nat × Nat :=
  let v := s.rd (Reg.BANK_EPOCHS s.activeBank)
  (bitsOf v 0 16, bitsOf v 16 16, bitsOf v 32 16)

/-- The effective domain epoch (R609). -/
def State.domainEpoch (s : State) : Nat := if s.on Reg.DOMAIN_EPOCH then s.rdN Reg.DOMAIN_EPOCH else s.epochs.1

/-- RUN_EPOCH (R609). -/
def State.runEpoch (s : State) : Nat :=
  if s.domainEpoch < s.epochs.2.1 then s.epochs.2.1 else min s.domainEpoch s.epochs.1

/-- EPOCH_CONFLICT follows the effective epoch, and its setting raises source 88 (R609). -/
def State.epochEval (s : State) : State :=
  let bad := decide (s.domainEpoch < s.epochs.2.1)
  let t := s.setBit updConflict bad
  if bad && !s.bit updConflict then t.raise 88 else t

/-- A number in a header: `n` bytes from an offset on (R597). -/
def hdrNum (h : List Byte) (off n : Nat) : Nat := ofLe (slice off n h)

/-- The body is encrypted (R597). -/
def hdrEnc (h : List Byte) : Bool := decide (hdrNum h 0x26 2 % 2 = 1)

/-- The container's length (R607). -/
def hdrLen (h : List Byte) : Nat := 256 + hdrNum h 0x28 4

/-- Every byte is 0. -/
def zeros (l : List Byte) : Bool := l.all fun b => b = 0

/-- Check 1 of R598. -/
def hdrFormat (h : List Byte) : Bool :=
  decide (h.length = 256) && decide (hdrNum h 0 4 = 0x5051494D) && decide (hdrNum h 4 2 = 1) && decide (hdrNum h 6 2 = 0x100) &&
    decide (hdrNum h 0x26 2 < 2) && zeros (slice 0x2D 3 h) && zeros (slice 0x6C 0x54 h) &&
    decide (hdrNum h 0x22 2 ≤ hdrNum h 0x20 2) && decide (hdrNum h 0x20 2 ≤ hdrNum h 0x24 2)

/-- A public key slot is loaded and not revoked (R627). -/
def State.pubOk (s : State) (k : Nat) : Bool := s.bit (flag Reg.KEY_MAP (8 + k)) && !s.bit (flag Reg.KEY_MAP (12 + k))

/-- The checks of R598 that fail, in its order; 0 when none does. `all`: check 9 is made too (R612 leaves it out). -/
def State.headerFault (s : State) (h : List Byte) (all : Bool) : Nat :=
  let slot := hdrNum h 0x2C 1
  let dom := s.domainEpoch
  if !hdrFormat h then 1
  else if hdrNum h 0x28 4 = 0 ∨ 3931904 < hdrNum h 0x28 4 then 9
  else if 4 ≤ slot ∨ s.pubOk slot = false ∨ (hdrEnc h && (s.keySlot 4).isEmpty) = true then 7
  else if !ecdsaVerify (natsOf (s.blob (Reg.PUBKEY slot))) (sha256 (natsOf (h.take 0xC0))) (natsOf (slice 0xC0 64 h)) then 8
  else if hdrNum h 8 4 ≠ s.rdN Reg.DEVICE_TYPE then 2
  else if hdrNum h 0x0C 4 / 2 ^ ((bitsOf (s.rd Reg.SILICON_REV) 4 4 - 1) * 8 + bitsOf (s.rd Reg.SILICON_REV) 0 4) % 2 = 0 then 3
  else if hdrNum h 0x10 8 ≠ 0 ∧ hdrNum h 0x10 8 ≠ s.rdN Reg.Ident_UNIT_ID then 4
  else if hdrNum h 0x1C 4 < s.rdN Reg.ROLLBACK_CTR then 5
  else if all = true ∧ (dom < hdrNum h 0x22 2 ∨ min (hdrNum h 0x20 2) (hdrNum h 0x24 2) < dom) then 6
  else 0

/-- The abort code of an IMG_FAULT (R598). -/
def faultAbort (f : Nat) : Nat := if f = 0 then 0 else if f = 9 then 0x0402 else if f = 8 then 0x0601 else 0x0401

/-- IMG_FAULT takes a failing check, and source 77 is raised (R619, R633) (log entry 116: PRESUMED). -/
def State.imgFails (s : State) (f : Nat) : State := (s.setFld updFault f).raise 77

/-- What a bank's descriptor reads for a header; none when it holds none (R620). -/
def State.describeBank (s : State) (b : Nat) (h : List Byte) : State :=
  ((s.wr (Reg.BANK_FW_VERSION b) (hdrNum h 0x18 4 : Nat)).wr (Reg.BANK_ROLLBACK b) (hdrNum h 0x1C 4 : Nat)).wr (Reg.BANK_EPOCHS b)
    (hdrNum h 0x20 2 + 2 ^ 16 * hdrNum h 0x22 2 + 2 ^ 32 * hdrNum h 0x24 2 : Nat)

/-! ### The operation record and the NVM manager's work (R592, R596) -/

/-- Flash address of bank `b` (R587). -/
def bankBase (b : Nat) : Nat := b * 0x400000

/-- 16-byte words of sector `k` of a container of `len` bytes. -/
def sectorWords (len k : Nat) : Nat := (min 4096 (len - 4096 * k) + 15) / 16

/-- The sector of the install that has no journal entry yet (R603). -/
def State.instSector (s : State) : Nat := s.rdN Reg.JOURNAL_NEXT / 4096

/-- Every sector of the container has its journal entry. -/
def State.instWritten (s : State) : Bool := decide (s.rdN Reg.instLen ≤ s.rdN Reg.JOURNAL_NEXT)

/-- The next flash operation of an owner (R596): whether it is an erase, and its address. -/
def State.nvmNext (s : State) (owner : Nat) : Option (Bool × Nat) :=
  let b := bankBase s.idleBank
  let k := s.instSector
  let words := sectorWords (s.rdN Reg.instLen) k
  let done := s.rdN Reg.instWord
  match owner with
  | 1 =>
    let i := 8224 - s.rdN Reg.saveLeft
    let base := bankBase (s.rdN Reg.saveBank) + 0x3C0000
    if s.on Reg.saveLeft then some (decide (i < 32), if i < 32 then base + 4096 * i else base + 16 * (i - 32)) else none
  | 2 =>
    let i := s.rdN Reg.bootWord
    if s.bootQ.isEmpty then none else some (false, bankBase (i / 2) + 0x3F0000 + 32 * (s.rdN Reg.bootAt % 2048) + 16 * (i % 2))
  | 3 =>
    if s.rd Reg.instJob = 2 then
      let i := 32 - s.rdN Reg.instPrep
      some (if i < 16 then (true, b + 0x3E0000 + 4096 * i) else (false, b + 0x3E0000 + 16 * (i - 16)))
    else if s.rd Reg.instJob = 3 ∧ s.instWritten = false ∧ done = words + 1 then some (false, b + 0x3E0100 + 16 * k)
    else none
  | 4 =>
    if s.rd Reg.instJob = 3 then
      if s.instWritten then none
      else if done = 0 then some (true, b + 4096 * k)
      else if done ≤ words ∧ min (4096 * k + 16 * done) (s.rdN Reg.instLen) ≤ (s.blob Reg.instData).length then some (false, b + 4096 * k + 16 * (done - 1))
      else none
    else if s.on Reg.eraseLeft && !s.installing then some (true, b + 4096 * (960 - s.rdN Reg.eraseLeft))
    else none
  | 5 => s.plNext
  | _ => none

/-- OWNER of the record. -/
abbrev recOwner : Bits := ⟨Reg.OP_REC, 12, 4⟩
/-- STATE of the record. -/
abbrev recState : Bits := ⟨Reg.OP_REC, 4, 4⟩
/-- OP of the record. -/
abbrev recOp : Bits := ⟨Reg.OP_REC, 0, 2⟩

/-- The NVM manager starts an operation: the record says what it is about to do (R592). -/
def State.nvmStart (s : State) (owner : Nat) (op : Bool × Nat) : State :=
  let t := (((s.setFld recOwner owner).setFld recState 1).setFld recOp (if op.1 then 2 else 1)).wr Reg.OP_ADDR (op.2 : Nat)
  let u := ((t.wr Reg.OP_TIME_NS s.now).wr Reg.OP_SEQ ((s.rd Reg.OP_SEQ + 1) % 4294967296)).wr Reg.nvmBusy 1
  u.when (decide (owner = 5)) fun v => if op.1 then v else v.wr (Reg.slotDirty (v.rdN Reg.plSlot - 1)) 2

/-- The owner served next: the one named when it has work, else the lowest that has. -/
def State.nvmOwner (s : State) (named : Nat) : Option Nat :=
  (named :: List.range 6).find? fun o => (s.nvmNext o).isSome

/-- The NVM manager starts an operation when it is idle, out of reset, and has work (R588, R593). -/
def State.nvmKick (s : State) (named : Nat) : State :=
  if s.on Reg.nvmBusy || s.on Reg.nvmResetDue || !s.procRuns then s
  else
    match s.nvmOwner named with
    | some o =>
      match s.nvmNext o with
      | some op => s.nvmStart o op
      | none => s
    | none => s

/-- A boot record entry is to be programmed (R591) (log entry 104: DEDUCED). -/
def State.bootEntry (s : State) (bank st act : Nat) : State := { s with bootQ := s.bootQ ++ [(⟨bank, st, act⟩ : BootEntry)] }.nvmKick 2

/-! ### The install (R603–R607) -/

/-- The container as the bank is to hold it: the header, then the plaintext body of `data` (R597). -/
def State.plain (s : State) (data : List Byte) : List Byte :=
  let h := data.take 256
  if hdrEnc h then h ++ bytesOf (gcmText (s.keySlot 4) (natsOf (slice 0x50 12 h)) (natsOf (data.drop 256))) else data

/-- ACTIVITY (R619). -/
def State.activity (s : State) (v : Nat) : State := s.setFld updActivity v

/-- Blocks of G24 that the data of an offer takes until it is programmed (R607; 11_shaft_and_pit_log.md R456). -/
def State.imgStaged (s : State) : Int :=
  if s.rd Reg.instSrc = 2 then
    let upTo := if s.rd Reg.instJob = 3 then s.rdN Reg.JOURNAL_NEXT + 16 * (s.rdN Reg.instWord - 1) else 0
    ceilDiv (((s.blob Reg.instData).length - max 256 upTo : Nat) : Int) 256
  else 0

/-- USED of G24 follows what an offer has staged since the state `old` (log entry 97: DEDUCED). -/
def State.g24Follow (s old : State) : State :=
  let used := max 0 (s.rd (Reg.USED 24) + (s.imgStaged - old.imgStaged))
  (s.wr (Reg.USED 24) used).wr (Reg.PEAK 24) (max (s.rd (Reg.PEAK 24)) used)

/-- An image or journal operation in progress no longer belongs to an install or an erasure (R588): `nvmStray` is 1, or 2 where it programs the
journal's entry of a sector, which stands once it has verified (R618). -/
def State.nvmStrays (s : State) : State :=
  let o := s.fld recOwner
  if s.on Reg.nvmBusy && !s.on Reg.nvmStray && (decide (o = 3) || decide (o = 4)) then
    s.wr Reg.nvmStray (if o = 3 ∧ s.rd Reg.instJob = 3 then 2 else 1)
  else s

/-- The install is over; what the journal holds stays (R601, R607). -/
def State.instEnd (s0 : State) : State :=
  let s := s0.nvmStrays
  ((((((s.wr Reg.instSrc 0).wr Reg.instJob 0).wr Reg.instPrep 0).wr Reg.instWord 0).setBlob Reg.instData []).activity 0).g24Follow s

/-- An install starts, or resumes when the journal holds an identical header (R603, R605). `src`: 1 from the card, 2 over Dengon;
`data`: the container's bytes at hand. -/
def State.instStart (s0 : State) (src : Nat) (h data : List Byte) : State :=
  let s := s0.nvmStrays
  let b := s.idleBank
  let t := (((((s.wr Reg.instSrc (src : Nat)).wr Reg.instLen (hdrLen h : Nat)).wr Reg.instNs s.now).activity src).wr Reg.eraseLeft 0).wr Reg.imgSpoilt 0
  if s.fld (bankState b) = 1 ∧ s.blob Reg.jrnHdr = h then
    let u := (t.wr Reg.instJob 3).wr Reg.instWord 0
    let have_ := if src = 1 then data else if hdrEnc h then h else (s.blob (Reg.bankImg b)).take (s.rdN Reg.JOURNAL_NEXT)
    (u.setBlob Reg.instData (if have_.length < 256 then h else have_)).nvmKick 4
  else ((t.wr Reg.instJob 1).setBlob Reg.instData data).bootEntry b 1 0

/-- RESUME_AT (R606, R607): the container offset from which data must be sent; an encrypted body starts again. -/
def State.resumeAt (s : State) (h : List Byte) : Nat :=
  if s.fld (bankState s.idleBank) = 1 ∧ s.blob Reg.jrnHdr = h ∧ hdrEnc h = false then s.rdN Reg.JOURNAL_NEXT else 0

/-- The checks of R599 on the whole container: 0xB a failing tag, 0xA a differing hash, 0 none. -/
def State.bodyFault (s : State) : Nat :=
  let data := s.blob Reg.instData
  let h := data.take 256
  let cipher := natsOf (data.drop 256)
  if hdrEnc h = true ∧ ((s.keySlot 4).isEmpty = true ∨
      gcmTag (s.keySlot 4) (natsOf (slice 0x50 12 h)) (natsOf (h.take 0x30)) cipher ≠ natsOf (slice 0x5C 16 h)) then 0xB
  else if sha256 (natsOf ((s.plain data).drop 256)) ≠ natsOf (slice 0x30 32 h) then 0xA
  else 0

/-- The container has been written and is judged (R599, R603): VALID, or REJECTED with IMG_FAULT. -/
def State.instJudge (s : State) : State :=
  let f := s.bodyFault
  let t := (s.activity 3).wr Reg.instJob 4
  if f = 0 then t.bootEntry s.idleBank 2 0 else (t.imgFails f).bootEntry s.idleBank 6 0

/-- What has arrived and is not yet programmed is programmed and verified (R606: IMG_END answers within its own time). -/
def State.instFlush (s0 : State) : State :=
  let s := s0.nvmStrays
  let b := s.idleBank
  let len := s.rdN Reg.instLen
  let data := s.plain (s.blob Reg.instData)
  let t := (s.setBlob (Reg.bankImg b) (data.take len)).setBlob Reg.jrnHdr (data.take 256)
  let u := (t.wr Reg.JOURNAL_NEXT (4096 * ((len + 4095) / 4096) : Nat)).describeBank b data
  (((u.setFld (bankState b) 1).wr Reg.instWord 0).wr Reg.instJob 3).g24Follow s

/-- A sector of the image region of bank `b`, `off` bytes into it, is erased: what the bank holds ends there, and an erased header describes
nothing (R603, R620). -/
def State.sectorErased (s : State) (b off : Nat) : State :=
  (s.setBlob (Reg.bankImg b) ((s.blob (Reg.bankImg b)).take off)).when (decide (off = 0)) fun u => u.describeBank b []

/-- One word or one sector of the install has verified (R603) (log entry 104: DEDUCED). -/
def State.instStep (s : State) (erase : Bool) : State :=
  let b := s.idleBank
  let k := s.instSector
  let done := s.rdN Reg.instWord
  if erase then
    (s.sectorErased b (4096 * k)).wr Reg.instWord 1
  else
    let data := (s.plain (s.blob Reg.instData)).take (s.rdN Reg.instLen)
    let upTo := 4096 * k + 16 * done
    let t := (s.setBlob (Reg.bankImg b) ((s.blob (Reg.bankImg b)).take (upTo - 16) ++ slice (upTo - 16) 16 data)).wr Reg.instWord ((done + 1 : Nat) : Int)
    (if upTo = 256 then t.describeBank b data else t).g24Follow s

/-! ### The boot record (R602, R611–R616) -/

/-- TRIAL_S (R613): the seconds held, and those since its count last ran on (log entry 105: DEDUCED). -/
def State.trialS (s : State) : Int :=
  satU 16 (s.rd Reg.TRIAL_S + if s.on Reg.trialNs then (s.now - (s.rd Reg.trialNs - 1)) / 1000000000 else 0)

/-- TRIAL_S stops where it stands. -/
def State.trialStop (s : State) : State := (s.wr Reg.TRIAL_S s.trialS).wr Reg.trialNs 0

/-- ROLLBACK_CTR is raised to that of a CONFIRMED bank when lower (R612, R616). -/
def State.rollbackUp (s : State) (b : Nat) : State :=
  s.wr Reg.ROLLBACK_CTR (max (s.rd Reg.ROLLBACK_CTR) (s.rd (Reg.BANK_ROLLBACK b)))

/-- The trial bank is rejected: FALLBACK sets, FALLBACKS counts, source 78 is raised (R612, R615). -/
def State.trialReject (s : State) (b : Nat) : State :=
  ((((s.trialStop.setFld (bankState b) 6).setFld updFallback 1).inc16 Reg.FALLBACKS)).raise 78

/-- The entry at the head of the boot record's work has verified and governs (R591): the bank's state and what follows it. -/
def State.bootApply (s : State) (e : BootEntry) : State :=
  let t := ({ s with bootQ := s.bootQ.drop 1 }.wr Reg.bootAt ((s.rd Reg.bootAt + 1) % 4294967296)).setFld (bankState e.bank) e.st
  let reset := fun (c : Nat) (u : State) => if s.on Reg.nvmResetDue then u else u.wantReset c
  match e.act with
  | 1 => reset 5 (((t.wr Reg.TRIAL_BOOTS 0).wr Reg.TRIAL_S 0).wr Reg.trialNs 0)
  | 2 => (t.trialStop.setFld (bankState (1 - e.bank)) 5).rollbackUp e.bank
  | 3 => reset 6 (t.trialReject e.bank)
  | 4 => reset 5 (t.trialReject e.bank)
  | _ =>
    if s.rd Reg.instJob = 1 then (t.wr Reg.instJob 2).wr Reg.instPrep 32
    else if s.rd Reg.instJob = 4 then t.instEnd
    else if e.st = 0 then t.describeBank e.bank []
    else t

/-- The boot record's work is cut by a reset, or its entry has failed (R591–R593): the entry governs once one of its two copies has been programmed,
and is ignored before, in a place that the next one does not use (log entry 104: DEDUCED). -/
def State.bootCut (s : State) : State :=
  let t := { s with bootQ := [] }.wr Reg.bootWord 0
  match s.bootQ with
  | [] => t
  | e :: _ =>
    if 2 ≤ s.rd Reg.bootWord then { (s.wr Reg.nvmResetDue 1).bootApply e with bootQ := [] }.wr Reg.bootWord 0
    else t.when (s.on Reg.bootWord || decide (s.fld recOwner = 2) && decide (s.fld recState ≠ 2)) fun u => u.wr Reg.bootAt ((u.rd Reg.bootAt + 1) % 4294967296)

/-- An operation of an owner has verified (log entry 104: DEDUCED). -/
def State.nvmStep (s : State) (owner : Nat) (erase : Bool) : State :=
  match owner with
  | 1 => s.wr Reg.saveLeft (s.rd Reg.saveLeft - 1)
  | 2 => if s.rd Reg.bootWord < 3 then s.wr Reg.bootWord (s.rd Reg.bootWord + 1) else (s.bootQ.head?.map (s.wr Reg.bootWord 0).bootApply).getD s
  | 3 =>
    if s.rd Reg.instJob = 2 then
      let t := ((s.wr Reg.instPrep (s.rd Reg.instPrep - 1)).wr Reg.JOURNAL_NEXT 0).setBlob Reg.jrnHdr []
      if s.rd Reg.instPrep = 1 then ((t.setBlob Reg.jrnHdr ((s.blob Reg.instData).take 256)).wr Reg.instJob 3).wr Reg.instWord 0 else t
    else
      let t := ((s.wr Reg.JOURNAL_NEXT (s.rd Reg.JOURNAL_NEXT + 4096)).wr Reg.instWord 0).g24Follow s
      if t.instWritten = true ∧ t.rd Reg.instSrc = 1 ∧ t.on Reg.nvmResetDue = false then t.instJudge else t
  | 4 =>
    if s.rd Reg.instJob = 3 then s.instStep erase
    else
      let t := (s.wr Reg.eraseLeft (s.rd Reg.eraseLeft - 1)).setBlob (Reg.bankImg s.idleBank) []
      if s.rd Reg.eraseLeft = 1 then t.bootEntry s.idleBank 0 0 else t
  | 5 => s.plOpDone erase
  | _ => s

/-- A SAVE that has begun an operation has spoilt the copy it rewrites: no CRC of it passes until a SAVE completes (R590) (log entry 104: DEDUCED). -/
def State.saveSpoils (s : State) : State :=
  let begun := decide (0 < s.rd Reg.saveLeft) && (decide (s.rd Reg.saveLeft < 8224) || (decide (s.fld recOwner = 1) && decide (s.fld recState ≠ 2)))
  if begun then { s with copies := s.copies.filter fun (c : ConfigCopy) => c.bank ≠ s.rdN Reg.saveBank } else s

/-- A SAVE is abandoned: the other copy governs (R590). -/
def State.saveDrop (s : State) : State := ({ s.saveSpoils with saving := [] }.wr Reg.saveLeft 0).setFld (flag Reg.CFG_STATUS 1) 0

/-- The NVM manager's reset: it starts no further operation (R593). The bank keeps what the boot record and the journal hold. -/
def State.nvmHalt (s : State) : State :=
  let t := s.saveDrop.bootCut.instEnd
  ((((t.wr Reg.eraseLeft 0).wr Reg.plErSlot 0).wr Reg.nvmRetry 0).wr Reg.nvmResetDue 0).wr Reg.nvmStray 0

/-- An operation that no longer belongs to an install has ended (R588, R603): a sector's journal entry stands, and an erased sector is erased (log entry 104: DEDUCED). -/
def State.strayDone (s : State) (ok erase : Bool) : State :=
  let t := s.wr Reg.nvmStray 0
  let b := s.idleBank
  if !ok then t
  else if s.rd Reg.nvmStray = 2 then t.wr Reg.JOURNAL_NEXT (t.rd Reg.JOURNAL_NEXT + 4096)
  else if erase && decide (s.fld recOwner = 4) then t.sectorErased b (s.rdN Reg.OP_ADDR - bankBase b)
  else t

/-- An operation has failed for the second time (R592): source 81, and the next segment of an offer is answered with it (12_dictionary.md R503); an image sector ends the install with IMG_FAULT 0xC, and one of the pit log is
replaced by a spare (11_shaft_and_pit_log.md R479). -/
def State.nvmLost (s : State) (owner : Nat) : State :=
  let t := s.raise 81
  match owner with
  | 1 => t.saveDrop
  | 2 => { t with bootQ := t.bootQ.drop 1 }.wr Reg.bootWord 0 |>.wr Reg.bootAt ((t.rd Reg.bootAt + 1) % 4294967296)
  | 3 => t.instEnd.wrB Reg.imgSpoilt (decide (s.rd Reg.instSrc = 2))
  | 4 => if s.installing then (t.setFld updFault 0xC).instEnd.wrB Reg.imgSpoilt (decide (s.rd Reg.instSrc = 2)) else t.wr Reg.eraseLeft 0
  | 5 => t.plOpLost (decide (s.fld recOp = 2))
  | _ => t

/-- The operation in progress ends with its verify read (R592, R593); `owner`: whose operation is started next. -/
def State.nvmDone (s : State) (ok : Bool) (owner : Nat) : State :=
  if !s.on Reg.nvmBusy then s
  else
    let o := s.fld recOwner
    let erase := decide (s.fld recOp = 2)
    let t := (s.wr Reg.nvmBusy 0).setFld recState (if ok then 2 else 3)
    let u :=
      if t.on Reg.nvmStray then (t.wr Reg.nvmRetry 0).strayDone ok erase
      else if ok then (t.wr Reg.nvmRetry 0).nvmStep o erase
      else if s.on Reg.nvmRetry || s.on Reg.nvmResetDue then (t.wr Reg.nvmRetry 0).nvmLost o
      else (t.wr Reg.nvmRetry 1).nvmStart o (erase, s.rdN Reg.OP_ADDR)
    if u.on Reg.nvmResetDue then u.nvmHalt else u.nvmKick owner

/-- A reset reaches the NVM manager (R593, R594): an operation in progress is completed first; under R368 an erase is stopped. -/
def State.nvmReset (s : State) (die : Bool) : State :=
  if s.on Reg.nvmBusy then
    if die then
      let t := (s.wr Reg.nvmBusy 0).setFld recState (if s.fld recOp = 2 then 4 else 2)
      (if s.fld recOp = 2 then t
        else if s.on Reg.nvmStray then t.strayDone true false
        else (t.wr Reg.nvmResetDue 1).nvmStep (s.fld recOwner) false).nvmHalt
    else s.wr Reg.nvmResetDue 1
  else s.nvmHalt

/-- The sector of an erase that was cut short is erased again (R595): of an image, or of the journal; a copy of the configuration fails its CRC
with its SAVE (R590), and a slot of the pit log is erased whole (11_shaft_and_pit_log.md R482) (log entry 104: DEDUCED). -/
def State.eraseAgain (s : State) : State :=
  let b := s.rdN Reg.OP_ADDR / 0x400000
  match s.fld recOwner with
  | 3 => (s.wr Reg.JOURNAL_NEXT 0).setBlob Reg.jrnHdr []
  | 4 => s.sectorErased b (s.rdN Reg.OP_ADDR - bankBase b)
  | _ => s

/-- The record is read at a start, and an operation cut short is recovered (R595) (log entry 104: DEDUCED). -/
def State.nvmRecover (s : State) : State :=
  let t := (s.wr Reg.nvmBusy 0).when (decide (s.fld recState = 1)) fun u => u.setFld recState 5
  if t.fld recState = 4 ∨ t.fld recState = 5 then
    ((((if t.fld recOp = 2 then t.eraseAgain else t).setFld recState 6)).inc16 Reg.RECOVERIES).raise 82
  else t

/-! ### Boot (R612–R617) -/

/-- A bank verifies (R612): its content as read passes (`intact`), and so do checks 1–8 on a header that the part has written (log entry 52: DESIGN CHOICE). -/
def State.bankVerifies (s : State) (b : Nat) (intact : Bool) : Bool :=
  let h := (s.blob (Reg.bankImg b)).take 256
  intact && decide (s.rd Reg.ROLLBACK_CTR ≤ s.rd (Reg.BANK_ROLLBACK b)) && (h.isEmpty || decide (s.headerFault h false = 0))

/-- The processor plane boots a bank (R612, R619) (log entry 54: DEDUCED). -/
def State.bootFrom (s : State) (b : Nat) : State :=
  let t := ((s.wr Reg.ACTIVE_BANK (b : Nat)).wr Reg.FW_VERSION (s.rd (Reg.BANK_FW_VERSION b))).setFld updRecovery 0
  (if s.fld (bankState b) = 4 then t.rollbackUp b else t).epochEval

/-- A bank in a state, if one is. -/
def State.bankIn (s : State) (st : Nat) : Option Nat := (List.range 2).find? fun b => decide (s.fld (bankState b) = st)

/-- The CONFIRMED bank, else the PREVIOUS one, else recovery (R612, R617); one that fails its verification is REJECTED (R602). -/
def State.bootService (s : State) (intact : Nat → Bool) : State :=
  match s.bankIn 4 with
  | some c =>
    if s.bankVerifies c (intact c) then s.bootFrom c
    else
      let t := (s.setFld (bankState c) 6).raise 79
      match s.bankIn 5 with
      | some p =>
        if s.bankVerifies p (intact p) then (t.setFld (bankState p) 4).bootFrom p
        else (((t.setFld (bankState p) 6).raise 79).setFld updRecovery 1).raise 80
      | none => (t.setFld updRecovery 1).raise 80
  | none =>
    match s.bankIn 5 with
    | some p =>
      if s.bankVerifies p (intact p) then (s.setFld (bankState p) 4).bootFrom p
      else (((s.setFld (bankState p) 6).raise 79).setFld updRecovery 1).raise 80
    | none => (s.setFld updRecovery 1).raise 80

/-- The deputy chooses a bank at a boot (R612) (log entry 52: DESIGN CHOICE, log entry 54: DEDUCED). -/
def State.bootChoose (s : State) (intact : Nat → Bool) : State :=
  match s.trialBank with
  | some t =>
    if s.rd Reg.TRIAL_BOOTS = 3 ∨ 300 ≤ s.trialS then (s.trialReject t).bootService intact
    else if s.bankVerifies t (intact t) then
      let u := s.inc8 Reg.TRIAL_BOOTS
      (if s.rd Reg.TRIAL_BOOTS = 0 then u.wr Reg.trialNs (u.now + 1) else u).bootFrom t
    else (s.trialReject t).bootService intact
  | none => s.bootService intact

/-! ### The card (R600, R601) -/

/-- Work from the card is abandoned: source 83; the journal keeps its progress (R601). -/
def State.cardGone (s : State) : State :=
  let work := decide (s.rd Reg.instSrc = 1) || s.relaying
  let t := if s.rd Reg.instSrc = 1 then s.instEnd else s
  let u := if s.relaying then ((t.setFld ⟨Reg.RELAY_STATUS, 0, 4⟩ 3).wr Reg.rlyStep 0).activity 0 else t
  let v := ((u.wr Reg.CARD_STATUS 0).setBlob Reg.CARD_HEADER []).setBlob Reg.cardImg []
  if work then v.raise 83 else v

/-- What the SFDP of a card gives (R600): its first four bytes, and DWORDs 1–3 of its Basic Flash Parameter Table; `qe`: the 1-1-4 read needs a
quad-enable bit. -/
structure CardTable where
  signature : Nat
  dword1 : Nat
  dword2 : Nat
  dword3 : Nat
  qe : Bool
  deriving DecidableEq, Repr

/-- The 1-1-4 fast read is offered and needs no quad-enable bit (R600) (log entry 116: PRESUMED). -/
def CardTable.quad (c : CardTable) : Bool := decide (c.dword1 / 2 ^ 22 % 2 = 1) && !c.qe

/-- The instruction that the part reads with: the 1-1-4 read of DWORD 3, else 0x0B (R600) (log entry 116: PRESUMED). -/
def CardTable.readOp (c : CardTable) : Nat := if c.quad then c.dword3 / 2 ^ 24 % 256 else 0x0B

/-- The address bytes: 4 for a card that reports 4-byte addresses only, else 3 (R600; that 0b10 says so is PRESUMED, log entry 116). -/
def CardTable.addressBytes (c : CardTable) : Nat := if c.dword1 / 2 ^ 17 % 4 = 2 then 4 else 3

/-- A card has been detected (R600): its SFDP and its content (log entry 116: PRESUMED). -/
def State.cardRead (s0 : State) (c : CardTable) (content : List Byte) : State :=
  if c.signature ≠ 0x50444653 then (((s0.wr Reg.CARD_STATUS 1).setBlob Reg.CARD_HEADER []).setBlob Reg.cardImg [])
  else
    let quad := c.quad
    let s := ((s0.wr Reg.cardOp (c.readOp : Nat)).wr Reg.cardAddr (c.addressBytes : Nat)).wr Reg.cardDensity (c.dword2 : Nat)
    let h := content.take 256 ++ List.replicate (256 - (content.take 256).length) 0xFF
    let f := s.headerFault h true
    let t := (s.setBlob Reg.CARD_HEADER h).setBlob Reg.cardImg (h ++ content.drop 256)
    let u := t.wr Reg.CARD_STATUS ((3 + (if quad then 4 else 0) + (if f = 0 then 8 else 0) + 16 * f : Nat) : Int)
    if f = 0 then u else u.imgFails f

/-- The card's container: its header and its body; bytes beyond the card's content read as erased. -/
def State.cardData (s : State) : List Byte :=
  let c := s.blob Reg.cardImg
  let n := hdrLen (c.take 256)
  (c ++ List.replicate (n - c.length) 0xFF).take n

/-! ### Update commands (R604, R611, R615, R619) -/

/-- The abort code of UPD_CMD `v` in the present state and on the card's header (R604, R608, R611, R615, R619). -/
def State.updAbort (s : State) (v : Nat) : Nat :=
  let starting := decide (s.rdN Reg.STATE = 2)
  let busy := s.installing || s.relaying
  match v with
  | 1 =>
    if starting || busy || s.trialBank.isSome || !s.bit (flag Reg.CARD_STATUS 1) then 0x0501
    else faultAbort (s.headerFault (s.blob Reg.CARD_HEADER) true)
  | 2 => if starting || decide (s.fld (bankState s.idleBank) ≠ 2) then 0x0501 else 0
  | 3 => if s.trialBank.isNone then 0x0501 else 0
  | 4 => if busy || s.trialBank.isSome then 0x0501 else 0
  | 5 => if busy || !s.bit (flag Reg.CARD_STATUS 1) then 0x0501 else 0
  | _ => 0x0401

/-- UPD_CMD 0x01–0x04, accepted. -/
def State.updCmd (s : State) (v : Nat) : State :=
  match v with
  | 1 => s.instStart 1 (s.blob Reg.CARD_HEADER) s.cardData
  | 2 => (s.setFld updFallback 0).bootEntry s.idleBank 3 1
  | 3 => (s.trialBank.map fun b => s.bootEntry b 6 4).getD s
  | 4 => (s.wr Reg.eraseLeft 960).nvmKick 4
  | _ => s

/-! ### The stored configuration (R590) -/

/-- A SAVE starts: it takes the configuration as it stands, into the copy with the lower sequence number (log entry 48: DEDUCED). -/
def State.saveStart (s : State) (c : ConfigCopy) : State :=
  ({ s with saving := [c] }.wr Reg.saveBank (c.bank : Nat)).wr Reg.saveLeft 8224 |>.setFld (flag Reg.CFG_STATUS 1) 1 |>.nvmKick 1

end Sys2Proof.Machine
end

