-- ==== Sys2Proof/Machine/SecOps.lean ====
section
/-!
DEFINITION. Shared operations of sessions, keys, debug entry, the image services and the relay (14_images_and_security.md R606–R608,
R621–R632).
-/
namespace Sys2Proof.Machine

/-! ### Sessions (R622–R624) -/

/-- STORE_LOCKED (R629). -/
abbrev storeLocked : Bits := flag Reg.SEC_STATUS 2

/-- The bytes of params (R622). -/
def sessionParams (src dst level : Nat) (nonceR nonceD : List Byte) : List Nat :=
  [src, dst, level] ++ natsOf nonceR ++ natsOf nonceD

/-- DPROOF under a level's key (R622). -/
def sessionProof (key params : List Nat) : List Byte := bytesOf ((cmac key (2 :: params)).take 8)

/-- K_S under a level's key (R622). -/
def sessionKey (key params : List Nat) : List Nat := cmac key (1 :: params)

/-- SESSION_OPEN (R622–R624). NONCE_D is random: a free value. -/
def State.svcOpen (s : State) (q : Req) (body : List Byte) : State :=
  let level := ofLe (body.take 1)
  if body.length ≠ 12 ∨ zeros (slice 1 3 body) = false then s.reject q 0x0304
  else if level = 0 ∨ 3 < level then s.reject q 0x0401
  else if (s.keySlot level).isEmpty ∨ s.bit storeLocked = true then s.reject q 0x0501
  else if 8 ≤ s.openSessions.length ∧ (s.session q.src).isNone = true then s.reject q 0x0502
  else
    let nonce := leBytes 8 (twos 64 s.free)
    let params := sessionParams q.src s.ownAddr level (slice 4 8 body) nonce
    let x : Session := ⟨q.src, level, sessionKey (s.keySlot level) params, 0, 0, s.timebase⟩
    let t := { s.used with opens := (s.opens.filter fun (y : Session) => decide (y.peer ≠ q.src)) ++ [x] }
    t.respond q 0 (nonce ++ sessionProof (s.keySlot level) params)

/-- A PROVE whose tag fails (R623) (log entry 43: DEDUCED). -/
def State.proveFails (s : State) : State := (s.inc32 Reg.SESSION_FAILS).raise 85

/-- The open that awaits its proof from `src`, not yet lapsed (R623). -/
def State.openOf (s : State) (src : Nat) : Option Session :=
  s.opens.find? fun x => x.peer = src && decide (s.timebase < x.last + 1000000000)

/-- A PROVE that is turned away is answered under the key of its open, whatever session its source holds (R501) (log entry 42: DEDUCED). -/
def State.proveRejected (s : State) (r : Req) (abort : Nat) : State :=
  let t := { s with sessions := s.sessions.filter fun y => y.peer ≠ r.src }.reject r abort
  { t with sessions := s.sessions }

/-- SESSION_PROVE whose tag has passed under the key of the open (R622, R624). -/
def State.svcProve (s : State) (q : Req) (body : List Byte) (fresh : Nat) : State :=
  match s.openOf q.src with
  | none => s.proveFails
  | some x =>
    let r : Req := { q with auth := true, under := some x }
    if !body.isEmpty then s.proveRejected r 0x0304
    else if 8 ≤ s.openSessions.length ∧ (s.session q.src).isNone = true then s.proveRejected r 0x0502
    else
      let t := { s with opens := s.opens.filter fun (y : Session) => y.peer ≠ q.src,
                        sessions := (s.openSessions.filter fun (y : Session) => y.peer ≠ q.src) ++ [{ x with got := fresh, last := s.timebase }] }
      t.respond r 0 []

/-- SESSION_CLOSE under the session (R622) (log entry 43: DEDUCED). -/
def State.svcClose (s : State) (q : Req) (body : List Byte) : State :=
  if !body.isEmpty then s.reject q 0x0304
  else if q.auth = false ∨ (s.session q.src).isNone = true then s.reject q 0x0203
  else (s.respond q 0 []).closeSession q.src

/-! ### Keys (R625–R628) -/

/-- A key slot holds `key`; its level's sessions close (R621, R624, R626). -/
def State.keyStore (s : State) (k : Nat) (key : List Byte) : State :=
  let t := (s.setBlob (Reg.KEY k) key).setFld (flag Reg.KEY_MAP k) 1
  let u := { t with sessions := t.sessions.filter fun x => x.level ≠ k, opens := t.opens.filter fun x => x.level ≠ k }
  if k = 0 then forUnits 64 (fun a v => v.wr (Reg.bcastRx a) 0) (u.wr Reg.domSend 0) else u

/-- The abort code of a key transfer: 24 wrapped bytes at level 3, or in OPEN a plain key for an empty slot (R626). -/
def State.keyAbort (s : State) (q : Req) (k : Nat) (data : List Byte) : Nat :=
  if data.length = 16 then
    if s.rd Reg.DEBUG_STATE = 0 ∧ q.near = true ∧ s.bit (flag Reg.KEY_MAP k) = false then 0 else if q.level < 3 then 0x0203 else 0x0401
  else if q.level < 3 then 0x0203
  else
    match s.session q.src with
    | some x => if (keyUnwrap x.key (natsOf data)).isSome then 0 else 0x0601
    | none => 0x0601

/-- An accepted key transfer (R626) (log entry 49: DEDUCED). -/
def State.keyCommit (s : State) (q : Req) (k : Nat) (data : List Byte) : State :=
  if data.length = 16 then s.keyStore k data
  else
    match s.session q.src with
    | some x => ((keyUnwrap x.key (natsOf data)).map fun key => s.keyStore k (bytesOf key)).getD s
    | none => s

/-- The public key slot that signed the running image, where the part has written its header (R618). -/
def State.activeSigner (s : State) : Option Nat :=
  let b := s.blob (Reg.bankImg s.activeBank)
  if b.isEmpty then none else some (hdrNum b 0x2C 1)

/-! ### Debug states (R628–R631) -/

/-- LOCK's condition (R628). -/
def State.lockOk (s : State) : Bool :=
  decide (s.rd Reg.DEBUG_STATE = 0) && (List.range 4).all (fun k => s.bit (flag Reg.KEY_MAP k)) && (List.range 4).any fun k => s.pubOk k

/-- RMA (R628): slots 0–4 are erased, and no session can open (log entry 106: DESIGN CHOICE). -/
def State.rma (s : State) : State :=
  let t := forUnits 5 (fun k u => (u.setBlob (Reg.KEY k) []).setFld (flag Reg.KEY_MAP k) 0) s
  { t with sessions := [], opens := [] }.wr Reg.DEBUG_STATE 2

/-- The SECURE blocks are zeroised (11_shaft_and_pit_log.md R460, R461). -/
def State.secureZero (s : State) : State :=
  { s.wr (Reg.USED 26) 0 with blocks := s.blocks.filter fun b => b.gal ≠ 26, transfers := s.transfers.filter fun x => !x.secure }

/-- Debug entry, or scan entry, under R629; `ok`: the read-backs pass (log entry 23: DEDUCED, log entry 106: DESIGN CHOICE). -/
def State.debugEnter (s : State) (scan ok : Bool) : State :=
  let t := ({ s.secureZero with sessions := [], opens := [] }.setFld storeLocked 1).mark markDebug 0 0
  if !ok then (t.setFld (flag Reg.SEC_STATUS 3) 1).raise 87
  else
    let u := (t.setFld (flag Reg.SEC_STATUS 0) 1).wr Reg.LAST_DEBUG_NS s.now
    (if scan then u.setFld (flag Reg.SEC_STATUS 1) 1 else u).raise 86

/-- What scan entry asks of the part (R631). -/
def State.quietForScan (s : State) : Bool :=
  decide (s.rdN Reg.STATE = 3) && (List.range 64).all (fun k => decide (s.nodeSt k = 0)) &&
    (List.range 512).all (fun n => decide (s.ctxSt n ≤ 1) || decide (s.ctxSt n = 12)) &&
    (List.range 2).all (fun p => decide (s.rpSt p ≠ 1) && decide (s.rpSt p ≠ 2)) &&
    decide (s.propMode ≤ 1) && (List.range 4).all fun p => !s.bit (Bit.PORT_CTRL_ENABLE p)

/-- The window in which a request on the debug port is honoured: 10 s from a DEBUG_ENTER (R628). -/
def State.windowOpen (s : State) : Bool := s.on Reg.dbgWindow && decide (s.now < s.rd Reg.dbgWindow - 1 + 10000000000)

/-- A request on the debug port (R628): honoured in OPEN and RMA, and in LOCKED within the window (log entry 23: DEDUCED). -/
def State.debugPort (s : State) (ok : Bool) : State :=
  if s.rd Reg.DEBUG_STATE ≠ 1 ∨ s.windowOpen = true then (s.wr Reg.dbgWindow 0).debugEnter false ok else s

/-! ### Image services (R606, R607) -/

/-- IMG_OFFER: the header is checked, and an install starts or resumes (R598, R604, R605). -/
def State.svcOffer (s : State) (q : Req) (body : List Byte) : State :=
  if body.length ≠ 256 then s.reject q 0x0304
  else if q.level < 2 then s.reject q 0x0203
  else if s.rdN Reg.STATE = 2 ∨ s.installing = true ∨ s.relaying = true ∨ s.trialBank.isSome = true then s.reject q 0x0501
  else
    let f := s.headerFault body true
    if f ≠ 0 then (s.imgFails f).reject q (faultAbort f)
    else (s.instStart 2 body body).respond q 0 (leBytes 2 0 ++ leBytes 4 (s.resumeAt body))

/-- The data of an offer has gone quiet for 1 s (R607) (log entry 105: DEDUCED). -/
def State.offerLapsed (s : State) : Bool := decide (s.rd Reg.instSrc = 2) && s.since (s.rd Reg.instNs) 1000000000

/-- A segment is staged: the part, when G24 has the blocks for it (R607; R503 BUSY) (log entry 97: DEDUCED). -/
def State.imgTake (s : State) (d : List Byte) : Option State :=
  let t := s.setBlob Reg.instData (s.blob Reg.instData ++ d)
  let n := (t.imgStaged - s.imgStaged).toNat
  (s.takeBlocks 24 n).map fun u => (u.setBlob Reg.instData (s.blob Reg.instData ++ d)).wr Reg.instNs s.now

/-- IMG_DATA: container bytes in order, a repeat of the last segment answered again (R607, with R510); an offer whose data a poisoned block or a flash failure has ended is
answered so once (12_dictionary.md R503). -/
def State.svcData (s : State) (q : Req) (body : List Byte) : State :=
  let off := ofLe (body.take 4)
  let d := body.drop 4
  let have_ := s.blob Reg.instData
  if body.length < 5 ∨ 1012 < body.length then s.reject q 0x0304
  else if q.level < 2 then s.reject q 0x0203
  else if s.on Reg.imgSpoilt then (s.wr Reg.imgSpoilt 0).reject q 0x0901
  else if s.rd Reg.instSrc ≠ 2 then s.reject q 0x0501
  else if s.offerLapsed then s.instEnd.reject q 0x0501
  else if off = have_.length - d.length ∧ 256 < have_.length ∧ have_.drop off = d then (s.wr Reg.instNs s.now).respond q 0 (leBytes 2 0)
  else if s.rdN Reg.instLen < off + d.length then s.instEnd.reject q 0x0402
  else if off ≠ have_.length then s.instEnd.reject q 0x0503
  else
    match s.imgTake d with
    | none => s.reject q 0x0502
    | some t => (t.nvmKick 4).respond q 0 (leBytes 2 0)

/-- What IMG_END answers, and the state it leaves (R599, R607); the header and the journal entries written on the way are those
of R603 (log entry 104: DEDUCED). -/
def State.imgEnd (s : State) : Nat × List Byte × State :=
  if s.on Reg.imgSpoilt then (0x0901, [], s.wr Reg.imgSpoilt 0)
  else if s.rd Reg.instSrc ≠ 2 then (0x0501, [], s)
  else if s.offerLapsed then (0x0501, [], s.instEnd)
  else if (s.blob Reg.instData).length < s.rdN Reg.instLen then (0x0402, [], s.wr Reg.instNs s.now)
  else
    let f := s.bodyFault
    (0, leBytes 2 0 ++ leBytes 1 f ++ leBytes 1 0, { s.instFlush with bootQ := if s.on Reg.bootWord || s.on Reg.nvmBusy && decide (s.fld recOwner = 2) then s.bootQ.take 1 else [] }.instJudge)

/-- IMG_QUERY (R606). -/
def State.svcQuery (s : State) (q : Req) (body : List Byte) : State :=
  if !body.isEmpty then s.reject q 0x0304
  else s.respond q 0 (leBytes 2 0 ++ leBytes 4 (s.rdN Reg.DEVICE_TYPE) ++ leBytes 1 (s.rdN Reg.SILICON_REV) ++ leBytes 1 s.activeBank ++
    leBytes 1 (s.rdN Reg.BANK_STATE) ++ leBytes 1 0 ++ leBytes 8 (s.rdN Reg.Ident_UNIT_ID) ++ leBytes 2 s.epochs.1 ++
    leBytes 2 (s.rdN Reg.DOMAIN_EPOCH) ++ leBytes 4 (s.rdN Reg.ROLLBACK_CTR) ++ leBytes 4 (s.rdN Reg.JOURNAL_NEXT))

/-! ### The relay (R608) -/

/-- State and last abort code of the relay. -/
def State.relayStatus (s : State) (st abort : Nat) : State :=
  s.wr Reg.RELAY_STATUS ((st + 256 * s.rdN Reg.RELAY_TARGET + 65536 * abort : Nat) : Int)

/-- The relay has ended: 2 done, 3 failed. -/
def State.relayEnd (s : State) (st abort : Nat) : State := ((s.relayStatus st abort).wr Reg.rlyStep 0).activity 0

/-- A request of the relay is sent under the session, and `step` awaits its response. -/
def State.relayAsk (s : State) (step svc : Nat) (body : List Byte) : State :=
  ((s.wr Reg.rlyStep (step : Nat)).wr Reg.rlyTid (s.rd Reg.ownTid)).sendAuthed (s.rdN Reg.RELAY_TARGET) svc body

/-- UPD_CMD 0x05: the relayer opens a level-2 session with the target; NONCE_R is a free value. -/
def State.relayStart (s : State) : State :=
  let nonce := leBytes 8 (twos 64 s.free)
  let t := (((s.used.setBlob Reg.rlyNonce nonce).activity 4).relayStatus 1 0).wr Reg.rlyStep 1
  (t.wr Reg.rlyTid (t.rd Reg.ownTid)).sendAsk (s.rdN Reg.RELAY_TARGET) 0x30 ([2, 0, 0, 0] ++ nonce)

/-- The next DATA segment, or IMG_END when every byte has gone (R608). -/
def State.relayNext (s : State) : State :=
  let data := s.cardData
  let off := s.rdN Reg.rlyAt
  let d := slice off 1008 data
  if d.isEmpty then s.relayAsk 6 0x42 []
  else (s.wr Reg.rlyCount (d.length : Nat)).relayAsk 5 0x41 (leBytes 4 off ++ d)

/-- The response of the target to the request outstanding (R608): ABORT, and the body after it. -/
def State.relayResponse (s : State) (abort : Nat) (body : List Byte) : State :=
  let dst := s.rdN Reg.RELAY_TARGET
  let h := (s.blob Reg.cardImg).take 256
  if abort ≠ 0 then s.relayEnd 3 abort
  else
    match s.rdN Reg.rlyStep with
    | 1 =>
      let params := sessionParams s.ownAddr dst 2 (s.blob Reg.rlyNonce) (body.take 8)
      if body.length ≠ 16 ∨ sessionProof (s.keySlot 2) params ≠ body.drop 8 ∨ (s.keySlot 2).isEmpty = true then s.relayEnd 3 0
      else
        let x : Session := ⟨dst, 2, sessionKey (s.keySlot 2) params, 0, 0, s.timebase⟩
        { s with sessions := (s.openSessions.filter fun (y : Session) => y.peer ≠ dst) ++ [x] }.relayAsk 2 0x31 []
    | 2 => s.relayAsk 3 0x43 []
    | 3 =>
      let compat := ofLe (slice 18 2 body)
      if body.length < 30 ∨ ofLe (slice 2 4 body) ≠ s.rdN Reg.DEVICE_TYPE ∨ compat < hdrNum h 0x22 2 ∨ hdrNum h 0x24 2 < compat then s.relayEnd 3 0
      else s.relayAsk 4 0x40 h
    | 4 =>
      let at_ := ofLe (slice 2 4 body)
      (s.wr Reg.rlyAt ((if at_ = 0 then 256 else at_ : Nat) : Int)).relayNext
    | 5 => (s.wr Reg.rlyAt (s.rd Reg.rlyAt + s.rd Reg.rlyCount)).relayNext
    | 6 => if ofLe (slice 2 1 body) = 0 then s.relayEnd 2 0 else s.relayEnd 3 0
    | _ => s

end Sys2Proof.Machine
end

