-- ==== Sys2Proof/Machine/ResetOps.lean ====
section
/-!
DEFINITION. The three resets (01_architecture.md R18–R30; 10_faults_watchdog_resets.md R433–R441): what each keeps, what it
records, and how it begins and ends.
-/
namespace Sys2Proof.Machine

/-! ### What is kept -/

/-- The key belongs to one of the internal registers whose first keys are listed. -/
def keyIn (names : List Nat) (k : Nat) : Bool := names.any fun b => decide (k / 4096 = b / 4096)

/-- Sub-indexes held in flash, in fuses or in the key store: kept through everything (12_dictionary.md R495; 11_shaft_and_pit_log.md R486;
14_images_and_security.md R619, R620, R632) (log entry 55: DEDUCED). -/
def inFlash (idx sub : Nat) : Bool :=
  decide (idx = 0x1000) || decide (idx = 0x6001) || (decide (idx = 0x5100) && [5, 8].contains sub) ||
    (decide (idx = 0x6000) && [3, 5, 0xB, 0xC, 0xF].contains sub) ||
    (decide (idx = 0x6100) && ([1, 3, 4, 5, 6, 7].contains sub || decide (14 ≤ sub)))

/-- Sub-indexes of the always-on domain (10_faults_watchdog_resets.md R432, R440, R441; 08_sensing_and_thermal.md R374;
14_images_and_security.md R596, R613; 15_start_bist_standby.md R657, R660; 16_balls_and_supplies.md R678), and the supply status, which
follows the supplies (log entry 55: DEDUCED). -/
def inAlwaysOn (idx sub : Nat) : Bool :=
  decide (idx = 0x1F18) || decide (idx = 0x1F19) || decide (idx = 0x6002) || decide (idx = 0x6300) ||
    (decide (idx = 0x1F10) && [1, 6].contains sub) || (decide (idx = 0x1F21) && [2, 3].contains sub) ||
    (decide (idx = 0x3600) && [7, 8].contains sub) || (decide (idx = 0x6000) && decide (sub = 6)) ||
    (decide (idx = 0x6200) && [2, 4, 9, 0xB, 0xC, 0xD].contains sub)

/-- Sub-indexes that a power-plane reset leaves besides those (R437; 05_ring_and_holdup.md R221, R249; 11_shaft_and_pit_log.md R462;
14_images_and_security.md R619, R630) (log entry 55: DEDUCED). -/
def throughPp (idx sub : Nat) : Bool :=
  decide (idx = 0x1018) || decide (idx = 0x1F20) || decide (idx = 0x1F21) || decide (idx = 0x2200) || decide (idx = 0x2201) ||
    (decide (idx = 0x2100) && decide (sub ≤ 0x14)) || (decide (0x5000 ≤ idx) && decide (idx < 0x5040) && decide (sub = 6)) ||
    (decide (idx = 0x6100) && [2, 0xD].contains sub)

/-- Sub-indexes that a processor reset returns to their reset values: the counters and the status of subsystems 15–26, but for the blocks out
of use, which are so until the next start-up test
(R433; 10_faults_watchdog_resets.md R432; 11_shaft_and_pit_log.md R460; 12_dictionary.md R534) (log entry 55: DEDUCED) (log entry 115: DEDUCED). -/
def lostInProc (idx sub : Nat) : Bool :=
  decide (idx = 0x1019) || (decide (idx = 0x1100) && decide (7 ≤ sub)) || (decide (idx = 0x1110) && ([3, 4].contains sub || decide (7 ≤ sub))) ||
    ((decide (idx = 0x1120) || decide (idx = 0x1121)) && decide (11 ≤ sub)) || (decide (idx = 0x1130) && decide (3 ≤ sub)) ||
    (decide (0x1140 ≤ idx) && decide (idx ≤ 0x1142) && decide (5 ≤ sub)) ||
    (decide (idx = 0x1F10) && [3, 4, 5, 7].contains sub) ||
    (decide (0x5000 ≤ idx) && decide (idx < 0x5040) && [4, 5, 7, 8, 9].contains sub) || (decide (idx = 0x5040) && decide (sub ≠ 4)) ||
    (decide (idx = 0x5100) && [4, 6, 9].contains sub) || (decide (idx = 0x6000) && [4, 0xD, 0xE, 0x10].contains sub) ||
    (decide (idx = 0x6100) && [9, 0xB].contains sub)

/-- Internal registers of the flash and of what stands outside the part. -/
def flashNames : List Nat := [Reg.bankImg 0, Reg.jrnHdr, Reg.bootAt, Reg.domStored, Reg.bcastStored 0, Reg.slotDead 0, Reg.slotDirty 0, Reg.slotBad 0, Reg.plLast,
  Reg.wakeWithPower, Reg.ioStopped 0]

/-- Internal registers of the always-on domain. -/
def aoNames : List Nat := [Reg.alwaysOn, Reg.wakePend, Reg.domSend, Reg.bcastRx 0, Reg.lrResult 0, Reg.lrCov 0, Reg.lrDur 0,
  Reg.lrSeq, Reg.lrFlags, Reg.lrTotal, Reg.lrAge, Reg.lrAgeNs, Reg.lrKept, Reg.corePowered]

/-- Internal registers that a power-plane reset leaves besides those: the satellites' recorded identities (04_satellite_link.md R186), the ring
ports', the NVM manager's, and the resets' own. -/
def ppNames : List Nat := [Reg.stRecType 0, Reg.stRecUnit 0, Reg.stRecSet 0, Reg.rpGate 0, Reg.rpTripNs 0, Reg.rpJudge 0, Reg.rpRegMa 0, Reg.rpSum 0, Reg.rpCnt 0,
  Reg.nvmBusy, Reg.nvmRetry, Reg.nvmResetDue, Reg.saveLeft, Reg.saveBank, Reg.instSrc, Reg.instJob, Reg.instPrep,
  Reg.instWord, Reg.instLen, Reg.instData, Reg.nvmStray, Reg.bootWord, Reg.eraseLeft, Reg.plErase, Reg.plErSlot, Reg.plSlot, Reg.plWord, Reg.plHostNs, Reg.trialNs, Reg.ppNs 0, Reg.dieHold, Reg.coldFirst,
  Reg.coldCause, Reg.plAtNs, Reg.galFed 0, Reg.galLost 0, Reg.capFrameNo, Reg.capTrigAt, Reg.capLastUs]

/-- Internal registers of the processor plane. -/
def procNames : List Nat := [Reg.wdPeriodWritten, Reg.hbMisses, Reg.galWaitNs 0, Reg.galWaitRaised 0, Reg.scrubAt, Reg.eccRun, Reg.livePoison, Reg.plNextReason,
  Reg.ntSeq, Reg.stSeq 0, Reg.readyNew 0, Reg.spiTook, Reg.twPtr 0, Reg.twOutAt 0, Reg.twIgnore 0, Reg.twStretch 0,
  Reg.twLosses 0, Reg.twIbr 0, Reg.twServe 0, Reg.twBus 0, Reg.twClear 0, Reg.twPart 0, Reg.fsSeqs 0, Reg.fsLast 0, Reg.asInteg, Reg.asGoodRun,
  Reg.macTable 0, Reg.hostSeen, Reg.ownTid, Reg.rlyStep, Reg.rlyAt, Reg.rlyTid, Reg.rlyNonce, Reg.rlyCount, Reg.dbgWindow, Reg.cardImg,
  Reg.instNs, Reg.liveNs, Reg.cutAfter, Reg.strmNs, Reg.cfgNs, Reg.cardOp, Reg.cardAddr, Reg.cardDensity, Reg.beaconNs, Reg.beaconOut, Reg.asNs, Reg.asOut, Reg.twHoldNs 0, Reg.twHeld 0, Reg.twClearNs 0,
  Reg.twFull 0, Reg.twAway 0, Reg.twIbrWant 0, Reg.twIbrNs 0, Reg.twXfer 0, Reg.twOwed 0, Reg.imgSpoilt]

/-- A frozen capture's objects (11_shaft_and_pit_log.md R460, R462). -/
def inCapture (idx sub : Nat) : Bool :=
  decide (idx = 0x5080) || decide (idx = 0x5081) || ((decide (idx = 0x5014) || decide (idx = 0x5015)) && [4, 5].contains sub)

/-- What a processor reset keeps; `frozen`: a capture is FROZEN (log entry 55: DEDUCED). -/
def keptInProc (frozen : Bool) (k : Nat) : Bool :=
  if k < intBase then !lostInProc (k / 256) (k % 256) || (frozen && inCapture (k / 256) (k % 256)) else !keyIn procNames k

/-- What a power-plane reset keeps (log entry 55: DEDUCED). A START_CLOSE of West that waits for East is forgotten with it (05_ring_and_holdup.md
R215; log entry 121: DESIGN CHOICE). -/
def keptInPp (frozen : Bool) (k : Nat) : Bool :=
  if k < intBase then
    let i := k / 256
    let u := k % 256
    inFlash i u || inAlwaysOn i u || throughPp i u || (frozen && inCapture i u)
  else keyIn flashNames k || keyIn aoNames k || keyIn ppNames k

/-- What a cold reset keeps; `held`: the always-on domain has kept power (R440) (log entry 55: DEDUCED). The analog die comparator still holds
the power plane while the die is above 165 °C (08_sensing_and_thermal.md R368). -/
def keptInCold (held : Bool) (k : Nat) : Bool :=
  if k < intBase then inFlash (k / 256) (k % 256) || (held && inAlwaysOn (k / 256) (k % 256)) || decide (k = Reg.SUP_STATUS)
  else keyIn flashNames k || (held && keyIn aoNames k) || decide (k = Reg.dieHold)

/-- Only the registers and byte strings that `keep` names keep their values. -/
def State.forget (s : State) (keep : Nat → Bool) : State :=
  { s with regs := s.regs.filter (fun p => keep p.1), blobs := s.blobs.filter fun p => keep p.1 }

/-- What has been offered to a host-facing port is lost (R534; 13_links.md R538). -/
def State.dropPdus (s : State) : State :=
  { s with outbox := s.outbox.filter fun o =>
      match o with
      | .pdu _ _ => false
      | _ => true }

/-! ### The processor reset (R433, R434) -/

/-- The COMMIT word of the epoch being written is being programmed (11_shaft_and_pit_log.md R480). -/
def State.plCommitting (s : State) : Bool :=
  s.bit (flag Reg.PL_STATUS 0) && s.on Reg.nvmBusy && decide (s.fld recOwner = 5) && decide (s.fld recOp = 1) && decide (s.rd Reg.plWord = 3072)

/-- The epochs with a reset of the pit log (11_shaft_and_pit_log.md R481, R483, R488; 14_images_and_security.md R593): those that wait fail, and so
does the one being written unless its COMMIT word is, which the NVM manager completes first (log entry 94: DEDUCED). -/
def State.epochDown (s : State) : State :=
  let v := s.rdN Reg.plNextReason
  let t := s.wr Reg.plNextReason 0
  let u := if s.plCommitting then t else t.epochFail false
  forAll ([v % 8, v / 8].filter fun r => r ≠ 0) (fun r x => ((x.inc32 Reg.EPOCH_FAILS).raise 73).epochOver r) u

/-- Subsystems 15–26 are in reset (R433): the capture freezes, an epoch fails, the NVM manager ends its operation, and the
galleries, the links, Dengon, the sessions and the relay are empty. `die`: the reset is included in one under R368. -/
def State.procDown (s : State) (capCause : Nat) (die : Bool) : State :=
  let u := (s.capReset capCause).epochDown.nvmReset die
  let frozen := decide (u.rd Reg.CAP_STATE = 3)
  let keepBits : Int := bitsOf (u.rd Reg.PL_STATUS) 2 4 * 4 + bitsOf (u.rd Reg.PL_STATUS) 0 1
  let fell := u.bit updFallback
  let v := (u.dropPdus.forget (keptInProc frozen)).wr Reg.PL_STATUS keepBits
  let w := if fell then v.setFld updFallback 1 else v
  let x := if w.rd Reg.lampPhase = 1 then ((w.wr Reg.lampPhase 3).setFld lmRunning 0).setFld lmValid 0 else w
  { x with
    notices := [], blocks := [], txWait := [], ifwDue := [], transfers := [], asks := [], rxbuf := [], canParts := [], sessions := [], opens := [],
    live := ⟨x.baseImage.epoch, 5, 0, 0, x.baseImage.fields⟩ }

/-- The reset record (R30): LEVEL and CAUSE. -/
def State.recordReset (s : State) (level cause : Nat) : State := s.wr Reg.LAST_RESET ((level + 256 * cause : Nat) : Int)

/-- The cause recorded when several are recognised on one edge (R434). -/
def firstCause (mask : Nat) : Nat := ([7, 4, 3, 6, 5, 8].find? fun c => mask / 2 ^ c % 2 = 1).getD 8

/-- What the watchdog and the deputy go by, which a processor reset returns (R430; 10_faults_watchdog_resets.md R432). -/
def watchKeys : List Nat := [Reg.WD_PERIOD_MS, Reg.WD_STATUS, Reg.wdPeriodWritten, Reg.hbMisses, Reg.planeReady]

/-- A processor reset has begun on this edge, and no higher one. -/
def State.procBegun (s : State) : Bool := s.on Reg.corePowered && !s.on Reg.ppReset && s.on Reg.procReset && (s.marked markProc 0).isSome

/-- The part as its watchdog and deputy stood when the causes of this edge came (R434) (log entry 107: DEDUCED). -/
def State.watchBack (s : State) : State := if s.procBegun then s.putBack watchKeys else s

/-- A processor reset begins, and hold mode with it (R26, R27, R433); `causes`: the mask of its causes. With one that has begun on this edge it
is one reset (R434). -/
def State.procStart (s : State) (causes : Nat) : State :=
  match s.marked markProc 0 with
  | some m => (s.mark markProc 0 (Nat.lor m.toNat causes : Nat)).recordReset 1 (firstCause (Nat.lor m.toNat causes))
  | none =>
    let a := (((s.noteBefore (Reg.PROC_RESETS :: watchKeys)).mark markProc 0 (causes : Nat)).mark markProcs 0 (s.rd Reg.PROC_RESETS)).mark
      markStage 0 (s.staged 0x12C)
    let t := ((a.recordReset 1 (firstCause causes)).inc32 Reg.PROC_RESETS).stage 0x12C 32 1
    let u := if t.on Reg.holdActive then t else ((t.wr Reg.holdActive 1).wr Reg.holdNs t.now).wr Reg.holdTimedOut 0
    (((u.procDown 0x801 false).wr Reg.planeReady 0).wr Reg.procReset 1).wr Reg.procNs u.now

/-- A processor reset that has begun on this edge gives way to the power-plane reset: it is not counted (01_architecture.md R22, R23) (log entry 107: DEDUCED). -/
def State.procUndo (s : State) : State :=
  match s.marked markProcs 0, s.marked markStage 0 with
  | some n, some d => (s.wr Reg.PROC_RESETS n).setStaged 0x12C d
  | _, _ => s

/-- The 10 µs are over (R433): the watchdog restarts at 64 ms, unlocked (R430). -/
def State.procEnd (s : State) : State := ((s.wr Reg.procReset 0).wr Reg.WD_PERIOD_MS 64).wr Reg.wdNs s.now

/-! ### The power-plane reset (R436–R438) -/

/-- The timebase of this power-plane reset goes in front of the last three (R439). -/
def State.ppStamp (s : State) : State :=
  (((s.wr (Reg.ppNs 3) (s.rd (Reg.ppNs 2))).wr (Reg.ppNs 2) (s.rd (Reg.ppNs 1))).wr (Reg.ppNs 1) (s.rd (Reg.ppNs 0))).wr (Reg.ppNs 0) (s.now + 1)

/-- What the power plane does as it goes down (R25, R249; 04_satellite_link.md R193; 13_links.md R579): the rails' FAULT messages,
the last frames of the satellite ports, and a port in PRECHARGE to OPEN: no opening of R212, so that its CAUSE stays and no switch is judged by R213
(log entry 121: DESIGN CHOICE). -/
def State.ppLeave (s : State) : State :=
  let t := (forUnits 4 (fun r u => u.wsFault r 3) s).wsStop
  let u := forUnits 4 (fun p v => v.slStop p) t
  forUnits 2 (fun p v => if v.rpSt p = 1 then ((v.setFld (rpState p) 0).wr (Reg.rpGate p) 0).wr (Reg.rpRegMa p) 0 else v) u

/-- EN pins of a power-plane reset (16_balls_and_supplies.md R667): each drives its deasserted level under the EN_ACTIVE_LOW and EN_OPEN_DRAIN of
`old`, the part before. -/
def State.enDeassert (s old : State) : State :=
  let off := (forUnits 16 (fun k t => t.wr (Reg.enOn k) 0) old).enPins
  (forUnits 16 (fun k t => t.wr (Reg.enPin k) (off.rd (Reg.enPin k))) s).wr Reg.enLive (old.rd Reg.enLive)

/-- HOLD_US and HOLD_MAX_US take the length of the hold interval in force (R443). -/
def State.holdRecord (s : State) : State :=
  let us := satU 32 ((s.now - s.rd Reg.holdNs) / 1000)
  (s.wr Reg.HOLD_US us).wr Reg.HOLD_MAX_US (max (s.rd Reg.HOLD_MAX_US) us)

/-- A higher reset ends a hold interval that has begun before it (01_architecture.md R29; R443; log entry 108: DEDUCED). -/
def State.holdBroken (s : State) : State := s.when (s.on Reg.holdActive && decide (s.rd Reg.holdNs < s.now)) State.holdRecord

/-- What the power-plane reset notes of the part as it begins: the counts that a cold reset of this instant takes back (01_architecture.md R22),
and a sample of T0 that is due and would make it SHUTDOWN (08_sensing_and_thermal.md R360, R361, R376) (log entry 107: DEDUCED). -/
def State.ppNote (s : State) : State :=
  let t := (s.noteBefore [Reg.PP_RESETS, Reg.PP_SOURCE, Reg.RESTORE_STATE]).mark markPp 0 0
  let due := !s.on (Reg.tsNs 0) || s.since (s.rd (Reg.tsNs 0) - 1) (if s.bit (tsFast 0) then 100000 else 1000000)
  let rises := decide (s.fld (tsLevel 0) < 3) && (s.on (Reg.tsFirst 0) || decide (3 ≤ s.rd (Reg.tsRiseRun 0))) && !s.bit (tsBroken 0)
  t.when (due && rises) fun u => u.mark markT0 0 (u.rd (Reg.SHUT_CDEG 0))

/-- The power-plane reset begins (R436). -/
def State.ppStart (s0 : State) : State :=
  let s := s0.procUndo.holdBroken.ppNote
  let cause := if s.on Reg.ppHoldReq then 9 else 8
  let state := s.rd Reg.STATE
  let die := s.on Reg.ppDie
  let t := ((s.recordReset 2 cause).wr Reg.PP_SOURCE (s.rd Reg.ppSourceReq)).inc16 Reg.PP_RESETS
  let u := ((if 3 ≤ state then t.wr Reg.RESTORE_STATE state else t).stage 0x128 32 1).ppStamp
  let v := u.ppLeave.procDown 0x802 die
  let frozen := decide (v.rd Reg.CAP_STATE = 3)
  let w := v.forget (keptInPp frozen)
  let x := { w with
    raiseQ := [], reactions := [], anns := [], members := [], withdrawn := [], grants := [], dues := [], deferred := [], onOrder := [],
    shedList := [], powerIn := [], loopWrites := [], borrowed := [], lent := [],
    capFrames := if frozen then w.capFrames else [], capEvents := if frozen then w.capEvents else [] }
  let y := (x.setFld Bit.PROP_CTRL_CHG_EN 0).setFld prMode (if x.bit Bit.PROP_CTRL_ENABLE then 1 else 0)
  ((((y.enDeassert s).wr Reg.PL_STATUS (v.rd Reg.PL_STATUS)).wr Reg.ppReset 1).wr Reg.procReset 1).wrB Reg.ppDie die

/-- A start begins: it holds at t1 while a supply it needs is out of range (15_start_bist_standby.md R638; 16_balls_and_supplies.md R674,
R675). -/
def State.startBegins (s : State) (fromPp : Bool) : State :=
  let ok := s.bit (flag Reg.SUP_STATUS 0) && s.bit (flag Reg.SUP_STATUS 1) && (!fromPp || s.bit (flag Reg.SUP_STATUS 4))
  (((s.wr Reg.STATE 2).wrB Reg.startFromPp fromPp).wrB Reg.startHeld !ok).wr Reg.startNs s.now

/-- A reset under R368 has come to its end: THERM_LOCK sets and DIE_TRIPS counts (08_sensing_and_thermal.md R370). -/
def State.dieLock (s : State) : State :=
  if s.on Reg.ppDie then ((s.wr Reg.ppDie 0).wr Reg.THERM_LOCK 1).inc16 Reg.DIE_TRIPS else s

/-- The power plane leaves its reset and the part enters STARTING, with a notice of it (R436, R437; 12_dictionary.md R528; log entry 125: DESIGN
CHOICE); the supervision of the ring ports' pilots starts again
(05_ring_and_holdup.md R210). -/
def State.ppEnd (s : State) : State :=
  forUnits 2 (fun p t => t.rpSupervise p) ((((s.dieLock.wr Reg.ppReset 0).procEnd).startBegins true).notice ⟨s.timebase, 3, 0, 2, 0⟩)

/-! ### The cold reset (R440; 14_images_and_security.md R613, R625; 15_start_bist_standby.md R654, R656) -/

/-- The lower resets of this instant are not performed (01_architecture.md R22; R447): what they counted and recorded is taken back (log entry 107: DEDUCED). -/
def State.lowerUndone (s : State) : State :=
  s.putBack [Reg.PROC_RESETS, Reg.PP_RESETS, Reg.PP_SOURCE, Reg.RESTORE_STATE, Reg.SUP_RESETS, Reg.SUP_LAST]

/-- What a cold reset finds under way: the lower resets of its instant give way to it, an earlier one under R368 has been one
(08_sensing_and_thermal.md R370), and hold mode ends (01_architecture.md R22, R29; R443). -/
def State.coldFinds (s : State) : State := (s.lowerUndone.when (!s.markedNow markPp 0) State.dieLock).holdBroken

/-- A cold reset with its CAUSE, in which the core is powered (`powered`) or has lost its supply. `wake`: the wake source and the
seconds spent in STANDBY or OFF, when it comes from there. -/
def State.coldReset (s0 : State) (cause : Nat) (powered : Bool) (wake : Option (Nat × Nat)) : State :=
  let s := s0.coldFinds.saveSpoils.bootCut
  let held := s.on Reg.alwaysOn
  let sent := if held then s.rd Reg.domSend else s.rd Reg.domStored + 65536
  let age := s.lampAge + ((wake.map fun w => (w.2 : Int)).getD 0)
  let trial := s.trialS
  let runs := s.on Reg.trialNs
  let t := { State.reset with
    regs := s.regs, blobs := s.blobs, slots := s.slots, copies := s.copies, fresh := s.fresh, pending := s.pending, outbox := s.outbox }
  let u := (t.dropPdus.forget (keptInCold held)).wr Reg.domSend sent
  let v := if held then (((u.wr Reg.lrAge (satU 32 age)).wr Reg.lrAgeNs 0).wr Reg.TRIAL_S trial).wrB Reg.trialNs runs
    else (forUnits 64 (fun a w => w.wr (Reg.bcastRx a) (s.rd (Reg.bcastStored a))) u).wrB Reg.trialNs runs
  let w := match wake with
    | some (src, sec) =>
      let c := (((v.wr Reg.WAKE_SRC (src : Nat)).wr Reg.STBY_S (satU 32 sec)).inc32 Reg.WAKE_COUNT).wr Reg.wakePend 0
      if src = 5 then (c.wr Reg.twWakeNs (c.now + 1)).wrB Reg.twWakeGrp s.grouped else c
    | none => v
  let x := ((w.recordReset 3 cause).wr Reg.STBY_STATUS (if held then 0 else 2)).setBit (flag Reg.PL_STATUS 5) true
  let y := { x with live := ⟨x.baseImage.epoch, 5, 0, 0, x.baseImage.fields⟩ }
  let z := ((((y.wr Reg.alwaysOn 1).wr Reg.coldFirst 1).wr Reg.coldCause (cause : Nat)).wrB Reg.corePowered powered).wr Reg.nvmBusy 0
  if powered then ((z.startBegins false).stage 0x124 32 1).mark markCold 0 0 else z

end Sys2Proof.Machine
end

