-- ==== Sys2Proof/Machine/Reactions.lean ====
section
/-!
DEFINITION. The edges that follow a command (10_faults_watchdog_resets.md R416–R421): queued raises, the reaction primitives, the
sequencer's steps, at most one reset, a start that a removal of the core supply was waiting for, and the NVM manager's next
operation.
-/
namespace Sys2Proof.Machine

/-! ### The primitives (R417, R418) -/

/-- The local rail a context's FEED names (R418). -/
def State.feedRail (s : State) (n : Nat) : Option Nat := if s.feed n < 4 then some (s.feed n) else none

/-- The rail of an assigned phase (R418). -/
def State.phaseRail (s : State) (p : Nat) : Option Nat :=
  if s.bit (Bit.PHASE_CTRL_ASSIGNED p) then some (s.fld (Bit.PHASE_CTRL_RAIL p)) else none

/-- What SELF stands for (R418); none: it has no effect. -/
def State.selfTarget (s : State) (f prim : Nat) : Option Nat :=
  match prim with
  | 1 => if f < 48 then (s.phaseRail (f % 16)).map fun _ => f % 16 else none
  | 2 => if 96 ≤ f ∧ f < 112 then some (f - 96) else if 512 ≤ f then some (f - 512) else none
  | 3 => if 184 ≤ f ∧ f < 196 then some ((f - 184) % 2) else none
  | 5 =>
    if f < 48 then s.phaseRail (f % 16)
    else if f < 68 then some ((f - 48) % 4)
    else if 96 ≤ f ∧ f < 112 then s.feedRail (f - 96)
    else if 512 ≤ f then s.feedRail (f - 512)
    else none
  | _ => none

/-- The target of a primitive (R417, R418). -/
def State.reactTarget (s : State) (r : Reaction) : Option Nat := if r.arg = 0x3FF then s.selfTarget r.source r.prim else some r.arg

/-- RAIL_OFF (R417): an immediate disable, and the rail's enable is blocked. -/
def State.railOffBlock (s : State) (r : Nat) : State := ((s.railDisable r false).wr (Reg.rlOffBlock r) 1).wr Reg.seqDue 1

/-- A primitive acts (R417, R419). -/
def State.react (s : State) (r : Reaction) : State :=
  match r.prim with
  | 1 => ((s.reactTarget r).map fun p => s.cagePhase p 4).getD s
  | 2 => ((s.reactTarget r).map fun n => s.cageCtx n 9).getD s
  | 3 => ((s.reactTarget r).map fun p => if p = 2 then (s.rpReactOpen 0).rpReactOpen 1 else s.rpReactOpen p).getD s
  | 4 => s.holdEnter 4
  | 5 => ((s.reactTarget r).map fun q => s.railOffBlock q).getD s
  | 6 => s.wantReset 8
  | 7 => (s.wantPpReset r.source false).when (decide (r.source = 225)) fun t => t.wr Reg.ppHoldReq 1
  | _ => s

/-! ### The edges -/

/-- Nothing follows on the next edge, resets apart. -/
def State.calm (s : State) : Bool := s.raiseQ.isEmpty && s.reactions.isEmpty && !s.on Reg.seqDue

/-- A reset is due. -/
def State.resetDue (s : State) : Bool := s.on Reg.ppReqd || s.on Reg.procReqd

/-- The requests have been taken up. -/
def State.resetTaken (s : State) : State :=
  (((s.wr Reg.ppReqd 0).wr Reg.procReqd 0).wr Reg.ppSourceReq 0xFFFF).wr Reg.ppHoldReq 0

/-- The reactions of this edge that request a power-plane reset are among its sources (R438, R447). -/
def State.reactionsJoin (s : State) : State :=
  forAll (s.reactions.filter fun r => decide (r.prim = 7)) (fun r t => (t.wantPpReset r.source false).when (decide (r.source = 225)) fun u => u.wr Reg.ppHoldReq 1) s

/-- A cold reset begins at this instant: it alone is performed (01_architecture.md R22). -/
def State.coldNow (s : State) : Bool := s.markedNow markCold 0 && decide (s.rdN Reg.STATE = 2)

/-- The reset that is due begins: the power plane's before the processor plane's (01_architecture.md R22; R419, R434, R436). A request that
comes with a power-plane reset that has begun on this edge joins it (R438, R447). -/
def State.resetBegin (s : State) : State :=
  if !s.on Reg.corePowered then s.resetTaken
  else if s.coldNow then (s.wr Reg.ppDie 0).resetTaken
  else if s.on Reg.ppReset then
    (if s.on Reg.ppReqd && (s.marked markPp 0).isSome then
      (s.wr Reg.PP_SOURCE (min (s.rd Reg.PP_SOURCE) (s.rd Reg.ppSourceReq))).when (s.on Reg.ppHoldReq) fun t => t.recordReset 2 9
    else s).resetTaken
  else if s.on Reg.ppReqd then s.reactionsJoin.ppStart.resetTaken
  else (s.procStart (s.rdN Reg.procReqd)).resetTaken

/-- A raise that waited for the next edge (R416; 11_shaft_and_pit_log.md R487). -/
def State.raiseDue (s : State) (f : Nat) : State := if 1024 ≤ f then s.raiseAs (f - 1024) true else s.raise f

/-- One edge: a reset that is due begins; then the raises and the reactions that waited for the next edge act, and the sequencer follows. What
they lead to waits for the edge after (R416, R419; log entry 3: DEDUCED). -/
def State.edge (s : State) : State :=
  let t := if s.resetDue then s.resetBegin else s
  let u := { t with raiseQ := [], reactions := [], edgeNo := t.edgeNo + 1 }
  (forAll t.reactions (fun r v => v.react r) (forAll t.raiseQ (fun f v => v.raiseDue f) u)).seqSettle

/-- The edges that follow, until nothing is left for another (log entry 3: DEDUCED). -/
def State.drain (s : State) : Nat → State
  | 0 => s
  | n + 1 => if s.calm && !s.resetDue then s else s.edge.drain n

/-- The core is off with VSUP present, and a wake waits or the always-on domain has lost power: a start follows
(15_start_bist_standby.md R654, R656, R662). -/
def State.startDue (s : State) : Bool :=
  !s.on Reg.corePowered && s.on Reg.wakeWithPower && (s.on Reg.wakePend || !s.on Reg.alwaysOn)

/-- The start that was due (15_start_bist_standby.md R654). -/
def State.startNow (s : State) : State :=
  let src := s.rdN Reg.wakePend - 1
  s.coldReset (if src = 6 ∧ s.on Reg.wakePend = true then 2 else 1) true (if s.on Reg.wakePend && s.on Reg.alwaysOn then some (src, s.rdN Reg.STBY_S) else none)

/-- The NVM manager has work and does none. -/
def State.nvmIdleWork (s : State) : Bool :=
  s.procRuns && !s.on Reg.nvmBusy && !s.on Reg.nvmResetDue && (s.nvmOwner 0).isSome

/-- Nothing at all follows a command (log entry 3: DEDUCED). -/
def State.settled (s : State) : Bool := s.calm && !s.resetDue && !s.startDue && !s.nvmIdleWork && s.linkCalm

/-- Everything that follows from a command on the edges after it, and then at the polled ports (log entry 3: DEDUCED). -/
def State.settle (s : State) : State :=
  if s.settled then s
  else
    let t := s.drain 4096
    let u := if t.startDue then t.startNow.drain 4096 else t
    { (u.nvmKick 0).linkFollow with edgeNo := 0 }

/-- The outcome of a command: what it left, settled (log entry 3: DEDUCED). -/
def State.done (s : State) : Result := .next s.settle

/-- A command to the power plane, which a held reset ignores. -/
def State.ppDo (s : State) (f : State → State) : Result := if s.ppRuns then (f s).done else .next s

/-- A command to the processor plane, which a reset and hold mode ignore. -/
def State.procDo (s : State) (f : State → State) : Result := if s.procRuns then (f s).done else .next s

/-- An event that the ring ports' isolation logic or the clock and reset unit sees: neither is in reset with the power plane
(01_architecture.md R14, R25). -/
def State.coreDo (s : State) (f : State → State) : Result := if s.on Reg.corePowered then (f s).done else .next s

/-- A cause of a processor reset that the watchdog or the deputy recognises: on the edge on which another has begun one, too (R434). -/
def State.causeDo (s : State) (f : State → State) : Result :=
  if s.on Reg.corePowered && !s.on Reg.ppReset && (!s.on Reg.procReset || (s.marked markProc 0).isSome) then (f s).done else .next s

/-- A command to the watchdog or the deputy, which run from the end of a reset on, in hold mode too (R425, R426). -/
def State.wdDo (s : State) (f : State → State) : Result :=
  if s.on Reg.corePowered && !s.on Reg.procReset && !s.on Reg.ppReset then (f s).done else .next s

/-- A command that comes with another cause of a processor reset (R434): it joins with what `g` does where `f`, on the part as that reset found it,
requests one; otherwise it runs as `run` has it. -/
def State.orJoins (s : State) (f g : State → State) (run : Result) : Result :=
  if s.procBegun && (f s.watchBack).on Reg.procReqd then (g s).done else run

end Sys2Proof.Machine
end

