-- ==== Sys2Proof/Machine/Checks.lean ====
section
/-!
DEFINITION. The consistency checks that the chapters place on a commit (12_dictionary.md R502 step 9), each with the objects that
it names. A commit of an object is judged by the checks that name it, and the load of the stored configuration by all
that name a loaded field (R709).
-/
namespace Sys2Proof.Machine

/-- The consistency checks. -/
inductive CheckId where
  | order (r : Nat) | phaseIsc (p : Nat) | phaseCs (p : Nat) | setpoint (r : Nat) | lightAdd (r : Nat) | lightBurst (r : Nat)
  | ctxIsc (n : Nat) | ctxInrush (n : Nat) | ctxShunt (n : Nat) | binding (n : Nat)
  | ringDir (p : Nat) | ringShunt (p : Nat) | prop (k : Nat) | propRing (p : Nat) | tallyIn
  | shareBw (g : Nat) | shareHops (g : Nat) | slotIn (p : Nat) | groupIds
  | loop | slotPhase (j : Nat) | duty | scan | scanInput (i : Nat) | monitor (m : Nat) | backup (x : Nat) | levels (x : Nat) | pinRange (x : Nat)
  | deps (k : Nat) | depCycle | sameTarget (k : Nat) | nodePg (k : Nat) | nodeTarget (k : Nat) | loss
  | gallery (g : Nat) | reserves | postFrames | reactEntry (e : Nat) | reactChain (e : Nat) | reactSelf (f : Nat) | reactSelfs
  | canBits (k : Nat)
  deriving DecidableEq, Repr

/-! ### What each check asks -/

/-- A set-point is zero or valid at a gain (02_converter_core.md R56). -/
def pointOk (mv gain : Int) : Bool := decide (mv = 0) || (decide (2500000 ≤ mv * gain) && decide (mv * gain ≤ 16000000))

/-- All set-points of a rail are valid, as written and as margined (02_converter_core.md R56, R57; 09_sequencing_and_states.md
R403). -/
def State.pointsOk (s : State) (r : Nat) : Bool :=
  (List.range 8).all fun i =>
    let v := s.rd (Reg.SETPOINT r i)
    let g := s.rd (Reg.SENSE_GAIN r)
    pointOk v g && pointOk (roundDiv (v * (1000 + s.rd (Reg.MARGIN r))) 1000) g

/-- The assigned phases of rail `r` have unique ORDER (02_converter_core.md R41). -/
def State.ordersOk (s : State) (r : Nat) : Bool :=
  let l := (s.phasesOf r).map fun p => s.fld (Bit.PHASE_CTRL_ORDER p)
  decide l.Nodup

/-- The nodes that node `k` depends on. -/
def State.depsOf (s : State) (k : Nat) : List Nat := (List.range 64).filter fun i => decide (s.rdN (Reg.DEPS k) / 2 ^ i % 2 = 1)

/-- Remove from a set of nodes, as long as something goes, those that depend on none of it or on which none
of it depends; what stays lies on a cycle or between two. -/
def State.depCore (s : State) : Nat → List Nat → List Nat
  | 0, l => l
  | n + 1, l =>
    let k := l.filter fun i => ((s.depsOf i).any fun j => l.contains j) && (l.any fun j => (s.depsOf j).contains i)
    if k.length = l.length then l else s.depCore n k

/-- The entries of the reaction chain from entry `e` on, as far as five (10_faults_watchdog_resets.md R420). -/
def State.chainFrom (s : State) : Nat → Nat → List Nat
  | 0, _ => []
  | n + 1, e => if e = 0 then [] else e :: s.chainFrom n (s.fld (Bit.REACT_NEXT (e - 1)))

/-- ARG of a primitive lies in its range (10_faults_watchdog_resets.md R417, R420). -/
def argOk (prim arg : Nat) : Bool :=
  match prim with
  | 1 => decide (arg ≤ 15) || decide (arg = 0x3FF)
  | 2 => decide (arg ≤ 511) || decide (arg = 0x3FF)
  | 3 => decide (arg ≤ 2) || decide (arg = 0x3FF)
  | 5 => decide (arg ≤ 3) || decide (arg = 0x3FF)
  | _ => decide (prim ≤ 7) && decide (arg = 0)

/-- SELF has a meaning for a primitive and a source (10_faults_watchdog_resets.md R418). -/
def selfMeans (f prim : Nat) : Bool :=
  match prim with
  | 1 => decide (f < 48)
  | 2 => (decide (96 ≤ f) && decide (f < 112)) || decide (512 ≤ f)
  | 3 => decide (184 ≤ f) && decide (f < 196)
  | 5 => decide (f < 68) || (decide (96 ≤ f) && decide (f < 112)) || decide (512 ≤ f)
  | _ => true

/-- The chain of a source holds SELF only where it has a meaning (10_faults_watchdog_resets.md R420). -/
def State.selfOk (s : State) (f : Nat) : Bool :=
  (s.chainFrom 5 (s.fld (Bit.SRC_CTRL_REACTION f))).all fun e =>
    decide (s.fld (Bit.REACT_ARG (e - 1)) ≠ 0x3FF) || selfMeans f (s.fld (Bit.REACT_PRIM (e - 1)))

/-- The slots of the scan table. -/
def scanSlots : List (Nat × Nat) := (List.range 2).flatMap fun u => (List.range 128).map fun i => (u, i)

/-- The NTC temperature at `uv` microvolts is at or above (`up`), or at or below, `cdeg` (08_sensing_and_thermal.md R359, R373). -/
def State.ntcReaches (s : State) (x : Nat) (uv cdeg : Int) (up : Bool) : Bool :=
  let l := lnRatio 80 (s.rd (Reg.PULLUP_OHM x) * uv) ((1600000 - uv) * s.rd (Reg.NTC25_OHM x))
  let b := s.rd (Reg.BETA_K x)
  let den := 20 * one64 * b + 5963 * l
  if up then decide (den ≤ 0) || decide ((cdeg + 27315) * den ≤ 596300 * one64 * b)
  else decide (0 < den) && decide (596300 * one64 * b ≤ (cdeg + 27315) * den)

/-- Quanta of a CAN bit: nominal, then data (13_links.md R547). -/
def State.canQuanta (s : State) (k : Nat) : Int × Int :=
  (s.rd (Reg.NOM_BRP k) * (1 + s.rd (Reg.NOM_TSEG1 k) + s.rd (Reg.NOM_TSEG2 k)),
   s.rd (Reg.DATA_BRP k) * (1 + s.rd (Reg.DATA_TSEG1 k) + s.rd (Reg.DATA_TSEG2 k)))

/-- Whether a check passes (log entry 32: DEDUCED). -/
def State.checkOk (s : State) : CheckId → Bool
  -- 02_converter_core.md R41, R45, R56, R57, R70; 09_sequencing_and_states.md R403
  | .order r => s.ordersOk r
  | .phaseIsc p => decide (3 * s.rd (Reg.ILIM_VALLEY_MA p) ≤ 2 * s.rd (Reg.Phase_ISC_MA p))
  | .phaseCs p => decide (s.rd (Reg.CS_ZERO_MV p) * 1000000 + s.rd (Reg.Phase_ISC_MA p) * s.rd (Reg.CS_GAIN_UV p) ≤ 1500000000)
  | .setpoint r => s.pointsOk r
  | .lightAdd r => decide (9 * s.rd (Reg.SHED_MA r) ≤ 4 * s.rd (Reg.ADD_MA r))
  | .lightBurst r => decide (3 * s.rd (Reg.BURST_ENTRY_MA r) ≤ 2 * s.rd (Reg.BURST_EXIT_MA r))
  -- 03_load_channels.md R110, R113
  | .ctxIsc n => decide (5 * s.rd (Reg.ILIM_MA n) ≤ 4 * s.rd (Reg.Ctx_ISC_MA n))
  | .ctxInrush n => decide (s.rd (Reg.INRUSH_MA n) ≤ s.rd (Reg.ILIM_MA n))
  | .ctxShunt n => decide (16 ≤ n) || decide (s.rd (Reg.Ctx_ISC_MA n) * s.rd (Reg.Ctx_SHUNT_UOHM n) ≤ 100000000)
  | .binding n => decide (n < 16) || !s.valid n || ((List.range 496).all fun i =>
      decide (i + 16 = n) || !s.valid (i + 16) || decide (s.position (i + 16) ≠ s.position n) || decide (s.channel (i + 16) ≠ s.channel n))
  -- 05_ring_and_holdup.md R222, R244
  | .ringDir p => decide (s.rd (Reg.ISO_DIR_MA p) < s.rd (Reg.ISO_MAX_MA p))
  | .ringShunt p => decide (max (s.rd (Reg.ISO_MAX_MA p)) (s.rd (Reg.ISO_IN_MA p)) * s.rd (Reg.Ring_SHUNT_UOHM p) ≤ 45000000)
  | .prop 0 => decide (s.rd Reg.HOLD_ENTRY_MV + 500 ≤ s.rd Reg.HOLD_MV)
  | .prop 1 => decide (s.rd Reg.HOLD_MV + 1000 ≤ s.rd Reg.HOLD_EXIT_MV)
  | .prop 2 => decide (s.rd Reg.STORE_MIN_MV < s.rd Reg.STORE_RESERVE_MV) && decide (s.rd Reg.STORE_RESERVE_MV ≤ s.rd Reg.CHG_VMAX_MV) &&
      decide (s.rd Reg.CHG_VMAX_MV < s.rd Reg.STORE_OVP_MV)
  | .prop _ => decide (4000000 * s.rd Reg.PCS_ZERO_MV + 5 * s.rd Reg.PROP_ILIM_MA * s.rd Reg.PCS_GAIN_UV ≤ 6000000000)
  | .propRing p => !s.bit (Bit.RP_CTRL_ENABLE p) || decide (s.rd (Reg.VRING_UV_MV p) + 2000 ≤ s.rd Reg.HOLD_MV)
  -- 06_tally_and_sharing.md R280, R286, R290; 13_links.md R580
  | .tallyIn => !s.bit Bit.TALLY_CTRL_ENABLE || decide (s.fld Bit.TALLY_CTRL_IN_SRC ≠ 0) || s.bit (Bit.RP_CTRL_ENABLE 0) || s.bit (Bit.RP_CTRL_ENABLE 1)
  | .shareBw g => decide (4 * s.rd (Reg.SHARE_BW_HZ g) ≤ s.rd (Reg.DC_INTEG_HZ g))
  | .shareHops g => decide (s.rd (Reg.SHARE_BW_HZ g) * (10 + s.fld (Bit.GROUP_CTRL_EXPECT_MEMBERS g)) ≤ 30000)
  | .slotIn p => !s.bit (Bit.PHASE_CTRL_ASSIGNED p) || decide (s.rd (Reg.GROUP_SLOT p) < s.rd (Reg.N_SLOTS (s.fld (Bit.PHASE_CTRL_RAIL p))))
  | .groupIds => (List.range 4).all fun r => (List.range r).all fun q =>
      !s.shared r || !s.shared q || decide (s.fld (Bit.GROUP_CTRL_GROUP_ID r) ≠ s.fld (Bit.GROUP_CTRL_GROUP_ID q))
  -- 07_loop_engine.md R298, R327, R329
  | .loop => s.loopChecks
  | .slotPhase j => decide (s.rd (Reg.PHASE j) < s.rd (Reg.DIV j))
  | .duty => decide (((List.range 64).map fun i => s.rd (Reg.DUTY_CTX i)).filter fun v => v ≠ 65535).Nodup
  -- 08_sensing_and_thermal.md R342, R350, R367, R373
  | .scan => decide (slotUse (s.slotsOf false) ≤ 9 * s.rdN Reg.SCAN_PERIOD_US) && decide (slotUse (s.slotsOf true) ≤ 18 * s.rdN Reg.SCAN_PERIOD_US / 10)
  | .scanInput e => !s.bit (Bit.ScanTab_ENTRY_EN (e / 128) (e % 128)) ||
      (decide (s.fld (Bit.ScanTab_ENTRY_INPUT (e / 128) (e % 128)) ≤ 95) && decide (s.fld (Bit.ScanTab_ENTRY_INPUT (e / 128) (e % 128)) ≠ 90))
  | .monitor m =>
      let w := s.rd (Reg.HI_CODE m) - s.rd (Reg.LO_CODE m)
      let h : Int := match s.fld (Bit.WM_CTRL_HYS m) with
        | 0 => 0
        | 1 => 4
        | 2 => 8
        | _ => 16
      decide (2 ≤ w) && decide (s.rd (Reg.INPUT m) ≠ 90) &&
        (if s.fld (Bit.WM_CTRL_MODE m) = 2 then decide (2 * h + 2 ≤ w) else decide (h = 0))
  | .backup x => decide (s.rd (Reg.BACKUP x) = 255) || (decide (s.rdN (Reg.BACKUP x) ≠ x) && s.tsOn (s.rdN (Reg.BACKUP x)))
  | .levels x => decide (s.rd (Reg.WARN_CDEG x) + s.rd (Reg.HYST_CDEG x) ≤ s.rd (Reg.THR_CDEG x)) &&
      decide (s.rd (Reg.THR_CDEG x) + s.rd (Reg.HYST_CDEG x) ≤ s.rd (Reg.SHUT_CDEG x))
  | .pinRange x => decide (x = 0) || (s.ntcReaches x 32000 (s.rd (Reg.SHUT_CDEG x)) true && s.ntcReaches x 1568000 (s.rd (Reg.SHUT_CDEG x)) false)
  -- 09_sequencing_and_states.md R384, R401
  | .deps k => (s.depsOf k).all fun i => decide (i ≠ k) && decide (s.nodeType i ≠ 0)
  | .depCycle => (s.depCore 65 (List.range 64)).isEmpty
  | .sameTarget k => !(decide (s.nodeType k = 1) || decide (s.nodeType k = 2)) || ((List.range 64).all fun i =>
      decide (i = k) || decide (s.nodeType i ≠ s.nodeType k) || decide (s.fld (Bit.NODE_CTRL_TARGET i) ≠ s.fld (Bit.NODE_CTRL_TARGET k)))
  | .nodePg k => decide (s.nodeType k ≠ 1) || decide (s.rd (Reg.PG_SRC k) < 0x40) || decide (0x4F < s.rd (Reg.PG_SRC k))
  | .nodeTarget k => (decide (s.nodeType k ≠ 1) || decide (s.fld (Bit.NODE_CTRL_TARGET k) ≤ 3)) &&
      (decide (s.nodeType k ≠ 3) || decide (s.fld (Bit.NODE_CTRL_TARGET k) = 0))
  | .loss => decide (s.rd Reg.LOSS_STORE_MV = 0) || decide (s.rd Reg.STORE_MIN_MV + 1000 < s.rd Reg.LOSS_STORE_MV)
  -- 11_shaft_and_pit_log.md R454, R472
  | .gallery g => decide (s.rd (Reg.RESERVE g) ≤ s.rd (Reg.QUOTA g)) &&
      (match s.rd (Reg.CLASS g) with
        | 0 => decide (12 ≤ g ∧ g ≤ 15) || decide (27 ≤ g ∧ g ≤ 31) || decide (2 ≤ s.rd (Reg.RESERVE g))
        | 1 => true
        | _ => decide (s.rd (Reg.RESERVE g) = s.rd (Reg.QUOTA g))) && (decide (g ≠ 20) || decide (16 ≤ s.rd (Reg.QUOTA g)))
  | .reserves => decide ((List.range 64).foldl (fun t g => t + s.rd (Reg.RESERVE g)) 0 ≤ 16384)
  | .postFrames => decide (s.rd Reg.POST_FRAMES ≤ s.capMax - 1)
  -- 10_faults_watchdog_resets.md R420
  | .reactEntry e => argOk (s.fld (Bit.REACT_PRIM e)) (s.fld (Bit.REACT_ARG e))
  | .reactChain e => decide ((s.chainFrom 5 (e + 1)).length ≤ 4)
  | .reactSelf f => s.selfOk f
  | .reactSelfs => (List.range 1024).all fun f => s.selfOk f
  -- 13_links.md R547
  | .canBits k => decide (160 ≤ (s.canQuanta k).1) && decide (20 ≤ (s.canQuanta k).2) &&
      decide (s.rd (Reg.NOM_SJW k) ≤ s.rd (Reg.NOM_TSEG2 k)) && decide (s.rd (Reg.DATA_SJW k) ≤ s.rd (Reg.DATA_TSEG2 k)) &&
      decide (s.rd (Reg.TDC_OFFSET k) ≤ s.rd (Reg.DATA_TSEG1 k) + 1)

/-! ### Which checks name an object -/

/-- The checks that name a sub-index of one of the objects of the converter, the ring and the groups. -/
def State.checksPower (s : State) (idx sub : Nat) : List CheckId :=
  let k := odKey idx sub
  if 0x2000 ≤ idx ∧ idx < 0x2004 then
    let r := idx - 0x2000
    if k = Reg.SENSE_GAIN r ∨ (List.range 8).any fun i => k = Reg.SETPOINT r i then [.setpoint r]
    else if k = Reg.RAIL_CTRL r then [.groupIds]
    else if k = Reg.DC_INTEG_HZ r then [.shareBw r]
    else if k = Reg.SLEW_PROFILE r then [.loop] else []
  else if 0x2010 ≤ idx ∧ idx < 0x2020 then
    let p := idx - 0x2010
    if k = Reg.PHASE_CTRL p then [.order (s.fld (Bit.PHASE_CTRL_RAIL p)), .slotIn p]
    else if k = Reg.ILIM_VALLEY_MA p then [.phaseIsc p]
    else if k = Reg.Phase_ISC_MA p then [.phaseIsc p, .phaseCs p]
    else if k = Reg.CS_ZERO_MV p ∨ k = Reg.CS_GAIN_UV p then [.phaseCs p]
    else if k = Reg.GROUP_SLOT p then [.slotIn p] else []
  else if idx = 0x2020 then
    (((List.range 4).filter fun r => k = Reg.SHED_MA r ∨ k = Reg.ADD_MA r).map CheckId.lightAdd) ++
      (((List.range 4).filter fun r => k = Reg.BURST_ENTRY_MA r ∨ k = Reg.BURST_EXIT_MA r).map CheckId.lightBurst)
  else if idx = 0x2100 then
    (if k = Reg.HOLD_ENTRY_MV then [.prop 0] else []) ++ (if k = Reg.HOLD_MV then [.prop 0, .prop 1, .propRing 0, .propRing 1] else []) ++
      (if k = Reg.HOLD_EXIT_MV then [.prop 1] else []) ++
      (if k = Reg.STORE_MIN_MV then [.prop 2, .loss] else []) ++
      (if k = Reg.STORE_RESERVE_MV ∨ k = Reg.CHG_VMAX_MV ∨ k = Reg.STORE_OVP_MV then [.prop 2] else []) ++
      (if k = Reg.PCS_ZERO_MV ∨ k = Reg.PROP_ILIM_MA ∨ k = Reg.PCS_GAIN_UV then [.prop 3] else [])
  else if 0x2200 ≤ idx ∧ idx < 0x2202 then
    let p := idx - 0x2200
    if k = Reg.RP_CTRL p then [.propRing p, .tallyIn]
    else if k = Reg.VRING_UV_MV p then [.propRing p]
    else if k = Reg.ISO_DIR_MA p then [.ringDir p]
    else if k = Reg.ISO_MAX_MA p then [.ringDir p, .ringShunt p]
    else if k = Reg.ISO_IN_MA p ∨ k = Reg.Ring_SHUNT_UOHM p then [.ringShunt p] else []
  else if 0x2300 ≤ idx ∧ idx < 0x2304 then
    let g := idx - 0x2300
    if k = Reg.GROUP_CTRL g then [.shareHops g, .groupIds]
    else if k = Reg.N_SLOTS g then ((List.range 16).filter fun p => s.assigned g p).map CheckId.slotIn
    else if k = Reg.SHARE_BW_HZ g then [.shareBw g, .shareHops g] else []
  else []

/-- The checks that name a sub-index of one of the other objects. -/
def checksRest (idx sub : Nat) : List CheckId :=
  let k := odKey idx sub
  if 0x3000 ≤ idx ∧ idx < 0x3200 then
    let n := idx - 0x3000
    if k = Reg.ILIM_MA n then [.ctxIsc n, .ctxInrush n]
    else if k = Reg.Ctx_ISC_MA n then [.ctxIsc n, .ctxShunt n]
    else if k = Reg.INRUSH_MA n then [.ctxInrush n]
    else if n < 16 ∧ k = Reg.Ctx_SHUNT_UOHM n then [.ctxShunt n]
    else if 16 ≤ n ∧ k = Reg.BINDING n then [.binding n] else []
  else if idx = 0x3300 then if k = Reg.TALLY_CTRL then [.tallyIn] else []
  else if 0x3400 ≤ idx ∧ idx < 0x3440 then
    let n := idx - 0x3400
    if k = Reg.NODE_CTRL n then [.sameTarget n, .nodePg n, .nodeTarget n] ++ (List.range 64).map CheckId.deps
    else if k = Reg.DEPS n then [.deps n, .depCycle]
    else if k = Reg.PG_SRC n then [.nodePg n] else []
  else if idx = 0x3440 then if 1 ≤ sub ∧ sub ≤ 4 then [.setpoint (sub - 1)] else []
  else if idx = 0x3441 then if k = Reg.LOSS_STORE_MV then [.loss] else []
  else if 0x3500 ≤ idx ∧ idx < 0x3530 then
    let m := idx - 0x3500
    if k = Reg.WM_CTRL m ∨ k = Reg.INPUT m ∨ k = Reg.LO_CODE m ∨ k = Reg.HI_CODE m then [.monitor m] else []
  else if 0x3601 ≤ idx ∧ idx < 0x360E then
    let x := idx - 0x3601
    if k = Reg.TS_CTRL x then (List.range 13).map CheckId.backup
    else if k = Reg.BACKUP x then [.backup x]
    else if k = Reg.WARN_CDEG x ∨ k = Reg.THR_CDEG x ∨ k = Reg.HYST_CDEG x then [.levels x]
    else if k = Reg.SHUT_CDEG x then [.levels x, .pinRange x]
    else if k = Reg.PULLUP_OHM x ∨ k = Reg.NTC25_OHM x ∨ k = Reg.BETA_K x then [.pinRange x] else []
  else if idx = 0x3700 then if k = Reg.SCAN_LEN ∨ k = Reg.SCAN_PERIOD_US then [.scan] else []
  else if 0x3702 ≤ idx ∧ idx ≤ 0x3703 then [.scanInput ((idx - 0x3702) * 128 + (sub - 1)), .scan]
  else if 0x3800 ≤ idx ∧ idx < 0x3880 then
    let j := idx - 0x3800
    if k = Reg.SLOT_CTRL j ∨ k = Reg.START j ∨ k = Reg.BUDGET_CYC j ∨ k = Reg.SIG_BASE j ∨ k = Reg.ACT_BASE j then [.loop]
    else if k = Reg.DIV j ∨ k = Reg.PHASE j then [.slotPhase j] else []
  else if idx = 0x3880 ∨ idx = 0x3881 ∨ idx = 0x3882 then [.loop]
  else if idx = 0x3883 then [.duty, .loop]
  else if 0x4000 ≤ idx ∧ idx < 0x4400 then if sub = 1 then [.reactSelf (idx - 0x4000)] else []
  else if idx = 0x4400 then if 1 ≤ sub ∧ sub ≤ 31 then [.reactEntry (sub - 1), .reactSelfs] ++ (List.range 31).map CheckId.reactChain else []
  else if 0x5000 ≤ idx ∧ idx < 0x5040 then
    let g := idx - 0x5000
    if k = Reg.RESERVE g then [.gallery g, .reserves]
    else if k = Reg.QUOTA g then if g = 20 then [.gallery g, .postFrames] else [.gallery g] else []
  else if idx = 0x5080 then if k = Reg.POST_FRAMES then [.postFrames] else []
  else if 0x1120 ≤ idx ∧ idx ≤ 0x1121 then [.canBits (idx - 0x1120)]
  else []

/-- The checks made on a commit of a sub-index. -/
def State.checksOn (s : State) (idx sub : Nat) : List CheckId := if idx < 0x3000 ∧ 0x2000 ≤ idx then s.checksPower idx sub else checksRest idx sub

/-! ### Which fields a check names (12_dictionary.md R709) -/

/-- The whole of a register. -/
def whole (k : Nat) : Bits := ⟨k, 0, 0⟩

/-- The fields a check names. -/
def State.checkNames (s : State) : CheckId → List Bits
  | .order r => (s.phasesOf r).flatMap fun p => [Bit.PHASE_CTRL_ORDER p, Bit.PHASE_CTRL_ASSIGNED p, Bit.PHASE_CTRL_RAIL p]
  | .phaseIsc p => [whole (Reg.Phase_ISC_MA p), whole (Reg.ILIM_VALLEY_MA p)]
  | .phaseCs p => [whole (Reg.Phase_ISC_MA p), whole (Reg.CS_ZERO_MV p), whole (Reg.CS_GAIN_UV p)]
  | .setpoint r => whole (Reg.SENSE_GAIN r) :: (List.range 8).map fun i => whole (Reg.SETPOINT r i)
  | .lightAdd r => [whole (Reg.SHED_MA r), whole (Reg.ADD_MA r)]
  | .lightBurst r => [whole (Reg.BURST_ENTRY_MA r), whole (Reg.BURST_EXIT_MA r)]
  | .ctxIsc n => [whole (Reg.Ctx_ISC_MA n), whole (Reg.ILIM_MA n)]
  | .ctxInrush n => [whole (Reg.INRUSH_MA n), whole (Reg.ILIM_MA n)]
  | .ctxShunt n => [whole (Reg.Ctx_ISC_MA n), whole (Reg.Ctx_SHUNT_UOHM n)]
  | .binding n => (List.range 496).flatMap fun i =>
      if s.valid (i + 16) = true ∧ s.position (i + 16) = s.position n ∧ s.channel (i + 16) = s.channel n then
        [Bit.BINDING_VALID (i + 16), Bit.BINDING_POSITION (i + 16), Bit.BINDING_CHANNEL (i + 16)] else []
  | .ringDir p => [whole (Reg.ISO_DIR_MA p), whole (Reg.ISO_MAX_MA p)]
  | .ringShunt p => [whole (Reg.ISO_MAX_MA p), whole (Reg.ISO_IN_MA p), whole (Reg.Ring_SHUNT_UOHM p)]
  | .prop 0 => [whole Reg.HOLD_ENTRY_MV, whole Reg.HOLD_MV]
  | .prop 1 => [whole Reg.HOLD_MV, whole Reg.HOLD_EXIT_MV]
  | .prop 2 => [whole Reg.STORE_MIN_MV, whole Reg.STORE_RESERVE_MV, whole Reg.CHG_VMAX_MV, whole Reg.STORE_OVP_MV]
  | .prop _ => [whole Reg.PCS_ZERO_MV, whole Reg.PROP_ILIM_MA, whole Reg.PCS_GAIN_UV]
  | .propRing p => [whole Reg.HOLD_MV, whole (Reg.VRING_UV_MV p), Bit.RP_CTRL_ENABLE p]
  | .tallyIn => [Bit.TALLY_CTRL_ENABLE, Bit.TALLY_CTRL_IN_SRC, Bit.RP_CTRL_ENABLE 0, Bit.RP_CTRL_ENABLE 1]
  | .shareBw g => [whole (Reg.SHARE_BW_HZ g), whole (Reg.DC_INTEG_HZ g)]
  | .shareHops g => [whole (Reg.SHARE_BW_HZ g), Bit.GROUP_CTRL_EXPECT_MEMBERS g]
  | .slotIn p => [whole (Reg.GROUP_SLOT p), whole (Reg.N_SLOTS (s.fld (Bit.PHASE_CTRL_RAIL p))), Bit.PHASE_CTRL_ASSIGNED p, Bit.PHASE_CTRL_RAIL p]
  | .groupIds => (List.range 4).flatMap fun r => [Bit.RAIL_CTRL_SHARED r, Bit.GROUP_CTRL_GROUP_ID r]
  | .loop => (whole Reg.PROGRAM :: (List.range 128).flatMap fun j =>
      [Bit.SLOT_CTRL_ENABLE j, whole (Reg.START j), whole (Reg.BUDGET_CYC j), whole (Reg.SIG_BASE j), whole (Reg.ACT_BASE j)]) ++
      ((List.range 4).map fun r => whole (Reg.SLEW_PROFILE r)) ++ ((List.range 64).map fun i => whole (Reg.DUTY_CTX i)) ++
      (List.range 2).flatMap fun l => [Bit.LANE_CTRL_TRIG l, whole (Reg.FRAME_NS l)]
  | .slotPhase j => [whole (Reg.PHASE j), whole (Reg.DIV j)]
  | .duty => (List.range 64).map fun i => whole (Reg.DUTY_CTX i)
  | .scan => whole Reg.SCAN_LEN :: whole Reg.SCAN_PERIOD_US :: scanSlots.map fun e => whole (Reg.ScanTab_ENTRY e.1 e.2)
  | .scanInput e => [whole (Reg.ScanTab_ENTRY (e / 128) (e % 128))]
  | .monitor m => [Bit.WM_CTRL_MODE m, Bit.WM_CTRL_HYS m, whole (Reg.INPUT m), whole (Reg.LO_CODE m), whole (Reg.HI_CODE m)]
  | .backup x => [whole (Reg.BACKUP x), Bit.TS_CTRL_ENABLE (s.rdN (Reg.BACKUP x))]
  | .levels x => [whole (Reg.WARN_CDEG x), whole (Reg.THR_CDEG x), whole (Reg.SHUT_CDEG x), whole (Reg.HYST_CDEG x)]
  | .pinRange x => [whole (Reg.SHUT_CDEG x), whole (Reg.PULLUP_OHM x), whole (Reg.NTC25_OHM x), whole (Reg.BETA_K x)]
  | .deps k => whole (Reg.DEPS k) :: (s.depsOf k).map Bit.NODE_CTRL_TYPE
  | .depCycle => (s.depCore 65 (List.range 64)).map fun k => whole (Reg.DEPS k)
  | .sameTarget k => ((List.range 64).filter fun i => decide (s.nodeType i = s.nodeType k) && decide (s.fld (Bit.NODE_CTRL_TARGET i) = s.fld (Bit.NODE_CTRL_TARGET k))).flatMap
      fun i => [Bit.NODE_CTRL_TYPE i, Bit.NODE_CTRL_TARGET i]
  | .nodePg k => [Bit.NODE_CTRL_TYPE k, whole (Reg.PG_SRC k)]
  | .nodeTarget k => [Bit.NODE_CTRL_TYPE k, Bit.NODE_CTRL_TARGET k]
  | .loss => [whole Reg.LOSS_STORE_MV, whole Reg.STORE_MIN_MV]
  | .gallery g => [whole (Reg.RESERVE g), whole (Reg.QUOTA g)]
  | .reserves => (List.range 64).map fun g => whole (Reg.RESERVE g)
  | .postFrames => [whole Reg.POST_FRAMES, whole (Reg.QUOTA 20)]
  | .reactEntry e => [Bit.REACT_PRIM e, Bit.REACT_ARG e]
  | .reactChain e => (s.chainFrom 5 (e + 1)).map fun x => Bit.REACT_NEXT (x - 1)
  | .reactSelf f => Bit.SRC_CTRL_REACTION f :: (s.chainFrom 5 (s.fld (Bit.SRC_CTRL_REACTION f))).flatMap fun x => [Bit.REACT_PRIM (x - 1), Bit.REACT_ARG (x - 1), Bit.REACT_NEXT (x - 1)]
  | .reactSelfs => (List.range 1024).flatMap fun f => if s.selfOk f then [] else
      Bit.SRC_CTRL_REACTION f :: (s.chainFrom 5 (s.fld (Bit.SRC_CTRL_REACTION f))).flatMap fun x => [Bit.REACT_PRIM (x - 1), Bit.REACT_ARG (x - 1), Bit.REACT_NEXT (x - 1)]
  | .canBits k => [Reg.NOM_BRP k, Reg.NOM_TSEG1 k, Reg.NOM_TSEG2 k, Reg.NOM_SJW k, Reg.DATA_BRP k, Reg.DATA_TSEG1 k, Reg.DATA_TSEG2 k, Reg.DATA_SJW k,
      Reg.TDC_OFFSET k].map whole

end Sys2Proof.Machine
end

