-- ==== Sys2Proof/Machine/Layout.lean ====
section
/-!
DEFINITION. The stored configuration (12_dictionary.md R493, R494, R708; 14_images_and_security.md R590): which sub-indexes hold
configuration fields, the copy a SAVE takes, and CFG_CRC.
-/
namespace Sys2Proof.Machine

/-- A field of access RW or RWS that R493 does not leave out: CMD and CAGE_REQ of contexts, CAGE_REQ of phases, CHG_EN. -/
def FieldRow.stored (f : FieldRow) : Bool :=
  (decide (f.acc = .rw) || decide (f.acc = .rws)) && !(["CMD", "CAGE_REQ", "CHG_EN"].contains f.name)

/-- A sub-index holds configuration fields (R493): the margins and the objects of the always-on domain are left out. -/
def SubRow.storedAt (row : SubRow) (idx sub : Nat) : Bool :=
  decide (idx ≠ 0x3440) && !inAlwaysOn idx sub &&
    (decide (row.acc = .rw) || decide (row.acc = .rws) || (decide (row.acc = .fields) && row.fields.any FieldRow.stored))

/-- The configuration fields of a value, every other bit taken as 0 (R708). -/
def SubRow.storedPart (row : SubRow) (v : Int) : Int :=
  if row.fields.isEmpty then v
  else row.fields.foldl (fun t f => if f.stored then withBits t f.lo (f.hi - f.lo + 1) (bitsOf v f.lo (f.hi - f.lo + 1)) else t) 0

/-- The sub-indexes with configuration fields, in ascending index and sub-index. -/
def storedSubs : List (Nat × Nat × SubRow) :=
  allObjects.flatMap fun o => (List.range o.count).flatMap fun u => o.subs.flatMap fun row =>
    ((List.range (row.s1 + 1 - row.s0)).filter fun i => row.storedAt (o.base + u) (row.s0 + i)).map fun i => (o.base + u, row.s0 + i, row)

/-- The copy that a SAVE takes of the configuration as it stands (R494, R590). -/
def State.configCopy (s : State) (bank seq : Nat) : ConfigCopy :=
  { bank := bank, seq := seq,
    regs := storedSubs.filterMap fun e =>
      let v := e.2.2.storedPart (s.rd (odKey e.1 e.2.1))
      if e.2.2.ty = .domain ∨ v = 0 then none else some (odKey e.1 e.2.1, v),
    blobs := storedSubs.filterMap fun e =>
      let b := s.blob (odKey e.1 e.2.1)
      if e.2.2.ty ≠ .domain ∨ b.isEmpty = true then none else some (odKey e.1 e.2.1, b) }

/-- The value a copy holds of a sub-index. -/
def ConfigCopy.value (c : ConfigCopy) (k : Nat) : Int := ((c.regs.find? fun p => p.1 = k).map (·.2)).getD 0

/-- The byte string a copy holds of a sub-index. -/
def ConfigCopy.bytes (c : ConfigCopy) (k : Nat) : List Byte := ((c.blobs.find? fun p => p.1 = k).map (·.2)).getD []

/-- The bytes of a value of a type (R489); a DOMAIN or STRING has no fixed size. -/
def tyBytes : Ty → Nat
  | .bool => 1
  | .u8 => 1
  | .u16 => 2
  | .u32 => 4
  | .u64 => 8
  | .i16 => 2
  | .i32 => 4
  | .i64 => 8
  | .q15 => 2
  | .string => 0
  | .domain => 0

/-- The entries of a copy, laid out as CFG_CRC covers them (R708). -/
def ConfigCopy.layout (c : ConfigCopy) : List Byte :=
  storedSubs.flatMap fun e =>
    let k := odKey e.1 e.2.1
    let v := if e.2.2.ty = .domain then c.bytes k else leBytes (tyBytes e.2.2.ty) (twos (8 * tyBytes e.2.2.ty) (c.value k))
    leBytes 2 e.1 ++ leBytes 1 e.2.1 ++ [0] ++ leBytes 4 v.length ++ v

/-- The copy that governs: the one with the higher sequence number (R590). -/
def State.governing (s : State) : Option ConfigCopy :=
  s.copies.foldl (fun t c =>
    match t with
    | none => some c
    | some b => if b.seq < c.seq then some c else some b) none

/-- SAVE (R494, R590): the configuration as it stands, for the copy with the lower sequence number. -/
def State.cfgSave (s : State) : State :=
  let seq := ((s.governing).map (·.seq)).getD 0
  let bank := ((s.governing).map fun c => 1 - c.bank).getD 0
  s.saveStart (s.configCopy bank (seq + 1))

/-- CFG_CRC and VALID follow the governing copy (R494, R590). -/
def State.cfgShow (s : State) : State :=
  match s.governing with
  | none => (s.wr Reg.CFG_CRC 0).setFld (flag Reg.CFG_STATUS 0) 0
  | some c => (s.wr Reg.CFG_CRC (crc32 c.layout : Nat)).setFld (flag Reg.CFG_STATUS 0) 1

/-- The SAVE in progress has been programmed and verified whole: its copy governs (R590). -/
def State.saveDone (s : State) : State :=
  match s.saving with
  | [] => s
  | c :: _ =>
    let t := { s with saving := [], copies := (s.copies.filter fun (d : ConfigCopy) => d.bank ≠ c.bank) ++ [c] }
    ((((if s.bit (flag Reg.CFG_STATUS 0) then t else t.confBreak).wr Reg.saveLeft 0).inc32 Reg.CFG_SAVES).setFld (flag Reg.CFG_STATUS 1) 0).cfgShow

/-- DEFAULTS (R494): the stored configuration is erased (log entry 48: DEDUCED). -/
def State.cfgDefaults (s : State) : State := { s with copies := [] }.cfgShow

end Sys2Proof.Machine
end

