-- ==== Sys2Proof/Machine/Commit.lean ====
section
/-!
DEFINITION. A write of one sub-index (12_dictionary.md R489–R492, R502, R504; 01_architecture.md R17): the checks in their order, the
value that the register takes, and what follows from the commit in the block behind it.
-/
namespace Sys2Proof.Machine

/-! ### Values (R489) -/

/-- The type is signed. -/
def tySigned : Ty → Bool
  | .i16 => true
  | .i32 => true
  | .i64 => true
  | .q15 => true
  | _ => false

/-- The value that an encoding stands for. -/
def tyDecode (t : Ty) (raw : Nat) : Int := if tySigned t then ofTwos (8 * tyBytes t) (raw % 2 ^ (8 * tyBytes t)) else ((raw % 2 ^ (8 * tyBytes t) : Nat) : Int)

/-- The encoding of a value. -/
def tyEncode (t : Ty) (v : Int) : List Byte := leBytes (tyBytes t) (twos (8 * tyBytes t) v)

/-! ### Fields (R490, R491) -/

/-- A field of a value. -/
def FieldRow.of (f : FieldRow) (v : Int) : Nat := bitsOf v f.lo (f.hi - f.lo + 1)

/-- The value of a field would change, or a WO field is written other than 0. -/
def FieldRow.changes (f : FieldRow) (old new : Int) : Bool :=
  match f.acc with
  | .wo => decide (f.of new ≠ 0)
  | .rw => decide (f.of new ≠ f.of old)
  | .rws => decide (f.of new ≠ f.of old)
  | _ => false

/-- What a write makes of a register: RO and CONST fields keep their values, and a WO field holds nothing. -/
def SubRow.merge (row : SubRow) (old new : Int) : Int :=
  if row.acc = .wo then old
  else row.fields.foldl (fun v f =>
    match f.acc with
    | .rw => v
    | .rws => v
    | .wo => withBits v f.lo (f.hi - f.lo + 1) 0
    | _ => withBits v f.lo (f.hi - f.lo + 1) (f.of old)) new

/-- A write that would change an RWS value (R490, R491). -/
def SubRow.needsConfigured (row : SubRow) (old new : Int) : Bool :=
  decide (row.acc = .rws) || (decide (row.acc = .fields) && row.fields.any fun f => decide (f.acc = .rws) && f.changes old new)

/-- Bits of SRC_CTRL that R415 puts at level 2: FORCE, CLEAR, REACT_EN, REACTION. -/
def srcEngineer (old new : Int) : Bool :=
  decide (bitsOf new 1 1 ≠ 0) || decide (bitsOf new 2 1 ≠ 0) || decide (bitsOf new 4 1 ≠ bitsOf old 4 1) || decide (bitsOf new 6 5 ≠ bitsOf old 6 5)

/-- The write level of a sub-index for a value (R492; 10_faults_watchdog_resets.md R415; 14_images_and_security.md R628). -/
def State.writeLevel (s : State) (near : Bool) (idx sub : Nat) (row : SubRow) (old new : Int) : Nat :=
  if odKey idx sub = Reg.DEBUG_CMD ∧ s.rd Reg.DEBUG_STATE = 0 ∧ near = true ∧ new ≤ 3 then 0
  else
    let own : Nat := if row.needsConfigured old new then 2 else 1
    let chapter : Nat := if idx = 0x4400 ∨ (0x4000 ≤ idx ∧ idx < 0x4400 ∧ sub = 1 ∧ srcEngineer old new = true) then 2 else row.level
    max own chapter

/-- The value against the sub-index's own range and encodings, reserved bits at 0 (R502 step 7; 00_scope.md R10, R11) (log entry 30: DEDUCED). -/
def SubRow.inRange (row : SubRow) (old new : Int) : Bool :=
  (row.ranges.isEmpty || row.ranges.any fun r => decide (r.1 ≤ new) && decide (new ≤ r.2)) &&
    (match row.mask with
      | none => true
      | some m => decide (Nat.land new.toNat m = new.toNat)) &&
    row.fields.all fun f =>
      if f.name = "reserved" then decide (f.of new = 0)
      else !f.changes old new || (decide (f.least ≤ f.of new) && decide (f.of new ≤ f.most))

/-! ### The present state (R502 step 8) -/

/-- A unit that failed at start-up would be enabled (15_start_bist_standby.md R635). -/
def State.enablesFailed (s t : State) (idx : Nat) : Bool :=
  let rises := fun (b : Bits) (unit i : Nat) => !s.bit b && t.bit b && decide (s.rdN (Reg.utFail unit) / 2 ^ i % 2 = 1)
  if idx = 0x1100 then rises (flag Reg.T1S_CTRL 0) 21 0
  else if idx = 0x1110 then rises Bit.ETH_CTRL_ENABLE 22 0
  else if idx = 0x1120 ∨ idx = 0x1121 then rises (flag (Reg.CAN_CTRL (idx - 0x1120)) 0) 23 (idx - 0x1120)
  else if idx = 0x1130 then rises (flag Reg.SPI_CTRL 0) 24 0
  else if 0x1140 ≤ idx ∧ idx ≤ 0x1142 then rises (Bit.TW_CTRL_ENABLE (idx - 0x1140)) 25 (idx - 0x1140)
  else if idx = 0x1150 then rises Bit.WS_CTRL_ENABLE 20 0
  else if 0x3220 ≤ idx ∧ idx < 0x3224 then rises (Bit.PORT_CTRL_ENABLE (idx - 0x3220)) 13 (idx - 0x3220)
  else if 0x3500 ≤ idx ∧ idx < 0x3530 then !s.bit (Bit.WM_CTRL_ENABLE (idx - 0x3500)) && t.bit (Bit.WM_CTRL_ENABLE (idx - 0x3500)) && s.on (Reg.mnFail (idx - 0x3500))
  else if idx = 0x3881 ∨ idx = 0x3882 then rises (Bit.LANE_CTRL_ENABLE (idx - 0x3881)) 19 (idx - 0x3881)
  else false

/-- The state forbids a DEBUG_CMD (14_images_and_security.md R628, R631). -/
def State.debugRefused (s : State) (v : Int) : Bool :=
  if v = 3 then decide (s.rd Reg.DEBUG_STATE ≠ 0) || !s.lockOk
  else if v = 4 then decide (s.rd Reg.DEBUG_STATE ≠ 1)
  else if v = 2 then !s.quietForScan
  else false

/-- The state forbids RP_CMD `v` on port `p` (05_ring_and_holdup.md R218, R223, R251; 15_start_bist_standby.md R634). -/
def State.rpCmdRefused (s : State) (p : Nat) (v : Int) : Bool :=
  if v = 1 then
    s.markedNow markReactOpen p || !s.bit (Bit.RP_CTRL_ENABLE p) || [1, 2, 4].contains (s.rpSt p) || decide (s.rpSt (1 - p) = 1) || s.on (Reg.rpUntested p)
  else [0, 3, 4].contains (s.rpSt p)

/-- A value within the least and the most of its sub-index that its table still leaves out (07_loop_engine.md R328; 08_sensing_and_thermal.md
R345; 09_sequencing_and_states.md R379). -/
def offTable (idx sub : Nat) (new : Int) : Bool :=
  (odKey idx sub == Reg.STATE_CMD && new == 2) ||
    ((idx == 0x3881 || idx == 0x3882) && sub == 2 && decide (new % 5 ≠ 0)) ||
    ((idx == 0x3702 || idx == 0x3703) && decide (1 ≤ sub) && decide (bitsOf new 0 7 = 90))

/-- The power state forbids a command to it (09_sequencing_and_states.md R379; 12_dictionary.md R494). -/
def State.cfgRefused (s : State) (v : Int) : Bool :=
  if v = 1 then decide (s.rdN Reg.STATE = 2) || s.bit (flag Reg.CFG_STATUS 1) else decide (s.rdN Reg.STATE ≠ 3)

/-- The state forbids the write of `new` to a sub-index, `t` being the part with it committed; the objects up to 0x2FFF. -/
def State.refusedLow (s t : State) (idx sub : Nat) (new : Int) : Bool :=
  let k := odKey idx sub
  if k = Reg.STATE_CMD then decide (s.rdN Reg.STATE = 2)
  else if k = Reg.CFG_CMD then s.cfgRefused new
  else if k = Reg.ETH_CTRL then -- 13_links.md R545
    !s.bit Bit.ETH_CTRL_AS_DISCIPLINE && t.bit Bit.ETH_CTRL_AS_DISCIPLINE && s.bit Bit.WS_CTRL_ENABLE && !s.bit wsMaster
  else if k = Reg.RESET_CMD then decide (s.rdN Reg.STATE = 2)
  else if k = Reg.CLK_RETURN then !s.bit (flag Reg.CLK_STATUS 0)
  else if 0x2010 ≤ idx ∧ idx < 0x2020 then decide (k = Reg.TON_TRIM (idx - 0x2010)) && s.slotOwns (idx - 0x2010) -- R314
  else if 0x2200 ≤ idx ∧ idx < 0x2202 then
    let p := idx - 0x2200
    if k = Reg.RP_CMD p then s.rpCmdRefused p new
    else decide (k = Reg.RP_CTRL p) && s.bit (Bit.RP_CTRL_ENABLE p) && !t.bit (Bit.RP_CTRL_ENABLE p) && [1, 2].contains (s.rpSt p)
  else false

/-- The same of the objects from 0x3000 on (log entry 31: DEDUCED, log entry 105: DEDUCED). -/
def State.refusedHigh (s t : State) (idx sub : Nat) (new : Int) : Bool :=
  let k := odKey idx sub
  if 0x3000 ≤ idx ∧ idx < 0x3200 then
    let n := idx - 0x3000
    if k = Reg.BINDING n then !([0, 1, 10].contains (s.ctxSt n)) -- 03_load_channels.md R114
    else decide (k = Reg.CTX_CTRL n) && t.cmd n && decide (s.ctxSt n = 11) -- R145
  else if 0x3220 ≤ idx ∧ idx < 0x3224 then decide (k = Reg.RESCAN (idx - 0x3220)) && !s.bit (Bit.PORT_CTRL_ENABLE (idx - 0x3220)) -- R196
  else if 0x3400 ≤ idx ∧ idx < 0x3440 then
    let n := idx - 0x3400
    if k = Reg.NODE_CTRL n then
      ((decide (s.nodeType n ≠ t.nodeType n) || decide (s.nodeTarget n ≠ t.nodeTarget n)) && decide (s.nodeSt n ≠ 0)) || -- R384
        (decide (bitsOf new 10 1 = 1) && (decide (s.nodeSt n ≠ 8) || s.markedNow markNodeFault n)) -- R395, R406
    else (decide (k = Reg.DEPS n) || decide (k = Reg.PG_SRC n) || decide (k = Reg.BAND_MON n)) && decide (s.nodeSt n ≠ 0)
  else if idx = 0x3440 then decide (1 ≤ sub ∧ sub ≤ 4) && !s.railUp (sub - 1) -- R403
  else if k = Reg.RESUME then !s.bit sqLossDown || !s.bit sqLossHalted -- R400
  else if 0x3500 ≤ idx ∧ idx < 0x3530 then
    decide (k = Reg.CHECK (idx - 0x3500)) && (!s.bit (Bit.WM_CTRL_ENABLE (idx - 0x3500)) ||
      (s.bit (mnChecking (idx - 0x3500)) && !s.markedNow markAuto (idx - 0x3500))) -- R357, R376
  else if 0x38C0 ≤ idx ∧ idx < 0x38E0 then
    let w := idx - 0x38C0
    if k = Reg.TARGET w then decide (s.windOwner w ≠ 0) -- R325
    else decide (k = Reg.W_CTRL w) && decide (bitsOf new 0 1 = 1) && (s.moving w || decide (s.rd (Reg.START_SIG w) = 65535)) -- R323
  else if k = Reg.CAP_CTRL then decide (bitsOf new 0 1 = 1) && (decide (s.rd Reg.CAP_STATE = 1) || decide (s.rd Reg.CAP_STATE = 2)) -- R470
  else if k = Reg.PL_CMD then -- R481
    s.bit (flag Reg.PL_STATUS 0) || (s.on Reg.plHostNs && !s.since (s.rd Reg.plHostNs - 1) 60000000000)
  else if k = Reg.UPD_CMD then decide (s.updAbort new.toNat = 0x0501)
  else if k = Reg.DEBUG_CMD then s.debugRefused new
  else false

/-- The request is legal but not in the present state (R502 step 8; R490; 14_images_and_security.md R617; 15_start_bist_standby.md
R635). -/
def State.stateRefuses (s t : State) (idx sub : Nat) (row : SubRow) (old new : Int) : Bool :=
  (row.needsConfigured old new && decide (s.rdN Reg.STATE ≠ 3)) || (s.bit updRecovery && decide (idx ≠ 0x6000) && decide (idx ≠ 0x6100)) ||
    s.enablesFailed t idx || (if idx < 0x3000 then s.refusedLow t idx sub new else s.refusedHigh t idx sub new)

/-- The checks that a chapter makes on the value of one object against the part (R502 step 9): the abort code, 0 for none. -/
def State.ownCheck (s : State) (idx sub : Nat) (new : Int) : Nat :=
  let k := odKey idx sub
  if k = Reg.STATE_CMD then if new = 2 then 0x0401 else 0
  else if k = Reg.UPD_CMD then s.updAbort new.toNat
  else if k = Reg.DOMAIN_EPOCH then -- 14_images_and_security.md R610
    if new = 0 ∨ (((s.epochs).2.1 : Int) ≤ new ∧ new ≤ (min s.epochs.1 s.epochs.2.2 : Nat)) then 0 else 0x0401
  else if k = Reg.REVOKE then if s.activeSigner = some new.toNat then 0x0401 else 0
  else 0

/-! ### The judgement of a write (R502) -/

/-- The row that a write may name: the object, then the sub-index. -/
def findRow (idx sub : Nat) : Except Nat SubRow :=
  match findObj idx with
  | none => .error 0x0301
  | some o =>
    match o.find sub with
    | none => .error 0x0302
    | some row => .ok row

/-- The part with a value committed to its register. -/
def State.stored (s : State) (idx sub : Nat) (row : SubRow) (new : Int) : State :=
  s.wr (odKey idx sub) (row.merge (s.rd (odKey idx sub)) new)

/-- Steps 3 to 9 of R502 on a write of `len` bytes that stand for the number `raw`: the abort code, 0 for none. -/
def State.writeAbort (s : State) (level : Nat) (near : Bool) (idx sub len raw : Nat) : Nat :=
  match findRow idx sub with
  | .error e => e
  | .ok row =>
    let old := s.rd (odKey idx sub)
    let new := tyDecode row.ty raw
    if row.acc = .ro ∨ row.acc = .const ∨ row.ty = .domain ∨ row.ty = .string then 0x0303
    else if level < s.writeLevel near idx sub row old new then 0x0203
    else if len ≠ tyBytes row.ty then 0x0304
    else if !row.inRange old new || offTable idx sub new then 0x0401
    else
      let t := s.stored idx sub row new
      if s.stateRefuses t idx sub row old new then 0x0501
      else if s.ownCheck idx sub new ≠ 0 then s.ownCheck idx sub new
      else if (t.checksOn idx sub).all fun c => t.checkOk c then 0
      else 0x0401

/-! ### What follows from a commit -/

/-- The root is back (01_architecture.md R33). -/
def State.clkReturn (s : State) : State := s.setFld (flag Reg.CLK_STATUS 1) 0

/-- A link's ENABLE has been committed (13_links.md R540, R549): a port that stops loses what it holds, and a CAN controller that starts
is error-active (log entry 100: DEDUCED, log entry 101: DEDUCED). -/
def State.linkHook (s t : State) (idx : Nat) : State :=
  let drop := fun (b : Bits) (c : Nat) => if s.bit b && !t.bit b then t.portReset c else t
  if idx = 0x1100 then drop (flag Reg.T1S_CTRL 0) 1
  else if idx = 0x1110 then
    (drop Bit.ETH_CTRL_ENABLE 2).when (!t.bit Bit.ETH_CTRL_AS_DISCIPLINE) fun u => u.setFld (flag Reg.ETH_STATUS 4) 0
  else if idx = 0x1120 ∨ idx = 0x1121 then
    let k := idx - 0x1120
    let b := flag (Reg.CAN_CTRL k) 0
    if !s.bit b && t.bit b then ((t.wr (Reg.CAN_STATUS k) 0).wr (Reg.TEC k) 0).wr (Reg.REC k) 0 else drop b (3 + k)
  else if idx = 0x1130 then drop (flag Reg.SPI_CTRL 0) 5
  else if 0x1140 ≤ idx ∧ idx ≤ 0x1142 then drop (Bit.TW_CTRL_ENABLE (idx - 0x1140)) (6 + (idx - 0x1140))
  else if idx = 0x1150 then
    if s.bit Bit.WS_CTRL_ENABLE && !t.bit Bit.WS_CTRL_ENABLE then
      ((((t.when (t.bit wsMaster) State.asSuspend).setFld wsPosition 0).setFld wsMaster 0).wr Reg.wsSymbols 0).syncLost else t
  else t

/-- A rail's set-points or their selection have been written (02_converter_core.md R59–R61). -/
def State.pointHook (s t : State) (r sub : Nat) : State :=
  let i := t.selIndex r
  if i ≠ s.rdN (Reg.rlSelIdx r) ∨ odKey (0x2000 + r) sub = Reg.SETPOINT r i then t.selectPoint r i else t

/-- A rail has been written (02_converter_core.md R46, R52, R59–R63). -/
def State.railHook (s t : State) (r sub : Nat) : State :=
  let k := odKey (0x2000 + r) sub
  if k = Reg.VIN_INPUT r then t.dropLost.vinTake r
  else if k = Reg.SENSE_GAIN r then t.showRef r
  else if k = Reg.SLEW_PROFILE r then (t.profileMoved s r).refresh r
  else s.pointHook t r sub

/-- A phase has been written (02_converter_core.md R40, R44, R103): CAGE_REQ reads 1 once the phase has been caged by request, and writes of
it do no more than cage. -/
def State.phaseHook (s t : State) (p sub : Nat) : State :=
  if odKey (0x2010 + p) sub = Reg.PHASE_CTRL p then
    let b := Bit.PHASE_CTRL_CAGE_REQ p
    let u := t.setBit b (s.bit b)
    let moved := s.bit (Bit.PHASE_CTRL_ASSIGNED p) && (!t.bit (Bit.PHASE_CTRL_ASSIGNED p) || decide (s.fld (Bit.PHASE_CTRL_RAIL p) ≠ t.fld (Bit.PHASE_CTRL_RAIL p)))
    let old := s.fld (Bit.PHASE_CTRL_RAIL p)
    let v := if moved then (u.phaseLeaves p).railSum old else u
    if t.bit b && !v.bit (phCaged p) then (v.setBit b true).cagePhase p 3 else v
  else t

/-- The prop converter's control has been written (05_ring_and_holdup.md R230, R235, R238): ENABLE moves MODE between DISABLED and
STANDBY, CHG_EN 0 ends CHARGE (log entry 21), and a write of CHG_EN 1 answers an interruption. -/
def State.propHook (s t : State) (new : Int) : State :=
  let en := t.bit Bit.PROP_CTRL_ENABLE
  let u := if bitsOf new 1 1 = 1 then t.wr Reg.ppNeedEn 0 else if s.propMode = 2 then t.chargeLeave else t
  let v :=
    if en && decide (u.propMode = 0) then u.setFld prMode 1
    else if !en && decide (u.propMode ≠ 0) then
      let w := if u.propMode = 2 then u.chargeLeave else if u.propMode = 3 then u.holdLeave else u
      (w.setFld prMode 0).propDrive
    else u
  v.inhibitEval

/-- A ring port has been written (05_ring_and_holdup.md R202, R210, R212, R216, R218): a pilot that comes into use starts its
supervision, and one that is not in use is not driven, its PILOT_OK staying as it was (R210; log entry 121: DESIGN CHOICE). -/
def State.ringHook (s t : State) (p sub : Nat) (new : Int) : State :=
  if odKey (0x2200 + p) sub = Reg.RP_CMD p then
    if new = 1 then (t.mark markHostClose p 0).rpClose p
    else (t.when (decide (t.rpSt p = 2)) fun u => u.mark markHostOpen p 0).rpOpens p 0 5
  else if odKey (0x2200 + p) sub = Reg.PRECHG_MA p ∧ t.rpSt p = 1 then t.wr (Reg.rpRegMa p) new
  else if !t.pilotOn p then t.setFld (rpPilotOut p) 0
  else if !s.pilotOn p then t.rpSupervise p
  else t

/-- A context has been written (03_load_channels.md R109, R114, R115, R140, R147; 04_satellite_link.md R178): CAGE_REQ reads 1 once the context
has been caged by request, and writes of it do no more than cage. -/
def State.ctxHook (s t : State) (n sub : Nat) (_ : Int) : State :=
  let k := odKey (0x3000 + n) sub
  if k = Reg.CTX_CTRL n then
    let b := Bit.CTX_CTRL_CAGE_REQ n
    let u := (t.setBit (Bit.CTX_CTRL_CMD n) (s.cmd n)).setBit b (s.bit b)
    let v := if !t.cmd n then u.cmdOff n else if s.cmd n then u else u.cmdOn n
    let w := if t.bit b && decide (v.ctxSt n ≠ 12) then (v.setBit b true).cageCtx n 0xA else v
    let y := w.when (decide (s.classOf n ≠ t.classOf n)) fun x => x.changeClass n
    (y.redrive n).when (decide (16 ≤ n) && w.valid n && !w.unusable n && decide (s.fld (Bit.CTX_CTRL_INRUSH_MODE n) ≠ t.fld (Bit.CTX_CTRL_INRUSH_MODE n)))
      fun x => x.mbxSet (x.position n) (5 * x.channel n + 4)
  else if k = Reg.BINDING n then
    (t.when (decide (16 ≤ n) && s.valid n) fun u => u.mbxDrop (s.position n) (s.channel n)).bindCtx n
  else if 16 ≤ n ∧ t.valid n = true ∧ t.unusable n = false then
    let c := if k = Reg.ILIM_MA n then some 0 else if k = Reg.Ctx_ISC_MA n then some 1 else if k = Reg.INRUSH_MA n then some 2
      else if k = Reg.DVDT_MV_US n then some 3 else none
    (c.map fun i => t.mbxSet (t.position n) (5 * t.channel n + i)).getD t
  else t.when (decide (n < 16)) fun u => u.redrive n

/-- A node has been written (09_sequencing_and_states.md R395). -/
def State.nodeHook (t : State) (k sub : Nat) (new : Int) : State :=
  let u := if odKey (0x3400 + k) sub = Reg.NODE_CTRL k ∧ bitsOf new 10 1 = 1 then t.nodeEnter k 0 else t
  u.wr Reg.seqDue 1

/-- A monitor has been written (08_sensing_and_thermal.md R349, R350, R353, R357): a new INPUT has shown no level yet. -/
def State.monHook (s t : State) (m sub : Nat) (new : Int) : State :=
  let k := odKey (0x3500 + m) sub
  let a := s.bit (Bit.WM_CTRL_ENABLE m)
  let b := t.bit (Bit.WM_CTRL_ENABLE m)
  if k = Reg.CHECK m then t.mnCheckStart m new.toNat false
  else if k = Reg.WM_CTRL m then if a = b then (t.cmpoPins.mnFollow m).mnNow m else t.mnEnable m b
  else if k = Reg.LO_CODE m then t.when a fun u => (u.mark markLoCode m (s.rd k)).mnNow m
  else if k = Reg.HI_CODE m then t.when a fun u => (u.mark markHiCode m (s.rd k)).mnNow m
  else if k = Reg.INPUT m ∧ s.rd k ≠ t.rd k then t.wr (Reg.mnSeen m) 0
  else t

/-- A source has been written (10_faults_watchdog_resets.md R412, R416, R447), `s` being the part before: CLEAR, and on the next edge
FORCE; what severity names on this edge is still the REACTION before. -/
def State.srcHook (s t : State) (f : Nat) (new : Int) : State :=
  let u := t.mark markReaction f (s.fld (Bit.SRC_CTRL_REACTION f))
  let v := if bitsOf new 2 1 = 1 then u.srcClear f else u
  if bitsOf new 1 1 = 1 then { v with raiseQ := v.raiseQ ++ [1024 + f] } else v

/-- DEBUG_CMD is accepted (14_images_and_security.md R628–R631) (log entry 106: DESIGN CHOICE). -/
def State.debugCmd (t : State) (v : Int) (ok : Bool) : State :=
  if v = 3 then t.wr Reg.DEBUG_STATE 1
  else if v = 4 then t.rma
  else if v = 2 then t.debugEnter true ok
  else if t.rd Reg.DEBUG_STATE = 1 then t.wr Reg.dbgWindow (t.now + 1)
  else t.debugEnter false ok

/-- The hooks of the objects up to 0x2FFF. -/
def State.hookLow (s t : State) (idx sub : Nat) (new : Int) : State :=
  let k := odKey idx sub
  if 0x1100 ≤ idx ∧ idx ≤ 0x1150 then s.linkHook t idx
  else if k = Reg.STATE_CMD then
    let u := t.stateCmd new.toNat
    if new ≤ 1 then forUnits 64 (fun a v => v.wr (Reg.bcastStored a) (v.rd (Reg.bcastRx a))) u else u
  else if k = Reg.CFG_CMD then if new = 1 then t.cfgSave else t.cfgDefaults
  else if k = Reg.DOMAIN_ADDR then t.setFld Bit.DG_CTRL_CLASH 0
  else if k = Reg.RESET_CMD then t.wantReset 5
  else if k = Reg.CLK_RETURN then t.clkReturn
  else if 0x2000 ≤ idx ∧ idx < 0x2004 then s.railHook t (idx - 0x2000) sub
  else if 0x2010 ≤ idx ∧ idx < 0x2020 then s.phaseHook t (idx - 0x2010) sub
  else if idx = 0x2020 then -- 02_converter_core.md R73
    forUnits 4 (fun r u => (u.when (!u.bit (Bit.LL_CTRL_ROT_EN r)) fun v => v.wr (Reg.rlShedOfs r) 0).burstStamp r) t
  else if idx = 0x2100 then (if k = Reg.PROP_CTRL then s.propHook t new else t.dropLost).storeEval -- 05_ring_and_holdup.md R224, R236, R238
  else if 0x2200 ≤ idx ∧ idx < 0x2202 then s.ringHook t (idx - 0x2200) sub new
  else if idx = 0x2210 then t.ifwPins
  else if 0x2300 ≤ idx ∧ idx < 0x2304 then
    if t.bit (Bit.GROUP_CTRL_TRIM_EN (idx - 0x2300)) then t else t.setTrim (idx - 0x2300) 0
  else t

/-- The hooks of the objects from 0x3000 on (log entry 96: DEDUCED). -/
def State.hookHigh (s t : State) (idx sub : Nat) (new : Int) : State :=
  let k := odKey idx sub
  if idx < 0x3200 then s.ctxHook t (idx - 0x3000) sub new
  else if 0x3220 ≤ idx ∧ idx < 0x3224 then
    let p := idx - 0x3220
    let b := Bit.PORT_CTRL_ENABLE p
    if k = Reg.RESCAN p then t.portRescan p
    else if t.bit b && !s.bit b then t.portStart p
    else if s.bit b && !t.bit b then t.portStop p else t
  else if k = Reg.TALLY_CTRL then
    (if s.bit Bit.TALLY_CTRL_ENABLE && !t.bit Bit.TALLY_CTRL_ENABLE then t.tallyUndo else t).dropLost
  else if k = Reg.IN_V_INPUT ∨ k = Reg.IN_I_INPUT then t.dropLost -- 08_sensing_and_thermal.md R336, R339
  else if k = Reg.SCAN_CTRL then if t.rdN Reg.SCAN_CTRL % 2 = 0 then t.wr Reg.scRun 0 else t
  else if 0x3400 ≤ idx ∧ idx < 0x3440 then t.nodeHook (idx - 0x3400) sub new
  else if idx = 0x3440 then ((t.wr (Reg.MARGIN (sub - 1)) (s.rd (Reg.MARGIN (sub - 1)))).mark markMargin (sub - 1) 0).setMargin (sub - 1) new
  else if k = Reg.RESUME then t.lossResume
  else if idx = 0x3441 then t.enPins.wr Reg.seqDue 1
  else if 0x3500 ≤ idx ∧ idx < 0x3530 then s.monHook t (idx - 0x3500) sub new
  else if idx = 0x3540 then
    ((List.range 8).foldl (fun u i => if k = Reg.CMPO_CTRL i ∧ bitsOf new (Bit.CMPO_CTRL_CLEAR i).lo 1 = 1 then u.cmpoClear i else u) t).cmpoPins
  else if 0x3601 ≤ idx ∧ idx < 0x360E then
    let x := idx - 0x3601
    let u := if s.tsOn x = t.tsOn x then t else t.tsEnable x
    (u.when (u.tsOn x) fun v => v.tsPace x).thermSummary
  else if 0x3800 ≤ idx ∧ idx < 0x3880 then
    let j := idx - 0x3800
    let u := if k = Reg.SLOT_CTRL j ∧ bitsOf new (Bit.SLOT_CTRL_RESTART j).lo 1 = 1 then t.slotRestart j else t
    u.loopAccept s
  else if 0x3880 ≤ idx ∧ idx ≤ 0x3883 then t.loopAccept s
  else if 0x38C0 ≤ idx ∧ idx < 0x38E0 then
    let w := idx - 0x38C0
    if k = Reg.TARGET w then (t.wr (Reg.TARGET w) (s.rd (Reg.TARGET w))).windTarget w new
    else if k = Reg.W_CTRL w ∧ bitsOf new 0 1 = 1 then t.windStart w else t
  else if 0x4000 ≤ idx ∧ idx < 0x4400 then if sub = 1 then s.srcHook t (idx - 0x4000) new else t
  else if 0x5000 ≤ idx ∧ idx < 0x5040 then if k = Reg.QUOTA (idx - 0x5000) then (t.mark markQuota (idx - 0x5000) (s.rd k)).reclaim (idx - 0x5000) else t
  else if k = Reg.CAP_CTRL then
    if bitsOf new 0 1 = 1 then t.capArm else if bitsOf new 1 1 = 1 then t.capTrigger 0x800 else t
  else if k = Reg.PL_CMD then t.epochStart 2
  else if k = Reg.UPD_CMD then if new = 5 then t.relayStart else t.updCmd new.toNat
  else if k = Reg.DOMAIN_EPOCH then t.epochEval
  else if k = Reg.REVOKE then t.setFld (flag Reg.KEY_MAP (12 + new.toNat)) 1
  else if k = Reg.DEBUG_CMD then
    let ok := decide (t.free % 2 = 0)
    if new ≤ 2 then t.used.debugCmd new ok else t.debugCmd new ok
  else t

/-- What follows from a commit: `s` the part before it, `t` with the register written, `new` the value written. -/
def State.hook (s t : State) (idx sub : Nat) (new : Int) : State :=
  if idx < 0x3000 then s.hookLow t idx sub new else s.hookHigh t idx sub new

/-- The test units whose objects include `idx`: a commit to one of them interrupts the unit's test (15_start_bist_standby.md R648). -/
def lampUnitsOf (idx : Nat) : List Nat :=
  if idx = 0x1100 then [21] else if idx = 0x1110 then [22] else if idx = 0x1120 ∨ idx = 0x1121 then [23] else if idx = 0x1130 then [24]
  else if 0x1140 ≤ idx ∧ idx ≤ 0x1142 then [25] else if idx = 0x1150 then [20]
  else if 0x2000 ≤ idx ∧ idx < 0x2021 then [8] else if idx = 0x2100 then [9] else if idx = 0x2200 then [10] else if idx = 0x2201 then [11]
  else if 0x3000 ≤ idx ∧ idx < 0x3010 then [5, 12] else if 0x3010 ≤ idx ∧ idx < 0x3200 then [5]
  else if 0x3200 ≤ idx ∧ idx < 0x3224 then [13] else if 0x3300 ≤ idx ∧ idx < 0x3310 then [14]
  else if 0x3400 ≤ idx ∧ idx < 0x3442 then [6] else if 0x3500 ≤ idx ∧ idx < 0x3541 then [17] else if 0x3600 ≤ idx ∧ idx < 0x3610 then [18]
  else if 0x3700 ≤ idx ∧ idx < 0x3705 then [15, 16] else if 0x3800 ≤ idx ∧ idx < 0x38E0 then [19]
  else if 0x4000 ≤ idx ∧ idx ≤ 0x4400 then [4] else if 0x5000 ≤ idx ∧ idx < 0x5082 then [7] else if idx = 0x5100 then [26] else []

/-- The value that an encoding stands for at a sub-index. -/
def decoded (idx sub raw : Nat) : Int :=
  match findRow idx sub with
  | .error _ => 0
  | .ok row => tyDecode row.ty raw

/-- The part with an encoding written to a sub-index, as its fields' access modes let it be (R490). -/
def State.written (s : State) (idx sub raw : Nat) : State :=
  match findRow idx sub with
  | .error _ => s
  | .ok row => s.stored idx sub row (tyDecode row.ty raw)

/-- The tests of the units whose object a commit names are interrupted (15_start_bist_standby.md R648). -/
def State.served (s : State) (idx : Nat) : State := forAll (lampUnitsOf idx) (fun u v => v.lampService u) s

/-- A legal write is committed (R17): the register, what follows in its block, and the tests it interrupts. -/
def State.commit (s : State) (idx sub raw : Nat) : State :=
  (s.hook (s.written idx sub raw) idx sub (decoded idx sub raw)).served idx

/-- A close that comes with the reaction "open a ring port": the port is TRIPPED with CAUSE 0x4 (05_ring_and_holdup.md R251). -/
def State.closeBeaten (s : State) (p : Nat) : State :=
  if s.markedNow markReactOpen p = true ∧ (s.rpSt p = 0 ∨ s.rpSt p = 3) then (s.setFld (rpState p) 3).setFld (rpCause p) 4 else s

/-- A write of one sub-index that the checks answer with `abort`: a legal one is committed (R502, R504; 09_sequencing_and_states.md
R379); a header that fails its checks sets IMG_FAULT (14_images_and_security.md R598, log entry 116). -/
def State.write (s : State) (abort idx sub raw : Nat) : State :=
  if abort = 0 then s.commit idx sub raw
  else if abort = 0x0501 ∧ odKey idx sub = Reg.STATE_CMD then s.inc32 Reg.STATE_REJECTS
  else if abort = 0x0501 ∧ raw = 1 ∧ (idx = 0x2200 ∨ idx = 0x2201) ∧ odKey idx sub = Reg.RP_CMD (idx - 0x2200) then s.closeBeaten (idx - 0x2200)
  else if odKey idx sub = Reg.UPD_CMD ∧ raw = 1 ∧ abort ≠ 0x0501 ∧ abort = s.updAbort 1 then s.imgFails (s.headerFault (s.blob Reg.CARD_HEADER) true)
  else s

/-- The encoding of a value for a sub-index. -/
def rawOf (idx sub : Nat) (v : Int) : Nat × Nat :=
  match findRow idx sub with
  | .error _ => (1, 0)
  | .ok row => (tyBytes row.ty, twos (8 * tyBytes row.ty) v)

/-- The checks of R502 pass a write of a value that fits its type (R502). -/
def State.accepts (s : State) (level idx sub : Nat) (v : Int) : Bool :=
  decide (s.writeAbort level false idx sub (rawOf idx sub v).1 (rawOf idx sub v).2 = 0)

/-- A write by the host of a value that fits its type, answered with its abort code (R504, R535). -/
def State.hostSet (s : State) (level : Nat) (near : Bool) (idx sub : Nat) (v : Int) : State :=
  let r := rawOf idx sub v
  let a := s.writeAbort level near idx sub r.1 r.2
  ((s.write a idx sub r.2).when (decide (a ≠ 0)) fun u => u.inc32 Reg.Cnt_ABORTS).when (decide (a = 0x0501)) fun u => u.inc32 Reg.STATE_ABORTS

/-- A command that is the write of one sub-index: the plane bridge takes it while the processor plane runs. -/
def State.hostWrite (s : State) (level idx sub : Nat) (v : Int) : Result := s.procDo fun t => t.hostSet level false idx sub v

end Sys2Proof.Machine
end

