-- ==== Sys2Proof/Machine/Context.lean ====
section
/-!
DEFINITION. The meanings of the breaker engine's commands (03_load_channels.md).
-/
namespace Sys2Proof.Machine

/-- The end of LEAD (R121, R122): the check is repeated; a remote channel's on command leaves in the next command frame. -/
def State.leadEnds (s : State) (n : Nat) : State :=
  if s.rd (Reg.VDAMAGE_MV n) ≤ s.rd (Reg.V_MV n) then s.enableFails n
  else if n < 16 then s.gateOpens n
  else s.wr (Reg.cxLeadOver n) 1

/-- The retry timer has run out (R138, R139, R142): in RETRY_WAIT with CMD 1 the enable is presented once the heat is at or below
half, with CMD 0 the context enters OFF. -/
def State.retryEnds (s : State) (n : Nat) : State :=
  let t := s.wr (Reg.cxRetryRun n) 0
  if t.ctxSt n ≠ 7 then t
  else if !t.cmd n then t.turnOff n 1
  else if t.rd (Reg.I2T_PERMILLE n) ≤ 500 then t.present n
  else t.wr (Reg.cxI2tWait n) 1

/-- R117: a write of CMD 1. -/
def execCmdOn (level : Fin 4) (n : Fin 512) (s : State) : Result :=
  s.hostWrite level (0x3000 + n) 1 (withBits (s.rd (Reg.CTX_CTRL n)) 15 1 1)

/-- R140, R142: a write of CMD 0. -/
def execCmdOff (level : Fin 4) (n : Fin 512) (s : State) : Result :=
  s.hostWrite level (0x3000 + n) 1 (withBits (s.rd (Reg.CTX_CTRL n)) 15 1 0)

/-- R147: a write of 1 to CAGE_REQ. -/
def execCtxCageReq (level : Fin 4) (n : Fin 512) (s : State) : Result :=
  s.hostWrite level (0x3000 + n) 1 (withBits (s.rd (Reg.CTX_CTRL n)) 1 1 1)

/-- R112–R115: a write of BINDING. -/
def execBindingCommit (level : Fin 4) (n : Fin 512) (value : BitVec 16) (s : State) : Result :=
  s.hostWrite level (0x3000 + n) 2 value.toNat

/-- R121, R122: LEAD_US after the announcement. -/
def execLeadExpiry (n : Fin 512) (s : State) : Result :=
  s.ppDo fun t => if t.ctxSt n = 3 ∧ t.on (Reg.cxLeadOver n) = false ∧ t.rd (Reg.cxLeadEnd n) ≤ t.now then t.leadEnds n else t

/-- The time since the previous update of a direct channel's measurements, in µs: 10 for the first (R153; log entry 119: DEDUCED). -/
def State.sampleUs (s : State) (n : Nat) : Int :=
  let at_ := s.rd (Reg.cxSampleNs n)
  if at_ = 0 then 10 else ((s.toTickOf (Reg.cxSampleNs n) 10000).now + 1 - at_) / 1000

/-- R129, R135, R143, R152, R153, R707: a sample of a direct channel, on the next 10 µs of the timebase, of its inputs' results
(08_sensing_and_thermal.md R333, R334); `vinMv`: the input voltage, which needs no result. Without valid results nothing else is sampled (log
entry 112: DESIGN CHOICE). The measurements of remote contexts come with their reports (log entry 117: DESIGN CHOICE). -/
def execChannelSample (n : Fin 16) (iMa vMv vinMv : Int) (s : State) : Result :=
  s.ppDo fun t =>
    let i := satI32 (t.shuntMa (40 + n) (t.rd (Reg.Ctx_SHUNT_UOHM n)))
    let v := satU 16 (t.quantityMv (56 + n))
    let good := t.resultValid (40 + n) && t.resultValid (56 + n)
    if !t.valid n || (good && !(decide (iMa = i) && decide (vMv = v))) then t
    else
      let u := t.wr (Reg.cxVin n) (satU 16 vinMv)
      if good then (u.toTickOf (Reg.cxSampleNs n) 10000).ctxSample n i v (u.sampleUs n) else u

/-- R118, R119, R143: OFF_DECAY_MS after the context turned off. -/
def execOffDecayExpiry (n : Fin 512) (s : State) : Result :=
  s.ppDo fun t =>
    if t.on (Reg.cxDecayDone n) || t.conducting n || !t.since (t.rd (Reg.cxOffNs n)) (t.rd (Reg.OFF_DECAY_MS n) * 1000000) then t
    else
      let u := t.wr (Reg.cxDecayDone n) 1
      if u.on (Reg.cxCheckWait n) && u.on (Reg.cxSampled n) then
        if u.rd (Reg.V_MV n) < u.rd (Reg.VDAMAGE_MV n) then u.enablePasses n else u.enableFails n
      else u

/-- R127, R266: INRUSH, or a re-opening ramp, has lasted INRUSH_MAX_MS. -/
def execInrushTimeout (n : Fin 512) (s : State) : Result :=
  s.ppDo fun t =>
    if (t.stThen n = 4 ∨ (t.stThen n = 5 ∧ t.regateThen n = true)) ∧
        t.since (t.rd (Reg.cxRampNs n)) (t.rd (Reg.INRUSH_MAX_MS n) * 1000000) = true then t.trip n 4
    else t

/-- R130; 17_electrical.md R693: the gate of a direct channel, `mv` above its output, has not reached its on level of 7.0 V within 1 ms after
INRUSH, or falls below it. -/
def execGateDriveFault (x : ChannelLevel) (s : State) : Result :=
  s.ppDo fun t =>
    if (t.stThen x.channel = 5 ∨ t.stThen x.channel = 6) ∧ t.gateThen x.channel = 2 then
      if 7000 ≤ x.level then t.wr (Reg.cxGateUp x.channel) 1
      else if t.on (Reg.cxGateUp x.channel) || t.since (t.rd (Reg.cxFullNs x.channel)) 1000000 then (t.trip x.channel 0xB).raise (96 + x.channel)
      else t
    else t

/-- The shunt voltage of a direct channel that a current in mA stands for, in nV (R129). -/
def State.shuntNv (s : State) (n : Nat) (ma : Int) : Int := ma * s.rd (Reg.Ctx_SHUNT_UOHM n)

/-- R129, R133: the shunt voltage of a direct channel, in µV, exceeds the ISC_MA level. -/
def execDirectShort (x : ChannelLevel) (s : State) : Result :=
  s.ppDo fun t => if [4, 5, 6].contains (t.stThen x.channel) && decide (t.shuntNv x.channel (t.rd (Reg.Ctx_ISC_MA x.channel)) < x.level * 1000) then t.trip x.channel 1 else t

/-- R129, R134: the shunt voltage of a direct channel, in µV, reaches the ILIM_MA level in ON; a re-opening ramp stays in ON (R266). A remote
channel's limit is reported by its satellite (R131). -/
def execCurrentLimitReached (x : ChannelLevel) (s : State) : Result :=
  s.ppDo fun t =>
    if x.level * 1000 < t.shuntNv x.channel (t.rd (Reg.ILIM_MA x.channel)) then t
    else if t.ctxSt x.channel = 5 ∧ t.on (Reg.cxRegate x.channel) = false ∧ t.on (Reg.cxWindow x.channel) = true then t.limitOn x.channel
    else if t.ctxSt x.channel = 4 then t.setFld (cxAtLimit x.channel) 1
    else t

/-- R134: the fault timer reaches TFAULT_US (log entry 80: DESIGN CHOICE). -/
def execFaultTimerExpiry (n : Fin 512) (s : State) : Result :=
  s.ppDo fun t =>
    let u := t.runTimer n
    if (u.stThen n = 5 ∨ u.stThen n = 6) ∧ 8 * u.tfault n ≤ u.elapsedThen n then u.trip n 2 else u

/-- R138, R139: RETRY_MS after a trip; the timer of a context in NO_LINK is frozen (R150). -/
def execRetryTimerExpiry (n : Fin 512) (s : State) : Result :=
  s.ppDo fun t => if t.on (Reg.cxRetryRun n) ∧ t.ctxSt n ≠ 10 ∧ t.rd (Reg.cxRetryEnd n) ≤ t.now then t.retryEnds n else t

/-- R141: RETRY_CLEAR_MS in ON or LIMIT. -/
def execRetryClear (n : Fin 512) (s : State) : Result :=
  s.ppDo fun t =>
    if (t.ctxSt n = 5 ∨ t.ctxSt n = 6) ∧ t.since (t.rd (Reg.cxOnNs n)) (t.rd (Reg.RETRY_CLEAR_MS n) * 1000000) = true then
      t.wr (Reg.RETRIES n) 0
    else t

/-- R129, R134: the shunt voltage of a direct channel, in µV, falls below the ILIM_MA level. -/
def execCurrentLimitRelease (x : ChannelLevel) (s : State) : Result :=
  s.ppDo fun t =>
    if t.shuntNv x.channel (t.rd (Reg.ILIM_MA x.channel)) ≤ x.level * 1000 then t
    else if t.ctxSt x.channel = 6 then t.limitOff x.channel
    else if t.ctxSt x.channel = 4 then t.setFld (cxAtLimit x.channel) 0
    else t

end Sys2Proof.Machine
end

