-- ==== Sys2Proof/Machine/Load.lean ====
section
/-!
DEFINITION. The load of the stored configuration in STARTING (12_dictionary.md R493, R709; 10_faults_watchdog_resets.md R437;
15_start_bist_standby.md R635).
-/
namespace Sys2Proof.Machine

/-- A public key slot's number, for its register. -/
def pubSlot (k : Nat) : Option Nat := (List.range 4).find? fun i => k = Reg.PUBKEY i

/-- A sub-index that the load leaves as it is: what the flash holds elsewhere, and after a power-plane reset what that reset
keeps (R437). A stored public key is loaded (14_images_and_security.md R627). -/
def State.loadSkips (s : State) (idx sub : Nat) : Bool :=
  (inFlash idx sub && !(pubSlot (odKey idx sub)).isSome) || (s.on Reg.startFromPp && (throughPp idx sub || (decide (s.rd Reg.CAP_STATE = 3) && inCapture idx sub)))

/-- The sub-indexes of the load beside the values that a copy, in the same order, holds of them. -/
def besides : List (Nat × Nat × SubRow) → List (Nat × Int) → List ((Nat × Nat × SubRow) × Int)
  | [], _ => []
  | e :: t, [] => (e, 0) :: besides t []
  | e :: t, (k, v) :: r => if k = odKey e.1 e.2.1 then (e, v) :: besides t r else (e, 0) :: besides t ((k, v) :: r)

/-- The load so far: the part, the sub-indexes that changed, and whether a value was skipped or returned. -/
structure Loading where
  st : State
  changed : List (Nat × Nat)
  short : Bool

/-- A stored value as far as it is legal: a value outside its range, or a reserved encoding, is skipped, field by field; and
whether nothing was skipped (R709; R502 step 7). -/
def SubRow.takeLegal (row : SubRow) (old v : Int) : Int × Bool :=
  if row.fields.isEmpty then if row.inRange old v then (v, true) else (old, false)
  else row.fields.foldl (fun t f =>
    if !f.stored then t
    else if f.of v = f.of old ∨ (f.least ≤ f.of v ∧ f.of v ≤ f.most) then (withBits t.1 f.lo (f.hi - f.lo + 1) (f.of v), t.2)
    else (t.1, false)) (old, true)

/-- One value of the copy is taken in, as far as it is legal (R709), a DOMAIN_EPOCH within its range (14_images_and_security.md R610). -/
def Loading.take (l : Loading) (idx sub : Nat) (row : SubRow) (v : Int) : Loading :=
  let k := odKey idx sub
  let old := l.st.rd k
  let new := if offTable idx sub v ∨ (k = Reg.DOMAIN_EPOCH ∧ l.st.ownCheck idx sub v ≠ 0) then (old, false) else row.takeLegal old v
  let m := if new.2 then l else { l with short := true }
  if new.1 = old then m else { m with st := m.st.wr k new.1, changed := (idx, sub) :: m.changed }

/-- A byte string of the copy is taken in, when its length is one that its DOMAIN allows (R709). A public key goes into an empty slot only: a slot
that is loaded keeps its key (14_images_and_security.md R627) (log entry 124: DESIGN CHOICE). -/
def Loading.takeBytes (l : Loading) (idx sub : Nat) (b : List Byte) : Loading :=
  let k := odKey idx sub
  if l.st.blob k = b ∨ b.isEmpty = true then l
  else
    match pubSlot k with
    | some i =>
      if b.length ≠ 64 ∨ l.st.bit (flag Reg.KEY_MAP (8 + i)) = true then { l with short := true }
      else { l with st := (l.st.setBlob k b).setFld (flag Reg.KEY_MAP (8 + i)) 1, changed := (idx, sub) :: l.changed }
    | none =>
      if b.length % 4 = 0 ∧ b.length ≤ 32768 then { l with st := l.st.setBlob k b, changed := (idx, sub) :: l.changed }
      else { l with short := true }

/-- A named field returns to the value it had before the load. -/
def State.restoreField (t before : State) (b : Bits) : State :=
  if b.width = 0 then (t.wr b.key (before.rd b.key)).setBlob b.key (before.blob b.key) else t.setFld b (before.fld b)

/-- The fields that a failing check names return to the values before the load. -/
def Loading.judge (before : State) (l : Loading) (c : CheckId) : Loading :=
  if l.st.checkOk c then l
  else { l with st := (l.st.checkNames c).foldl (fun t b => t.restoreField before b) l.st, short := true }

/-- The checks are made again until none fails. -/
def Loading.settle (before : State) (checks : List CheckId) : Nat → Loading → Loading
  | 0, l => l
  | n + 1, l => if checks.all fun c => l.st.checkOk c then l else Loading.settle before checks n (checks.foldl (Loading.judge before) l)

/-- ENABLE of a unit that failed at start-up stays 0 (15_start_bist_standby.md R635). -/
def State.keepFailed (s : State) : State :=
  let off := fun (unit i : Nat) (b : Bits) (t : State) => if t.rdN (Reg.utFail unit) / 2 ^ i % 2 = 1 then t.setFld b 0 else t
  let t := forUnits 2 (fun k u => off 19 k (Bit.LANE_CTRL_ENABLE k) (off 23 k (flag (Reg.CAN_CTRL k) 0) u)) s
  let u := forUnits 3 (fun k u => off 25 k (Bit.TW_CTRL_ENABLE k) u) (forUnits 4 (fun p u => off 13 p (Bit.PORT_CTRL_ENABLE p) u) t)
  let v := off 20 0 Bit.WS_CTRL_ENABLE (off 21 0 (flag Reg.T1S_CTRL 0) (off 22 0 Bit.ETH_CTRL_ENABLE (off 24 0 (flag Reg.SPI_CTRL 0) u)))
  forUnits 48 (fun m w => if w.on (Reg.mnFail m) then w.setFld (Bit.WM_CTRL_ENABLE m) 0 else w) v

/-- WM_CTRL of a monitor. -/
def isMonCtrl (e : Nat × Nat) : Bool := decide (0x3500 ≤ e.1) && decide (e.1 < 0x3530) && decide (e.2 = 1)

/-- What the loaded values bring about in their blocks; the loop engine takes its configuration as one commit, and a monitor is enabled with
its INPUT and thresholds loaded (08_sensing_and_thermal.md R374). -/
def State.loadHooks (before t : State) (changed : List (Nat × Nat)) : State :=
  let loop := fun (i : Nat) => decide (0x3800 ≤ i) && decide (i ≤ 0x3883)
  let order := changed.filter (fun e => !isMonCtrl e) ++ changed.filter isMonCtrl
  let u := order.foldl (fun v e => if loop e.1 then v else before.hook v e.1 e.2 (v.rd (odKey e.1 e.2))) t
  if changed.any fun e => loop e.1 then u.loopAccept before else u

/-- A copy is loaded (R493, R709). -/
def State.loadCopy (s : State) (c : ConfigCopy) : State :=
  let l0 : Loading := (besides storedSubs c.regs).foldl (fun l p =>
    if s.loadSkips p.1.1 p.1.2.1 then l
    else if p.1.2.2.ty = .domain then l.takeBytes p.1.1 p.1.2.1 (c.bytes (odKey p.1.1 p.1.2.1))
    else l.take p.1.1 p.1.2.1 p.1.2.2 p.2) ⟨s, [], false⟩
  let l1 := Loading.settle s ((l0.changed.flatMap fun e => l0.st.checksOn e.1 e.2).eraseDups) 64 l0
  let t := l1.st.keepFailed
  let done := l1.changed.reverse.filter fun e => decide (t.rd (odKey e.1 e.2) ≠ s.rd (odKey e.1 e.2)) || decide (t.blob (odKey e.1 e.2) ≠ s.blob (odKey e.1 e.2))
  (s.loadHooks t done).setBit (flag Reg.CFG_STATUS 3) l1.short

/-- The load (R493): the copy that governs, or LOAD_FAIL where there is none. -/
def State.loadConfig (s : State) : State :=
  match s.governing with
  | none => s.cfgShow.setFld (flag Reg.CFG_STATUS 2) 1
  | some c => (s.loadCopy c).cfgShow

end Sys2Proof.Machine
end

