-- ==== Sys2Proof/Machine/LoanOps.lean ====
section
/-!
DEFINITION. Shared operations of lending (06_tally_and_sharing.md R270–R278; 12_dictionary.md R531): the lender's answers, the borrower's
loans, and the evaluation with the leases that have ended.
-/
namespace Sys2Proof.Machine

/-- The sum of a list of loans. -/
def loanSum (l : List Loan) : Int := l.foldl (fun t x => t + x.mw) 0

/-- The loan of `peer` with LOAN_ID `id` in a list. -/
def findLoan (peer id : Nat) (l : List Loan) : Option Loan := l.find? fun x => x.peer = peer && x.id = id

/-- A list without the loan of `peer` with LOAN_ID `id`. -/
def dropLoan (peer id : Nat) (l : List Loan) : List Loan := l.filter fun x => !(x.peer = peer && x.id = id)

/-! ### The lender (R272–R274, R276, R277) -/

/-- What the lender grants of a request, 0 for a refusal (R272, R273, R277). -/
def State.lendable (s : State) (mw : Int) : Int :=
  let g := min mw (min (s.rd Reg.LEND_MAX_MW - s.rd Reg.LENT_MW) (s.rd Reg.HEADROOM_MW - s.rd Reg.LEND_KEEP_MW))
  let step := s.rd Reg.BORROW_STEP_MW
  if s.bit Bit.TALLY_CTRL_LEND_EN = false ∨ g ≤ 0 ∨ 8 ≤ s.lent.length then 0 else g / step * step

/-- A reservation leaves LENT_MW (R273, R276). -/
def State.unlend (s : State) (peer id : Nat) : State :=
  match findLoan peer id s.lent with
  | none => s
  | some _ =>
    let rest := dropLoan peer id s.lent
    { s with lent := rest }.wr Reg.LENT_MW (s.rd Reg.LENT_MW - (loanSum s.lent - loanSum rest))

/-- The body of an answer after ABORT (12_dictionary.md R531). -/
def loanBody (op id : Nat) (mw lease : Int) : List Byte :=
  [BitVec.ofNat 8 op, 0] ++ leBytes 2 id ++ leBytes 4 mw.toNat ++ leBytes 2 lease.toNat ++ [0, 0]

/-- A REQUEST: what is granted joins LENT_MW before the grant is sent (R272). One that repeats the LOAN_ID of a reservation of the same sender takes
that one's place (log entry 127: DESIGN CHOICE). -/
def State.loanRequest (s0 : State) (q : Req) (id : Nat) (mw : Int) : State :=
  let s := s0.unlend q.src id
  let g := s.lendable mw
  let lease := s.rd Reg.LEASE_MS
  if g = 0 then s.respond q 0 (loanBody 3 id 0 lease)
  else
    let t := { s with lent := s.lent ++ [(⟨q.src, id, g, s.timebase, false, 0⟩ : Loan)] }.wr Reg.LENT_MW (s.rd Reg.LENT_MW + g)
    t.respond q 0 (loanBody 2 id g lease)

/-- The timer of a loan starts again. -/
def restart (peer id now : Nat) (l : List Loan) : List Loan :=
  l.map fun x => if x.peer = peer && x.id = id then { x with start := now, asked := false } else x

/-- A RENEW: renewed while the lender's own P_EFF allows, and the reservation starts again (R273, R274) (log entry 83: DEDUCED). -/
def State.loanRenew (s : State) (q : Req) (id : Nat) : State :=
  match findLoan q.src id s.lent with
  | none => s.respond q 0 (loanBody 6 id 0 (s.rd Reg.LEASE_MS))
  | some x =>
    let ok := s.bit Bit.TALLY_CTRL_LEND_EN && decide (s.rd Reg.HYST_MW ≤ s.rd Reg.HEADROOM_MW)
    let t := if ok then { s with lent := restart q.src id s.timebase s.lent } else s
    t.respond q 0 (loanBody (if ok then 5 else 6) id x.mw (s.rd Reg.LEASE_MS))

/-- A RETURN, answered whatever LEND_EN and BORROW_EN are (R273). -/
def State.loanReturn (s : State) (q : Req) (id : Nat) (mw : Int) : State :=
  (s.unlend q.src id).respond q 0 (loanBody 7 id mw (s.rd Reg.LEASE_MS))

/-- A LOAN request of another device: under a session only, from a device and not the host (12_dictionary.md R498, R531) (log entry 85: DEDUCED). -/
def State.svcLoan (s : State) (q : Req) (body : List Byte) : State :=
  let op := ofLe (body.take 1)
  let id := ofLe (slice 2 2 body)
  let mw : Int := (ofLe (slice 4 4 body) : Nat)
  if q.src = 0 ∨ q.bcast = true then s.reject q 0x0102
  else if body.length ≠ 12 ∨ ofLe (slice 1 1 body) ≠ 0 ∨ ofLe (slice 10 2 body) ≠ 0 then s.reject q 0x0304
  else if q.auth = false then s.reject q 0x0203
  else if op = 1 then s.loanRequest q id mw
  else if op = 4 then s.loanRenew q id
  else if op = 7 then s.loanReturn q id mw
  else s.reject q 0x0401

/-! ### The borrower (R270, R271, R274–R276) -/

/-- A renewal is received (R274): the timer of the loan starts again; it wins over the end of the lease on the same edge (R292). One that has
not been asked for is discarded (R273). -/
def State.loanRenewed (s : State) (peer id : Nat) : State :=
  match findLoan peer id s.borrowed with
  | some x => if x.asked then { s with borrowed := restart peer id s.timebase s.borrowed } else s
  | none =>
    match s.nowMark markLease (peer * 65536 + id) with
    | some mw => { s with borrowed := s.borrowed ++ [(⟨peer, id, mw, s.timebase, false, 0⟩ : Loan)] }.wr Reg.tyLeaseEnd (s.rd Reg.tyLeaseEnd - 1)
    | none => s

/-- The answer of a peer: a GRANT or a REFUSE counts while its request is outstanding, RENEWED while its renewal is; DECLINED leaves the loan
as it stands (log entry 85: DEDUCED). -/
def State.loanAnswer (s : State) (peer op id : Nat) (mw : Int) : State :=
  if op = 5 then s.loanRenewed peer id
  else if s.on Reg.tyAwait = false ∨ s.rdN Reg.tyAwaitId ≠ id ∨ s.lendPeer (s.rdN Reg.tyPeerIdx) ≠ peer then s
  else if op = 2 then
    ({ s with borrowed := s.borrowed ++ [(⟨peer, id, mw, s.timebase, false, 0⟩ : Loan)] }.wr Reg.BORROWED_MW (satU 32 (s.rd Reg.BORROWED_MW + mw))).wr Reg.tyAwait 0
  else if op = 3 then
    if s.bit Bit.TALLY_CTRL_BORROW_EN && s.dengonUp then s.askPeer (s.rdN Reg.tyPeerIdx + 1) else s.wr Reg.tyAwait 0
  else s

/-- The longest time from a request of R531 to its response (12_dictionary.md R526). -/
def State.loanTimed (s : State) (x : Ask) : State := s.wr Reg.LAT_US (max (s.rd Reg.LAT_US) (satU 32 ((s.now - x.stamp) / 1000)))

/-- A loan response of a peer with its tag and FRESH judged: it answers the oldest loan request that this part has outstanding at that peer, and is
discarded where there is none (R273; 12_dictionary.md R497, R526) (log entry 85: DEDUCED). -/
def State.loanHeard (s : State) (peer op id : Nat) (mw : Int) : State :=
  match s.asks.find? fun a => a.svc = 0x20 && a.dst = peer with
  | none => s.inc32 Reg.DISCARDS
  | some a => ({ s with asks := s.asks.filter fun b => b ≠ a }.loanTimed a).loanAnswer peer op id mw

/-- 10 ms without an answer: the request is given up and the next peer asked (R270, R271) (log entry 85: DEDUCED). -/
def State.loanSilent (s : State) : State :=
  if s.on Reg.tyAwait && s.since (s.rd Reg.tyAskNs) 10000000 then
    let t := { s with asks := s.asks.filter fun (a : Ask) => !(a.svc = 0x20 && a.dst = s.lendPeer (s.rdN Reg.tyPeerIdx)) }
    if t.bit Bit.TALLY_CTRL_BORROW_EN && t.dengonUp then t.askPeer (t.rdN Reg.tyPeerIdx + 1) else t.wr Reg.tyAwait 0
  else s

/-- Half the lease has passed: a RENEW goes out, once (R273, R274). -/
def State.loanHalf (s : State) (peer id : Nat) : State :=
  match findLoan peer id s.borrowed with
  | none => s
  | some x =>
    if s.bit Bit.TALLY_CTRL_BORROW_EN && s.dengonUp && !x.asked && s.since x.start (s.rd Reg.LEASE_MS * 500000) then
      { s with borrowed := s.borrowed.map fun (l : Loan) => if l.peer = peer && l.id = id then { l with asked := true } else l }.sendLoan peer 4 id x.mw (s.rd Reg.LEASE_MS)
    else s

/-- A lease has ended unrenewed: its amount leaves BORROWED_MW at the next evaluation (R275). -/
def State.leaseEnd (s : State) (peer id : Nat) : State :=
  match findLoan peer id s.borrowed with
  | none => s
  | some x =>
    if s.since x.start (s.rd Reg.LEASE_MS * 1000000) then
      let t := { s with borrowed := dropLoan peer id s.borrowed }.wr Reg.tyLeaseEnd (s.rd Reg.tyLeaseEnd + 1)
      if x.asked then t.mark markLease (peer * 65536 + id) x.mw else t
    else s

/-- The reservation of LEASE_MS + LEND_GUARD_MS has ended (R272, R276). -/
def State.reservationEnd (s : State) (peer id : Nat) : State :=
  match findLoan peer id s.lent with
  | none => s
  | some x => if s.since x.start ((s.rd Reg.LEASE_MS + s.rd Reg.LEND_GUARD_MS) * 1000000) then s.unlend peer id else s

/-- A loan that the headroom has exceeded for 1 s is returned: the amount leaves BORROWED_MW before the return is sent (R276). -/
def State.loanGiveBack (s : State) (peer id : Nat) : State :=
  match findLoan peer id s.borrowed with
  | none => s
  | some x =>
    if x.spare ≠ 0 ∧ s.since ((x.spare : Int) - 1) 1000000000 = true ∧ s.dengonUp = true then
      ({ s with borrowed := dropLoan peer id s.borrowed }.wr Reg.BORROWED_MW (max 0 (s.rd Reg.BORROWED_MW - x.mw))).sendLoan peer 7 id x.mw (s.rd Reg.LEASE_MS)
    else s

/-- An evaluation, with the leases that have ended since the last one; source 209 when it leaves a context of class 1–7 shed
or deferred (R275). -/
def State.tallyTick (s : State) : State :=
  if s.on Reg.tyLeaseEnd then
    let t := ((s.wr Reg.BORROWED_MW (satU 32 (loanSum s.borrowed))).wr Reg.tyLeaseEnd 0).evaluate
    if t.waiters.isEmpty then t else t.raise 209
  else s.evaluate

end Sys2Proof.Machine
end

