-- ==== Sys2Proof/Machine/Views.lean ====
section
/-!
DEFINITION. What a read of a sub-index returns (12_dictionary.md R489, R505, R513): most sub-indexes read as their register holds
them; those here are derived from what else the part holds.
-/
namespace Sys2Proof.Machine

/-! ### Values -/

/-- Contexts of class `c` in one of the states listed. -/
def State.countIn (s : State) (c : Nat) (sts : List Nat) : Int :=
  (((List.range 512).filter fun n => decide (s.classOf n = c) && sts.contains (s.ctxSt n)).length : Nat)

/-- PHASE_ACTIVE: bit `p` while phase `p` is active on rail `r` (02_converter_core.md R58). -/
def State.phaseMask (s : State) (r : Nat) : Int := (s.active r).foldl (fun (v : Int) p => v + 2 ^ p) 0

/-- LOAD_PERMILLE of a lane: FRAME_CYC × 2.5 ns of FRAME_NS (07_loop_engine.md R328). -/
def State.laneLoad (s : State) (l : Nat) : Int := satU 16 ((s.frameCyc l : Int) * 2500 / max 1 (s.rd (Reg.FRAME_NS l)))

/-- The value of a sub-index whose register does not hold it whole, of the objects up to 0x2FFF (log entry 17: DEDUCED). -/
def State.viewLow (s : State) (idx sub : Nat) : Int :=
  let k := odKey idx sub
  let here := s.rd k
  if 0x1140 ≤ idx ∧ idx ≤ 0x1142 then if k = Reg.TW_STATUS (idx - 0x1140) then s.twStatusReg (idx - 0x1140) else here
  else if k = Reg.T1S_STATUS then withBits here 0 1 (if s.portRuns 1 && Config.phyOk s.timebase then 1 else 0)
  else if k = Reg.WD_STATUS then withBits here 1 1 (if s.wdPeriod ≤ 2 * s.wdTicks then 1 else 0)
  else if k = Reg.WD_ELAPSED_US then satU 32 (s.wdAge / 1000)
  else if 0x2000 ≤ idx ∧ idx < 0x2004 then
    let r := idx - 0x2000
    if k = Reg.RAIL_CAP_MA r then s.railCap r else if k = Reg.PHASE_ACTIVE r then s.phaseMask r else here
  else here

/-- The same of the objects from 0x3000 on. -/
def State.viewHigh (s : State) (idx sub : Nat) : Int :=
  let k := odKey idx sub
  let here := s.rd k
  if 0x3000 ≤ idx ∧ idx < 0x3010 then -- 03_load_channels.md R134
    if k = Reg.TFAULT_ELAPSED_US (idx - 0x3000) then (s.runTimer (idx - 0x3000)).rd k else here
  else if 0x3308 ≤ idx ∧ idx < 0x3310 then
    let c := idx - 0x3308
    if k = Reg.SHED_NOW c then s.countIn c [9] else if k = Reg.ACTIVE c then s.countIn c [5, 6] else here
  else if k = Reg.MARGIN_STATUS then
    (List.range 4).foldl (fun (v : Int) r => if s.on (Reg.MARGIN r) then v + 2 ^ r else v) 0
  else if k = Reg.SEQ_STATUS then s.seqStatus
  else if idx = 0x3881 ∨ idx = 0x3882 then
    let l := idx - 0x3881
    if k = Reg.FRAME_CYC l then (s.frameCyc l : Nat) else if k = Reg.Lane_LOAD_PERMILLE l then s.laneLoad l else here
  else if 0x38C0 ≤ idx ∧ idx < 0x38E0 then
    let w := idx - 0x38C0
    if k = Reg.W_STATUS w then withBits here 1 2 (s.windOwner w) else here
  else if k = Reg.PL_STATUS then withBits here 1 1 (if s.plToErase.isSome && s.procRuns then 1 else 0)
  else if k = Reg.POOL_FREE then s.poolFree
  else if k = Reg.CAP_MAX then s.capMax
  else if k = Reg.TRIAL_S then s.trialS
  else if k = Reg.RUN_EPOCH then (s.runEpoch : Nat)
  else if k = Reg.SESSIONS then (s.openSessions.length : Nat)
  else here

/-- The value a sub-index reads as. -/
def State.view (s : State) (idx sub : Nat) : Int := if idx < 0x3000 then s.viewLow idx sub else s.viewHigh idx sub

/-! ### Byte strings -/

/-- The outcome table: TX_SEQ, then ENTRY0–ENTRY31 (R516). -/
def State.outcomeTable (s : State) : List Byte :=
  leBytes 4 (s.rdN Reg.TX_SEQ) ++ ((List.range 32).map fun i => leBytes 8 (s.rdN (Reg.OUT_ENTRY i))).flatten

/-- The bytes of the live image; its COMMIT reads 0 (11_shaft_and_pit_log.md R474, R477). -/
def State.liveBytes (s : State) : List Byte := s.live.bytes (s.rdN Reg.Ident_UNIT_ID) 0

/-- `len` bytes of the live image, or the code of an internal failure where a block of them is poisoned (11_shaft_and_pit_log.md R459; R503). -/
def State.liveRead (s : State) (off len : Nat) : Except Nat (List Byte) :=
  let p := 256 * (s.rdN Reg.livePoison - 1)
  if s.on Reg.livePoison = true ∧ p < off + len ∧ off < p + 256 then .error 0x0901 else .ok (slice off len s.liveBytes)

/-- The image in the selected slot, or the state abort code while it is written or erased (11_shaft_and_pit_log.md R486). -/
def State.slotBytes (s : State) : Except Nat (List Byte) :=
  let k := s.rdN Reg.SLOT_SEL
  if s.rdN Reg.plSlot = k + 1 ∨ s.plToErase = some k then .error 0x0501
  else if s.on (Reg.slotDead k) then .ok (List.replicate 49152 0xFF)
  else match s.slots.find? fun x => x.1 = k with
    | some x => .ok (x.2.bytes (s.rdN Reg.Ident_UNIT_ID) 0xA55A)
    | none => .ok (List.replicate 49152 0xFF)

/-- What a DOMAIN sub-index reads as, or the abort code in the present state. -/
def State.domainBytes (s : State) (idx sub : Nat) : Except Nat (List Byte) :=
  let k := odKey idx sub
  if k = Reg.TABLE then .ok s.outcomeTable
  else if 0x5020 ≤ idx ∧ idx < 0x5040 then .ok ((s.galBlocks (idx - 0x5000)).flatMap GalBlock.data)
  else if k = Reg.CAP_DATA then
    if s.rd Reg.CAP_STATE = 3 then .ok (s.capFrames.flatMap fun f => f.flatMap fun w => leBytes 2 (twos 16 w)) else .error 0x0501
  else if k = Reg.CAP_EVENTS then if s.rd Reg.CAP_STATE = 3 then .ok s.capEvents.flatten else .error 0x0501
  else if k = Reg.LIVE_HEAD then s.liveRead 0 0x200
  else if k = Reg.LIVE_RING_TEMP then s.liveRead 0x200 0x780
  else if k = Reg.LIVE_FAULT then s.liveRead 0x1000 0x1000
  else if k = Reg.LIVE_ENERGY then s.liveRead 0x2000 0x2000
  else if k = Reg.LIVE_HIST then s.liveRead 0x4000 0x8000
  else if k = Reg.SLOT_IMAGE then s.slotBytes
  else if k = Reg.LAMP_RECORD then .ok s.lampRecord
  else .ok (s.blob k)

/-- VENDOR: "Belniun Microsystems" (R495). -/
def vendorText : List Byte := [0x42, 0x65, 0x6C, 0x6E, 0x69, 0x75, 0x6E, 0x20, 0x4D, 0x69, 0x63, 0x72, 0x6F, 0x73, 0x79, 0x73, 0x74, 0x65, 0x6D, 0x73]

/-- PRODUCT: "Snistacor PQ7248" (R495). -/
def productText : List Byte := [0x53, 0x6E, 0x69, 0x73, 0x74, 0x61, 0x63, 0x6F, 0x72, 0x20, 0x50, 0x51, 0x37, 0x32, 0x34, 0x38]

/-- The code of a type (R489). -/
def tyCode : Ty → Byte
  | .bool => 1
  | .u8 => 2
  | .u16 => 3
  | .u32 => 4
  | .u64 => 5
  | .i16 => 6
  | .i32 => 7
  | .i64 => 8
  | .q15 => 9
  | .domain => 0xA
  | .string => 0xB

/-- The value part of a READ's response: TYPE, VLEN and VALUE (R505). -/
def State.readBody (s : State) (idx sub : Nat) (row : SubRow) : Except Nat (List Byte) :=
  match row.ty with
  | .domain => (s.domainBytes idx sub).map fun b => [0xA, 4] ++ leBytes 4 b.length
  | .string =>
    let t := if odKey idx sub = Reg.VENDOR then vendorText else productText
    .ok ([0xB, BitVec.ofNat 8 t.length] ++ t)
  | t => .ok ([tyCode t, BitVec.ofNat 8 (tyBytes t)] ++ tyEncode t (s.view idx sub))

/-! ### DESCRIBE (R505) -/

/-- MODE. -/
def modeCode : Access → Byte
  | .ro => 0
  | .wo => 1
  | .rw => 2
  | .rws => 3
  | .const => 4
  | .fields => 5

/-- The least and the greatest level that a write of the sub-index can need (R492; 10_faults_watchdog_resets.md R415): one level,
or two where it depends on what the write changes. -/
def SubRow.wlevels (row : SubRow) (idx sub : Nat) : Nat × Nat :=
  let rws := decide (row.acc = .rws) || (decide (row.acc = .fields) && row.fields.any fun f => decide (f.acc = .rws))
  match row.acc with
  | .ro => (0, 0)
  | .const => (0, 0)
  | .rws => (max 2 row.level, max 2 row.level)
  | _ =>
    if idx = 0x4400 then (2, 2)
    else if 0x4000 ≤ idx ∧ idx < 0x4400 ∧ sub = 1 then (1, 2)
    else (max 1 row.level, max (if rws then 2 else 1) row.level)

/-- RLEVEL and WLEVEL, and the part with the free values counted: the read level of an unreadable key, and a write level that
depends on what the write changes, are stated as no one value (log entry 36: DESIGN CHOICE). -/
def State.describeLevels (s : State) (idx sub : Nat) (row : SubRow) : Byte × Byte × State :=
  let w := row.wlevels idx sub
  if row.ty = .domain ∧ row.acc = .wo then (BitVec.ofInt 8 s.free, BitVec.ofNat 8 w.1, s.used)
  else if w.1 = w.2 then (0, BitVec.ofNat 8 w.1, s)
  else (0, BitVec.ofNat 8 (w.1 + (s.free % ((w.2 - w.1 + 1 : Nat) : Int)).toNat), s.used)

/-- The least and the greatest value of a type. -/
def tyRange (t : Ty) : Int × Int :=
  match t with
  | .bool => (0, 1)
  | _ => if tySigned t then (-(2 ^ (8 * tyBytes t - 1) : Nat), (2 ^ (8 * tyBytes t - 1) - 1 : Nat)) else (0, maxU (8 * tyBytes t))

/-- The ranges of a sub-index without the single values 0 and all-ones that stand apart from every other range. -/
def SubRow.mainRanges (row : SubRow) : List (Int × Int) :=
  let ones := maxU (8 * tyBytes row.ty)
  let apart := fun (r : Int × Int) => row.ranges.all fun x => decide (x = r) || decide (r.2 + 1 < x.1) || decide (x.2 + 1 < r.1)
  let l := row.ranges.filter fun r => !((decide (r = (0, 0)) || decide (r = (ones, ones))) && apart r)
  if l.isEmpty then row.ranges else l

/-- MIN and MAX of a number (log entry 36: DESIGN CHOICE, log entry 37: DEDUCED). -/
def SubRow.limits (row : SubRow) : Int × Int :=
  match row.acc, row.mask, row.mainRanges with
  | .fields, _, _ => (0, maxU (8 * tyBytes row.ty))
  | _, some m, _ => (0, (m : Int))
  | _, none, [] => tyRange row.ty
  | _, none, r :: l => l.foldl (fun b x => (min b.1 x.1, max b.2 x.2)) r

/-- FLAGS: 0, and the all-ones value, accepted outside MIN–MAX (log entry 36: DESIGN CHOICE). -/
def SubRow.describeFlags (row : SubRow) : Nat :=
  let ones := maxU (8 * tyBytes row.ty)
  let lim := row.limits
  (if row.ranges.any (fun r => decide (r = (0, 0))) && decide (0 < lim.1 ∨ lim.2 < 0) then 1 else 0) +
    if row.ranges.any (fun r => decide (r = (ones, ones))) && decide (lim.2 < ones) then 2 else 0

/-- The smallest and largest length of a DOMAIN. -/
def State.domainLimits (s : State) (idx sub : Nat) : Nat × Nat :=
  let k := odKey idx sub
  if k = Reg.TABLE then (260, 260)
  else if k = Reg.PROGRAM then (4, 32768)
  else if 0x5020 ≤ idx ∧ idx < 0x5040 then (0, s.rdN (Reg.QUOTA (idx - 0x5000)) * 256)
  else if k = Reg.CAP_DATA then (0, s.capMax.toNat * 80)
  else if k = Reg.CAP_EVENTS then (0, 4096)
  else if k = Reg.LIVE_HEAD then (0x200, 0x200)
  else if k = Reg.LIVE_RING_TEMP then (0x780, 0x780)
  else if k = Reg.LIVE_FAULT then (0x1000, 0x1000)
  else if k = Reg.LIVE_ENERGY then (0x2000, 0x2000)
  else if k = Reg.LIVE_HIST then (0x8000, 0x8000)
  else if k = Reg.SLOT_IMAGE then (49152, 49152)
  else if k = Reg.CARD_HEADER then (256, 256)
  else if k = Reg.FAIL_LOG then (0, 512)
  else if k = Reg.LAMP_RECORD then (236, 236)
  else if (List.range 4).any fun i => k = Reg.PUBKEY i then (64, 64)
  else (16, 24)

/-- DEFAULT of a DOMAIN: the length 0 of the empty string, where the spec gives that as its value after reset; none where it
gives no such value. -/
def domainEmpty (idx sub : Nat) : Bool :=
  let k := odKey idx sub
  decide (k = Reg.PROGRAM) || (decide (0x5020 ≤ idx) && decide (idx < 0x5040)) || decide (k = Reg.CAP_DATA) || decide (k = Reg.CAP_EVENTS) ||
    decide (k = Reg.CARD_HEADER) || decide (k = Reg.FAIL_LOG) || (List.range 4).any fun i => k = Reg.PUBKEY i

/-- MIN, MAX (that of POST_FRAMES follows CAP_MAX: 11_shaft_and_pit_log.md R472) and DEFAULT, and the part with the free values counted that stand for what the spec does not state (log entry 36: DESIGN CHOICE). -/
def State.describeValues (s : State) (idx sub : Nat) (row : SubRow) : Int × Int × Int × State :=
  match row.ty with
  | .string => (s.free, s.used.free, s.used.used.free, s.used.used.used)
  | .domain =>
    let l := s.domainLimits idx sub
    if domainEmpty idx sub then ((l.1 : Int), (l.2 : Int), 0, s) else ((l.1 : Int), (l.2 : Int), s.free, s.used)
  | _ => (row.limits.1, if odKey idx sub = Reg.POST_FRAMES then s.capMax - 1 else row.limits.2, resetValue (odKey idx sub), s)

/-- A DESCRIBE's response after ABORT (log entry 36: DESIGN CHOICE). -/
def describeBody (row : SubRow) (rl wl : Byte) (v : Int × Int × Int) : List Byte :=
  [tyCode row.ty, modeCode row.acc, rl, wl, BitVec.ofNat 8 row.describeFlags, 0] ++ leBytes 8 (twos 64 v.1) ++
    leBytes 8 (twos 64 v.2.1) ++ leBytes 8 (twos 64 v.2.2)

end Sys2Proof.Machine
end

