-- ==== Sys2Proof/Machine/ServiceOps.lean ====
section
/-!
DEFINITION. Shared operations of the Dengon services (12_dictionary.md R498–R516, R521–R525): the outcome table, reads, writes,
bundles, DOMAIN transfers, and the receipt of a PDU.
-/
namespace Sys2Proof.Machine

/-! ### The outcome table (R514–R516) -/

/-- An entry: TID, VALID, SRC, OUTCOME (0 APPLIED, 1 PARTIAL, 2 REJECTED, 3 LOST), APPLIED_N, TOTAL_N and ABORT. -/
def outcomeWord (src tid outcome applied total abort : Nat) : Nat :=
  tid * 2 ^ 48 + 2 ^ 47 + src * 2 ^ 40 + outcome * 2 ^ 38 + applied * 2 ^ 24 + total * 2 ^ 16 + abort

/-- Record an outcome: the newest entry is ENTRY0, and each other moves down by one. -/
def State.logOutcome (s : State) (q : Req) (outcome applied total abort : Nat) : State :=
  let t := forUnits 31 (fun i u => u.wr (Reg.OUT_ENTRY (31 - i)) (s.rd (Reg.OUT_ENTRY (30 - i)))) s
  (t.wr (Reg.OUT_ENTRY 0) (outcomeWord q.src q.tid outcome applied total abort : Nat)).wr Reg.TX_SEQ ((s.rd Reg.TX_SEQ + 1) % 4294967296)

/-- The entry of a request of a recorded service, if the table still holds one (R514; 01_architecture.md R38). -/
def State.outcomeOf (s : State) (q : Req) : Option Nat :=
  ((List.range 32).map fun i => s.rdN (Reg.OUT_ENTRY i)).find? fun e =>
    decide (e / 2 ^ 48 = q.tid) && decide (e / 2 ^ 47 % 2 = 1) && decide (e / 2 ^ 40 % 64 = q.src)

/-- The services recorded (R498; 14_images_and_security.md R606). -/
def recordedSvc (svc : Nat) : Bool := [2, 3, 8, 9, 0x42].contains svc

/-- The response after what followed from the request, while the part can still send it (R532, R534). -/
def State.answer (s : State) (q : Req) (abort : Nat) (body : List Byte) : State :=
  let t := s.settle
  if t.dengonUp then t.respond q abort body else t

/-- The body of a BUNDLE's response after ABORT (R508, R514). -/
def bundleBody (applied fail : Nat) : List Byte := [BitVec.ofNat 8 applied, BitVec.ofNat 8 fail]

/-- A request turned away before it is looked at: one of a recorded service that the table does not hold is recorded as REJECTED, a BUNDLE with no entry
judged (R508, R514) (log entry 38: DEDUCED). -/
def State.turnAway (s : State) (q : Req) (abort : Nat) : State :=
  (s.when (recordedSvc q.svc && (s.outcomeOf q).isNone) fun t => t.logOutcome q 2 0 (if q.svc = 3 then 0 else 1) abort).respond q abort
    (if q.svc = 3 then bundleBody 0 0 else [])

/-- A request turned away after it was recorded. -/
def State.refuse (s : State) (q : Req) (total abort : Nat) : State := (s.logOutcome q 2 0 total abort).answer q abort []

/-- A duplicate is answered with the recorded outcome (R514) (log entry 34: DEDUCED). -/
def State.answerAgain (s : State) (q : Req) (e : Nat) : State :=
  let applied := e / 2 ^ 24 % 256
  let body : List Byte :=
    if q.svc = 3 then bundleBody applied (if e / 2 ^ 38 % 4 = 0 ∨ e / 2 ^ 16 % 256 = 0 then 0 else applied + 1)
    else if q.svc = 2 ∧ e % 65536 = 0 then leBytes 2 0 else []
  (s.inc32 Reg.DUPLICATES).respond q (e % 65536) body

/-! ### READ, DESCRIBE, WRITE (R505) -/

/-- A sub-index that can be read, for a body of INDEX, SUB and a reserved byte. -/
def readRow (body : List Byte) : Except Nat SubRow :=
  if body.length ≠ 4 ∨ ofLe (slice 3 1 body) ≠ 0 then .error 0x0304 else findRow (ofLe (body.take 2)) (ofLe (slice 2 1 body))

/-- READ. -/
def State.svcRead (s : State) (q : Req) (body : List Byte) : State :=
  match readRow body with
  | .error a => s.reject q a
  | .ok row =>
    if row.acc = .wo then s.reject q 0x0303
    else
      match s.readBody (ofLe (body.take 2)) (ofLe (slice 2 1 body)) row with
      | .error a => s.reject q a
      | .ok b => s.respond q 0 b

/-- DESCRIBE. -/
def State.svcDescribe (s : State) (q : Req) (body : List Byte) : State :=
  match readRow body with
  | .error a => s.reject q a
  | .ok row =>
    let l := s.describeLevels (ofLe (body.take 2)) (ofLe (slice 2 1 body)) row
    let v := l.2.2.describeValues (ofLe (body.take 2)) (ofLe (slice 2 1 body)) row
    v.2.2.2.respond q 0 (describeBody row l.1 l.2.1 (v.1, v.2.1, v.2.2.1))

/-- WRITE. -/
def State.svcWrite (s : State) (q : Req) (body : List Byte) : State :=
  let n := ofLe (slice 3 1 body)
  if body.length < 4 ∨ body.length ≠ 4 + n then s.refuse q 1 0x0304
  else
    let a := s.writeAbort q.level q.near (ofLe (body.take 2)) (ofLe (slice 2 1 body)) n (ofLe (body.drop 4))
    let t := s.write a (ofLe (body.take 2)) (ofLe (slice 2 1 body)) (ofLe (body.drop 4))
    if a = 0 then (t.logOutcome q 0 1 1 0).answer q 0 (leBytes 2 0) else t.refuse q 1 a

/-! ### BUNDLE (R506–R508) -/

/-- An entry of a bundle: index, sub-index, length and number written. -/
structure BundleEntry where
  idx : Nat
  sub : Nat
  len : Nat
  raw : Nat
  deriving DecidableEq, Repr

/-- `n` entries that fill a body exactly. -/
def parseEntries : Nat → List Byte → Option (List BundleEntry)
  | 0, b => if b.isEmpty then some [] else none
  | n + 1, b =>
    let v := ofLe (slice 3 1 b)
    if b.length < 4 + v ∨ v = 0 ∨ 8 < v then none
    else
      let e : BundleEntry := ⟨ofLe (b.take 2), ofLe (slice 2 1 b), v, ofLe (slice 4 v b)⟩
      (parseEntries n (b.drop (4 + v))).map fun l => e :: l

/-- The entry names a DOMAIN or STRING. -/
def BundleEntry.long (e : BundleEntry) : Bool :=
  match findRow e.idx e.sub with
  | .ok row => decide (row.ty = .domain) || decide (row.ty = .string)
  | .error _ => false

/-- The whole body, parsed; none when it is malformed (log entry 35: DEDUCED). -/
def parseBundle (body : List Byte) : Option (List BundleEntry) :=
  let n := ofLe (body.take 1)
  if body.length < 4 ∨ zeros (slice 1 3 body) = false ∨ n = 0 ∨ 64 < n then none
  else
    match parseEntries n (body.drop 4) with
    | some l => if l.any BundleEntry.long then none else some l
    | none => none

/-- The processor reset that falls into a request in service begins: a watchdog expiry, or a lockstep mismatch (01_architecture.md R19) (log entry 14: DEDUCED). -/
def State.cutShort (s : State) : State :=
  (if s.on Reg.cutCause then (s.raise 228).wantReset 7 else ((s.inc16 Reg.WD_RESETS).raise 226).wantReset 3).settle

/-- Entries apply one by one (R507) until one is rejected or a reset begins: the part, the number applied, and the abort code of
the entry rejected, 0x0603 when a processor reset cut the bundle short, one of its own entries' or another (01_architecture.md R19), or 0. -/
def State.runBundle (s : State) (q : Req) : Nat → List BundleEntry → State × Nat × Nat
  | k, [] => (s, k, 0)
  | k, e :: l =>
    if s.rdN Reg.cutAfter = k + 1 then (s.cutShort, k, 0x0603)
    else
      let a := s.writeAbort q.level q.near e.idx e.sub e.len e.raw
      let t := s.write a e.idx e.sub e.raw
      if a ≠ 0 then (t, k, a)
      else
        match l with
        | [] => (t, k + 1, 0)
        | _ =>
          let u := t.settle
          if u.procRuns then u.runBundle q (k + 1) l else (u, k + 1, 0x0603)

/-- BUNDLE (R508, R515; log entry 35: DEDUCED): REJECTED where the first entry is, LOST where a reset begins before it. -/
def State.svcBundle (s : State) (q : Req) (body : List Byte) : State :=
  match parseBundle body with
  | none => (s.logOutcome q 2 0 0 0x0304).answer q 0x0304 (bundleBody 0 0)
  | some l =>
    let r := s.runBundle q 0 l
    let k := r.2.1
    let a := r.2.2
    if a = 0 then (r.1.logOutcome q 0 k l.length 0).answer q 0 (bundleBody k 0)
    else (r.1.logOutcome q (if k ≠ 0 then 1 else if a = 0x0603 then 3 else 2) k l.length a).answer q a (bundleBody k (k + 1))

/-! ### DOMAIN transfers (R509–R513) -/

/-- A key slot's number, for its register. -/
def keySlotOf (k : Nat) : Option Nat := (List.range 5).find? fun i => k = Reg.KEY i

/-- An empty key slot takes a plain key: in OPEN, from host SPI or TW0 (14_images_and_security.md R626). -/
def State.plainKeyOk (s : State) (q : Req) (i total : Nat) : Bool :=
  decide (s.rd Reg.DEBUG_STATE = 0) && q.near && decide (total = 16) && !s.bit (flag Reg.KEY_MAP i)

/-- The level a transfer needs (R492; 14_images_and_security.md R626, R627). -/
def State.domainLevel (s : State) (q : Req) (k total : Nat) : Nat :=
  match pubSlot k, keySlotOf k with
  | some _, _ => if s.rd Reg.DEBUG_STATE = 0 ∧ q.near = true then 0 else 3
  | none, some i => if s.plainKeyOk q i total then 0 else 3
  | none, none => 2

/-- The capacity of a DOMAIN (07_loop_engine.md R327; 14_images_and_security.md R626, R627). -/
def domainCapacity (k : Nat) : Nat := if (pubSlot k).isSome then 64 else if (keySlotOf k).isSome then 24 else 32768

/-- The DOMAIN's own length rule. -/
def State.domainLengthOk (s : State) (q : Req) (k total : Nat) : Bool :=
  match pubSlot k, keySlotOf k with
  | some _, _ => decide (total = 64)
  | none, some i => decide (total = 24) || s.plainKeyOk q i total
  | none, none => decide (total % 4 = 0) && decide (4 ≤ total)

/-- The present state forbids the transfer (R490; 14_images_and_security.md R617, R627). -/
def State.domainRefused (s : State) (k : Nat) : Bool :=
  match pubSlot k, keySlotOf k with
  | some i, _ => s.bit (flag Reg.KEY_MAP (8 + i))
  | none, some _ => false
  | none, none => decide (s.rdN Reg.STATE ≠ 3) || s.bit updRecovery

/-- The gallery a transfer is staged in (14_images_and_security.md R626). -/
def stageGallery (secure : Bool) : Nat := if secure then 26 else 25

/-- A transfer is over: its blocks are freed (R511, R512), those of one that a poisoned block has spoilt before (11_shaft_and_pit_log.md R459). -/
def State.transferEnds (s : State) (x : Transfer) : State :=
  let g := stageGallery x.secure
  { s.wr (Reg.USED g) (max 0 (s.rd (Reg.USED g) - (if x.spoilt then 0 else ceilDiv (x.total : Nat) 256))) with transfers := s.transfers.filter fun y => y ≠ x }

/-- The object a DOMAIN_START or DOMAIN_READ names. -/
def bodyKey (body : List Byte) : Nat := odKey (ofLe (body.take 2)) (ofLe (slice 2 1 body))

/-- The abort code of a DOMAIN_START up to the present state (R502, R509) (log entry 33: DEDUCED). -/
def State.startAbort (s : State) (q : Req) (body : List Byte) : Nat :=
  let idx := ofLe (body.take 2)
  let sub := ofLe (slice 2 1 body)
  let k := bodyKey body
  let total := ofLe (slice 4 4 body)
  if body.length ≠ 8 ∨ ofLe (slice 3 1 body) ≠ 0 then 0x0304
  else
    match findRow idx sub with
    | .error a => a
    | .ok row =>
      if row.acc = .ro ∨ row.acc = .const then 0x0303
      else if q.level < (if row.ty = .domain then s.domainLevel q k total else s.writeLevel q.near idx sub row (s.rd k) (s.rd k)) then 0x0203
      else if row.ty ≠ .domain then 0x0304
      else if domainCapacity k < total then 0x0402
      else if !s.domainLengthOk q k total then 0x0401
      else if s.domainRefused k then 0x0501
      else 0

/-- A transfer has been idle for 1 s (R512). -/
def State.transferStale (s : State) (x : Transfer) : Bool := decide (x.stamp + 1000000000 ≤ s.timebase)

/-- The transfers that have been idle for 1 s are abandoned, and the one of `src` that a poisoned block has spoilt is forgotten (R512). -/
def State.dropStale (s : State) (src : Nat) : State :=
  forAll (s.transfers.filter fun x => s.transferStale x || (x.spoilt && decide (x.src = src))) (fun x t => t.transferEnds x) s

/-- DOMAIN_START. -/
def State.svcStart (s0 : State) (q : Req) (body : List Byte) : State :=
  let s := s0.dropStale q.src
  let a := s.startAbort q body
  let total := ofLe (slice 4 4 body)
  let secure := (keySlotOf (bodyKey body)).isSome
  if a ≠ 0 then s.reject q a
  else if (s.transfers.any fun x => x.src = q.src) ∨ 4 ≤ (s.transfers.filter fun x => !x.spoilt).length then s.reject q 0x0502
  else
    match s.takeBlocks (stageGallery secure) ((total + 255) / 256) with
    | none => s.reject q 0x0502
    | some t =>
      let x : Transfer := ⟨q.src, q.tid, ofLe (body.take 2), ofLe (slice 2 1 body), total, [], (0, []), s.timebase, secure, false⟩
      { t with transfers := t.transfers ++ [x] }.respond q 0 []

/-- The open transfer of a request. -/
def State.transferOf (s : State) (q : Req) : Option Transfer := s.transfers.find? fun x => x.src = q.src && x.tid = q.tid

/-- DOMAIN_DATA (log entry 33: DEDUCED); the transfer that a poisoned block has spoilt is given up (R503). -/
def State.svcDomainData (s : State) (q : Req) (body : List Byte) : State :=
  let off := ofLe (body.take 4)
  let d := body.drop 4
  if body.length < 5 ∨ 1020 < body.length then s.reject q 0x0304
  else
    match s.transferOf q with
    | none => s.reject q 0x0602
    | some x =>
      let keep := fun (y : Transfer) => { s with transfers := s.transfers.map fun z => if z = x then y else z }
      if s.transferStale x then (s.transferEnds x).reject q 0x0602
      else if x.spoilt then (s.transferEnds x).reject q 0x0901
      else if q.level < s.domainLevel q (odKey x.idx x.sub) x.total then s.reject q 0x0203
      else if x.last = (off, d) then (keep { x with stamp := s.timebase }).respond q 0 []
      else if x.total < off + d.length then (s.transferEnds x).reject q 0x0402
      else if off ≠ x.data.length then (s.transferEnds x).reject q 0x0503
      else (keep { x with data := x.data ++ d, last := (off, d), stamp := s.timebase }).respond q 0 []

/-- The abort code of a DOMAIN_END with its data complete (R511) (log entry 33: DEDUCED). -/
def State.endAbort (s : State) (q : Req) (x : Transfer) (crc : Nat) : Nat :=
  let k := odKey x.idx x.sub
  if q.level < s.domainLevel q k x.total then 0x0203
  else if x.data.length < x.total then 0x0402
  else if crc32 x.data ≠ crc then 0x0601
  else if s.domainRefused k then 0x0501
  else
    match pubSlot k, keySlotOf k with
    | some _, _ => 0
    | none, some i => s.keyAbort q i x.data
    | none, none => if (s.setBlob k x.data).checkOk .loop then 0 else 0x0401

/-- The value of a transfer is committed on one edge. -/
def State.domainCommit (s : State) (q : Req) (x : Transfer) : State :=
  let k := odKey x.idx x.sub
  match pubSlot k, keySlotOf k with
  | some i, _ => (s.setBlob k x.data).setFld (flag Reg.KEY_MAP (8 + i)) 1
  | none, some i => s.keyCommit q i x.data
  | none, none => forAll (lampUnitsOf x.idx) (fun u v => v.lampService u) (s.hook (s.setBlob k x.data) x.idx x.sub 0)

/-- DOMAIN_END (R511; log entry 33: DEDUCED): LOST where a processor reset begins between its checks and the commit (R515). -/
def State.svcEnd (s : State) (q : Req) (body : List Byte) : State :=
  if body.length ≠ 4 then (((s.transferOf q).map s.transferEnds).getD s).refuse q 1 0x0304
  else
    match s.transferOf q with
    | none => s.reject q 0x0602
    | some x =>
      if s.transferStale x then (s.transferEnds x).reject q 0x0602
      else if x.spoilt then (s.transferEnds x).refuse q 1 0x0901
      else
        let a := s.endAbort q x (ofLe body)
        let t := s.transferEnds x
        if a ≠ 0 then t.refuse q 1 a
        else if s.on Reg.cutAfter then (t.cutShort.logOutcome q 3 0 1 0x0603).answer q 0x0603 []
        else ((t.domainCommit q x).logOutcome q 0 1 1 0).answer q 0 []

/-- DOMAIN_READ; a read of a gallery's first block is noted on its edge (11_shaft_and_pit_log.md R488). -/
def State.svcDomainRead (s : State) (q : Req) (body : List Byte) : State :=
  let off := ofLe (slice 4 4 body)
  let count := ofLe (slice 8 2 body)
  if body.length ≠ 12 ∨ ofLe (slice 3 1 body) ≠ 0 ∨ ofLe (slice 10 2 body) ≠ 0 then s.reject q 0x0304
  else
    match findRow (ofLe (body.take 2)) (ofLe (slice 2 1 body)) with
    | .error a => s.reject q a
    | .ok row =>
      if row.acc = .wo then s.reject q 0x0303
      else if row.ty ≠ .domain then s.reject q 0x0304
      else if count = 0 ∨ 1008 < count then s.reject q 0x0401
      else
        match s.domainBytes (ofLe (body.take 2)) (ofLe (slice 2 1 body)) with
        | .error a => s.reject q a
        | .ok b =>
          let idx := ofLe (body.take 2)
          let t := s.when (decide (0x5020 ≤ idx) && decide (idx < 0x5040) && decide (off < 256)) fun u => u.mark markRead (idx - 0x5000) 0
          if b.length < off then s.reject q 0x0401
          else t.respond q 0 (leBytes 2 0 ++ leBytes 4 b.length ++ leBytes 4 off ++ slice off count b)

/-! ### ASSIGN (R522) -/

/-- ASSIGN, to address 63 under the domain key. A device whose UNIT_ID the body does not carry stays silent (log entry 39: DEDUCED). -/
def State.svcAssign (s : State) (q : Req) (body : List Byte) : State :=
  let addr := ofLe (slice 8 1 body)
  if body.length ≠ 12 then s.refuse q 1 0x0304
  else if ofLe (body.take 8) ≠ s.rdN Reg.Ident_UNIT_ID then s
  else if zeros (body.drop 9) = false then s.refuse q 1 0x0304
  else if addr = 0 ∨ 62 < addr then s.refuse q 1 0x0401
  else if s.rdN Reg.STATE ≠ 3 ∨ s.bit updRecovery = true then s.refuse q 1 0x0501
  else (((s.wr Reg.DOMAIN_ADDR (addr : Nat)).setFld Bit.DG_CTRL_CLASH 0).logOutcome q 0 1 1 0).answer q 0 []

/-! ### IMG_END (14_images_and_security.md R606, R607) -/

/-- IMG_END, which is recorded. -/
def State.svcImgEnd (s : State) (q : Req) (body : List Byte) : State :=
  if !body.isEmpty then s.refuse q 1 0x0304
  else if q.level < 2 then s.refuse q 1 0x0203
  else
    let r := s.imgEnd
    if r.1 ≠ 0 then r.2.2.refuse q 1 r.1 else (r.2.2.logOutcome q 0 1 1 0).answer q 0 r.2.1

/-! ### Service (R498, R502) -/

/-- The services a request may name, and their direction: ASSIGN from the host to address 63 only, LOAN between devices only (R498, R502 step 1). -/
def svcKnown (q : Req) : Bool :=
  [1, 2, 3, 4, 5, 6, 7, 8, 9, 0x20, 0x30, 0x31, 0x32, 0x40, 0x41, 0x42, 0x43].contains q.svc && (decide (q.svc ≠ 9) || (q.bcast && decide (q.src = 0))) &&
    (decide (q.svc ≠ 0x20) || (!q.bcast && decide (q.src ≠ 0)))

/-- A request of a service, not a duplicate. -/
def State.serveNew (s : State) (q : Req) (body : List Byte) (fresh : Nat) : State :=
  match q.svc with
  | 1 => s.svcRead q body
  | 2 => s.svcWrite q body
  | 3 => s.svcBundle q body
  | 4 => s.svcDescribe q body
  | 5 => s.svcDomainRead q body
  | 6 => s.svcStart q body
  | 7 => s.svcDomainData q body
  | 8 => s.svcEnd q body
  | 9 => s.svcAssign q body
  | 0x20 => if s.bit updRecovery then s.reject q 0x0501 else s.svcLoan q body
  | 0x30 => s.svcOpen q body
  | 0x31 => s.svcProve q body fresh
  | 0x32 => if q.bcast then s.reject q 0x0203 else s.svcClose q body
  | 0x40 => s.svcOffer q body
  | 0x41 => s.svcData q body
  | 0x42 => s.svcImgEnd q body
  | 0x43 => s.svcQuery q body
  | _ => s.reject q 0x0102

/-- Responses to `src` that wait for the credit of a transmit gallery: its requests outstanding (R532; 11_shaft_and_pit_log.md R452) (log entry 38: DEDUCED). -/
def State.outstanding (s : State) (src : Nat) : Nat :=
  (s.txWait.filter fun w => decide (ofLe (w.2.take 1) / 8 % 2 = 1) && decide (ofLe (slice 1 1 w.2) = src)).length

/-- A request whose freshness has passed (R502, R514); one of a source that has 8 outstanding is turned away (R503, R532) (log entry 38: DEDUCED). -/
def State.serve (s : State) (q : Req) (body : List Byte) (fresh : Nat) : State :=
  if !svcKnown q then s.turnAway q 0x0102
  else if 8 ≤ s.outstanding q.src then s.turnAway q 0x0502
  else
    let heard := q.auth && decide (q.src = 0) && (decide (q.svc ≠ 9) || decide (ofLe (body.take 8) = s.rdN Reg.Ident_UNIT_ID))
    let t := if heard && !s.on Reg.hostSeen then (s.when (s.on Reg.HOST_CHECK) State.confBreak).wr Reg.hostSeen 1 else s
    match if recordedSvc q.svc then t.outcomeOf q else none with
    | some e => t.answerAgain q e
    | none => t.serveNew q body fresh

/-! ### A PDU arrives (R497, R500, R501, R521–R525) -/

/-- A PDU in the bytes that a link carried: its fields, its tag, and its bytes up to FCHK; none when it is to be discarded. -/
def parsePdu (b : List Byte) : Option (Pdu × List Byte × List Byte) :=
  let ctrl := ofLe (b.take 1)
  let len := ofLe (slice 8 2 b)
  let auth := decide (ctrl / 4 % 2 = 1)
  let n := 14 + len + (if auth then 8 else 0)
  if b.length < 16 ∨ 1024 < len ∨ b.length < n + 2 ∨ crc16 (b.take n) ≠ ofLe (slice n 2 b) ∨ ctrl / 16 ≠ 1 ∨ ctrl % 4 ≠ 0 ∨
      64 ≤ ofLe (slice 1 1 b) ∨ 64 ≤ ofLe (slice 2 1 b) ∨ ofLe (slice 5 1 b) ≠ 0 then none
  else some (⟨decide (ctrl / 8 % 2 = 1), auth, ofLe (slice 1 1 b), ofLe (slice 2 1 b), ofLe (slice 3 1 b), ofLe (slice 4 1 b),
    ofLe (slice 6 2 b), ofLe (slice 10 4 b), slice 14 len b⟩, slice (14 + len) 8 (b.take n), b.take n)

/-- The same PDU with TTL `ttl` and its FCHK computed anew (R523). -/
def withTtl (front : List Byte) (ttl : Nat) : List Byte :=
  let f := front.take 3 ++ [BitVec.ofNat 8 ttl] ++ front.drop 4
  f ++ leBytes 2 (crc16 f)

/-- A PDU for another address (R523) (log entry 44: DEDUCED). -/
def State.forwardPdu (s : State) (port : Nat) (p : Pdu) (front : List Byte) : State :=
  if !s.bit (flag Reg.DG_CTRL 0) then s
  else if p.ttl ≤ 1 ∨ s.routeOf p.dst = 0 ∨ s.routeOf p.dst = port then s.inc32 Reg.TTL_DROPS
  else (s.inc32 Reg.FWD_PDUS).offerPdu (s.routeOf p.dst) (withTtl front (p.ttl - 1))

/-- An accepted broadcast goes on, on the ports of BCAST_PORTS but the one it came by (R524) (log entry 44: DEDUCED). -/
def State.forwardAll (s : State) (port : Nat) (p : Pdu) (front : List Byte) : State :=
  if !s.bit (flag Reg.DG_CTRL 0) ∨ s.ownAddr = 0 then s
  else if p.ttl ≤ 1 then s.inc32 Reg.TTL_DROPS
  else forAll (s.bcastPorts port) (fun c t => (t.inc32 Reg.FWD_PDUS).offerPdu c (withTtl front (p.ttl - 1))) s

/-- A NOTICE or STREAM: it is not answered (R498). -/
def Pdu.unanswered (p : Pdu) : Bool := !p.resp && (decide (p.svc = 0x10) || decide (p.svc = 0x12))

/-- A tag has failed, or there is no key for it (R501) (log entry 40: DEDUCED). -/
def State.tagFails (s : State) : State := (s.inc32 Reg.AUTH_FAILS).raise 84

/-- A response is taken: the longest request-to-response time, and what awaited it (R526, R531; 14_images_and_security.md R608) (log entry 42: DEDUCED). -/
def State.onResponse (s : State) (p : Pdu) : State :=
  match s.asks.find? fun a => a.tid = p.tid && a.dst = p.src && a.svc = p.svc with
  | none => s.inc32 Reg.DISCARDS
  | some a =>
    let abort := ofLe (p.body.take 2)
    let rest := p.body.drop 2
    if p.auth = false ∧ p.svc ≠ 0x30 ∧ abort = 0 then s.inc32 Reg.DISCARDS
    else
      let t := { s with asks := s.asks.filter fun b => b ≠ a }
      let u := t.when (decide (p.svc = 0x20)) fun v => v.loanTimed a
      if u.relaying ∧ p.src = u.rdN Reg.RELAY_TARGET ∧ p.tid = u.rdN Reg.rlyTid then u.relayResponse abort rest
      else if p.svc = 0x20 ∧ abort = 0 then u.loanAnswer p.src (ofLe (rest.take 1)) (ofLe (slice 2 2 rest)) (ofLe (slice 4 4 rest) : Nat)
      else u

/-- An unauthenticated PDU to the part's own address (log entry 41: DEDUCED). -/
def State.plainPdu (s : State) (port : Nat) (p : Pdu) : State :=
  if p.resp then s.onResponse p
  else if p.unanswered then s
  else if p.svc = 0x31 then s.proveFails
  else s.serve ⟨p.src, port, 0, p.tid, p.svc, false, false, none⟩ p.body 0

/-- An authenticated PDU to the part's own address (R500, R501; 14_images_and_security.md R622–R624, R630) (log entry 42: DEDUCED). -/
def State.authPdu (s : State) (port : Nat) (p : Pdu) (tag : List Byte) : State :=
  if s.authSilent then s
  else if p.resp = false ∧ p.svc = 0x31 then
    match s.openOf p.src with
    | none => s.proveFails
    | some x =>
      if p.tag x.key ≠ tag then s.proveFails
      else if p.fresh ≤ x.got then (s.inc32 Reg.REPLAYS).reject ⟨p.src, port, 0, p.tid, p.svc, false, false, none⟩ 0x0202
      else s.serve ⟨p.src, port, 0, p.tid, p.svc, false, false, none⟩ p.body p.fresh
  else
    match s.session p.src with
    | none => s.tagFails
    | some x =>
      if p.tag x.key ≠ tag then s.tagFails
      else
        let q : Req := ⟨p.src, port, x.level, p.tid, p.svc, true, false, some x⟩
        if p.fresh ≤ x.got then
          if p.resp || p.unanswered then s.inc32 Reg.REPLAYS
          else (s.inc32 Reg.REPLAYS).turnAway { q with auth := false } (if svcKnown q then 0x0202 else 0x0102)
        else
          let t := s.setSession p.src fun y => { y with got := p.fresh, last := s.timebase }
          if p.resp then t.onResponse p else if p.unanswered then t else t.serve q p.body p.fresh

/-- A PDU to address 63 (R521, R524, R530) (log entry 40: DEDUCED). -/
def State.bcastPdu (s : State) (port : Nat) (p : Pdu) (tag front : List Byte) : State :=
  if p.auth = false ∨ s.authSilent = true then s
  else if (s.keySlot 0).isEmpty ∨ p.tag (s.keySlot 0) ≠ tag then s.tagFails
  else if p.fresh ≤ s.rdN (Reg.bcastRx p.src) then s.inc32 Reg.REPLAYS
  else
    let t := (s.wr (Reg.bcastRx p.src) (p.fresh : Nat)).forwardAll port p front
    if s.ownAddr = 0 ∧ p.svc ≠ 9 then t
    else if p.resp then t.inc32 Reg.DISCARDS
    else if p.svc = 0x11 then
      if p.body.length = 16 ∧ zeros (slice 1 7 p.body) = true then t.ifwReceive p.src (ofLe (p.body.take 1)) (ofLe (p.body.drop 8)) else t
    else if p.svc = 0x10 ∨ p.svc = 0x12 then t
    else if p.svc = 0x31 then t.proveFails
    else t.serve ⟨p.src, port, 0, p.tid, p.svc, true, true, none⟩ p.body p.fresh

/-- A PDU has arrived on a port (R497, R521, R523–R525) (log entry 46: DESIGN CHOICE). -/
def State.pduReceive (s : State) (port : Nat) (b : List Byte) : State :=
  let t := s.inc32 Reg.RX_PDUS
  match parsePdu b with
  | none => t.inc32 Reg.DISCARDS
  | some (p, tag, front) =>
    if p.svc = 0x11 ∧ p.dst ≠ 63 then t.inc32 Reg.DISCARDS
    else if p.src = s.ownAddr ∧ s.ownAddr ≠ 0 then (t.inc32 Reg.ADDR_CLASH).setFld Bit.DG_CTRL_CLASH 1
    else if p.dst = 63 then t.bcastPdu port p tag front
    else if s.ownAddr = 0 then t
    else if p.dst ≠ s.ownAddr then t.forwardPdu port p front
    else if p.auth then t.authPdu port p tag
    else t.plainPdu port p

/-- A request in service that a processor reset may cut short, after so many entries; a watchdog expiry is one only as its count has reached the
period (10_faults_watchdog_resets.md R427). -/
def State.cutting (s : State) (cut : Option (Nat × Bool)) (f : State → State) : State :=
  match cut with
  | none => f s
  | some c => if c.2 = false ∧ s.wdTicks < s.wdPeriod then f s else (f ((s.wr Reg.cutAfter ((c.1 + 1 : Nat) : Int)).wrB Reg.cutCause c.2)).wr Reg.cutAfter 0

/-- A request from `src` on a port, with its tag and FRESH judged: `level` is that of the session it comes under, 0 for none (log entry 46: DESIGN CHOICE). -/
def State.request (s : State) (src port level tid svc : Nat) (body : List Byte) : State :=
  if s.dengonUp = false then s
  else if 1024 < body.length then (s.inc32 Reg.RX_PDUS).inc32 Reg.DISCARDS
  else s.heardFrom src false fun t =>
    t.serve ⟨src, port, level, tid, svc, decide (level ≠ 0) && (s.session src).isSome, false, if level = 0 then none else s.session src⟩ body 0

/-! ### Notices and streams (R528, R529) -/

/-- The bytes of an event. -/
def Event.bytes (e : Event) : List Byte :=
  leBytes 8 e.time ++ leBytes 1 e.kind ++ leBytes 1 e.flags ++ leBytes 2 e.arg ++ leBytes 4 e.data

/-- A NOTICE is due: G19 holds 63 events, or NOTICE_MS have passed since the first of them (R528). -/
def State.noticeDue (s : State) : Bool :=
  decide (63 ≤ s.notices.length) ||
    s.notices.head?.any fun e => decide (e.time + s.rdN Reg.NOTICE_MS * 1000000 ≤ s.timebase)

/-- A NOTICE with the events held, 63 at most; its blocks are released. -/
def State.sendNotice (s : State) : State :=
  let l := s.notices.take 63
  if !s.dengonUp || !s.bit (flag Reg.DG_CTRL 1) || l.isEmpty || decide (s.ownAddr = 0) then s
  else
    let t := { s with notices := s.notices.drop 63 }
    let u := (t.wr (Reg.USED 19) (ceilDiv (t.notices.length : Nat) 16)).wr Reg.ntSeq ((s.rd Reg.ntSeq + 1) % 4294967296)
    u.sendPlain (s.rdN Reg.NOTICE_DST) 0x10 (leBytes 4 (s.rdN Reg.ntSeq) ++ leBytes 1 l.length ++ leBytes 3 0 ++ l.flatMap Event.bytes)

/-- The bytes of a record of a gallery. -/
def recordBytes (g : Nat) : Nat := if g < 32 then 16 else 8

/-- STREAM PDUs of a gallery's records, `n` PDUs at most. -/
def State.sendStream (s : State) (g : Nat) : Nat → List Byte → State
  | 0, _ => s
  | n + 1, b =>
    if b.isEmpty then s
    else
      let size := 1016 / recordBytes g * recordBytes g
      let d := b.take size
      let t := s.wr (Reg.stSeq g) ((s.rd (Reg.stSeq g) + 1) % 65536)
      (t.sendPlain (s.rdN Reg.STREAM_DST) 0x12 (leBytes 1 g ++ leBytes 1 0 ++ leBytes 2 (s.rdN (Reg.stSeq g)) ++
        leBytes 2 (d.length / recordBytes g) ++ leBytes 2 0 ++ d)).sendStream g n (b.drop size)

/-- The records held in a gallery are sent and released. -/
def State.streamOut (s : State) (g : Nat) : State :=
  let d := (s.galBlocks g).flatMap GalBlock.data
  let t := { s.wr (Reg.USED g) 0 with blocks := s.blocks.filter fun b => b.gal ≠ g }
  t.sendStream g (d.length + 1) d

/-- Every gallery of STREAM_MASK, STREAM_MS after the last time (R529). -/
def State.streamAll (s0 : State) : State :=
  if !s0.dengonUp || decide (s0.ownAddr = 0) then s0
  else
    let s := s0.toAfter (s0.rd Reg.strmNs) (s0.rd Reg.STREAM_MS * 1000000)
    (forUnits 64 (fun g t => if s.rdN Reg.STREAM_MASK / 2 ^ g % 2 = 1 then t.streamOut g else t) s).wr Reg.strmNs (s.now + 1)

/-! ### CAN FD reassembly (R518–R520) -/

/-- The partial PDU of an identifier: next segment number and bytes. -/
def State.canPart (s : State) (k id : Nat) : Option (Nat × List Byte) :=
  (s.canParts.find? fun x => x.1 = k && x.2.1 = id).map fun x => x.2.2.2

/-- The partial PDU of an identifier has waited 10 ms for its next frame (R520). -/
def State.canStale (s : State) (k id : Nat) : Bool :=
  s.canParts.any fun x => decide (x.1 = k) && decide (x.2.1 = id) && decide (x.2.2.1 + 10000000 ≤ s.timebase)

/-- Forget, or put, the partial PDU of an identifier. -/
def State.setCanPart (s : State) (k id : Nat) (part : Option (Nat × List Byte)) : State :=
  let rest := s.canParts.filter fun x => !(x.1 = k && x.2.1 = id)
  { s with canParts := rest ++ (part.map fun x => (k, id, s.timebase, x)).toList }

/-- The last frame, of `len` data bytes, completes `done` bytes to a PDU of the right length. -/
def canWhole (done d : List Byte) : Bool :=
  let b := done ++ d
  let n := pduNeeds b
  decide (10 ≤ b.length) && decide (done.length < n) && decide (n ≤ b.length) && decide (d.length + 1 = fdLength (n - done.length + 1))

/-- The partial PDU of an identifier is discarded (R520). -/
def State.canDiscard (s : State) (k id : Nat) : State := (s.setCanPart k id none).inc32 Reg.CAN_REASM_FAILS

/-- A CAN FD frame is reassembled into its PDU (R519, R520) (log entry 45: DEDUCED). -/
def State.canFrame (s0 : State) (k id : Nat) (b : List Byte) : State :=
  let s := if s0.canStale k id then s0.canDiscard k id else s0
  let place := ofLe (b.take 1) / 64
  let seg := ofLe (b.take 1) % 64
  let d := b.drop 1
  let part := s.canPart k id
  if !s.portRuns (3 + k) || !s.canMine id || b.isEmpty || s.lampTesting 23 then s
  else
    let fail := fun (t : State) => t.canDiscard k id
    if place ≤ 1 then
      let t := if part.isSome then fail s else s
      if seg ≠ 0 then fail s
      else if place = 1 then t.setCanPart k id (some (1, d))
      else if canWhole [] d then t.pduReceive (3 + k) (d.take (pduNeeds d)) else fail t
    else
      match part with
      | none => fail s
      | some (next, done) =>
        if seg ≠ next then fail s
        else if place = 2 then s.setCanPart k id (some (next + 1, done ++ d))
        else if canWhole done d then (s.setCanPart k id none).pduReceive (3 + k) ((done ++ d).take (pduNeeds (done ++ d)))
        else fail s

end Sys2Proof.Machine
end

