-- ==== Sys2Proof/Machine/Dengon.lean ====
section
/-!
DEFINITION. The meanings of the commands of the object dictionary and the Dengon protocol (12_dictionary.md). A request's row carries
the request with its tag judged: the source, the port of arrival, the level of its session (0 for none), its TID and its fields.
-/
namespace Sys2Proof.Machine

/-- INDEX, SUB and one byte more. -/
def objectBytes (idx : BitVec 16) (sub : BitVec 8) (last : Nat) : List Byte := leBytes 2 idx.toNat ++ [sub] ++ leBytes 1 last

/-- R497, R500, R501, R521–R525: the bytes of a PDU arrive on a port (log entry 46: DESIGN CHOICE). -/
def execPduReceive (port : Fin 9) (bytes : List (BitVec 8)) (s : State) : Result :=
  s.procDo fun t => if t.portRuns port && decide (port ≠ 0) then t.pduReceive port bytes else t

/-- R505: READ (log entry 46: DESIGN CHOICE). -/
def execRead (src : Fin 63) (port : Fin 9) (level : Fin 4) (tid : BitVec 16) (idx : BitVec 16) (sub : BitVec 8) (s : State) : Result :=
  s.procDo fun t => t.request src port level tid.toNat 1 (objectBytes idx sub 0)

/-- R502, R505, R514: WRITE (log entry 46: DESIGN CHOICE). -/
def execWrite (src : Fin 63) (port : Fin 9) (level : Fin 4) (tid : BitVec 16) (idx : BitVec 16) (sub : BitVec 8)
    (value : List (BitVec 8)) (s : State) : Result :=
  s.procDo fun t => t.request src port level tid.toNat 2 (objectBytes idx sub value.length ++ value)

/-- R506–R508: BUNDLE (log entry 46: DESIGN CHOICE). `cut`: a processor reset begins while it is being applied, after so many of its entries, by
a watchdog expiry or, for `true`, by a lockstep mismatch (R515; 01_architecture.md R19). -/
def execBundle (src : Fin 63) (port : Fin 9) (level : Fin 4) (tid : BitVec 16)
    (entries : BundleEntries) (s : State) : Result :=
  s.procDo fun t => t.cutting (entries.cut.map fun c => (c.1.val, c.2)) fun u => u.request src port level tid.toNat 3 (leBytes 1 entries.list.length ++
    leBytes 3 0 ++ entries.list.flatMap fun e => objectBytes e.1 e.2.1 e.2.2.length ++ e.2.2)

/-- R505: DESCRIBE. -/
def execDescribe (src : Fin 63) (port : Fin 9) (level : Fin 4) (tid : BitVec 16) (idx : BitVec 16) (sub : BitVec 8) (s : State) : Result :=
  s.procDo fun t => t.request src port level tid.toNat 4 (objectBytes idx sub 0)

/-- R513: DOMAIN_READ. -/
def execDomainRead (src : Fin 63) (port : Fin 9) (level : Fin 4) (tid : BitVec 16) (idx : BitVec 16) (sub : BitVec 8)
    (offset : BitVec 32) (count : BitVec 16) (s : State) : Result :=
  s.procDo fun t => t.request src port level tid.toNat 5 (objectBytes idx sub 0 ++ leBytes 4 offset.toNat ++ leBytes 2 count.toNat ++ leBytes 2 0)

/-- R509: DOMAIN_START. -/
def execDomainStart (src : Fin 63) (port : Fin 9) (level : Fin 4) (tid : BitVec 16) (idx : BitVec 16) (sub : BitVec 8)
    (total : BitVec 32) (s : State) : Result :=
  s.procDo fun t => t.request src port level tid.toNat 6 (objectBytes idx sub 0 ++ leBytes 4 total.toNat)

/-- R510: DOMAIN_DATA. -/
def execDomainData (src : Fin 63) (port : Fin 9) (level : Fin 4) (tid : BitVec 16) (offset : BitVec 32) (data : List (BitVec 8))
    (s : State) : Result :=
  s.procDo fun t => t.request src port level tid.toNat 7 (leBytes 4 offset.toNat ++ data)

/-- R511: DOMAIN_END. `cut`: a processor reset begins after its checks and before its commit, by a watchdog expiry or, for `true`, by a
lockstep mismatch (R515). -/
def execDomainEnd (src : Fin 63) (port : Fin 9) (level : Fin 4) (tid : BitVec 16) (fin : TransferEnd) (s : State) : Result :=
  s.procDo fun t => t.cutting (fin.cut.map fun c => (0, c)) fun u => u.request src port level tid.toNat 8 (leBytes 4 fin.crc.toNat)

/-- R512: the transfer of a source has had no segment for 1 s. -/
def execDomainTransferTimeout (src : Fin 63) (s : State) : Result :=
  s.procDo fun t => ((t.transfers.find? fun x => decide (x.src = src.val) && t.transferStale x).map t.transferEnds).getD t

/-- R522: ASSIGN, to address 63 under the domain key. -/
def execAssign (src : Fin 63) (port : Fin 9) (tid : BitVec 16) (unit : BitVec 64) (addr : BitVec 8) (s : State) : Result :=
  s.procDo fun t =>
    if t.dengonUp then
      t.heardFrom src true fun u => u.serve ⟨src, port, 0, tid.toNat, 9, true, true, none⟩ (leBytes 8 unit.toNat ++ [addr] ++ leBytes 3 0) 0
    else t

/-- R528: G19 holds 63 events, or NOTICE_MS have passed since its first. -/
def execNotice (s : State) : Result := s.procDo fun t => if t.noticeDue then t.sendNotice else t

/-- R529: STREAM_MS have passed. -/
def execStreamSend (s : State) : Result := s.procDo State.streamAll

/-- R494: CFG_CMD 0x02. -/
def execCfgDefaults (level : Fin 4) (s : State) : Result := s.hostWrite level 0x1011 1 2

/-- R519, R520: a CAN FD frame of controller `k`. -/
def execCanFrameReceive (k : Fin 2) (id : BitVec 29) (data : List (BitVec 8)) (s : State) : Result :=
  s.procDo fun t => t.canFrame k id.toNat data

/-- R520: 10 ms without the next frame of a PDU. -/
def execCanReassemblyTimeout (k : Fin 2) (id : BitVec 29) (s : State) : Result :=
  s.procDo fun t => if t.canStale k id.toNat then t.canDiscard k id.toNat else t

end Sys2Proof.Machine
end

