-- ==== Sys2Proof/Machine/Images.lean ====
section
/-!
DEFINITION. The meanings of the commands of flash, images, update and security (14_images_and_security.md).
-/
namespace Sys2Proof.Machine

/-! ### The stored configuration (R590) -/

/-- R590: the write of CFG_CMD 0x01. -/
def execCfgSave (level : Fin 4) (s : State) : Result := s.hostWrite level 0x1011 1 1

/-- R590: the new copy has been programmed and verified whole (log entry 48: DEDUCED). -/
def execSaveComplete (s : State) : Result := s.procDo fun t => if t.on Reg.saveLeft then t else t.saveDone

/-! ### The card (R600, R601) -/

/-- R600: UC_DET_N has been low for 10 ms: the first four bytes of the SFDP, DWORDs 1–3 of the Basic Flash Parameter Table, whether the 1-1-4
read needs a quad-enable bit, and the card's content. -/
def execCardDetect (signature : BitVec 32) (table : CardParameters) (content : List (BitVec 8)) (s : State) : Result :=
  s.procDo fun t => t.cardRead ⟨signature.toNat, table.dword1.toNat, table.dword2.toNat, table.dword3.toNat, table.qe⟩ content

/-- R601: UC_DET_N rises. -/
def execCardRemoval (s : State) : Result := s.procDo State.cardGone

/-! ### UPD_CMD (R604, R608, R611, R615, R619) -/

/-- R604: 0x01, install from the card. -/
def execUpdCmdInstall (level : Fin 4) (s : State) : Result := s.hostWrite level 0x6000 1 1

/-- R611: 0x02, activate. -/
def execUpdCmdActivate (level : Fin 4) (s : State) : Result := s.hostWrite level 0x6000 1 2

/-- R615: 0x03, abort the trial. -/
def execUpdCmdAbortTrial (level : Fin 4) (s : State) : Result := s.hostWrite level 0x6000 1 3

/-- R619: 0x04, erase the inactive bank. -/
def execUpdCmdEraseInactive (level : Fin 4) (s : State) : Result := s.hostWrite level 0x6000 1 4

/-- R608: 0x05, relay. -/
def execUpdCmdRelay (level : Fin 4) (s : State) : Result := s.hostWrite level 0x6000 1 5

/-! ### The image services (R606, R607) -/

/-- R606: IMG_OFFER with a header. -/
def execImgOffer (src : Fin 63) (port : Fin 9) (level : Fin 4) (tid : BitVec 16) (header : List (BitVec 8)) (s : State) : Result :=
  s.procDo fun t => t.request src port level tid.toNat 0x40 header

/-- R607: IMG_DATA. -/
def execImgData (src : Fin 63) (port : Fin 9) (level : Fin 4) (tid : BitVec 16) (offset : BitVec 32) (data : List (BitVec 8))
    (s : State) : Result :=
  s.procDo fun t => t.request src port level tid.toNat 0x41 (leBytes 4 offset.toNat ++ data)

/-- R599, R607: IMG_END. -/
def execImgEnd (src : Fin 63) (port : Fin 9) (level : Fin 4) (tid : BitVec 16) (s : State) : Result :=
  s.procDo fun t => t.request src port level tid.toNat 0x42 []

/-- R606: IMG_QUERY. -/
def execImgQuery (src : Fin 63) (port : Fin 9) (level : Fin 4) (tid : BitVec 16) (s : State) : Result :=
  s.procDo fun t => t.request src port level tid.toNat 0x43 []

/-- R607: an offer has had no DATA or END for 1 s. -/
def execImgOfferTimeout (s : State) : Result := s.procDo fun t => if t.offerLapsed then t.instEnd else t

/-- R592, R593: the operation in progress ends with its verify read; `owner`: whose operation the NVM manager starts next, where
several wait. An operation that a reset caught is completed in it. -/
def execNvmOperationDone (ok : Bool) (owner : Fin 6) (s : State) : Result :=
  if s.on Reg.corePowered then (s.nvmDone ok owner).done else .next s

/-! ### Trials (R610–R615) -/

/-- R614: the conditions of a confirmation hold, and have held for CONFIRM_DWELL_S. -/
def State.confirmOk (s : State) : Bool :=
  decide (s.trialBank = some s.activeBank) && s.on Reg.planeReady && s.bit (flag Reg.CFG_STATUS 0) && !s.bit (flag Reg.CFG_STATUS 2) &&
    (!s.on Reg.HOST_CHECK || s.on Reg.hostSeen) && s.since (s.rd Reg.confNs) (s.rd Reg.CONFIRM_DWELL_S * 1000000000)

/-- An entry with this effect waits for the boot record. -/
def State.bootWaits (s : State) (act : Nat) : Bool := s.bootQ.any fun e => decide (e.act = act)

/-- R614, R618: the conditions have held for CONFIRM_DWELL_S; the confirmation goes before a time-out of the same instant. -/
def execTrialConfirm (s : State) : Result :=
  s.procDo fun t =>
    if !t.confirmOk || t.bootWaits 2 then t
    else if t.bootWaits 3 && t.markedNow markTrialOut 0 then { t with bootQ := t.bootQ.map fun e => if e.act = 3 then ⟨t.activeBank, 4, 2⟩ else e }
    else t.bootEntry t.activeBank 4 2

/-- R615: TRIAL_S reaches 300 without confirmation (log entry 105: DEDUCED). -/
def execTrialTimeout (s : State) : Result :=
  s.procDo fun t =>
    match t.trialBank with
    | some b =>
      if t.trialS < 300 ∨ t.bootWaits 2 = true ∨ t.bootWaits 3 = true then t
      else (((t.mark markTrialOut 0 0).wr Reg.TRIAL_S t.trialS).wr Reg.trialNs 0).bootEntry b 6 3
    | none => t

/-- R610: the write of DOMAIN_EPOCH. -/
def execDomainEpochWrite (level : Fin 4) (v : BitVec 16) (s : State) : Result := s.hostWrite level 0x6000 9 (v.toNat : Nat)

/-! ### Sessions (R622–R624) -/

/-- R622, R623: SESSION_OPEN for a level with NONCE_R. -/
def execSessionOpen (src : Fin 63) (port : Fin 9) (tid : BitVec 16) (want : BitVec 8) (nonce : BitVec 64) (s : State) : Result :=
  s.procDo fun t => t.request src port 0 tid.toNat 0x30 ([want, 0, 0, 0] ++ leBytes 8 nonce.toNat)

/-- R622–R624: SESSION_PROVE; `pass`: its tag passes under the key of the open. -/
def execSessionProve (src : Fin 63) (port : Fin 9) (tid : BitVec 16) (pass : Bool) (s : State) : Result :=
  s.procDo fun t =>
    if t.dengonUp = false then t
    else t.heardFrom src false fun u =>
      if u.authSilent then u
      else if pass then u.serve ⟨src, port, 0, tid.toNat, 0x31, false, false, none⟩ [] 1
      else u.proveFails

/-- R622: SESSION_CLOSE under the session. -/
def execSessionClose (src : Fin 63) (port : Fin 9) (tid : BitVec 16) (s : State) : Result :=
  s.procDo fun t => t.request src port (((t.session src).map Session.level).getD 0) tid.toNat 0x32 []

/-- R623: an open has not been proved within 1 s. -/
def execSessionOpenLapse (src : Fin 63) (s : State) : Result :=
  s.procDo fun t => { t with opens := t.opens.filter fun x => decide (x.peer ≠ src.val) || decide (t.timebase < x.last + 1000000000) }

/-- R624: SESSION_IDLE_S have passed without a PDU of the session. -/
def execSessionIdle (src : Fin 63) (s : State) : Result :=
  s.procDo fun t => { t with sessions := t.sessions.filter fun x => decide (x.peer ≠ src.val) || t.sessionLive x }

/-! ### Keys and debug entry (R627–R631) -/

/-- R627: the write of REVOKE. -/
def execRevoke (level : Fin 4) (k : Fin 4) (s : State) : Result := s.hostWrite level 0x6100 8 (k.val : Nat)

/-- A write of DEBUG_CMD, from host SPI or TW0 (`near`) or elsewhere; `ok`: the read-backs of an entry pass (log entry 106: DESIGN CHOICE). -/
def State.debugWrite (s : State) (level : Nat) (near : Bool) (v : Int) (ok : Bool) : State :=
  let r := rawOf 0x6100 12 v
  let a := s.writeAbort level near 0x6100 12 r.1 r.2
  if a = 0 then s.debugCmd v ok
  else (s.inc32 Reg.Cnt_ABORTS).when (decide (a = 0x0501)) fun u => u.inc32 Reg.STATE_ABORTS

/-- R628: DEBUG_CMD 0x03. -/
def execLock (level : Fin 4) (near : Bool) (s : State) : Result := s.procDo fun t => t.debugWrite level near 3 true

/-- R628: DEBUG_CMD 0x04. -/
def execRma (level : Fin 4) (s : State) : Result := s.procDo fun t => t.debugWrite level false 4 true

/-- R628–R630: DEBUG_CMD 0x01; in LOCKED it opens the window for the port. -/
def execDebugEnter (level : Fin 4) (near : Bool) (ok : Bool) (s : State) : Result := s.procDo fun t => t.debugWrite level near 1 ok

/-- R629–R631: DEBUG_CMD 0x02 (log entry 23: DEDUCED). -/
def execScanEnter (level : Fin 4) (near : Bool) (ok : Bool) (s : State) : Result := s.procDo fun t => t.debugWrite level near 2 ok

/-- R628: a request on the debug port (log entry 23: DEDUCED). -/
def execDebugPortRequest (ok : Bool) (s : State) : Result := s.procDo fun t => t.debugPort ok

/-- R628: the window of 10 s closes. -/
def execDebugWindowExpiry (s : State) : Result := s.procDo fun t => if t.windowOpen then t else t.wr Reg.dbgWindow 0

/-! ### The relay (R608) -/

/-- The relay's request outstanding. -/
def State.relayAwaits (s : State) (a : Ask) : Bool := decide (a.dst = s.rdN Reg.RELAY_TARGET) && decide (a.tid = s.rdN Reg.rlyTid)

/-- R608: the target's response to the request outstanding: ABORT, and the body after it. -/
def execRelayResponseReceived (abort : BitVec 16) (body : List (BitVec 8)) (s : State) : Result :=
  s.procDo fun t =>
    if t.relaying && t.asks.any t.relayAwaits then
      { t with asks := t.asks.filter fun a => !t.relayAwaits a }.relayResponse abort.toNat body
    else t

end Sys2Proof.Machine
end

