-- ==== Sys2Proof/Machine/Links.lean ====
section
/-!
DEFINITION. The meanings of the commands of the network and local links (13_links.md).
-/
namespace Sys2Proof.Machine

/-! ### Buffers (R537, R538) -/

/-- R537, R542, R548: a frame arrives on port code `c` + 1 (10BASE-T1S, Ethernet, CAN FD 0 and 1). -/
def execFrameReceive (c : Fin 4) (id : BitVec 29) (bytes : List (BitVec 8)) (fcsOk : Bool) (s : State) : Result :=
  s.procDo fun t => t.frameReceive (c + 1) id.toNat bytes fcsOk

/-- R538: the port with port code `c` moves its oldest data to its gallery. -/
def execBufferToGallery (c : Fin 9) (s : State) : Result := s.procDo fun t => if c = 0 then t else t.bufferOut c

/-! ### 10BASE-T1S and Ethernet (R540–R545) -/

/-- PLCA_ACTIVE (R541). -/
abbrev t1sActive : Bits := flag Reg.T1S_STATUS 1

/-- R540: a follower has received no BEACON for 1 ms, once for each time that they stop (log entry 102: DEDUCED). -/
def execBeaconLoss (s : State) : Result :=
  s.procDo fun t =>
    if t.portRuns 1 && t.bit (flag Reg.T1S_CTRL 1) && t.on Reg.PLCA_NODE_ID && !t.on Reg.beaconOut && t.since (t.rd Reg.beaconNs) 1000000 then
      ((t.setFld t1sActive 0).wr Reg.beaconOut 1).raise 233
    else t

/-- R540: a BEACON. -/
def execBeaconReceived (s : State) : Result :=
  s.procDo fun t =>
    if t.portRuns 1 && t.bit (flag Reg.T1S_CTRL 1) then ((t.setFld t1sActive 1).wr Reg.beaconNs t.now).wr Reg.beaconOut 0 else t

/-- LINK of ETH_STATUS (R546) (log entry 103: DEDUCED). -/
abbrev ethLink : Bits := flag Reg.ETH_STATUS 0
/-- The speed in ETH_STATUS. -/
abbrev ethSpeed : Bits := ⟨Reg.ETH_STATUS, 1, 2⟩
/-- AS_LOCKED of ETH_STATUS. -/
abbrev ethLocked : Bits := flag Reg.ETH_STATUS 3

/-- R543: LINK clears. -/
def execEthLinkLoss (s : State) : Result :=
  s.procDo fun t => if t.portRuns 2 && t.bit ethLink then (t.setFld ethLink 0).raise 234 else t

/-- R542: the in-band status reports link; `speed`: 0 10, 1 100, 2 1000 Mbit/s (log entry 103: DEDUCED). -/
def execEthLinkUp (speed : Fin 3) (s : State) : Result :=
  s.procDo fun t =>
    if t.portRuns 2 then
      let fixed := t.fld Bit.ETH_CTRL_SPEED
      (t.setFld ethLink 1).setFld ethSpeed (if fixed = 0 then speed + 1 else fixed)
    else t

/-- The offset from 802.1AS time, in ns (R544): `late` is the stamp of the Sync's arrival at the RGMII pins less the time it carries, and `trip`
what the peer-delay exchange took beyond the peer's residence, at those pins too; the PHY's latencies are taken out of both (log entry 100: DEDUCED). -/
def State.asOffset (s : State) (late trip : Int) : Int :=
  (late - s.rd Reg.PHY_RX_NS) - roundDiv (trip - s.rd Reg.PHY_TX_NS - s.rd Reg.PHY_RX_NS) 2

/-- R544, R545: a Sync of 802.1AS with the offset it gives, in ns. -/
def State.asSync (s : State) (offset : Int) : State :=
  if s.portRuns 2 && s.bit ethLink && s.bit Bit.ETH_CTRL_AS_EN then
    let t := ((s.wr Reg.AS_OFFSET_NS (satI32 offset)).wr Reg.asNs s.now).wr Reg.asOut 0
    let u := t.wr Reg.asGoodRun (if absI offset ≤ 100 then min 8 (t.rd Reg.asGoodRun + 1) else 0)
    let v := if u.rd Reg.asGoodRun = 8 then u.setFld ethLocked 1 else u
    if v.bit ethLocked && v.bit Bit.ETH_CTRL_AS_DISCIPLINE && !v.bit (flag Reg.ETH_STATUS 4) then v.servo Reg.asInteg offset else v
  else s

/-- R544, R545: a Sync. -/
def execAsSyncReceive (times : SyncTimes) (s : State) : Result := s.procDo fun t => t.asSync (t.asOffset times.late times.trip)

/-- R544: 3 s without a Sync, once for each time that they stop (log entry 100: DEDUCED). -/
def execAsSyncLoss (s : State) : Result :=
  s.procDo fun t =>
    if t.portRuns 2 && t.bit Bit.ETH_CTRL_AS_EN && !t.on Reg.asOut && t.since (t.rd Reg.asNs) 3000000000 then
      (((t.setFld ethLocked 0).wr Reg.asGoodRun 0).wr Reg.asOut 1).raise 237
    else t

/-! ### CAN FD (R547, R549) -/

/-- The error state of a CAN FD controller (R550) (log entry 103: DEDUCED). -/
abbrev canState (k : Nat) : Bits := ⟨Reg.CAN_STATUS k, 0, 2⟩

/-- R549: controller `k` enters bus-off. -/
def execCanBusOff (k : Fin 2) (s : State) : Result :=
  s.procDo fun t =>
    if t.portRuns (3 + k) && decide (t.fld (canState k) ≠ 2) then ((t.setFld (canState k) 2).inc32 (Reg.BUS_OFFS k)).raise (235 + k) else t

/-- R549: 128 occurrences of 11 recessive bits. -/
def execCanRecover (k : Fin 2) (s : State) : Result :=
  s.procDo fun t =>
    if t.portRuns (3 + k) && t.bit (flag (Reg.CAN_CTRL k) 1) && decide (t.fld (canState k) = 2) then
      ((t.setFld (canState k) 0).wr (Reg.TEC k) 0).wr (Reg.REC k) 0
    else t

/-- R547: a bus error leaves the counters at `tec` and `rec`; above 127 in either the controller is error-passive (log entry 103: DEDUCED). -/
def execCanBusError (k : Fin 2) (tec : Fin 256) (rec : Fin 256) (s : State) : Result :=
  s.procDo fun t =>
    if t.portRuns (3 + k) && decide (t.fld (canState k) ≠ 2) then
      ((t.wr (Reg.TEC k) (tec : Nat)).wr (Reg.REC k) (rec : Nat)).setFld (canState k) (if 127 < tec.val ∨ 127 < rec.val then 1 else 0)
    else t

/-! ### Host SPI (R552–R555) -/

/-- R552, R553: READ_STATUS, and `n` further bytes. -/
def execReadStatus (n : Nat) (s : State) : Result := s.procDo fun t => t.spiStatus n

/-- R553, R554: WRITE_PDU and the bytes that follow it. -/
def execWritePdu (bytes : List (BitVec 8)) (s : State) : Result := s.procDo fun t => t.spiWrite bytes

/-- R553, R555: READ_PDU, and `n` further bytes. -/
def execReadPdu (n : Nat) (s : State) : Result := s.procDo fun t => t.spiRead n

/-- R553: another command, and `n` further bytes. -/
def execSpiUnknownCmd (cmd : BitVec 8) (n : Nat) (s : State) : Result :=
  s.procDo fun t =>
    if cmd = 0x0F ∨ cmd = 0x51 ∨ cmd = 0xA3 then t
    else
      let f := t.spiFall
      if f.1 then (f.2.drive 0 (leBytes 1 (f.2.fs0 0) ++ List.replicate n 0xFF)).inc32 Reg.SPI_ERRORS else f.2

/-- R554, R555: SPI_CS_N rises. -/
def execSpiCsRise (s : State) : Result := s.procDo State.spiRise

/-! ### Two-wire ports (R559–R569) -/

/-- R561: the first byte of a write to target port `k`. -/
def execTwPointerWrite (k : Fin 3) (v : BitVec 8) (s : State) : Result :=
  s.procDo fun t => if t.twFree k && !t.on (Reg.twIgnore k) then t.twPoint k v.toNat else t

/-- R560–R562: the bytes of a write after the first. -/
def execInFifo (k : Fin 3) (bytes : List (BitVec 8)) (s : State) : Result :=
  s.procDo fun t => if t.twFree k then t.twWrite k bytes else t

/-- R562: a read of `n` bytes at OUT_FIFO. -/
def execOutFifo (k : Fin 3) (n : Nat) (s : State) : Result :=
  s.procDo fun t => if t.twFree k && !t.on (Reg.twIgnore k) then (t.twStart k).twRead k n else t

/-- R552, R561: a read of `n` bytes from the status block on. -/
def execTwStatusRead (k : Fin 3) (n : Nat) (s : State) : Result :=
  s.procDo fun t => if t.twFree k && !t.on (Reg.twIgnore k) then (t.twStart k).twStatus k n else t

/-- R561–R563, R568: STOP or a repeated START, a bus that has been high for 50 µs, or a START or STOP that a controller does not drive. -/
def execTwStop (k : BusEnd) (s : State) : Result :=
  s.procDo fun t => if t.twFree k.port then t.twSees k.port k.event else if t.twMaster k.port then t.twMasterSees k.port k.event else t

/-- The stretch of TW0 that a standby wake began has lasted 25 ms on a device that was grouped at the entry to STANDBY (R563, R567, R586). -/
def State.twWakeOver (s : State) : Bool :=
  s.on Reg.twWakeNs && s.on Reg.twWakeGrp && s.since (s.rd Reg.twWakeNs - 1) 25000000

/-- A stretch of a grouped target has lasted 25 ms (R563). -/
def State.twStretchOver (s : State) (k : Nat) : Bool :=
  s.twTarget k && s.grouped && s.on (Reg.twStretch k) && s.since (s.rd (Reg.twHoldNs k)) 25000000

/-- R563, R567: a stretch of a grouped target has lasted 25 ms. -/
def execTwStretchTimeout (k : Fin 3) (s : State) : Result :=
  s.coreDo fun t =>
    if k.val = 0 ∧ t.twWakeOver = true then (t.wr Reg.twWakeNs 0).twTimeout 0
    else if t.procRuns && t.twStretchOver k then t.twTimeout k
    else t

/-- R564: another device has held SCL low for 25 ms against a grouped controller. -/
def execTwControllerTimeout (k : Fin 3) (s : State) : Result :=
  s.procDo fun t =>
    if t.twMaster k && t.grouped then ((((t.wr (Reg.twBus k) 0).wr (Reg.twXfer k) 0).wr (Reg.twClear k) 2).inc32 (Reg.TIMEOUTS k)).raise (238 + k) else t

/-- R565: a target pulls SDA low for an FS0 bit selected in its IRQ_MASK that has changed to 1, on an idle bus; SDA that it has held low for 100 µs
without an answer it releases, to request again 1 ms later (log entry 102: DEDUCED). -/
def execInBandRequest (k : Fin 3) (s : State) : Result :=
  s.procDo fun t =>
    if !(t.twTarget k && t.bit (Bit.TW_CTRL_IBR_EN k)) then t
    else if t.on (Reg.twIbr k) then
      if t.since (t.rd (Reg.twIbrNs k)) 100000 then ((t.wr (Reg.twIbr k) 0).wr (Reg.twIbrWant k) 1).wr (Reg.twIbrNs k) (t.now + 1000000) else t
    else if t.on (Reg.twIbrWant k) && !t.on (Reg.twBus k) && decide (t.rd (Reg.twIbrNs k) ≤ t.now) then
      ((t.wr (Reg.twIbr k) 1).wr (Reg.twIbrWant k) 0).wr (Reg.twIbrNs k) t.now
    else t

/-- R565, R566: a request is answered, `answer` being the byte on the bus. At a target whose request stands it is the port's own address, or that of one
that has won: the port then requests again after the next STOP. At a controller it is the byte read from 0x0C, `status` the requester's block and `pdu`
the PDU read when its OUT_LEN is not 0, which waits at the port while its buffer is full (log entry 102: DEDUCED). -/
def State.ibrAnswer (s : State) (k : Nat) (answer : Nat) (status pdu : List Byte) : State :=
  if s.twTarget k then
    if !s.on (Reg.twIbr k) then s
    else if answer = 2 * s.rdN (Reg.TW_ADDR k) then
      ((s.drive (1 + k) (leBytes 1 (2 * s.rdN (Reg.TW_ADDR k)))).wr (Reg.twIbr k) 0).inc32 (Reg.IBR_COUNT k)
    else ((s.wr (Reg.twIbr k) 0).wr (Reg.twIbrWant k) 1).wr (Reg.twBus k) 1
  else if s.twMaster k && s.bit (Bit.TW_CTRL_IBR_ANSWER k) then
    if answer = 0 then s.wr (Reg.twClear k) 2
    else
      let t := s.inc32 (Reg.IBR_COUNT k)
      let d := pdu.take (pduNeeds pdu)
      if ofLe (slice 2 2 status) = 0 ∨ pdu.isEmpty = true then t
      else if (t.rxOf (6 + k)).isEmpty then { t with rxbuf := t.rxbuf ++ [(6 + k, d)] }
      else t.setBlob (Reg.twOwed k) d
  else s

/-- R565, R566: an in-band request is answered. -/
def execInBandAnswer (k : Fin 3) (answer : BitVec 8) (status : List (BitVec 8)) (pdu : List (BitVec 8)) (s : State) : Result :=
  s.procDo fun t => t.ibrAnswer k answer.toNat status pdu

/-- R568: a controller loses arbitration; `own`: during the address, and the winner addresses this port. After eight losses the
PDU is dropped (log entry 102: DEDUCED). -/
def execArbitrationLoss (k : Fin 3) (own : Bool) (s : State) : Result :=
  s.procDo fun t =>
    if t.twMaster k then
      ((t.inc32 (Reg.ARB_LOSSES k)).twLoss k).when own fun u => u.wr (Reg.twServe k) 1
    else t

/-- R569: a bus clear; `freed`: SDA was sampled high. One that failed is repeated every 100 ms. -/
def execBusClear (k : Fin 3) (freed : Bool) (s : State) : Result :=
  s.procDo fun t =>
    if !t.twMaster k then t
    else if t.on (Reg.twClear k) then t.busClear k freed
    else if t.bit (flag (Reg.TW_STATUS k) 1) then (t.toAfter (t.rd (Reg.twClearNs k)) 100000000).busClear k freed
    else t

/-! ### The share link (R572–R582) -/

/-- R573: a message arrives on IN, TYPE to CRC; `bad`: it contains K30.7. -/
def execWihanReceive (bytes : List (BitVec 8)) (bad : Bool) (s : State) : Result := s.ppDo fun t => t.wsReceive bytes bad

/-- R575: the next timebase multiple of 100 µs. -/
def execSyncSend (s : State) : Result := s.ppDo fun t => (t.toTick 3 100000).syncSend

/-- R575, R576: a SYNC of another device, with its HOPS as received. -/
def execSyncReceive (addr : Fin 64) (hops : Fin 16) (tMaster : BitVec 64) (corr : BitVec 32) (s : State) : Result :=
  s.ppDo fun t => if t.wsUp then (t.wsCount 12).syncReceive addr hops (tMaster.toNat : Nat) (corr.toNat : Nat) else t

/-- R576: 1 ms without a SYNC. -/
def execSyncLoss (s : State) : Result := s.ppDo fun t => if t.wsUp && t.syncSilent then t.syncLost else t

/-- R575: 1 ms without a SYNC of a lower address. -/
def execElectionTimeout (s : State) : Result := s.ppDo fun t => if t.wsUp && t.lowSilent then t.wr Reg.wsSending 1 else t

/-- R577: the next timebase multiple of 10 µs plus POSITION × 1250 ns. -/
def execShareSend (s : State) : Result :=
  s.ppDo fun t => (t.toShare).shareSend

/-- R578: ANNOUNCE of another member. -/
def execAnnounceReceive (addr : Fin 64) (group : Fin 16) (ann : Fin 256) (stepMa : BitVec 32) (tGate : BitVec 32) (s : State) : Result :=
  s.ppDo fun t => if t.wsUp && decide (addr.val ≠ t.ownAddr) then (t.wsCount 10).announceReceive addr group ann (stepMa.toNat : Nat) tGate.toNat else t

/-- R578: WITHDRAW of another member. -/
def execWithdrawReceive (addr : Fin 64) (group : Fin 16) (ann : Fin 256) (s : State) : Result :=
  s.ppDo fun t => if t.wsUp && decide (addr.val ≠ t.ownAddr) then (t.wsCount 2).withdrawReceive addr group ann else t

/-- R579: FAULT of another member. -/
def execFaultReceive (addr : Fin 64) (group : Fin 16) (kind : Fin 16) (s : State) : Result :=
  s.ppDo fun t => if t.wsUp && decide (addr.val ≠ t.ownAddr) then (t.wsCount 2).faultReceive addr group kind else t

/-- R581: a window of 10 µs, and the symbols counted in it (log entry 117: DESIGN CHOICE). -/
def execShareLoadWindow (symbols : Nat) (s : State) : Result :=
  s.ppDo fun t => if t.wsUp && decide (t.rd Reg.wsSymbols = (symbols : Nat)) then (t.toTick 8 10000).loadWindow else t

/-- R582: no valid symbol for 1 µs, or more than four code errors within it, once for each time that the input is lost (log entry 101: DEDUCED). -/
def execWihanInLoss (s : State) : Result :=
  s.ppDo fun t => if t.wsUp && !t.on Reg.wsInLost then ((t.setFld wsInOk 0).wr Reg.wsInLost 1).raise 241 else t

/-- R582: valid symbols arrive again. -/
def execWihanInReturn (s : State) : Result := s.ppDo fun t => if t.wsUp then (t.setFld wsInOk 1).wr Reg.wsInLost 0 else t

end Sys2Proof.Machine
end

