-- ==== Sys2Proof/Machine/Loop.lean ====
section
/-!
DEFINITION. The meanings of the loop engine's triggers and instructions and of the winder's commands (07_loop_engine.md). An
instruction acts on the slot whose run is in progress in its lane, when the program word at the slot's address is that
instruction.
-/
namespace Sys2Proof.Machine

/-- R293, R297: a timer trigger at a multiple of FRAME_NS, or the trigger that the end of a scan round has given, numbered by the rounds since
the lane was enabled. -/
def execLaneTrigger (l : Fin 2) (s : State) : Result :=
  s.ppDo fun t =>
    if !t.on (Reg.ltOn l) then t
    else if t.rd (Reg.ltTrig l) = 0 then
      let u := t.toTick (10 + l) (t.rdN (Reg.ltFrameNs l))
      u.laneTrigger l ((u.timebase / u.rdN (Reg.ltFrameNs l) : Nat) : Int)
    else if t.on (Reg.lnTrig l) then
      (t.wr (Reg.lnTrig l) (t.rd (Reg.lnTrig l) - 1)).laneTrigger l (t.rd (Reg.lnRounds l) - t.rd (Reg.lnTrig l) + 1)
    else t

/-- R294–R296, R308, R309: the run of slot `j` begins when it is due, and its first instruction is fetched. `ecc`: what the fetches of the
run find, one after the other, 0 no error, 1 a single-bit error, which is corrected, 2 an uncorrectable error; the fetches after
them find none (log entry 60: DEDUCED). -/
def execSlotStart (j : Fin 128) (ecc : List (Fin 3)) (s : State) : Result :=
  s.ppDo fun t => if t.slotDue j then ((t.slotBegin j).wr (Reg.lnEcc (j / 64)) (eccDigits ecc : Nat)).fetch (j / 64) else t

/-- R303: no operation. -/
def execNop (l : Fin 2) (s : State) : Result :=
  s.ppDo fun t => t.loopDo l (wOp 0) wAll 1 fun _ u => u

/-- R303: END ends the run and commits the buffered writes (R306). -/
def execEndRun (l : Fin 2) (s : State) : Result :=
  s.ppDo fun t => t.loopDo l (wOp 1) wAll 1 fun j u => u.slotEnd j

/-- R303: RAISE sets RAISED. -/
def execRaise (l : Fin 2) (s : State) : Result :=
  s.ppDo fun t => t.loopDo l (wOp 2) wAll 1 fun j u => u.wr (Reg.slRaised j) 1

/-- R303: Vd := imm. -/
def execLdi (l : Fin 2) (d : Fin 16) (imm : BitVec 16) (s : State) : Result :=
  s.ppDo fun t => t.loopDo l (wOp 3 + wD d + imm.toNat) wAll 1 fun j u => u.setV j d imm.toInt

/-- R303: Vd := Va. -/
def execMov (l : Fin 2) (d a : Fin 16) (s : State) : Result :=
  s.ppDo fun t => t.loopDo l (wOp 4 + wD d + wA a) wAll 1 fun j u => u.setV j d (u.vreg j a)

/-- R303: Vd := the signal (R310, R311). -/
def execRds (l : Fin 2) (d : Fin 16) (rel : Bool) (sig : Fin 1024) (s : State) : Result :=
  s.ppDo fun t => t.loopDo l (wOp 5 + wD d + (if rel then 2097152 else 0) + sig) wAll 2 fun j u => u.setV j d (u.sigValue (sig + (if rel then u.rdN (Reg.ltSig j) else 0)))

/-- R303: Vd := PARAMk as latched (R307). -/
def execRdp (l : Fin 2) (d : Fin 16) (k : Fin 8) (s : State) : Result :=
  s.ppDo fun t => t.loopDo l (wOp 6 + wD d + k) wAll 1 fun j u => u.setV j d (u.rd (Reg.slParam (8 * j + k)))

/-- R303: buffers Va for the actuator point (R306, R311). -/
def execWra (l : Fin 2) (rel : Bool) (act : Fin 512) (a : Fin 16) (s : State) : Result :=
  s.ppDo fun t => t.loopDo l (wOp 7 + wA a + (if rel then 131072 else 0) + act) wAll 1 fun j u => u.loopBuffer l (act + (if rel then u.rdN (Reg.ltAct j) else 0)) (u.vreg j a)

/-- R303: buffers the target Va × 2^16 + Vb, Vb read as unsigned. -/
def execWtg (l : Fin 2) (prof : Fin 32) (a b : Fin 16) (s : State) : Result :=
  s.ppDo fun t => t.loopDo l (wOp 8 + wA a + wB b + prof) wAll 2 fun j u => u.loopBuffer l (1000 + prof) (u.vreg j a * 65536 + u.vreg j b % 65536)

/-- R303: Vd := sat16(Va + Vb). -/
def execAdd (l : Fin 2) (d a b : Fin 16) (s : State) : Result :=
  s.ppDo fun t => t.loopDo l (wOp 0x10 + wD d + wA a + wB b) wAll 1 fun j u => u.satV j d (u.vreg j a + u.vreg j b)

/-- R303: Vd := sat16(Va − Vb). -/
def execSub (l : Fin 2) (d a b : Fin 16) (s : State) : Result :=
  s.ppDo fun t => t.loopDo l (wOp 0x11 + wD d + wA a + wB b) wAll 1 fun j u => u.satV j d (u.vreg j a - u.vreg j b)

/-- R303: Vd := sat16(Va + imm). -/
def execAddi (l : Fin 2) (d a : Fin 16) (imm : BitVec 16) (s : State) : Result :=
  s.ppDo fun t => t.loopDo l (wOp 0x12 + wD d + wA a + imm.toNat) wAll 1 fun j u => u.satV j d (u.vreg j a + imm.toInt)

/-- R303: Vd := sat16(rnd15(Va × Vb)). -/
def execMul (l : Fin 2) (d a b : Fin 16) (s : State) : Result :=
  s.ppDo fun t => t.loopDo l (wOp 0x13 + wD d + wA a + wB b) wAll 1 fun j u => u.satV j d (rnd15 (u.vreg j a * u.vreg j b))

/-- R303: Vd := sat16(−Va). -/
def execNeg (l : Fin 2) (d a : Fin 16) (s : State) : Result :=
  s.ppDo fun t => t.loopDo l (wOp 0x14 + wD d + wA a) wAll 1 fun j u => u.satV j d (-(u.vreg j a))

/-- R303: Vd := sat16(|Va|). -/
def execAbs (l : Fin 2) (d a : Fin 16) (s : State) : Result :=
  s.ppDo fun t => t.loopDo l (wOp 0x15 + wD d + wA a) wAll 1 fun j u => u.satV j d (absI (u.vreg j a))

/-- R303: Vd := min(Va, Vb). -/
def execMin (l : Fin 2) (d a b : Fin 16) (s : State) : Result :=
  s.ppDo fun t => t.loopDo l (wOp 0x16 + wD d + wA a + wB b) wAll 1 fun j u => u.setV j d (min (u.vreg j a) (u.vreg j b))

/-- R303: Vd := max(Va, Vb). -/
def execMax (l : Fin 2) (d a b : Fin 16) (s : State) : Result :=
  s.ppDo fun t => t.loopDo l (wOp 0x17 + wD d + wA a + wB b) wAll 1 fun j u => u.setV j d (max (u.vreg j a) (u.vreg j b))

/-- R303: Vd := min(max(Vd, Va), Vb). -/
def execClmp (l : Fin 2) (d a b : Fin 16) (s : State) : Result :=
  s.ppDo fun t => t.loopDo l (wOp 0x18 + wD d + wA a + wB b) wAll 1 fun j u => u.setV j d (min (max (u.vreg j d) (u.vreg j a)) (u.vreg j b))

/-- R303: Vd := sat16(Va × 2^sh). -/
def execShl (l : Fin 2) (d a sh : Fin 16) (s : State) : Result :=
  s.ppDo fun t => t.loopDo l (wOp 0x19 + wD d + wA a + sh) wAll 1 fun j u => u.satV j d (u.vreg j a * (2 ^ sh.val : Nat))

/-- R303: Vd := floor(Va / 2^sh). -/
def execShr (l : Fin 2) (d a sh : Fin 16) (s : State) : Result :=
  s.ppDo fun t => t.loopDo l (wOp 0x1A + wD d + wA a + sh) wAll 1 fun j u => u.setV j d (u.vreg j a / (2 ^ sh.val : Nat))

/-- R303: Vd := sat16(Vd + rnd15((Va − Vd) × Vb)). -/
def execLpf (l : Fin 2) (d a b : Fin 16) (s : State) : Result :=
  s.ppDo fun t => t.loopDo l (wOp 0x1B + wD d + wA a + wB b) wAll 2 fun j u => u.satV j d (u.vreg j d + rnd15 ((u.vreg j a - u.vreg j d) * u.vreg j b))

/-- R303: An := 0. -/
def execClra (l : Fin 2) (n : Fin 4) (s : State) : Result :=
  s.ppDo fun t => t.loopDo l (wOp 0x20 + wD n) wAll 1 fun j u => u.setA j n 0

/-- R303: An := Va × 2^15. -/
def execLda (l : Fin 2) (n : Fin 4) (a : Fin 16) (s : State) : Result :=
  s.ppDo fun t => t.loopDo l (wOp 0x21 + wD n + wA a) wAll 1 fun j u => u.setA j n (u.vreg j a * 32768)

/-- R303: An := sat40(An + Va × Vb). -/
def execMac (l : Fin 2) (n : Fin 4) (a b : Fin 16) (s : State) : Result :=
  s.ppDo fun t => t.loopDo l (wOp 0x22 + wD n + wA a + wB b) wAll 1 fun j u => u.satA j n (u.areg j n + u.vreg j a * u.vreg j b)

/-- R303: An := sat40(An − Va × Vb). -/
def execMsu (l : Fin 2) (n : Fin 4) (a b : Fin 16) (s : State) : Result :=
  s.ppDo fun t => t.loopDo l (wOp 0x23 + wD n + wA a + wB b) wAll 1 fun j u => u.satA j n (u.areg j n - u.vreg j a * u.vreg j b)

/-- R303: An := sat40(An + Va × 2^15). -/
def execAcca (l : Fin 2) (n : Fin 4) (a : Fin 16) (s : State) : Result :=
  s.ppDo fun t => t.loopDo l (wOp 0x24 + wD n + wA a) wAll 1 fun j u => u.satA j n (u.areg j n + u.vreg j a * 32768)

/-- R303: An := floor(An / 2^sh). -/
def execShra (l : Fin 2) (n : Fin 4) (sh : Fin 16) (s : State) : Result :=
  s.ppDo fun t => t.loopDo l (wOp 0x25 + wD n + sh) wAll 1 fun j u => u.setA j n (u.areg j n / (2 ^ sh.val : Nat))

/-- R303: Vd := sat16(rnd15(An × 2^sh)); the word tells no more of N than D does (log entry 8: DEDUCED). -/
def execSata (l : Fin 2) (d : Fin 16) (n : Fin 4) (sh : Fin 16) (s : State) : Result :=
  s.ppDo fun t => t.loopDo l (wOp 0x26 + wD d + sh) wAll 1 fun j u => u.satV j d (rnd15 (u.areg j n * (2 ^ sh.val : Nat)))

/-- R303: An := min(max(An, Va × 2^15), Vb × 2^15), and CLP says whether An changed. -/
def execAclp (l : Fin 2) (n : Fin 4) (a b : Fin 16) (s : State) : Result :=
  s.ppDo fun t => t.loopDo l (wOp 0x27 + wD n + wA a + wB b) wAll 1 fun j u => 
    let x := min (max (u.areg j n) (u.vreg j a * 32768)) (u.vreg j b * 32768)
    (u.setA j n x).wrB (Reg.slClp j) (decide (x ≠ u.areg j n))

/-- R304: the condition of a SKP on Va, Vb and CLP; 0b111 is reserved. -/
def skpHolds (cond : Nat) (a b : Int) (clp : Bool) : Bool :=
  match cond with
  | 0 => decide (a = b)
  | 1 => decide (a ≠ b)
  | 2 => decide (a < b)
  | 3 => decide (b ≤ a)
  | 4 => decide (b < a)
  | 5 => decide (a ≤ b)
  | 6 => clp
  | _ => false

/-- R304, R305: skips the next cnt instructions when the condition holds; 0b111 is reserved, CLP asks for A and B at 0, and cnt is 1–255. -/
def execSkp (l : Fin 2) (cond : Fin 8) (a b : Fin 16) (cnt : Fin 256) (s : State) : Result :=
  s.ppDo fun t =>
    let w := wOp 0x30 + wCond cond + wA a + wB b + cnt
    if !wordOk w then t
    else t.loopDo l w wAll 1 fun j u =>
      if skpHolds cond (u.vreg j a) (u.vreg j b) (u.on (Reg.slClp j)) then u.wr (Reg.slPc j) (u.rd (Reg.slPc j) + (cnt : Nat)) else u

/-- R303: the following-error step (R316, R317). -/
def execFel (l : Fin 2) (a b : Fin 16) (s : State) : Result :=
  s.ppDo fun t => t.loopDo l (wOp 0x31 + wA a + wB b) wAll 1 fun j u => u.fel j (u.vreg j a) (u.vreg j b)

/-- R318: a write of 1 to RESTART, with the slot's other fields as they stand. -/
def execSlotRestart (level : Fin 4) (j : Fin 128) (s : State) : Result :=
  s.hostWrite level (0x3800 + j) 1 (withBits (s.rd (Reg.SLOT_CTRL j)) 2 1 1)

/-- R323: a write of 1 to PRESET. -/
def execPreset (level : Fin 4) (w : Fin 32) (s : State) : Result :=
  s.hostWrite level (0x38C0 + w) 1 1

/-- R322, R325: a host write of TARGET. -/
def execProfileTargetWrite (level : Fin 4) (w : Fin 32) (target : BitVec 32) (s : State) : Result :=
  s.hostWrite level (0x38C0 + w) 5 target.toInt

/-- One profile's step, with the end of the move of a rail that follows it (R319, R321; 02_converter_core.md R62, R65–R67). -/
def State.windOne (s : State) (w : Nat) : State :=
  if !s.moving w then s
  else
    let t := s.windStep w
    forUnits 4 (fun r u =>
      if u.profile r ≠ w ∨ u.bit (rlMoving r) = false then u
      else if u.moving w then u
      else u.moveEnds r) t

/-- R319, R321: every moving profile takes the step of a multiple of 1000 ns; soft retries of rails rise with it (02_converter_core.md R91),
and the reference DACs follow (02_converter_core.md R62); every profile publishes its signals (R310). -/
def execWinderStep (s : State) : Result :=
  s.ppDo fun t =>
    let u := t.toTick 4 1000
    forUnits 4 (fun r v => v.refresh r) (forUnits 4 (fun r v => v.softStep r) (forUnits 32 (fun w v => (v.windOne w).windShow w) u))

end Sys2Proof.Machine
end

