-- ==== Sys2Proof/Machine/PitLog.lean ====
section
/-!
DEFINITION. The meanings of the commands of the Shaft, the capture and the pit log (11_shaft_and_pit_log.md).
-/
namespace Sys2Proof.Machine

/-- R37, R450–R453: gallery `g`'s producer asks for a block that it fills with `data`; a power-plane producer that finds the Shaft in reset
or in hold mode drops it. -/
def execCreditRequest (g : Fin 64) (data : List (BitVec 8)) (s : State) : Result :=
  if s.procRuns then (s.askCredit g data).done
  else s.ppDo fun t => if galDrops g || decide (32 ≤ g.val) then t.dropBlock g else t

/-- R450, R451: gallery `g`'s consumer releases its oldest block; a block of G19 holds sixteen notices, and the capture's blocks
come back only as its record advances, and the live image keeps its own. -/
def execBlockRelease (g : Fin 64) (s : State) : Result :=
  s.procDo fun t => if g = 19 ∧ t.on (Reg.USED 19) = true then { t.freeBlock g with notices := t.notices.drop 16 }
    else if galClass g = 2 ∨ g = 23 then t else (t.freeBlock g).txRetry

/-- R453: a producer's wait has lasted 10 ms; once for each wait. -/
def execProducerWaitTimeout (g : Fin 64) (s : State) : Result :=
  s.procDo fun t =>
    if t.on (Reg.galWaitNs g) && !t.on (Reg.galWaitRaised g) && t.since (t.rd (Reg.galWaitNs g) - 1) 10000000 then (t.wr (Reg.galWaitRaised g) 1).raise 71 else t

/-- R458: single-bit errors corrected: 69 at each 1024th. -/
def State.eccCorrected (s : State) (n : Nat) : State :=
  let run := s.rdN Reg.eccRun + n
  let t := (s.add 32 Reg.CORRECTED (n : Nat)).wr Reg.eccRun ((run % 1024 : Nat) : Int)
  forUnits (run / 1024) (fun _ u => u.raise 69) t

/-- Take out the block of a gallery that stands at a place among its own. -/
def takeOutBlock (g : Nat) : Nat → List GalBlock → List GalBlock
  | _, [] => []
  | i, b :: t => if b.gal = g then (match i with
      | 0 => t
      | j + 1 => b :: takeOutBlock g j t) else b :: takeOutBlock g i t

/-- Poison a word of the capture (R459) (log entry 95: DEDUCED). -/
def poisonWord : Nat → List (List Int) → List (List Int)
  | _, [] => []
  | i, f :: t => if i < f.length then f.set i (-32768) :: t else f :: poisonWord (i - f.length) t

/-- Poison a word of the capture's events (R459) (log entry 95: DEDUCED). -/
def poisonEvent : Nat → List (List Byte) → List (List Byte)
  | _, [] => []
  | i, e :: t => if i < 8 then (e.take (2 * i) ++ leBytes 2 0x8000 ++ e.drop (2 * i + 2)) :: t else e :: poisonEvent (i - 8) t

/-- What a poisoned block takes with it (R459): a word of the capture or of its events, the transfer that the block belongs to, sixteen notices,
a block of the live image until its next refresh, or the block's frame or samples (log entry 95: DEDUCED). -/
def State.poison (s : State) (g place : Nat) : State :=
  if g = 20 then
    if place < 40 * s.capFrames.length then ({ s with capFrames := poisonWord place s.capFrames }).inc32 Reg.CAP_POISON else s
  else if g = 21 then
    if place < 8 * s.capEvents.length then ({ s with capEvents := poisonEvent place s.capEvents }).inc32 Reg.CAP_POISON else s
  else
    let t := s.inc32 (Reg.POISONED g)
    if g = 23 then
      if t.on (Reg.USED 23) = true ∧ place < 192 then (t.wr (Reg.USED 23) (t.rd (Reg.USED 23) - 1)).wr Reg.livePoison ((place + 1 : Nat) : Int) else t
    else if g = 19 then
      if t.on (Reg.USED 19) then
        { t.wr (Reg.USED 19) (t.rd (Reg.USED 19) - 1) with notices := t.notices.take (16 * place) ++ t.notices.drop (16 * place + 16) }
      else t
    else if g = 24 then if t.rd Reg.instSrc = 2 then t.instEnd.wr Reg.imgSpoilt 1 else t
    else if g = 25 ∨ g = 26 then
      match (t.transfers.filter fun x => !x.spoilt && decide (x.secure = decide (g = 26)))[place]? with
      | some x =>
        { t.wr (Reg.USED g) (max 0 (t.rd (Reg.USED g) - ceilDiv (x.total : Nat) 256)) with
          transfers := t.transfers.map fun y => if y = x then { y with spoilt := true } else y }
      | none => t
    else if (takeOutBlock g place t.blocks).length < t.blocks.length then
      { t.wr (Reg.USED g) (max 0 (t.rd (Reg.USED g) - 1)) with blocks := takeOutBlock g place t.blocks }
    else t

/-- R458, R459: the scrubber reads one block. `corrected`: the words it corrected; `bad`: the block has an uncorrectable error,
and then `g` and `place` say whose it is. -/
def execScrub (corrected : Nat) (bad : Bool) (g : Fin 64) (place : Nat) (s : State) : Result :=
  s.procDo fun t =>
    let u := (t.toTick 5 10000).eccCorrected corrected
    let v := u.wr Reg.scrubAt ((u.rd Reg.scrubAt + 1) % 16384)
    if bad then (((v.inc32 Reg.UNCORRECTED).inc16 Reg.BAD_BLOCKS).poison g place).raise 68 else v

/-- R457: a stream's sample: the timebase in 48 bits and the signal in 16 (log entry 64: DEDUCED). -/
def State.streamSample (s : State) (g : Nat) : State :=
  if s.rd (Reg.STREAM_SIG g) = 65535 then s
  else
    let t := s.toTickOf (Reg.galTickNs g) (s.rdN (Reg.DEC_US g) * 1000)
    t.record g (leBytes 6 t.timebase ++ leBytes 2 (twos 16 (t.sigValue (t.rdN (Reg.STREAM_SIG g)))))

/-- R37, R457: a sample of signal stream `g`, dropped while the Shaft takes none (log entry 64: DEDUCED). -/
def execStreamSample (g : Fin 64) (s : State) : Result :=
  s.ppDo fun t => if 32 ≤ g.val then t.streamSample g else t

/-- R465, R469: a frame of the µs of timebase. `node`: the five conversions of NODE_SNS; `scan`: the scan sequencers' fast
conversions of that µs (log entry 96: DEDUCED). -/
def State.captureFrame (s : State) (node scan : List Int) : State :=
  let t := s.toTick 6 1000
  if t.rd Reg.CAP_STATE = 1 ∨ t.rd Reg.CAP_STATE = 2 then
    let u := (t.capWrite (t.capWords node scan)).wr Reg.capLastUs (t.now / 1000 + 1)
    if u.capDone then u.capFreeze else u
  else if t.rd Reg.CAP_STATE = 3 then t.dropRecord 20 80
  else t

/-- R465–R471: in hold mode a frame of a capture at work is dropped. -/
def execCaptureFrame (node : List Int) (scan : List Int) (s : State) : Result :=
  if s.procRuns then (s.captureFrame node scan).done
  else if s.on Reg.holdActive && s.ppRuns && decide (s.rd Reg.CAP_STATE ≠ 0) then ((s.toTick 6 1000).dropRecord 20 80).done
  else .next s

/-- R467: a trigger: 0x000–0x3FF a source's entry to SEVERE, 0x400 on a monitor's OUT_F, 0x800 the host. -/
def execCaptureTrigger (cause : Fin 2049) (s : State) : Result :=
  s.procDo fun t => if t.capTrigSet cause then t.capTrigger cause else t

/-- R467: POST_FRAMES frames have followed the trigger frame. -/
def execCaptureFreeze (s : State) : Result :=
  s.procDo fun t => if t.capDone then t.capFreeze else t

/-- R470: the write of ARM. -/
def execArm (level : Fin 4) (s : State) : Result :=
  s.hostWrite level 0x5080 1 (withBits (s.rd Reg.CAP_CTRL) 0 2 1)

/-- R467: the write of TRIG_HOST. -/
def execTrigHost (level : Fin 4) (s : State) : Result :=
  s.hostWrite level 0x5080 1 (withBits (s.rd Reg.CAP_CTRL) 0 2 2)

/-- R475, R476: the tick of a second, which the plane bridge's staging counts in every reset but the cold one, and in hold mode. -/
def execPitLogTick (s : State) : Result :=
  s.coreDo fun t => (t.toTick 7 1000000000).pitTick

/-- R477: a refresh of the live image, REFRESH_MS after the one before. -/
def execLiveRefresh (s : State) : Result := s.procDo fun t => (t.toAfter (t.rd Reg.liveNs) (t.rd Reg.REFRESH_MS * 1000000)).liveRefresh

/-- R481: EPOCH_PERIOD_S has passed since the last commit. -/
def execEpochPeriod (s : State) : Result := s.procDo fun t => if t.since (t.rd Reg.plAtNs) (t.rd Reg.EPOCH_PERIOD_S * 1000000000) then t.epochStart 1 else t

/-- R481: the write of PL_CMD 0x01. -/
def execPlCmd (level : Fin 4) (s : State) : Result := s.hostWrite level 0x5100 1 1

/-- An operation of the pit log that is in progress has ended with the others of its epoch: STATE of the record is `st`. -/
def State.plOpEnds (s : State) (st : Nat) : State :=
  s.when (s.on Reg.nvmBusy && decide (s.fld recOwner = 5)) fun t => ((t.wr Reg.nvmBusy 0).wr Reg.nvmRetry 0).setFld recState st

/-- R480: COMMIT has verified; the operations of the epoch that have not been reported one by one have ended with it (log entry 94: DEDUCED). -/
def execEpochCommit (s : State) : Result := s.procDo fun t => if t.bit (flag Reg.PL_STATUS 0) then (t.plOpEnds 2).epochCommit else t

/-- R479, R483: the epoch being written fails; `retired`: more than four of its slot's sectors have failed (log entry 94: DEDUCED). -/
def execEpochFail (retired : Bool) (s : State) : Result :=
  s.procDo fun t => if t.bit (flag Reg.PL_STATUS 0) then (t.plOpEnds 3).epochFail retired else t

end Sys2Proof.Machine
end

