-- ==== Sys2Proof/Machine/Rail.lean ====
section
/-!
DEFINITION. The meanings of the converter core's commands (02_converter_core.md).
-/
namespace Sys2Proof.Machine

/-! ### Shared by several commands -/

/-- The valley limit of phase `p` in force (R88, R96). -/
def State.valleyLimit (s : State) (r p : Nat) : Int :=
  let own := s.rd (Reg.ILIM_VALLEY_MA p)
  if s.railSt r = 4 ∧ s.on (Reg.rlOvlLim r) = true ∧ s.on (Reg.OVL_LIMIT_MA r) = true then
    min own (s.rd (Reg.OVL_LIMIT_MA r) / ((s.usable r).length : Int))
  else own

/-- The sensed voltage is above the overshoot threshold (R80). -/
def State.overshoots (s : State) (r : Nat) (vMv : Int) : Bool := s.aboveRef r vMv (2 * s.rd (Reg.OVS_PERMILLE r))

/-- A turn-on of phase `p` is asked for, `kind` as phDue has it, at the current `iMa`. -/
def State.askTurnOn (s : State) (r p : Nat) (kind iMa : Int) : State :=
  let t := s.wrB (Reg.phAbove p) (decide (s.valleyLimit r p < iMa))
  (t.when (decide (t.rd (Reg.phDue p) = 0)) fun u => u.wr (Reg.phDue p) kind).turnOn r p

/-- A trigger of the rail comparator (R48–R50, R75, R80, R81): not within 20 ns of the one before; the next active phase in order fires
once its off-time is over; in BURST a trigger begins a burst of BURST_PULSES + 1 on-times (log entry 71: DEDUCED). -/
def State.trigger (s : State) (r : Nat) (vMv iMa : Int) : State :=
  let t := s.wrB (Reg.rlAboveOvs r) (s.overshoots r vMv)
  if !t.switching r || t.bit (rlBraking r) || t.on (Reg.rlAboveOvs r) then t
  else if t.on (Reg.rlTrigNs r) && !t.since (t.rd (Reg.rlTrigNs r) - 1) 20 then t
  else
    let u := (t.wr (Reg.rlTrigNs r) (t.now + 1)).wr (Reg.rlTrigs r) (min 64 (t.rd (Reg.rlTrigs r) + 1))
    match u.nextPhase r with
    | none => u
    | some p =>
      if u.railSt r ≠ 3 then u.askTurnOn r p 1 iMa
      else if u.on (Reg.rlBurstLeft r) ∨ u.rd (Reg.phPwm p) = 1 then u
      else (u.wr (Reg.rlBurstLeft r) (u.fld (Bit.LL_CTRL_BURST_PULSES r) + 1 : Nat)).askTurnOn r p 1 iMa

/-- The current is below a per-phase threshold with `n` phases active. -/
def State.perPhaseBelow (s : State) (r : Nat) (thrMa : Int) : Bool :=
  decide (s.rd (Reg.IOUT_MA r) < thrMa * ((s.active r).length : Int))

/-- The element of a list for which `key` is greatest. -/
def mostBy (key : Nat → Nat) : List Nat → Option Nat
  | [] => none
  | p :: t =>
    match mostBy key t with
    | none => some p
    | some q => if key q < key p then some p else some q

/-- Shed the active phase with the highest rotated ORDER; it finishes an on-time in progress (R73) (log entry 73: DEDUCED). -/
def State.shedPhase (s : State) (r : Nat) : State :=
  match mostBy (s.rotOrder r) (s.active r) with
  | none => s
  | some p =>
    let t := if s.someShed r then s else s.wr (Reg.rlShedOfs r) 0
    let m := (if s.someShed r then t else t.wr (Reg.rlRotNs r) s.now).mark markShed r (p + 16 * s.rd (Reg.phPwm p))
    let u := ((m.setFld (phActive p) 0).setFld (phShed p) 1).wr (Reg.rlDwell r) (s.now + s.rd Reg.SHED_DWELL_US * 1000)
    if s.rd (Reg.phPwm p) = 1 then u else (u.noTurnOn p).toMid p

/-- Diode emulation is in force on rail `r` (R64–R66, R75): forced in START, and in BURST; with DE_EN while no move is in progress. -/
def State.deInForce (s : State) (r : Nat) : Bool :=
  decide (s.railSt r = 1) || decide (s.railSt r = 3) || (s.switching r && s.bit (Bit.RAIL_CTRL_DE_EN r) && !s.bit (rlMoving r))

/-- The measured rise of an on-time of `taps` is compared with the expected one, where that is at least 1 A (R100). -/
def State.compareRise (s : State) (r p : Nat) (taps riseMa : Int) : State :=
  let want := (s.rd (Reg.rlVin r) - s.rd (Reg.VOUT_MV r)) * taps * 5
  let perMa := 32 * s.rd (Reg.IND_NH p)
  if want < 1000 * perMa then s
  else if 4 * riseMa * perMa < want then s.add 7 (Reg.phOpenRun p) 1
  else s.wr (Reg.phOpenRun p) 0

/-- An on-time in progress is truncated, not before its 20 ns: what has passed of it is compared when its rise is known (R80, R100). -/
def State.truncate (s : State) (p : Nat) (mid : Bool) : State :=
  if s.rd (Reg.phPwm p) ≠ 1 then (if mid then s.toMid p else s)
  else if !s.since (s.rd (Reg.phOnNs p)) 20 then s.wr (Reg.phTaps p) (min 128 (s.rd (Reg.phTaps p)))
  else
    let taps := clampI 128 (max 128 (s.rd (Reg.phTaps p))) ((s.now - s.rd (Reg.phOnNs p)) * 32 / 5)
    (if mid then s.toMid p else s.toLow p).wr (Reg.phCmp p) taps

/-- Braking ends (R81). -/
def State.brakeEnds (s : State) (r : Nat) : State := s.setFld (rlBraking r) 0

/-! ### Triggers and on-times -/

/-- R48–R50, R75, R88: sensed output voltage, and the current of the phase next in order. -/
def execRailTrigger (r : Fin 4) (vMv iMa : Int) (s : State) : Result :=
  s.ppDo fun t => (t.remoteGates r).trigger r vMv iMa

/-- R54, R75, R100, R101: the on-time of a phase ends, its taps of 156.25 ps over; or the rise of a truncated one is known. -/
def execOnTimeEnd (p : Fin 16) (riseMa : Int) (s : State) : Result :=
  s.ppDo fun t =>
    let r := t.fld (Bit.PHASE_CTRL_RAIL p)
    if t.rd (Reg.phPwm p) = 1 then
      if t.since (t.rd (Reg.phOnNs p)) (t.rd (Reg.phTaps p) * 5 / 32) then
        let u := t.compareRise r p (t.rd (Reg.phTaps p)) riseMa
        if u.bit (phActive p) = false ∨ u.bit (rlBraking r) = true ∨ (u.railSt r = 3 ∧ u.on (Reg.rlBurstLeft r) = false) then u.toMid p
        else (u.toLow p).when (decide (u.railSt r = 3)) fun v => v.wr (Reg.phDue p) 3
      else t
    else if t.on (Reg.phCmp p) then (t.compareRise r p (t.rd (Reg.phCmp p)) riseMa).wr (Reg.phCmp p) 0
    else t

/-- R53: after 64 triggers the factor is trimmed; the spec gives its range only, so that the new factor is a free value. -/
def execFrequencyLockTrim (r : Fin 4) (s : State) : Result :=
  s.ppDo fun t =>
    if t.rd (Reg.rlTrigs r) = 64 then ((t.wr (Reg.rlLock r) (750000 + t.free % 500001)).wr (Reg.rlTrigs r) 0).used else t

/-- R54: the on-time has been at a limit for 1 ms. -/
def execOnTimeClamp (r : Fin 4) (s : State) : Result :=
  s.ppDo fun t =>
    let held := (t.active r).any fun p => decide (t.onTaps r p = 128) || decide (t.onTaps r p = t.upperTaps r)
    if t.switching r && held && !t.on (Reg.rlClampRun r) then (t.wr (Reg.rlClampRun r) 1).raise (64 + r) else t

/-- R58–R61: a code has been held on VSELr[2:0] for VSEL_FILT_US. -/
def execVselCodeTaken (r : Fin 4) (code : Fin 8) (s : State) : Result :=
  s.ppDo fun t =>
    let u := t.wr (Reg.VSEL_PINS r) (code.val : Int)
    if u.bit (Bit.RAIL_CTRL_SOFT_VSEL r) = false ∧ u.rdN (Reg.rlSelIdx r) ≠ code then u.selectPoint r code else u

/-! ### Light load -/

/-- R71, R73, R85: the per-phase current has stayed below SHED_MA for SHED_DWELL_US (log entry 73: DEDUCED). -/
def execPhaseShed (r : Fin 4) (s : State) : Result :=
  s.ppDo fun t =>
    let least := t.fld (Bit.LL_CTRL_MIN_PHASES r) + 1
    if t.bit (Bit.LL_CTRL_SHED_EN r) && (decide (t.railSt r = 2) || (decide (t.railSt r = 4) && !t.on (Reg.rlOvlLim r))) &&
        decide (least < (t.active r).length) && t.perPhaseBelow r (t.rd (Reg.SHED_MA r)) && !t.lightHeld r &&
        decide (t.rd (Reg.rlDwell r) ≤ t.now) then t.shedPhase r
    else t

/-- R72: the per-phase current exceeds ADD_MA; a further phase is added 10 µs later. -/
def execPhaseAdd (r : Fin 4) (s : State) : Result :=
  s.ppDo fun t =>
    if t.switching r && decide (t.rd (Reg.ADD_MA r) * ((t.active r).length : Int) < t.rd (Reg.IOUT_MA r)) &&
        (!t.on (Reg.rlAddNs r) || t.since (t.rd (Reg.rlAddNs r) - 1) 10000) then
      ((t.shedUndo r).addPhase r).wr (Reg.rlAddNs r) (t.now + 1)
    else t

/-- R73: ROT_MS has passed. -/
def execShedRotation (r : Fin 4) (s : State) : Result :=
  s.ppDo fun t =>
    if !(t.bit (Bit.LL_CTRL_ROT_EN r) && t.someShed r) then t.wr (Reg.rlShedOfs r) 0
    else if t.since (t.rd (Reg.rlRotNs r)) (t.rd Reg.ROT_MS * 1000000) then
      (t.wr (Reg.rlShedOfs r) ((t.rd (Reg.rlShedOfs r) + 1) % 16)).wr (Reg.rlRotNs r) t.now
    else t

/-- R74, R85: with one phase active the current has stayed below BURST_ENTRY_MA for 1 ms; a SHARED rail does not burst
(06_tally_and_sharing.md R287) (log entry 73: DEDUCED). -/
def execBurstEntry (r : Fin 4) (s : State) : Result :=
  s.ppDo fun t =>
    if t.railSt r = 2 ∧ (t.active r).length = 1 ∧ t.bit (Bit.LL_CTRL_BURST_EN r) = true ∧ t.shared r = false ∧
        t.on (Reg.rlLowNs r) = true ∧ t.since (t.rd (Reg.rlLowNs r) - 1) 1000000 = true ∧ t.lightHeld r = false then
      forAll (t.active r) (fun p u => (u.wr (Reg.phDue p) 0).when (decide (u.rd (Reg.phPwm p) ≠ 1)) fun v => v.toMid p)
        ((t.railTo r 3).wr (Reg.rlBurstLeft r) 0)
    else t

/-- R75: no trigger for SLEEP_MAX_US. -/
def execBurstRefresh (r : Fin 4) (vMv iMa : Int) (s : State) : Result :=
  s.ppDo fun t =>
    if t.railSt r = 3 ∧ (t.on (Reg.rlTrigNs r) = false ∨ t.since (t.rd (Reg.rlTrigNs r) - 1) (t.rd (Reg.SLEEP_MAX_US r) * 1000) = true) then
      t.trigger r vMv iMa
    else t

/-- R76: the current exceeds BURST_EXIT_MA. -/
def execBurstExit (r : Fin 4) (s : State) : Result :=
  s.ppDo fun t => if t.rd (Reg.BURST_EXIT_MA r) < t.rd (Reg.IOUT_MA r) then t.burstEnds r else t

/-! ### Large transients -/

/-- R76–R78, R88: an undershoot; `above`: the phases whose current is above their valley limit (log entry 72: DESIGN CHOICE). -/
def execPileIn (r : Fin 4) (vMv : Int) (above : List (Fin 16)) (s : State) : Result :=
  s.ppDo fun t =>
    if t.switching r && t.bit (Bit.RAIL_CTRL_PILEIN_EN r) && t.on (Reg.rlPileArmed r) &&
        t.belowRef r vMv (-2 * t.rd (Reg.PILEIN_PERMILLE r)) then
      let u := (t.burstEnds r).wr (Reg.rlAboveOvs r) 0
      let all := u.usable r
      let v := ((u.brakeEnds r).setFld (rlPilein r) 1).wr (Reg.rlPileArmed r) 0
      let w := forAll all (fun p x =>
        let y := (x.activate p).wrB (Reg.phAbove p) (above.any fun q => q.val = p)
        if y.rd (Reg.phPwm p) = 1 then y else (y.wr (Reg.phDue p) 2).turnOn r p) v
      let top := (mostBy (fun p => t.fld (Bit.PHASE_CTRL_ORDER p)) all).map fun p => t.fld (Bit.PHASE_CTRL_ORDER p)
      (w.wr (Reg.rlLastOrder r) ((top.getD 0 + 1 : Nat) : Int)).wr (Reg.rlDwell r) (t.now + t.rd Reg.SHED_DWELL_US * 1000)
    else t

/-- R79: the sensed voltage is above the reference less half of PILEIN_PERMILLE. -/
def execPileInRearm (r : Fin 4) (vMv : Int) (s : State) : Result :=
  s.ppDo fun t =>
    if t.aboveRef r vMv (-t.rd (Reg.PILEIN_PERMILLE r)) then (t.setFld (rlPilein r) 0).wr (Reg.rlPileArmed r) 1 else t

/-- R80, R81: an overshoot. -/
def execOvershootTruncation (r : Fin 4) (vMv : Int) (s : State) : Result :=
  s.ppDo fun t =>
    if t.switching r && t.overshoots r vMv then
      let u := t.wr (Reg.rlAboveOvs r) 1
      if t.fld (Bit.RAIL_CTRL_OVS_MODE r) = 1 then (forAll (t.phasesOf r) (fun p v => v.truncate p true) u).setFld (rlBraking r) 1
      else forAll (t.phasesOf r) (fun p v => v.truncate p false) u
    else t

/-- R80, R81: the sensed voltage is below the reference plus half of OVS_PERMILLE. -/
def execBrakingEnd (r : Fin 4) (vMv : Int) (s : State) : Result :=
  s.ppDo fun t => if t.belowRef r vMv (t.rd (Reg.OVS_PERMILLE r)) then ((t.brakeEnds r).wr (Reg.rlAboveOvs r) 0).turnOns r else t

/-- R83: the decayed announcements of the rail end (log entry 72: DESIGN CHOICE). -/
def execOffsetDecayEnd (r : Fin 4) (s : State) : Result :=
  s.ppDo fun t => ((t.remoteGates r).removeAnns fun a => a.rail = r && a.opened && decide (a.start + a.spanNs ≤ t.timebase)).ffActive r

/-! ### Protection -/

/-- R88, R89, R98: the current of a phase whose turn-on is due is above its valley limit, so that it waits; or it has fallen below, and the
turn-on that waits takes place (log entry 71: DEDUCED). -/
def execValleyLimit (p : Fin 16) (iMa : Int) (s : State) : Result :=
  s.ppDo fun t =>
    let r := t.fld (Bit.PHASE_CTRL_RAIL p)
    if t.switching r && (t.active r).contains p.val && decide (t.rd (Reg.phPwm p) ≠ 1) then
      if t.valleyLimit r p < iMa then
        ((t.wr (Reg.phAbove p) 1).when (decide (t.rd (Reg.phDue p) = 0)) fun u => u.wr (Reg.phDue p) 1).valleyWait r p
      else (t.wr (Reg.phAbove p) 0).turnOn r p
    else t

/-- R89, R90, R98: HICCUP_N consecutive valley-limited cycles of a phase; a cage of that phase on this edge does not hold it back (R108). -/
def execHiccupEntry (r : Fin 4) (s : State) : Result :=
  s.ppDo fun t => if t.hiccupDue r || (t.switching r && (t.marked markCage r).isSome) then t.railHiccup r false else t

/-- R91: HICCUP_OFF_MS has passed. -/
def execSoftRetry (r : Fin 4) (s : State) : Result :=
  s.ppDo fun t => if t.railSt r = 5 ∧ t.since (t.rd (Reg.rlStNs r)) (t.rd (Reg.HICCUP_OFF_MS r) * 1000000) = true then t.softRetry r else t

/-- Every phase of the rail is low and waits for its zero crossing (R92, R93). -/
def State.shortLow (s : State) (r : Nat) : State :=
  forAll (s.usable r) (fun q v => ((v.wr (Reg.phPwm q) 2).wr (Reg.phZeroWait q) 1).wr (Reg.phOffNs q) (s.now + 1)) s

/-- R92–R94: a phase current above ISC_MA; on the edge of an entry to HICCUP the short path acts, and HICCUP is entered once, and a cage of
that edge does not hold it back (R108). -/
def execFastShortCircuit (p : Fin 16) (iMa : Int) (s : State) : Result :=
  s.ppDo fun t =>
    let r := t.fld (Bit.PHASE_CTRL_RAIL p)
    let caged := (t.marked markCagePhase p).isSome
    if ((t.usable r).contains p.val || caged) && decide (t.rd (Reg.Phase_ISC_MA p) < iMa) then
      if t.switching r then ((t.raise (32 + p)).railHiccup r false).shortLow r
      else if decide (t.railSt r = 5) && (t.marked markHiccup r).isSome then (t.raise (32 + p)).shortLow r
      else if caged then t.raise (32 + p)
      else t
    else t

/-- R64–R66, R75, R93: the phase's current is at or below zero (`crossed`), or 2 µs have passed since a short drove it low: it goes to mid
after a short, and where diode emulation is in force. -/
def execPhaseZeroCrossing (x : PhaseEnd) (s : State) : Result :=
  s.ppDo fun t =>
    let r := t.fld (Bit.PHASE_CTRL_RAIL x.phase)
    if t.on (Reg.phZeroWait x.phase) then
      if x.crossed || t.since (t.rd (Reg.phOffNs x.phase) - 1) 2000 then t.toMid x.phase else t
    else if x.crossed && t.bit (Bit.PHASE_CTRL_ASSIGNED x.phase) && decide (t.rd (Reg.phPwm x.phase) = 2) && t.deInForce r then t.toMid x.phase
    else t

/-- The average of R95 in mA. -/
def State.avgMa (s : State) (r : Nat) : Int := s.rd (Reg.rlAvg r) / 65536

/-- R95–R97: the average of the rail's current exceeds OVL_LIMIT_MA (log entry 73: DEDUCED) (log entry 117: DESIGN CHOICE). -/
def execSlowOverload (r : Fin 4) (avgMa : Int) (s : State) : Result :=
  s.ppDo fun t =>
    if avgMa = t.avgMa r then
      if t.switching r && t.avgAbove r && !t.on (Reg.rlOvlAbove r) then
        let u := (t.wr (Reg.rlOvlAbove r) 1).raise (52 + r)
        if u.railSt r = 4 then u.overloaded r else u.enterLimit r
      else t
    else t

/-- R98: DEGRADE_HOLD_MS has passed in LIMIT. -/
def execDegradeHoldExpiry (r : Fin 4) (s : State) : Result :=
  s.ppDo fun t =>
    if t.railSt r = 4 ∧ t.since (t.rd (Reg.rlStNs r)) (t.rd (Reg.DEGRADE_HOLD_MS r) * 1000000) = true then t.wr (Reg.rlLimitHold r) 0 else t

/-- R99: no phase valley limited for 100 µs, the current within RAIL_CAP_MA, and the average below OVL_LIMIT_MA (log entry 73: DEDUCED) (log entry 117: DESIGN CHOICE). -/
def execLimitExit (r : Fin 4) (avgMa : Int) (s : State) : Result :=
  s.ppDo fun t =>
    if avgMa = t.avgMa r then
      let slow := t.on (Reg.rlOvlLim r) && t.on (Reg.OVL_LIMIT_MA r)
      let below := !slow || decide (t.rd (Reg.rlAvg r) < t.rd (Reg.OVL_LIMIT_MA r) * 65536)
      if t.railSt r = 4 && below && decide (t.rd (Reg.IOUT_MA r) ≤ t.railCap r) && !((t.active r).any fun p => t.on (Reg.phWait p)) &&
          (!t.on (Reg.rlValleyNs r) || t.since (t.rd (Reg.rlValleyNs r) - 1) 100000) then
        (((t.railTo r 2).wr (Reg.rlOvlLim r) 0).wr (Reg.rlLimitHold r) 0).wr (Reg.rlCageLim r) 0
      else t
    else t

/-! ### Cages -/

/-- R101: OPEN_CNT consecutive compared on-times without ripple. -/
def execPhaseOpenDetect (p : Fin 16) (s : State) : Result :=
  s.ppDo fun t =>
    if t.bit (Bit.PHASE_CTRL_ASSIGNED p) && !t.bit (phCaged p) && decide (t.rd (Reg.OPEN_CNT p) ≤ t.rd (Reg.phOpenRun p)) then
      (t.cagePhase p 1).raise p
    else t

/-- R102: the CS pin out of range for 1 µs. -/
def execPhaseSenseRange (p : Fin 16) (mv : Int) (s : State) : Result :=
  s.ppDo fun t =>
    if t.bit (Bit.PHASE_CTRL_ASSIGNED p) && !t.bit (phCaged p) && (decide (mv < 50) || decide (1550 < mv)) then
      (t.cagePhase p 2).raise (16 + p)
    else t

/-- R103: a write of 1 to CAGE_REQ. -/
def execPhaseCageReq (level : Fin 4) (p : Fin 16) (s : State) : Result :=
  s.hostWrite level (0x2010 + p) 1 (withBits (s.rd (Reg.PHASE_CTRL p)) 12 1 1)

end Sys2Proof.Machine
end

