-- ==== Sys2Proof/Machine/Resets.lean ====
section
/-!
DEFINITION. The meanings of the collector's, the watchdog's, the deputy's and the resets' commands, of the root clock's, and of the
core supply's (10_faults_watchdog_resets.md; 01_architecture.md R24–R33; 17_electrical.md R689).
-/
namespace Sys2Proof.Machine

/-! ### Fault collector -/

/-- R410: WINDOW_MS after a source's window started. -/
def execWindowExpiry (f : Fin 1024) (s : State) : Result :=
  s.ppDo fun t =>
    if t.windowOver f then (t.wr (Reg.COUNT f) 0).setFld (flag (Reg.SRC_STATUS f) 1) 0 else t

/-- R412: a write of 1 to CLEAR. -/
def execSourceClear (level : Fin 4) (f : Fin 1024) (s : State) : Result :=
  s.hostWrite level (0x4000 + f) 1 (withBits (s.rd (Reg.SRC_CTRL f)) 2 1 1)

/-- R416: a write of 1 to FORCE. -/
def execSourceForce (level : Fin 4) (f : Fin 1024) (s : State) : Result :=
  s.hostWrite level (0x4000 + f) 1 (withBits (s.rd (Reg.SRC_CTRL f)) 1 1 1)

/-! ### Watchdog and deputy -/

/-- A violation (R431). -/
def State.wdViolation (s : State) : State :=
  (((s.inc16 Reg.WD_VIOLATIONS).inc16 Reg.WD_RESETS).raise 227).wantReset 4

/-- LOCKED of WD_STATUS. -/
abbrev wdLocked : Bits := flag Reg.WD_STATUS 0

/-- The expiry of the watchdog (R431). -/
def State.wdExpires (s : State) : State := ((s.inc16 Reg.WD_RESETS).raise 226).wantReset 3

/-- R427, R431: the count reaches the period; of the causes of one edge each acts (R434) (log entry 51: DESIGN CHOICE). -/
def execWatchdogExpiry (s : State) : Result :=
  s.causeDo fun t => if t.watchBack.wdPeriod ≤ t.watchBack.wdTicks then t.wdExpires else t

/-- The service decided at tick `e` is accepted (R428). -/
def State.wdAccepts (s : State) (key : BitVec 32) (e : Int) : Bool := decide (key = 0x0000D1A6) && decide (s.wdPeriod ≤ 2 * e)

/-- The service is accepted at tick `e`: the count returns to 0 and the period locks (R428). -/
def State.wdServe (s : State) (e : Int) : State := (s.wr Reg.wdNs (s.rd Reg.wdNs + 40 * e)).setFld wdLocked 1

/-- The write of the period that was accepted at this very instant is taken back (R447). -/
def State.wdUnwrite (s : State) (period : Int) (at0 : Int) : State :=
  ((s.wr Reg.WD_PERIOD_MS period).wr Reg.wdNs at0).wr Reg.wdPeriodWritten 0

/-- A service write with its key, decided at tick `e`; on the tick of expiry and after it the write is not decided. One that would have been
accepted but for a write of the period on its tick is accepted, and that write is a violation (R428, R447) (log entry 51: DESIGN CHOICE) (log
entry 117: DESIGN CHOICE). -/
def State.wdService (t : State) (key : BitVec 32) (e : Int) : State :=
  if e = t.wdSvcTick then
    match t.nowMark markWdPeriod 0, t.nowMark markWdAt 0 with
    | some period, some at0 =>
      let u := t.wdUnwrite period at0
      if u.wdAccepts key u.wdSvcTick && decide (u.wdSvcTick < u.wdPeriod) then (u.wdServe u.wdSvcTick).wdViolation else t.wdViolation
    | _, _ => if t.wdPeriod ≤ e then t else if t.wdAccepts key e then t.wdServe e else t.wdViolation
  else t

/-- R428: a service write with its key (log entry 51: DESIGN CHOICE, log entry 117: DESIGN CHOICE). -/
def execWdtSvc (key : BitVec 32) (e : Int) (s : State) : Result :=
  s.orJoins (fun t => t.wdService key e) State.wdViolation (s.wdDo fun t => t.wdService key e)

/-- A write of the period, once, before the first accepted service (R429). -/
def State.wdNewPeriod (t : State) (v : BitVec 32) : State :=
  if t.on Reg.wdPeriodWritten ∨ t.bit wdLocked = true ∨ v.toNat < 8 ∨ 512 < v.toNat then t.wdViolation
  else
    let u := (t.mark markWdPeriod 0 (t.rd Reg.WD_PERIOD_MS)).mark markWdAt 0 (t.rd Reg.wdNs)
    ((u.wr Reg.WD_PERIOD_MS v.toNat).wr Reg.wdNs u.now).wr Reg.wdPeriodWritten 1

/-- R429: a write of the period. -/
def execWdtPeriod (v : BitVec 32) (s : State) : Result :=
  s.orJoins (fun t => t.wdNewPeriod v) State.wdViolation (s.wdDo fun t => t.wdNewPeriod v)

/-- R422: the deputy's cores disagree (log entry 14: DEDUCED). -/
def execLockstepMismatch (s : State) : Result := s.causeDo fun t => (t.raise 228).wantReset 7

/-- R423: a write of another master to a deputy-only register. -/
def execForeignWrite (s : State) : Result := s.wdDo fun t => (t.inc16 Reg.WD_FOREIGN).raise 229

/-- The third heartbeat missed in a row (R424). -/
def State.heartLost (s : State) : State := ((s.wr Reg.hbMisses 0).raise 230).wantReset 6

/-- A heartbeat interval without an answer, `again` when the one before it had none either; a core halted in debug is not counted (R424;
14_images_and_security.md R630). -/
def State.heartMissed (t : State) (again halted : Bool) : State :=
  if !t.on Reg.planeReady || (halted && t.authSilent) then t
  else
    let n := (if again then t.rd Reg.hbMisses else 0) + 1
    if 3 ≤ n then t.confBreak.heartLost else t.confBreak.wr Reg.hbMisses n

/-- R424: a heartbeat interval without an answer (log entry 14: DEDUCED). -/
def execHeartbeatMissed (again halted : Bool) (s : State) : Result :=
  s.orJoins (fun t => t.heartMissed again halted) State.heartLost (s.procDo fun t => t.heartMissed again halted)

/-- A configuration check: a mismatch names the first index (R424). -/
def State.cfgCheck (s : State) (idx : Nat) : State := if idx = 0 then s else (s.confBreak.wr Reg.CFG_MISMATCH (idx : Nat)).raise 231

/-- R424: the check of every 100 ms; `mismatch`: the first index whose CRC differs, 0 for none (log entry 14: DEDUCED). -/
def execConfigCheck (mismatch : BitVec 16) (s : State) : Result :=
  s.procDo fun t =>
    if t.on Reg.planeReady then
      let u := t.toAfter (t.rd Reg.cfgNs) 100000000
      (u.wr Reg.cfgNs (u.now + 1)).cfgCheck mismatch.toNat
    else t

/-! ### Resets -/

/-- R435: a write of 0x0C1D; with another cause of that edge it joins the reset where the host could have made it (R434). -/
def execResetCmd (level : Fin 4) (s : State) : Result :=
  s.orJoins (fun t => t.when (t.on Reg.planeReady && t.accepts level 0x1F19 1 0x0C1D) fun u => u.wantReset 5) (fun t => t.wantReset 5)
    (s.hostWrite level 0x1F19 1 0x0C1D)

/-- R433; 11_shaft_and_pit_log.md R460: the 10 µs are over; `zeroOk`: the SECURE blocks read back as zero. -/
def execProcResetEnd (zeroOk : Bool) (s : State) : Result :=
  if s.on Reg.procReset && !s.on Reg.ppReset && s.on Reg.corePowered && s.since (s.rd Reg.procNs) 10000 then
    (if zeroOk then s.procEnd else (s.procEnd.setFld (flag Reg.SH_STATUS 0) 1).raise 75).done
  else .next s

/-- The deputy applies WD_PERIOD_CFG (R425, R429). -/
def State.applyPeriod (s : State) : State :=
  if s.on Reg.wdPeriodWritten || s.bit wdLocked then s
  else ((s.wr Reg.WD_PERIOD_MS (s.rd Reg.WD_PERIOD_CFG)).wr Reg.wdNs s.now).wr Reg.wdPeriodWritten 1

/-- Hold mode ends (01_architecture.md R26; R443). -/
def State.holdModeEnds (s : State) : State := s.when (s.on Reg.holdActive) fun t => t.holdRecord.wr Reg.holdActive 0

/-- The notice of PLANE_READY goes before any other (12_dictionary.md R528, R534). -/
def State.readyNotice (s : State) : State :=
  let e : Event := ⟨s.timebase, 4, 0, 0, s.rdN Reg.LAST_RESET⟩
  let t := s.notice e
  if s.notices.length < t.notices.length then { t with notices := e :: s.notices } else t

/-- The deputy's boot is complete and sets PLANE_READY (01_architecture.md R26; R425; 14_images_and_security.md R612); TW0 lets go of SCL, which
a standby wake has held (13_links.md R567). -/
def State.becomeReady (s : State) (intact : Nat → Bool) (mismatch : Nat) : State :=
  let t := (((s.confBreak.wr Reg.planeReady 1).wr Reg.twWakeNs 0).holdModeEnds.applyPeriod).readyNotice.fsReady
  ((t.cfgCheck mismatch).bootChoose intact).wr Reg.seqDue 1

/-- R425: PLANE_READY sets; `okA`, `okB`: the content of each bank verifies as read (log entry 14: DEDUCED, log entry 52: DESIGN CHOICE). -/
def execPlaneReady (okA okB : Bool) (mismatch : BitVec 16) (s : State) : Result :=
  if s.on Reg.corePowered && !s.on Reg.procReset && !s.on Reg.ppReset && !s.on Reg.planeReady && !s.on Reg.nvmResetDue &&
      decide (s.rdN Reg.STATE ≠ 2) then
    (s.becomeReady (fun b => if b = 0 then okA else okB) mismatch.toNat).done
  else .next s

/-- R436: the satellite frames have been sent, or 200 µs have passed. -/
def execPpResetEnd (s : State) : Result :=
  if s.on Reg.ppReset && !s.on Reg.dieHold && s.on Reg.corePowered then s.ppEnd.done else .next s

/-- 01_architecture.md R28: the hold timer reaches 200 ms with PLANE_READY clear on that edge; one that sets with it would have come before this
command, and one that follows comes on a later edge (R447; log entry 123: DESIGN CHOICE). -/
def execHoldTimeout (s : State) : Result :=
  s.ppDo fun t =>
    if t.on Reg.holdActive && !t.on Reg.holdTimedOut && t.since (t.rd Reg.holdNs) 200000000 then ((t.wr Reg.holdTimedOut 1).raise 225).advance 5 else t

/-- A cold reset by RESET_N (01_architecture.md R24; 15_start_bist_standby.md R654): from STANDBY and OFF it is a wake, pending while
VSUP is absent (log entry 50: DESIGN CHOICE). -/
def State.resetPin (s : State) (seconds : Nat) : State :=
  if s.on Reg.corePowered then s.coldReset 2 true none
  else if s.on Reg.wakeWithPower then
    s.coldReset 2 true (if s.on Reg.alwaysOn && decide (s.rd Reg.STATE ≤ 1) then some (6, seconds) else none)
  else ((s.wr Reg.wakePend 7).wr Reg.STBY_S (satU 32 seconds)).setFld (flag Reg.STBY_STATUS 0) 1

/-- 01_architecture.md R24: a low pulse of `lowNs`; between 9 and 10 µs which of the two outcomes follows is an open value. `seconds`:
the time spent in STANDBY or OFF (log entry 50: DESIGN CHOICE). -/
def execResetN (lowNs seconds : Nat) (s : State) : Result :=
  if lowNs < 9000 then .next s
  else if lowNs ≤ 10000 then (if s.free % 2 = 0 then s.used.resetPin seconds else s.used).done
  else (s.resetPin seconds).done

/-! ### Root clock (01_architecture.md R32, R33) -/

/-- R32: 160 ns without an edge of XIN, once for each time that the edges stop; the clock unit is in no reset but the cold one. -/
def execRootClockLoss (s : State) : Result :=
  s.coreDo fun t => ((t.setFld (flag Reg.CLK_STATUS 0) 0).setFld (flag Reg.CLK_STATUS 1) 1).raise 224

/-- R33: a write of 0x0001 to CLK_RETURN. -/
def execClkReturn (level : Fin 4) (s : State) : Result := s.hostWrite level 0x1F20 2 1

/-- R33: edges of XIN have been present for 10 ms. -/
def execRootClockReturn (s : State) : Result := s.coreDo fun t => t.setFld (flag Reg.CLK_STATUS 0) 1

/-! ### Core supply (17_electrical.md R689) -/

/-- R689: VSUP falls below its power-on level. -/
def execPowerOnReset (s : State) : Result :=
  let t := s.wr Reg.wakeWithPower 0
  let u := if s.on Reg.corePowered then t.coldReset 1 false none else t
  (if u.bit (flag Reg.SUP_STATUS 5) then u else u.wr Reg.alwaysOn 0).done

/-- R689: VCORE falls below its threshold. -/
def execCoreSupplyUndervoltage (s : State) : Result :=
  if s.on Reg.corePowered then (s.coldReset 0x0A (s.on Reg.wakeWithPower) none).done else .next s

/-- R689; 15_start_bist_standby.md R654: VSUP rises above its power-on level; in STANDBY that alone starts nothing, and a wake that
is pending waits for the operating range. `seconds`: the time spent in OFF (log entry 56: DEDUCED). -/
def execVsupPowerOn (seconds : Nat) (s : State) : Result :=
  let t := s.wr Reg.wakeWithPower 1
  if s.on Reg.corePowered then t.done
  else if t.on Reg.wakePend && t.on Reg.alwaysOn then .next s
  else if t.on Reg.wakePend || !t.on Reg.alwaysOn || decide (t.rd Reg.STATE = 1) then t.done
  else (t.coldReset 1 true (if t.rd Reg.STATE = 0 then some (7, seconds) else none)).done

end Sys2Proof.Machine
end

