-- ==== Sys2Proof/Machine/Ring.lean ====
section
/-!
DEFINITION. The meanings of the ring ports, the input-fail warning and the prop converter's commands
(05_ring_and_holdup.md).
-/
namespace Sys2Proof.Machine

/-- R202: PLTO follows the outward current, by its shunt voltage in µV, and the ring-side voltage. The isolation logic stays armed
throughout a power-plane reset (01_architecture.md R25). -/
def execPilotOutChange (p : Fin 2) (shuntUv vrMv : Int) (s : State) : Result :=
  s.coreDo fun t => t.setBit (rpPilotOut p) (t.pilotDrive p shuntUv vrMv)

/-- R203: the far-end pilot is qualified, or PLTI has gone low and it is no longer. -/
def execPilotQualified (p : Fin 2) (high : Bool) (s : State) : Result :=
  s.coreDo fun t => t.setBit (rpPilotIn p) high

/-- R204, R223: outward current, by its shunt voltage in µV, above ISO_DIR_MA with a pilot that is wired, qualified and not stuck. -/
def execDirectionalTrip (p : Fin 2) (shuntUv : Int) (s : State) : Result :=
  s.coreDo fun t =>
    if t.rpBeyond p (t.rd (Reg.ISO_DIR_MA p)) shuntUv = true ∧ t.pilotOn p = true ∧ t.bit (rpPilotIn p) = true ∧ t.bit (rpPilotStuck p) = false then
      t.rpTrip p 1
    else t

/-- R205: outward current, by its shunt voltage in µV, above ISO_MAX_MA for 2 µs. -/
def execBackupOutwardTrip (p : Fin 2) (shuntUv : Int) (s : State) : Result :=
  s.coreDo fun t => if t.rpBeyond p (t.rd (Reg.ISO_MAX_MA p)) shuntUv then t.rpTrip p 2 else t

/-- R206: inward current, by its shunt voltage in µV (negative), above ISO_IN_MA for 2 µs, with INW_EN at 1. -/
def execInwardTrip (p : Fin 2) (shuntUv : Int) (s : State) : Result :=
  s.coreDo fun t => if t.bit (Bit.RP_CTRL_INW_EN p) && t.rpBeyond p (t.rd (Reg.ISO_IN_MA p)) (-shuntUv) then t.rpTrip p 3 else t

/-- R213: an opened port that still carries more than 5 A, by its shunt voltage in µV, 20 µs after its pull-down began enters FAILED. -/
def execSwitchFailed (p : Fin 2) (shuntUv : Int) (s : State) : Result :=
  s.coreDo fun t =>
    if t.on (Reg.rpJudge p) && t.since (t.rd (Reg.rpJudge p) - 1) 20000 then
      let u := t.wr (Reg.rpJudge p) 0
      if t.rpBeyond p 5000 (absI shuntUv) then (((u.setFld (rpState p) 4).setFld (rpCause p) 8).wr (Reg.rpGate p) 0).rpRaise p 192 else u
    else t

/-- R209: a test pulse at every timebase multiple of 100 ms. -/
def execTestPulseSend (p : Fin 2) (s : State) : Result :=
  s.ppDo fun t =>
    let u := t.toTick (1 + p) 100000000
    if u.pilotOn p then { u with outbox := u.outbox ++ [.pulse p] } else u

/-- R210: a high level of 100–400 ns is a received test pulse. -/
def execTestPulseReceived (p : Fin 2) (ns : Nat) (s : State) : Result :=
  s.ppDo fun t =>
    if 100 ≤ ns ∧ ns ≤ 400 ∧ t.pilotOn p = true then (t.setFld (rpPilotOk p) 1).rpSupervise p else t

/-- R210: 350 ms since the start of supervision or the last received pulse: a miss, once for each episode. -/
def execPilotMiss (p : Fin 2) (s : State) : Result :=
  s.ppDo fun t =>
    if (t.pilotOn p && !t.on (Reg.rpMissed p) && t.since (t.rd (Reg.rpSupNs p)) 350000000) = true then
      ((((t.setFld (rpPilotOk p) 0).wr (Reg.rpMissed p) 1).inc32 (Reg.TEST_MISSES p))).rpRaise p 194
    else t

/-- R211: PLTI high for 50 µs on a CLOSED port with a healthy ring side. -/
def execPilotStuck (p : Fin 2) (vrMv : Int) (s : State) : Result :=
  s.coreDo fun t =>
    if t.rpSt p = 2 ∧ t.rd (Reg.VRING_UV_MV p) ≤ vrMv ∧ t.bit (rpPilotStuck p) = false then
      (t.setFld (rpPilotStuck p) 1).rpRaise p 194
    else t

/-- R211: PLTI low for 1 ms. -/
def execPilotStuckClear (p : Fin 2) (s : State) : Result :=
  s.coreDo fun t => (t.setFld (rpPilotStuck p) 0).setFld (rpPilotIn p) 0

/-- R214, R218, R223: a write of 0x01 to RP_CMD. -/
def execRpCmdClose (level : Fin 4) (p : Fin 2) (s : State) : Result :=
  s.hostWrite level (0x2200 + p) 2 1

/-- R212, R223: a write of 0x02 to RP_CMD. -/
def execRpCmdOpen (level : Fin 4) (p : Fin 2) (s : State) : Result :=
  s.hostWrite level (0x2200 + p) 2 2

/-- R216: |VL − VR| at or below 1000 mV for 100 µs ends a pre-charge in CLOSED (log entry 117: DESIGN CHOICE). -/
def execPrechargeQualified (p : Fin 2) (vlMv vrMv : Int) (s : State) : Result :=
  s.ppDo fun t =>
    if vlMv = t.rd (Reg.VL_MV p) ∧ vrMv = t.rd (Reg.VR_MV p) then
      if t.rpQualified p then t.rpClosed p else t
    else t

/-- R217: PRECHG_MAX_MS of pre-charge end in TRIPPED; with the qualification complete on the same edge the port closes (R251). -/
def execPrechargeTimeout (p : Fin 2) (s : State) : Result :=
  s.ppDo fun t =>
    if t.rpQualified p then t.rpClosed p
    else if t.rpSt p = 1 ∧ t.since (t.rd (Reg.rpPreNs p)) (t.rd (Reg.PRECHG_MAX_MS p) * 1000000) = true then
      ((t.rpOpens p 3 6).inc16 (Reg.PRECHG_FAILS p)).rpRaise p 190
    else t

/-- R224: FEED sets on the node's level or its slope, by the samples of NODE_SNS; the slope starts HOLD when SLOPE_EN is 1 (R230) (log entry 117: DESIGN CHOICE). -/
def execFeedSet (nodeMv fallMv : Int) (s : State) : Result :=
  s.ppDo fun t =>
    if nodeMv = t.node ∧ fallMv = t.nodeFall then
      let u := if t.feedCause then t.ifwCause 0 true else t
      if t.slopeHit && u.bit Bit.PROP_CTRL_SLOPE_EN then u.holdEnter 2 else u
    else t

/-- R224: a condition that has not held for IFW_CLEAR_MS clears; the feed may return to a loss shut-down (R399). -/
def execIfwConditionClear (c : Fin 3) (s : State) : Result :=
  s.ppDo fun t =>
    if (t.bit (flag Reg.IFW_STATUS c) && t.on (Reg.ifwLastNs c) && t.since (t.rd (Reg.ifwLastNs c) - 1) (t.rd Reg.IFW_CLEAR_MS * 1000000)) = true then
      if c = 0 then (t.ifwSet 0 false).feedByWarning else t.ifwSet c false
    else t

/-- R226: a change of ANY is broadcast, with IFW_STATUS as the change left it (log entry 84: DEDUCED). -/
def execIfwBroadcast (s : State) : Result :=
  s.procDo fun t =>
    match t.ifwDue with
    | [] => t
    | d :: rest =>
      let u := { t with ifwDue := rest }
      if t.on Reg.BCAST_EN then u.ifwSend d.1 d.2 else u

/-- R227: while ANY is 1 the broadcast repeats, 100 ms after the one before. -/
def execIfwBroadcastRepeat (s : State) : Result :=
  s.procDo fun t =>
    if (t.bit (flag Reg.IFW_STATUS 4) && t.on Reg.BCAST_EN && t.since (t.rd Reg.ifwSentNs) 100000000) = true then
      t.ifwSend (t.rdN Reg.IFW_STATUS) (t.rd Reg.ifwSetNs)
    else t

/-- R530: a broadcast of another device, received whole and authenticated. -/
def execIfwBroadcastReceive (src : Fin 64) (status : Fin 256) (timeNs : BitVec 64) (s : State) : Result :=
  s.procDo fun t =>
    if t.dengonUp then t.heardFrom src true fun u => if u.ownAddr = 0 then u else u.ifwReceive src status timeNs.toNat else t

/-- R227: 350 ms without a broadcast from a sender whose warning is set. -/
def execPeerForget (src : Fin 64) (s : State) : Result :=
  s.ppDo fun t =>
    if t.on (Reg.ifwPeerNs src) && t.since (t.rd (Reg.ifwPeerNs src) - 1) 350000000 then (t.wr (Reg.ifwPeerNs src) 0).peerEval else t

/-- R230: the node's level or slope starts HOLD, by the samples of NODE_SNS (log entry 117: DESIGN CHOICE). -/
def execHoldEntry (nodeMv fallMv : Int) (s : State) : Result :=
  s.ppDo fun t =>
    if nodeMv = t.node ∧ fallMv = t.nodeFall then
      if t.nodeOk && decide (t.node < t.rd Reg.HOLD_ENTRY_MV) then t.holdEnter 1
      else if t.slopeHit && t.bit Bit.PROP_CTRL_SLOPE_EN then t.holdEnter 2
      else t
    else t

/-- R233: the node above HOLD_EXIT_MV for HOLD_EXIT_US ends HOLD; the feed may return to a loss shut-down (R399). With the storage at its
minimum R234 acts (R251) (log entry 117: DESIGN CHOICE). -/
def execHoldExit (nodeMv : Int) (s : State) : Result :=
  s.ppDo fun t =>
    if nodeMv = t.node then
      if t.propMode ≠ 3 then t
      else if t.rd Reg.STORE_MV < t.rd Reg.STORE_MIN_MV then t.storeExhausted.holdUnable
      else if t.on Reg.ppAboveNs && t.since (t.rd Reg.ppAboveNs - 1) (t.rd Reg.HOLD_EXIT_US * 1000) then t.holdLeave.feedByHold
      else t
    else t

/-- R234: the storage is exhausted in HOLD (log entry 117: DESIGN CHOICE). -/
def execStorageExhausted (storeMv : Int) (s : State) : Result :=
  s.ppDo fun t =>
    if storeMv = t.rd Reg.STORE_MV then
      if t.propMode = 3 ∧ t.rd Reg.STORE_MV < t.rd Reg.STORE_MIN_MV then t.storeExhausted.holdUnable else t
    else t

/-- R235: the conditions of CHARGE hold (log entry 117: DESIGN CHOICE). -/
def execChargeEntry (nodeMv : Int) (s : State) : Result :=
  s.ppDo fun t =>
    if nodeMv = t.node then
      let u := t.inhibitEval
      if u.propMode = 1 ∧ u.propCaged = false ∧ u.bit Bit.PROP_CTRL_CHG_EN = true ∧ u.nodeOk = true ∧ u.rd Reg.CHG_NODE_MIN_MV < u.node ∧
          (u.rd Reg.STORE_MV < u.rd Reg.CHG_VMAX_MV - 500 ∨ u.bit prDone = false) ∧ u.bit prInhibit = false then
        ((u.setFld prMode 2).setFld prCv 0).propDrive
      else u
    else t

/-- R236: the storage reaches CHG_VMAX_MV (log entry 117: DESIGN CHOICE). -/
def execCvEntry (storeMv : Int) (s : State) : Result :=
  s.ppDo fun t =>
    if storeMv = t.rd Reg.STORE_MV then
      if t.propMode = 2 ∧ t.rd Reg.CHG_VMAX_MV ≤ t.rd Reg.STORE_MV then (t.setFld prCv 1).propDrive else t
    else t

/-- R236: the current in CV has stayed below CHG_TAPER_MA for 10 ms (log entry 117: DESIGN CHOICE). -/
def execChargeDone (storeMa : Int) (s : State) : Result :=
  s.ppDo fun t =>
    if storeMa = t.rd Reg.STORE_MA then
      if (decide (t.propMode = 2) && t.bit prCv && t.on Reg.ppTaperNs && t.since (t.rd Reg.ppTaperNs - 1) 10000000) = true then
        (t.setFld prDone 1).chargeLeave
      else t
    else t

/-- R239: storage overvoltage (log entry 117: DESIGN CHOICE). -/
def execStoreOvp (storeMv : Int) (s : State) : Result :=
  s.ppDo fun t =>
    if storeMv = t.rd Reg.STORE_MV then
      if t.rd Reg.STORE_OVP_MV < t.rd Reg.STORE_MV ∧ t.bit prOvp = false then
        let u := ((t.setFld prOvp 1).wr Reg.ppOvpLatch 1).raise 198
        (u.when (decide (u.propMode = 2)) State.chargeLeave).inhibitEval
      else t
    else t

/-- R240: the node falls below CHG_NODE_MIN_MV in CHARGE (log entry 117: DESIGN CHOICE). -/
def execChargeNodeLow (nodeMv : Int) (s : State) : Result :=
  s.ppDo fun t =>
    if nodeMv = t.node then
      if t.propMode = 2 ∧ t.nodeOk = true ∧ t.node < t.rd Reg.CHG_NODE_MIN_MV then t.propInterrupt.chargeLeave.inhibitEval else t
    else t

/-- R241: PCSk outside 50–1550 mV for 1 µs while the prop converter switches; with both phases caged it is unable to hold. -/
def execPropPhaseCage (k : Fin 2) (mv : Int) (s : State) : Result :=
  s.ppDo fun t =>
    if (mv < 50 ∨ 1550 < mv) ∧ t.propRuns = true ∧ t.bit (prCaged k) = false then
      let u := t.propCage k
      u.when u.propCaged State.holdUnable
    else t

/-- A voltage register takes the quantity of its input; it keeps its value while the input has no valid result (log entry 112: DESIGN
CHOICE). -/
def State.takeMv (s : State) (k i : Nat) : State := if s.resultValid i then s.wr k (satU 16 (s.quantityMv i)) else s

/-- I_MA, VL_MV and VR_MV of a ring port (R221; 08_sensing_and_thermal.md R333, R334). -/
def State.rpSample (s : State) (p : Nat) : State :=
  let t := if s.resultValid (72 + p) then s.wr (Reg.Ring_I_MA p) (satI32 (s.shuntMa (72 + p) (s.rd (Reg.Ring_SHUNT_UOHM p)))) else s
  ((t.takeMv (Reg.VL_MV p) (74 + 2 * p)).takeMv (Reg.VR_MV p) (75 + 2 * p)).rpNear p

/-- The voltages of the node and the storage, the storage current, and of East and then of West the current, line voltage and ring voltage (R242). -/
def State.readings (s : State) : List Int :=
  [s.rd Reg.NODE_MV, s.rd Reg.STORE_MV, s.rd Reg.STORE_MA, s.rd (Reg.Ring_I_MA 0), s.rd (Reg.VL_MV 0), s.rd (Reg.VR_MV 0), s.rd (Reg.Ring_I_MA 1), s.rd (Reg.VL_MV 1),
    s.rd (Reg.VR_MV 1)]

/-- R242, R221, R252: the 10 µs sample of the node, the storage and the ring ports by the results of their inputs, and the tally's P_IN. The loop of a HOLD entered before is closed by now (R231) (log entry 117: DESIGN CHOICE). -/
def execStorageSample (nodeMv storeMv storeMa eMa eVl eVr wMa wVl wVr : Int) (s : State) : Result :=
  s.ppDo fun t =>
    let u := ((t.toTick 0 10000).takeMv Reg.NODE_MV 0).takeMv Reg.STORE_MV (t.rdN Reg.STORE_INPUT)
    let v := (u.takeStoreMa.rpSample 0).rpSample 1
    if v.readings = [nodeMv, storeMv, storeMa, eMa, eVl, eVr, wMa, wVl, wVr] then
      let w := (v.when (decide (v.propMode = 3)) fun x => x.wr Reg.ppLoop 1).holdRaise
      (((w.storeCount (w.rd Reg.STORE_MV) (w.rd Reg.STORE_MA)).storeEval).samplePower).pitStorage
    else t

end Sys2Proof.Machine
end

