-- ==== Sys2Proof/Machine/Satellites.lean ====
section
/-!
DEFINITION. The meanings of the satellite link's commands (04_satellite_link.md).
-/
namespace Sys2Proof.Machine

/-- R180: the SOF of a port leaves at its round instant. -/
def execRoundStart (p : Fin 4) (s : State) : Result := s.ppDo fun t => (t.toRound p).roundStart p

/-- R180: the reports of a round are judged, once, on the frame that returned. -/
def execRoundJudge (p : Fin 4) (frame : List (Option (BitVec 8))) (rttNs errs : Nat) (s : State) : Result :=
  s.ppDo fun t => if t.fld (slState p) = 0 ∨ t.on (Reg.slJudge p) = false then t else (t.wr (Reg.slJudge p) (t.rd (Reg.slJudge p) - 1)).roundJudge p frame rttNs errs

/-- R189: LOST_ROUNDS bad rounds, or a report with ORPHAN or UNCONFIG at 1. -/
def execPositionLost (q : Fin 32) (s : State) : Result :=
  s.ppDo fun t =>
    if t.posSt q = 2 ∧ ((t.fld (Bit.PORT_CTRL_LOST_ROUNDS (q / 8)) : Int) ≤ t.rd (Reg.stBadRun q) ∨ t.on (Reg.stBadRep q) = true) then
      t.posLost q
    else t

/-- R190: LOST_ROUNDS rounds without a frame. -/
def execPortDown (p : Fin 4) (s : State) : Result :=
  s.ppDo fun t =>
    if (t.fld (slState p) = 1 ∨ t.fld (slState p) = 2) ∧ (t.fld (Bit.PORT_CTRL_LOST_ROUNDS p) : Int) ≤ t.rd (Reg.slEmpty p) then t.portDown p else t

/-- R191: four good report blocks return a LOST position to CONFIG. -/
def execPositionReturn (q : Fin 32) (s : State) : Result :=
  s.ppDo fun t =>
    if t.posSt q = 3 ∧ t.fld (slState (q / 8)) ≠ 3 ∧ 4 ≤ t.rd (Reg.stGoodRun q) ∧ t.on (Reg.stRecSet q) = true then t.posConfig q else t

/-- R183: a commit of PORT_CTRL with ENABLE 1 and a LOST_ROUNDS. -/
def execPortEnable (level : Fin 4) (p : Fin 4) (lostRounds : Fin 16) (s : State) : Result :=
  s.hostWrite level (0x3220 + p) 1 (lostRounds * 2 + 1 : Nat)

/-- R183, R196: a write of 0x01 to RESCAN. -/
def execRescan (level : Fin 4) (p : Fin 4) (s : State) : Result := s.hostWrite level (0x3220 + p) 3 1

end Sys2Proof.Machine
end

