-- ==== Sys2Proof/Machine/Sensing.lean ====
section
/-!
DEFINITION. The meanings of the conversions', scan's, monitors' and thermal manager's commands (08_sensing_and_thermal.md).
-/
namespace Sys2Proof.Machine

/-- R335–R341: converter `c` (0–3 FADC, 4–5 PADC) completes a conversion of input `i`, of the reserved schedule or of an entry of the slot table (log entry 91: DESIGN CHOICE). -/
def execConversionResult (x : Conversion) (input : Fin 96) (code : Int) (s : State) : Result :=
  s.ppDo fun t => t.convert x.converter input code (x.entry.map Fin.val)

/-- R340, R342: a scan round begins at a multiple of its period, with the table in force. -/
def execScanRoundStart (s : State) : Result :=
  s.ppDo fun t => if t.rdN Reg.SCAN_CTRL % 2 = 1 ∧ t.on Reg.scanRound = false then t.roundBegins else t

/-- R340: the round ends when its last result is published; it is the loop engine's SCAN trigger (R293). -/
def execScanRoundEnd (s : State) : Result :=
  s.ppDo fun t => if t.roundDone then ((t.wr Reg.scanRound 0).inc32 Reg.ROUNDS).laneScan else t

/-- R347, R348: the level at the input of a monitor is `uv` µV. -/
def execMonitorCrossing (m : Fin 48) (uv : Int) (s : State) : Result := s.ppDo fun t => t.mnCross m uv

/-- R351, R352: OUT has held for the filter time. -/
def execMonitorFilter (m : Fin 48) (s : State) : Result := s.ppDo fun t => if t.mnHeld m then t.mnFilter m else t

/-- R353: a write of 1 to CLEAR of CMPO_CTRL, with the pin's other fields as they stand. -/
def execCmpoClear (level : Fin 4) (k : Fin 8) (s : State) : Result :=
  s.hostWrite level 0x3540 (9 + k) (withBits (s.rd (Reg.CMPO_CTRL k)) 3 1 1)

/-- R354: a write of 0x01 to CHECK. -/
def execCheckSwap (level : Fin 4) (m : Fin 48) (s : State) : Result := s.hostWrite level (0x3500 + m) 7 1

/-- R354: a write of 0x02 to CHECK. -/
def execCheckKnownLevel (level : Fin 4) (m : Fin 48) (s : State) : Result := s.hostWrite level (0x3500 + m) 7 2

/-- R354, R355: an automatic check of either type; automatic checks never overlap. -/
def execAutoCheck (m : Fin 48) (known : Bool) (s : State) : Result :=
  s.ppDo fun t => t.mnAutoCheck m known

/-- R354–R356: a check ends passed (0), failed (1) or inconclusive (2) (log entry 90: DESIGN CHOICE) (log entry 117: DESIGN CHOICE). -/
def execCheckEnd (m : Fin 48) (result : Fin 3) (s : State) : Result := s.ppDo fun t => t.mnCheckEnd m result

/-- A die shut-down that comes during a power-plane reset: the reset is one under R368 from then on, and an erase is stopped; on its first edge
source `f` is among those that request it, and its raise is counted (R376; 10_faults_watchdog_resets.md R438, R447). -/
def State.dieJoins (s : State) (f : Nat) : State :=
  let u := (s.wr Reg.ppDie 1).when (s.on Reg.nvmBusy) fun v => v.nvmReset true
  u.when (u.markedNow markPp 0) fun v => (v.stage (0x1000 + 4 * f) 32 1).wr Reg.PP_SOURCE (min (v.rd Reg.PP_SOURCE) (f : Int))

/-- A sample of T0 that was due as a power-plane reset of this instant began takes it to SHUTDOWN (R376; 10_faults_watchdog_resets.md R447). -/
def State.t0Joins (s : State) (v : Int) (good : Bool) : Bool :=
  s.on Reg.ppReset && s.markedNow markPp 0 && good && (match s.nowMark markT0 0 with
    | some shut => decide (shut ≤ satI16 v)
    | none => false)

/-- R359–R370: a sample of a sensor. One of T0 that comes with a power-plane reset of another cause may join it (R376). -/
def execThermalSample (x : Fin 13) (v : Int) (good : Bool) (s : State) : Result :=
  if x = 0 ∧ s.t0Joins v good = true then (s.dieJoins 474).done else s.ppDo fun t => t.thermSample x v good

/-- R368, R369: the analog die comparator trips; the power plane stays in reset while the die is above 165 °C. -/
def execDieComparator (s : State) : Result :=
  if !s.on Reg.corePowered then .next s
  else if s.on Reg.ppReset then .next ((s.wr Reg.dieHold 1).dieJoins 500)
  else (((s.raise 500).wr Reg.dieHold 1).wantPpReset 500 true).done

/-- R368: the die has cooled to 165 °C; the hold on the power plane ends. -/
def execDieComparatorRelease (s : State) : Result := .next (s.wr Reg.dieHold 0)

end Sys2Proof.Machine
end

