-- ==== Sys2Proof/Machine/Sequence.lean ====
section
/-!
DEFINITION. The meanings of the power states' and the sequencer's commands (09_sequencing_and_states.md).
-/
namespace Sys2Proof.Machine

/-- A write of STATE_CMD. -/
def State.hostState (s : State) (level : Fin 4) (v : Int) : Result := s.hostWrite level 0x1010 1 v

/-- R379, R380. -/
def execStateCmdOff (level : Fin 4) (s : State) : Result := s.hostState level 0

/-- R379, R380. -/
def execStateCmdStandby (level : Fin 4) (s : State) : Result := s.hostState level 1

/-- R379, R380. -/
def execStateCmdConfigured (level : Fin 4) (s : State) : Result := s.hostState level 3

/-- R379, R380. -/
def execStateCmdRun (level : Fin 4) (s : State) : Result := s.hostState level 4

/-- R379, R380. -/
def execStateCmdEconomy (level : Fin 4) (s : State) : Result := s.hostState level 5

/-- R379, R380. -/
def execStateCmdPark (level : Fin 4) (s : State) : Result := s.hostState level 6

/-- R385: a write of HOST_OFF. -/
def execNodeHostOff (level : Fin 4) (k : Fin 64) (off : Bool) (s : State) : Result :=
  s.hostWrite level (0x3400 + k) 1 (withBits (s.rd (Reg.NODE_CTRL k)) 11 1 (if off then 1 else 0))

/-- R395: a write of 1 to CLEAR. -/
def execNodeClear (level : Fin 4) (k : Fin 64) (s : State) : Result :=
  s.hostWrite level (0x3400 + k) 1 (withBits (s.rd (Reg.NODE_CTRL k)) 10 1 1)

/-- R389: the PG pin that the node names, where it names one, with its level and how long it has held it: good at its active level
(PG_ACTIVE_LOW) for PG_FILT_US. -/
def State.pgPin (s : State) (k : Nat) (high : Bool) (heldNs : Nat) : State :=
  let p := s.rdN (Reg.PG_SRC k)
  let active := high != decide (s.rdN Reg.PG_ACTIVE_LOW / 2 ^ (p - 64) % 2 = 1)
  if 64 ≤ p ∧ p < 80 then
    (s.wrB (Reg.pgGood (p - 64)) (active && decide (s.rd Reg.PG_FILT_US * 1000 ≤ heldNs))).wr Reg.seqDue 1
  else s

/-- R387: ON_DELAY_US has passed in DELAY_ON. -/
def execNodeOnDelayExpiry (k : Fin 64) (s : State) : Result :=
  s.ppDo fun t => if t.nodeSt k = 2 ∧ t.nodeSince k (t.rd (Reg.ON_DELAY_US k) * 1000) = true then t.nodeAssert k else t

/-- R387, R389, R391: the level of the node's PG pin, and power-good in RAMP_UP. -/
def execNodePowerGood (k : Fin 64) (pin : PinLevel) (s : State) : Result :=
  s.ppDo fun t => if (t.pgPin k pin.high pin.heldNs).nodeSt k = 3 then (t.pgPin k pin.high pin.heldNs).nodeRise k else t.pgPin k pin.high pin.heldNs

/-- R390: power-good good and the fault timer idle for PG_DELAY. -/
def execNodeQualified (k : Fin 64) (s : State) : Result :=
  s.ppDo fun t => if t.nodeSt k = 4 ∧ t.nodeQualified k = true then t.nodeEnter k 5 else t

/-- R387: PG_TIMEOUT_MS has passed in RAMP_UP. -/
def execPgTimeout (k : Fin 64) (s : State) : Result := s.ppDo fun t => if t.nodeSt k = 3 ∧ t.pgOver k = true then t.nodeFault k 1 else t

/-- R388: OFF_DELAY_US has passed in DELAY_OFF. -/
def execNodeOffDelayExpiry (k : Fin 64) (s : State) : Result :=
  s.ppDo fun t => if t.nodeSt k = 6 ∧ t.nodeSince k (t.rd (Reg.OFF_DELAY_US k) * 1000) = true then t.nodeRampDown k else t

/-- R388: an internal node's rail is OFF; an external node's DISCHARGE_US has passed and its power-good is not good. -/
def execNodeRampDownDone (k : Fin 64) (pin : PinLevel) (s : State) : Result :=
  s.ppDo fun t => if (t.pgPin k pin.high pin.heldNs).nodeSt k = 7 ∧ (t.pgPin k pin.high pin.heldNs).nodeDone k = true then (t.pgPin k pin.high pin.heldNs).nodeEnter k 0 else t.pgPin k pin.high pin.heldNs

/-- R388: OFF_TIMEOUT_MS has passed in RAMP_DOWN. -/
def execOffTimeout (k : Fin 64) (s : State) : Result :=
  s.ppDo fun t => if t.nodeSt k = 7 ∧ t.nodeSince k (t.rd (Reg.OFF_TIMEOUT_MS k) * 1000000) = true then t.nodeFault k 3 else t

/-- R390: the fault timer of a node follows its fault condition. -/
def execNodeFaultCondition (k : Fin 64) (pin : PinLevel) (s : State) : Result :=
  s.ppDo fun t => if (t.pgPin k pin.high pin.heldNs).nodeSt k = 4 ∨ (t.pgPin k pin.high pin.heldNs).nodeSt k = 5 then (t.pgPin k pin.high pin.heldNs).ftFollow k else t.pgPin k pin.high pin.heldNs

/-- R390, R393: the fault timer reaches FAULT_US. -/
def execNodeFaultTimerExpiry (k : Fin 64) (s : State) : Result :=
  s.ppDo fun t => if (t.nodeSt k = 4 ∨ t.nodeSt k = 5) ∧ t.ftOver k = true then t.nodeFault k 2 else t

/-- R398: a loss trigger, 0 the length of HOLD, 1 the storage level, 2 no storage to hold with. -/
def execLossShutdown (trigger : Fin 3) (s : State) : Result := s.ppDo fun t => if t.lossDue trigger then t.lossStart trigger else t

/-- R400: a write of 0x01 to RESUME. -/
def execResume (level : Fin 4) (s : State) : Result := s.hostWrite level 0x3441 8 1

/-- R403: a write of MARGINr. -/
def execMarginWrite (level : Fin 4) (r : Fin 4) (m : BitVec 16) (s : State) : Result := s.hostWrite level 0x3440 (r + 1) m.toInt

end Sys2Proof.Machine
end

