-- ==== Sys2Proof/Machine/Start.lean ====
section
/-!
DEFINITION. The start to CONFIGURED, and the meanings of the commands of the start, the lamp check, the wake and the supplies
(15_start_bist_standby.md; 16_balls_and_supplies.md R674–R677).
-/
namespace Sys2Proof.Machine

/-- A failure found by a test (15_start_bist_standby.md R642): the unit, the element of it that fails (a phase, a row, a port …), the
word address and the bit. -/
structure Failure where
  unit : Nat
  element : Nat
  addr : Nat
  bit : Nat
  deriving DecidableEq, Repr

/-! ### The lamp record at a start (R641) -/

/-- The record is clean. -/
def State.recordClean (s : State) : Bool :=
  s.on Reg.lrKept && decide (s.rdN Reg.lrFlags % 4 ≠ 0) && decide (s.lampAge ≤ s.rd Reg.LAMP_AGE_MAX_H * 3600) &&
    (List.range 27).all (fun u => decide (s.rd (Reg.lrResult u) ≠ 1)) && !s.on Reg.FULL_NEXT

/-- The record is judged: LAMP_STATUS and UNTESTED_MASK; FULL_NEXT clears. -/
def State.judgeRecord (s : State) (quick : Bool) : State :=
  let t := ((s.setBit lmValid (s.on Reg.lrKept)).setBit lmClean s.recordClean).setBit lmQuick quick
  let untested := fun (u : Nat) => s.on Reg.lrKept && decide (5 ≤ u) && decide (s.rd (Reg.lrResult u) = 2)
  (t.wr Reg.FULL_NEXT 0).wr Reg.UNTESTED_MASK (unitMask untested : Nat)

/-- The units that this start tests. -/
def State.unitTested (s : State) (quick : Bool) (u : Nat) : Bool :=
  decide (u < 5) || (!quick || decide (s.rd (Reg.lrResult u) = 2))

/-! ### Failures (R634, R642–R644) -/

/-- A failing Shaft row takes a spare row, or its four blocks leave use (R643) (log entry 52: DESIGN CHOICE) (log entry 115: DEDUCED). -/
def State.rowFails (s : State) (row : Nat) (l : List Failure) : State :=
  let log := fun (flags : Nat) (t : State) => (l.filter fun f => f.element = row).foldl (fun u f => u.logFailure 7 flags (f.addr, f.bit)) t
  if s.rd Reg.SPARES_USED < 16 then (log 1 (s.inc8 Reg.SPARES_USED)).raise 506 else log 0 (s.add 16 Reg.BAD_BLOCKS 4)

/-- The numbers below `n` that are elements of failures, ascending. -/
def elements (l : List Failure) (n : Nat) : List Nat := (List.range n).filter fun e => l.any fun f => f.element = e

/-- The rows of failures, ascending and without repeats. -/
def rowsOf : List Failure → List Nat
  | [] => []
  | f :: t => insertRow f.element (rowsOf t)
where
  /-- A row in its place. -/
  insertRow (r : Nat) : List Nat → List Nat
    | [] => [r]
    | x :: t => if r < x then r :: x :: t else if r = x then x :: t else x :: insertRow r t

/-- The failures of a unit are logged as they are (R642). -/
def State.logUnit (s : State) (u flags : Nat) (l : List Failure) : State := l.foldl (fun t f => t.logFailure u flags (f.addr, f.bit)) s

/-- The effect of a failing unit (R634). -/
def State.unitFails (s : State) (u : Nat) (l : List Failure) : State :=
  if u = 7 then (rowsOf l).foldl (fun t row => t.rowFails row l) s
  else
    let t := s.logUnit u 2 l
    let mask := (elements l 32).foldl (fun m e => m + 2 ^ e) 0
    match u with
    | 8 => forAll (elements l 16) (fun p v => v.cagePhase p 5) t
    | 9 => (t.propCage 0).propCage 1
    | 10 => t.wr (Reg.rpUntested 0) 1
    | 11 => t.wr (Reg.rpUntested 1) 1
    | 12 => forAll (elements l 16) (fun n v => v.cageCtx n 0xB) t
    | 14 => t.wr Reg.tyFail 1
    | 15 => forAll (elements l 4) (fun c v => v.cageConverter c) t
    | 16 => forAll (elements l 2) (fun c v => v.cageConverter (4 + c)) t
    | 17 => forAll (elements l 48) (fun m v => v.wr (Reg.mnFail m) 1) t
    | 18 => t.wr Reg.tmFail 1
    | 26 => t.setFld (flag Reg.PL_STATUS 4) 1
    | _ => t.wr (Reg.utFail u) (mask : Nat)

/-- What a start does once units 0–4 have passed (R638, R641): the NVM manager recovers, and the lamp record is judged. -/
def State.startReads (s : State) (quick : Bool) : State := (s.nvmRecover.plShow).judgeRecord quick

/-- The start halts (R636) on the failures `l` of units 0–6, each of which has failed its last test (log entry 53: DEDUCED); one whose units 0–4
pass has come past the lamp record, so that FULL_NEXT has cleared (R641). -/
def State.startHalts (s : State) (quick : Bool) (l : List Failure) : State :=
  let reached := s.when (l.all fun f => decide (5 ≤ f.unit)) fun u => u.startReads quick
  let t := l.foldl (fun u f => (u.logFailure f.unit 0 (f.addr, f.bit)).setFld ⟨Reg.FAILED_MASK, f.unit, 1⟩ 1) reached
  (((t.inc16 Reg.HALTS).wr Reg.startHalted 1).wr Reg.haltNs s.now).wr Reg.haltRun (min 3 (s.rd Reg.haltRun + 1))

/-! ### CONFIGURED (R638, R644) -/

/-- R439: RESTORE_STATE is applied as a STATE_CMD, or RESTORE_HALTED sets. -/
def State.restore (s : State) : State :=
  if s.on Reg.PP_RESTORE = false ∨ s.rd Reg.RESTORE_STATE < 4 then s
  else
    let recent := (List.range 3).filter fun i => s.on (Reg.ppNs (i + 1)) && decide (s.rd (Reg.ppNs 0) - s.rd (Reg.ppNs (i + 1)) ≤ 60000000000)
    if recent.length < 3 then s.stateCmd (s.rdN Reg.RESTORE_STATE) else s.setFld (flag Reg.RST_STATUS 0) 1

/-- Steps 4–9 of the start with the failures that its tests found in units 7–26 (R638). -/
def State.configure (s : State) (quick : Bool) (l : List Failure) : State :=
  let failing := (List.range 27).filter fun u => l.any fun f => f.unit = u
  let mask := unitMask fun u => failing.contains u
  let before := s.startReads quick
  let failed := unitMask fun u => if s.unitTested quick u then failing.contains u else decide (before.rdN Reg.FAILED_MASK / 2 ^ u % 2 = 1)
  let t := ((before.wr Reg.FAILED_MASK (failed : Nat)).wr Reg.CAGED_MASK (mask : Nat))
  let caged := forAll failing (fun u v => v.unitFails u (l.filter fun f => f.unit = u)) t
  let loaded := forAll (elements (l.filter fun f => f.unit = 12) 16) (fun n v => v.cageCtx n 0xB) caged.loadConfig
  let pins := (loaded.wr Reg.enLive 1).enPins
  let entered := ((pins.enterState 3).wr Reg.START_US (satU 32 ((s.now - s.rd Reg.startNs) / 1000))).wr Reg.haltRun 0
  let told := forAll failing (fun _ v => v.raise 503) entered
  let cause := if s.rd Reg.coldCause = 0x0A then told.raise 232 else told
  let restored := if s.on Reg.startFromPp then cause.restore else cause
  let closed := if s.on Reg.coldFirst then restored.rpStartClose else restored
  ((closed.wr Reg.coldFirst 0).wr Reg.coldCause 0).wr Reg.startFromPp 0

/-- R638: the start ends in CONFIGURED, or halts on a failure of units 0–6 (R636) (log entry 52: DESIGN CHOICE). -/
def execConfiguredEntry (fails : List (Fin 27 × Fin 4096 × BitVec 32 × BitVec 16)) (s : State) : Result :=
  s.ppDo fun t =>
    if t.rd Reg.STATE ≠ 2 ∨ t.on Reg.startHeld = true ∨ t.on Reg.startHalted = true ∨ t.on Reg.procReset = true then t
    else
      let quick := t.recordClean && !t.on Reg.startFromPp
      let l := (fails.map fun f => (⟨f.1, f.2.1, f.2.2.1.toNat, f.2.2.2.toNat⟩ : Failure)).filter fun f => t.unitTested quick f.unit
      let halting := l.filter fun f => f.unit < 7
      if halting.isEmpty then t.configure quick l else t.startHalts quick halting

/-- R636: 1 s after a halted start, at most twice in a row (log entry 53: DEDUCED). -/
def execStartHaltRetry (s : State) : Result :=
  s.ppDo fun t =>
    if t.on Reg.startHalted = true ∧ t.rd Reg.haltRun < 3 ∧ t.since (t.rd Reg.haltNs) 1000000000 = true then
      (t.wr Reg.startHalted 0).wr Reg.startNs t.now
    else t

/-- R639: 20 ms without a stable XIN, once in a start. -/
def execCrystalTimeout (s : State) : Result :=
  s.ppDo fun t =>
    if t.rd Reg.STATE = 2 ∧ t.bit (flag Reg.CLK_STATUS 1) = false ∧ t.since (t.rd Reg.startNs) 20000000 = true then ((t.setFld (flag Reg.CLK_STATUS 0) 0).setFld (flag Reg.CLK_STATUS 1) 1).raise 224 else t

/-! ### The lamp check -/

/-- R646, R651: the test of the unit under test completes, with its COVERAGE and failures (log entry 93: DESIGN CHOICE); at the limit of 120 ms its
result stands, and the lamp check is over (R647, R662) (log entry 117: DESIGN CHOICE). -/
def execLampUnitDone (coverage : BitVec 16) (durUs : Int) (fails : List (BitVec 32 × BitVec 16)) (s : State) : Result :=
  s.ppDo fun t =>
    let u := t.rdN Reg.lampUnit
    let us := (t.now - t.rd Reg.lampUnitNs) / 1000
    if t.rd Reg.lampPhase ≠ 1 ∨ 26 < u ∨ (u = 26 ∧ t.on Reg.epochEnded = false) ∨ durUs ≠ us then t
    else
      let v := t.setFld ⟨Reg.FAILED_MASK, u, 1⟩ (if fails.isEmpty then 0 else 1)
      (if fails.isEmpty then v.lampEntry u 0 coverage.toNat us
      else ((fails.foldl (fun w f => w.logFailure u 4 (f.1.toNat, f.2.toNat)) v).raise 504).lampEntry u 1 coverage.toNat us).lampBudget

/-- R647: 120 ms from the start of the lamp check. -/
def execLampTimeout (s : State) : Result := s.ppDo State.lampBudget

/-! ### Wake (R653, R654) -/

/-- The wake source is armed: WAKE0–3 by WAKE_EN, TW0 by TW0_WAKE and its ENABLE. -/
def State.wakeArmed (s : State) (src : Nat) : Bool :=
  if src = 5 then s.bit Bit.WAKE_CTRL_TW0_WAKE && s.bit (Bit.TW_CTRL_ENABLE 0) else decide (s.fld Bit.WAKE_CTRL_WAKE_EN / 2 ^ (src - 1) % 2 = 1)

/-- One period of the always-on domain's RC of 32.768 kHz, in ns (17_electrical.md R691). -/
def rcPeriodNs : Nat := 30518

/-- WAKE`k` shows its edge or level for WAKE_FILT_MS, or for one RC period (R653, R660); or TW0 its own address (13_links.md R567) (log entry 56: DEDUCED). -/
def State.wakeSeen (s : State) (src : Nat) (w : WakeEvent) : Bool :=
  if src = 5 then decide (w.address.val = s.rdN (Reg.TW_ADDR 0))
  else
    let b := fun (k : Nat) => decide (s.rdN k / 2 ^ (src - 1) % 2 = 1)
    decide (w.high = b Reg.WAKE_POL) && (w.changed || !b Reg.WAKE_EDGE) && decide (max rcPeriodNs (s.rdN Reg.WAKE_FILT_MS * 1000000) ≤ w.heldNs)

/-- R653, R654, R662: a wake source, 0–3 WAKE0–3 and 4 TW0, with what it comes with; pending while VSUP is absent, or while
the power-down completes (log entry 56: DEDUCED). -/
def execWake (k : Fin 5) (x : WakeEvent) (s : State) : Result :=
  let src := k.val + 1
  if s.rd Reg.STATE ≠ 1 ∨ s.wakeArmed src = false ∨ s.wakeSeen src x = false then .next s
  else if s.on Reg.corePowered then
    if s.rd Reg.lampPhase = 2 then ((s.wr Reg.wakePend ((src + 1 : Nat) : Int)).wr Reg.STBY_S 0).done else .next s
  else if !s.on Reg.alwaysOn then .next s
  else if s.on Reg.wakeWithPower then (s.coldReset 1 true (some (src, x.seconds))).done
  else (((s.wr Reg.wakePend ((src + 1 : Nat) : Int)).wr Reg.STBY_S (satU 32 x.seconds)).setFld (flag Reg.STBY_STATUS 0) 1).done

/-- R654: VSUP enters its range with a wake pending, after `seconds` in STANDBY (log entry 56: DEDUCED). -/
def execWakePendingStart (seconds : Nat) (s : State) : Result :=
  if s.on Reg.corePowered || !s.on Reg.wakePend then .next s
  else ((s.wr Reg.STBY_S (satU 32 seconds)).wr Reg.wakeWithPower 1).done

/-! ### Supplies (16_balls_and_supplies.md R674–R677) -/

/-- R675: VDDA, VDDIO1 or VREG5 low for 2 µs; of two that go together SUP_LAST names the lower code (R686). -/
def execSupplyDip (k : Fin 3) (s : State) : Result :=
  if s.on Reg.corePowered then
    let t := s.setFld (flag Reg.SUP_STATUS (if k.val = 2 then 4 else k.val)) 0
    (if t.coldNow then t.when (decide (k.val < 2)) fun u => u.wr Reg.startHeld 1
      else if t.on Reg.ppReset then t.when (t.markedNow markSupply 0) fun u => u.wr Reg.SUP_LAST (min (u.rd Reg.SUP_LAST) ((k.val + 1 : Nat) : Int))
      else ((((t.noteBefore [Reg.SUP_RESETS, Reg.SUP_LAST]).mark markSupply 0 0).wr Reg.SUP_LAST ((k.val + 1 : Nat) : Int)).inc16 Reg.SUP_RESETS).wr Reg.ppReqd 1).done
  else .next s

/-- R674, R675: the supplies that hold the start have been in range for 1 ms. -/
def execSupplyHoldRelease (s : State) : Result :=
  s.ppDo fun t =>
    if t.on Reg.startHeld then
      let u := ((t.setFld (flag Reg.SUP_STATUS 0) 1).setFld (flag Reg.SUP_STATUS 1) 1).wr Reg.startHeld 0
      if t.on Reg.startFromPp then u.setFld (flag Reg.SUP_STATUS 4) 1 else u
    else t

/-- The ports of a supply: VDDIO2, VDDIO_RG (log entry 57: DEDUCED). -/
def portsOfSupply (k : Nat) : List Nat := if k = 0 then [3, 4, 5, 7, 8] else [2]

/-- R676: VDDIO2 or VDDIO_RG leaves its range, and the card's pins with VDDIO2 (14_images_and_security.md R601) (log entry 57: DEDUCED). -/
def execIoSupplyLoss (k : Fin 2) (s : State) : Result :=
  if s.on Reg.corePowered && !s.on (Reg.ioStopped k) then
    let t := ((s.setFld (flag Reg.SUP_STATUS (2 + k)) 0).wr (Reg.ioStopped k) 1).inc16 Reg.IO_LOSSES
    let u := forAll (portsOfSupply k) (fun c v => v.portReset c) t
    (if k.val = 0 ∧ u.procRuns = true then u.cardGone else u).done
  else .next s

/-- R676: the supply has been in range for 1 ms, and its ports start again; a CAN controller starts error-active. -/
def execIoSupplyReturn (k : Fin 2) (s : State) : Result :=
  if s.on Reg.corePowered && s.on (Reg.ioStopped k) then
    let t := (s.setFld (flag Reg.SUP_STATUS (2 + k)) 1).wr (Reg.ioStopped k) 0
    (if k.val = 0 then forUnits 2 (fun n v => ((v.wr (Reg.CAN_STATUS n) 0).wr (Reg.TEC n) 0).wr (Reg.REC n) 0) t else t).done
  else .next s

/-- R677: VKEEP is low; with neither VSUP nor a running core behind it, the always-on domain loses power. -/
def execVkeepLow (s : State) : Result :=
  let t := s.setFld (flag Reg.SUP_STATUS 5) 0
  (if s.on Reg.corePowered && s.on Reg.wakeWithPower then t else t.wr Reg.alwaysOn 0).done

/-- R677: VKEEP is back. -/
def execVkeepReturn (s : State) : Result := (s.setFld (flag Reg.SUP_STATUS 5) 1).done

end Sys2Proof.Machine
end

