-- ==== Sys2Proof/Machine/Tally.lean ====
section
/-!
DEFINITION. The meanings of the tally's, the loans' and the share groups' commands (06_tally_and_sharing.md).
-/
namespace Sys2Proof.Machine

/-- R255: an evaluation at every timebase multiple of 100 µs. -/
def execTallyEvaluation (s : State) : Result :=
  s.ppDo fun t => (t.toTick 9 100000).tallyTick

/-- R256: the write of ENABLE 0. -/
def execTallyDisable (level : Fin 4) (s : State) : Result :=
  s.hostWrite level 0x3300 1 (s.rd Reg.TALLY_CTRL - s.fld Bit.TALLY_CTRL_ENABLE)

/-- R265, R266; 07_loop_engine.md R315: the on- or off-window of a context in ON begins, as the gate pattern has it at the present
timebase (log entry 117: DESIGN CHOICE). -/
def execLimitWindowEdge (n : Fin 512) (on_ : Bool) (s : State) : Result :=
  s.ppDo fun t =>
    if t.ctxSt n ≠ 5 ∨ t.winOn n = t.on (Reg.cxWindow n) ∨ on_ ≠ t.winOn n then t
    else if t.on (Reg.cxWindow n) then t.winClose n
    else t.winOpen n

/-- R270, R271: 10 ms without an answer. -/
def execBorrowNoAnswer (s : State) : Result := s.ppDo State.loanSilent

/-- R271: the pause of 1 s ends, and the ten evaluations are counted afresh. -/
def execBorrowBackoffEnd (s : State) : Result :=
  s.ppDo fun t => if t.on Reg.tyBackoff && t.since (t.rd Reg.tyBackNs) 1000000000 then (t.wr Reg.tyBackoff 0).waitAfresh else t

/-- The LOAN request of a peer as it is served: under its session. -/
def loanReq (src : Fin 63) (tid : BitVec 16) : Req := ⟨src, 0, 0, tid.toNat, 0x20, true, false, none⟩

/-- R272, R273, R277: a REQUEST under the peer's session. -/
def execLoanRequestReceived (src : Fin 63) (tid id : BitVec 16) (mw : BitVec 32) (s : State) : Result :=
  s.procDo fun t => if t.dengonUp then t.heardFrom src false fun u => u.svcLoan (loanReq src tid) (loanBody 1 id.toNat mw.toNat 0) else t

/-- R273, R274: a RENEW. -/
def execLoanRenewReceived (src : Fin 63) (tid id : BitVec 16) (mw : BitVec 32) (s : State) : Result :=
  s.procDo fun t => if t.dengonUp then t.heardFrom src false fun u => u.svcLoan (loanReq src tid) (loanBody 4 id.toNat mw.toNat 0) else t

/-- R273, R276: a RETURN. -/
def execLoanReturnReceived (src : Fin 63) (tid id : BitVec 16) (mw : BitVec 32) (s : State) : Result :=
  s.procDo fun t => if t.dengonUp then t.heardFrom src false fun u => u.svcLoan (loanReq src tid) (loanBody 7 id.toNat mw.toNat 0) else t

/-- R274: the answer of a peer; DECLINED changes nothing. -/
def execLoanResponseReceived (peer : Fin 63) (op : Fin 256) (id : BitVec 16) (mw : BitVec 32) (s : State) : Result :=
  s.procDo fun t => if t.dengonUp then t.heardFrom peer false fun u => u.loanHeard peer op id.toNat mw.toNat else t

/-- R274: half of a lease has passed. -/
def execLeaseHalf (peer : Fin 63) (id : BitVec 16) (s : State) : Result :=
  s.ppDo fun t => t.loanHalf peer id.toNat

/-- R275: a lease has ended unrenewed. -/
def execLeaseEnd (peer : Fin 63) (id : BitVec 16) (s : State) : Result :=
  s.ppDo fun t => t.leaseEnd peer id.toNat

/-- R276: the headroom has exceeded the loan and HYST_MW for 1 s. -/
def execLoanReturnDue (peer : Fin 63) (id : BitVec 16) (s : State) : Result :=
  s.ppDo fun t => t.loanGiveBack peer id.toNat

/-- R276: a reservation of the lender ends. -/
def execReservationEnd (peer : Fin 63) (id : BitVec 16) (s : State) : Result :=
  s.ppDo fun t => t.reservationEnd peer id.toNat

/-- R283; 13_links.md R577: the entries of a member's SHARE message. -/
def execShareReceive (pos : Fin 8) (addr : Fin 64) (payload : List (BitVec 8)) (s : State) : Result :=
  s.ppDo fun t => if t.wsUp then (t.wsCount payload.length).wsAct 0x22 pos addr payload else t

/-- R283, R285, R288, R289: 10 µs of a share group. -/
def execShareTrimUpdate (g : Fin 4) (s : State) : Result :=
  s.ppDo fun t => (t.toTick (12 + g) 10000).groupPeriod g

/-- R288: three periods without a value of a member. -/
def execMemberLoss (g : Fin 4) (addr : Fin 64) (s : State) : Result :=
  s.ppDo fun t => t.memberLoss g addr

/-- R288: ten good values of a dropped member. -/
def execMemberRejoin (g : Fin 4) (addr : Fin 64) (s : State) : Result :=
  s.ppDo fun t => t.memberRejoin g addr

end Sys2Proof.Machine
end

