-- ==== Sys2Proof/Machine/Dispatch.lean ====
section
/-! DEFINITION. What each command does: one arm per row of the table of operations and events, each a direct call of its meaning. -/
namespace Sys2Proof.Machine

/-- The effect of a command on everything but the queue. -/
def exec (i : Instr) (s : State) : Host.Outcome State Fault Refusal :=
  match i with
  | .watchdogExpiry => Sys2Proof.Machine.execWatchdogExpiry s
  | .wdtSvc key e => Sys2Proof.Machine.execWdtSvc key e s
  | .wdtPeriod v => Sys2Proof.Machine.execWdtPeriod v s
  | .lockstepMismatch => Sys2Proof.Machine.execLockstepMismatch s
  | .foreignWrite => Sys2Proof.Machine.execForeignWrite s
  | .heartbeatMissed again halted => Sys2Proof.Machine.execHeartbeatMissed again halted s
  | .configCheck mismatch => Sys2Proof.Machine.execConfigCheck mismatch s
  | .resetCmd level => Sys2Proof.Machine.execResetCmd level s
  | .procResetEnd zeroOk => Sys2Proof.Machine.execProcResetEnd zeroOk s
  | .planeReady okA okB mismatch => Sys2Proof.Machine.execPlaneReady okA okB mismatch s
  | .holdTimeout => Sys2Proof.Machine.execHoldTimeout s
  | .powerOnReset => Sys2Proof.Machine.execPowerOnReset s
  | .resetN lowNs seconds => Sys2Proof.Machine.execResetN lowNs seconds s
  | .coreSupplyUndervoltage => Sys2Proof.Machine.execCoreSupplyUndervoltage s
  | .ppResetEnd => Sys2Proof.Machine.execPpResetEnd s
  | .rootClockLoss => Sys2Proof.Machine.execRootClockLoss s
  | .clkReturn level => Sys2Proof.Machine.execClkReturn level s
  | .railTrigger r vMv iMa => Sys2Proof.Machine.execRailTrigger r vMv iMa s
  | .onTimeEnd p riseMa => Sys2Proof.Machine.execOnTimeEnd p riseMa s
  | .frequencyLockTrim r => Sys2Proof.Machine.execFrequencyLockTrim r s
  | .onTimeClamp r => Sys2Proof.Machine.execOnTimeClamp r s
  | .vselCodeTaken r code => Sys2Proof.Machine.execVselCodeTaken r code s
  | .phaseShed r => Sys2Proof.Machine.execPhaseShed r s
  | .phaseAdd r => Sys2Proof.Machine.execPhaseAdd r s
  | .shedRotation r => Sys2Proof.Machine.execShedRotation r s
  | .burstEntry r => Sys2Proof.Machine.execBurstEntry r s
  | .burstRefresh r vMv iMa => Sys2Proof.Machine.execBurstRefresh r vMv iMa s
  | .burstExit r => Sys2Proof.Machine.execBurstExit r s
  | .pileIn r vMv above => Sys2Proof.Machine.execPileIn r vMv above s
  | .pileInRearm r vMv => Sys2Proof.Machine.execPileInRearm r vMv s
  | .overshootTruncation r vMv => Sys2Proof.Machine.execOvershootTruncation r vMv s
  | .brakingEnd r vMv => Sys2Proof.Machine.execBrakingEnd r vMv s
  | .offsetDecayEnd r => Sys2Proof.Machine.execOffsetDecayEnd r s
  | .valleyLimit p iMa => Sys2Proof.Machine.execValleyLimit p iMa s
  | .hiccupEntry r => Sys2Proof.Machine.execHiccupEntry r s
  | .softRetry r => Sys2Proof.Machine.execSoftRetry r s
  | .fastShortCircuit p iMa => Sys2Proof.Machine.execFastShortCircuit p iMa s
  | .phaseZeroCrossing x => Sys2Proof.Machine.execPhaseZeroCrossing x s
  | .slowOverload r avgMa => Sys2Proof.Machine.execSlowOverload r avgMa s
  | .degradeHoldExpiry r => Sys2Proof.Machine.execDegradeHoldExpiry r s
  | .limitExit r avgMa => Sys2Proof.Machine.execLimitExit r avgMa s
  | .phaseOpenDetect p => Sys2Proof.Machine.execPhaseOpenDetect p s
  | .phaseSenseRange p mv => Sys2Proof.Machine.execPhaseSenseRange p mv s
  | .phaseCageReq level p => Sys2Proof.Machine.execPhaseCageReq level p s
  | .cmdOn level n => Sys2Proof.Machine.execCmdOn level n s
  | .cmdOff level n => Sys2Proof.Machine.execCmdOff level n s
  | .ctxCageReq level n => Sys2Proof.Machine.execCtxCageReq level n s
  | .bindingCommit level n value => Sys2Proof.Machine.execBindingCommit level n value s
  | .leadExpiry n => Sys2Proof.Machine.execLeadExpiry n s
  | .channelSample n iMa vMv vinMv => Sys2Proof.Machine.execChannelSample n iMa vMv vinMv s
  | .offDecayExpiry n => Sys2Proof.Machine.execOffDecayExpiry n s
  | .inrushTimeout n => Sys2Proof.Machine.execInrushTimeout n s
  | .gateDriveFault x => Sys2Proof.Machine.execGateDriveFault x s
  | .directShort x => Sys2Proof.Machine.execDirectShort x s
  | .currentLimitReached x => Sys2Proof.Machine.execCurrentLimitReached x s
  | .faultTimerExpiry n => Sys2Proof.Machine.execFaultTimerExpiry n s
  | .retryTimerExpiry n => Sys2Proof.Machine.execRetryTimerExpiry n s
  | .retryClear n => Sys2Proof.Machine.execRetryClear n s
  | .tallyEvaluation => Sys2Proof.Machine.execTallyEvaluation s
  | .tallyDisable level => Sys2Proof.Machine.execTallyDisable level s
  | .limitWindowEdge n on_ => Sys2Proof.Machine.execLimitWindowEdge n on_ s
  | .borrowNoAnswer => Sys2Proof.Machine.execBorrowNoAnswer s
  | .borrowBackoffEnd => Sys2Proof.Machine.execBorrowBackoffEnd s
  | .loanRequestReceived src tid id mw => Sys2Proof.Machine.execLoanRequestReceived src tid id mw s
  | .loanRenewReceived src tid id mw => Sys2Proof.Machine.execLoanRenewReceived src tid id mw s
  | .loanReturnReceived src tid id mw => Sys2Proof.Machine.execLoanReturnReceived src tid id mw s
  | .loanResponseReceived peer op id mw => Sys2Proof.Machine.execLoanResponseReceived peer op id mw s
  | .leaseHalf peer id => Sys2Proof.Machine.execLeaseHalf peer id s
  | .leaseEnd peer id => Sys2Proof.Machine.execLeaseEnd peer id s
  | .loanReturnDue peer id => Sys2Proof.Machine.execLoanReturnDue peer id s
  | .reservationEnd peer id => Sys2Proof.Machine.execReservationEnd peer id s
  | .roundStart p => Sys2Proof.Machine.execRoundStart p s
  | .roundJudge p frame rttNs errs => Sys2Proof.Machine.execRoundJudge p frame rttNs errs s
  | .positionLost q => Sys2Proof.Machine.execPositionLost q s
  | .portDown p => Sys2Proof.Machine.execPortDown p s
  | .positionReturn q => Sys2Proof.Machine.execPositionReturn q s
  | .portEnable level p lostRounds => Sys2Proof.Machine.execPortEnable level p lostRounds s
  | .rescan level p => Sys2Proof.Machine.execRescan level p s
  | .pilotOutChange p shuntUv vrMv => Sys2Proof.Machine.execPilotOutChange p shuntUv vrMv s
  | .pilotQualified p high => Sys2Proof.Machine.execPilotQualified p high s
  | .directionalTrip p shuntUv => Sys2Proof.Machine.execDirectionalTrip p shuntUv s
  | .backupOutwardTrip p shuntUv => Sys2Proof.Machine.execBackupOutwardTrip p shuntUv s
  | .inwardTrip p shuntUv => Sys2Proof.Machine.execInwardTrip p shuntUv s
  | .switchFailed p shuntUv => Sys2Proof.Machine.execSwitchFailed p shuntUv s
  | .testPulseSend p => Sys2Proof.Machine.execTestPulseSend p s
  | .testPulseReceived p ns => Sys2Proof.Machine.execTestPulseReceived p ns s
  | .pilotMiss p => Sys2Proof.Machine.execPilotMiss p s
  | .pilotStuck p vrMv => Sys2Proof.Machine.execPilotStuck p vrMv s
  | .pilotStuckClear p => Sys2Proof.Machine.execPilotStuckClear p s
  | .rpCmdClose level p => Sys2Proof.Machine.execRpCmdClose level p s
  | .rpCmdOpen level p => Sys2Proof.Machine.execRpCmdOpen level p s
  | .prechargeQualified p vlMv vrMv => Sys2Proof.Machine.execPrechargeQualified p vlMv vrMv s
  | .prechargeTimeout p => Sys2Proof.Machine.execPrechargeTimeout p s
  | .feedSet nodeMv fallMv => Sys2Proof.Machine.execFeedSet nodeMv fallMv s
  | .ifwConditionClear c => Sys2Proof.Machine.execIfwConditionClear c s
  | .ifwBroadcast => Sys2Proof.Machine.execIfwBroadcast s
  | .ifwBroadcastRepeat => Sys2Proof.Machine.execIfwBroadcastRepeat s
  | .ifwBroadcastReceive src status timeNs => Sys2Proof.Machine.execIfwBroadcastReceive src status timeNs s
  | .peerForget src => Sys2Proof.Machine.execPeerForget src s
  | .holdEntry nodeMv fallMv => Sys2Proof.Machine.execHoldEntry nodeMv fallMv s
  | .holdExit nodeMv => Sys2Proof.Machine.execHoldExit nodeMv s
  | .storageExhausted storeMv => Sys2Proof.Machine.execStorageExhausted storeMv s
  | .chargeEntry nodeMv => Sys2Proof.Machine.execChargeEntry nodeMv s
  | .cvEntry storeMv => Sys2Proof.Machine.execCvEntry storeMv s
  | .chargeDone storeMa => Sys2Proof.Machine.execChargeDone storeMa s
  | .storeOvp storeMv => Sys2Proof.Machine.execStoreOvp storeMv s
  | .chargeNodeLow nodeMv => Sys2Proof.Machine.execChargeNodeLow nodeMv s
  | .propPhaseCage k mv => Sys2Proof.Machine.execPropPhaseCage k mv s
  | .storageSample nodeMv storeMv storeMa eMa eVl eVr wMa wVl wVr => Sys2Proof.Machine.execStorageSample nodeMv storeMv storeMa eMa eVl eVr wMa wVl wVr s
  | .laneTrigger l => Sys2Proof.Machine.execLaneTrigger l s
  | .slotStart j ecc => Sys2Proof.Machine.execSlotStart j ecc s
  | .nop l => Sys2Proof.Machine.execNop l s
  | .endRun l => Sys2Proof.Machine.execEndRun l s
  | .raise l => Sys2Proof.Machine.execRaise l s
  | .ldi l d imm => Sys2Proof.Machine.execLdi l d imm s
  | .mov l d a => Sys2Proof.Machine.execMov l d a s
  | .rds l d rel sig => Sys2Proof.Machine.execRds l d rel sig s
  | .rdp l d k => Sys2Proof.Machine.execRdp l d k s
  | .wra l rel act a => Sys2Proof.Machine.execWra l rel act a s
  | .wtg l prof a b => Sys2Proof.Machine.execWtg l prof a b s
  | .add l d a b => Sys2Proof.Machine.execAdd l d a b s
  | .sub l d a b => Sys2Proof.Machine.execSub l d a b s
  | .addi l d a imm => Sys2Proof.Machine.execAddi l d a imm s
  | .mul l d a b => Sys2Proof.Machine.execMul l d a b s
  | .neg l d a => Sys2Proof.Machine.execNeg l d a s
  | .abs l d a => Sys2Proof.Machine.execAbs l d a s
  | .min l d a b => Sys2Proof.Machine.execMin l d a b s
  | .max l d a b => Sys2Proof.Machine.execMax l d a b s
  | .clmp l d a b => Sys2Proof.Machine.execClmp l d a b s
  | .shl l d a sh => Sys2Proof.Machine.execShl l d a sh s
  | .shr l d a sh => Sys2Proof.Machine.execShr l d a sh s
  | .lpf l d a b => Sys2Proof.Machine.execLpf l d a b s
  | .clra l n => Sys2Proof.Machine.execClra l n s
  | .lda l n a => Sys2Proof.Machine.execLda l n a s
  | .mac l n a b => Sys2Proof.Machine.execMac l n a b s
  | .msu l n a b => Sys2Proof.Machine.execMsu l n a b s
  | .acca l n a => Sys2Proof.Machine.execAcca l n a s
  | .shra l n sh => Sys2Proof.Machine.execShra l n sh s
  | .sata l d n sh => Sys2Proof.Machine.execSata l d n sh s
  | .aclp l n a b => Sys2Proof.Machine.execAclp l n a b s
  | .skp l cond a b cnt => Sys2Proof.Machine.execSkp l cond a b cnt s
  | .fel l a b => Sys2Proof.Machine.execFel l a b s
  | .slotRestart level j => Sys2Proof.Machine.execSlotRestart level j s
  | .preset level w => Sys2Proof.Machine.execPreset level w s
  | .profileTargetWrite level w target => Sys2Proof.Machine.execProfileTargetWrite level w target s
  | .winderStep => Sys2Proof.Machine.execWinderStep s
  | .conversionResult x input code => Sys2Proof.Machine.execConversionResult x input code s
  | .scanRoundStart => Sys2Proof.Machine.execScanRoundStart s
  | .scanRoundEnd => Sys2Proof.Machine.execScanRoundEnd s
  | .monitorCrossing m uv => Sys2Proof.Machine.execMonitorCrossing m uv s
  | .monitorFilter m => Sys2Proof.Machine.execMonitorFilter m s
  | .cmpoClear level k => Sys2Proof.Machine.execCmpoClear level k s
  | .checkSwap level m => Sys2Proof.Machine.execCheckSwap level m s
  | .checkKnownLevel level m => Sys2Proof.Machine.execCheckKnownLevel level m s
  | .autoCheck m known => Sys2Proof.Machine.execAutoCheck m known s
  | .checkEnd m result => Sys2Proof.Machine.execCheckEnd m result s
  | .thermalSample x v good => Sys2Proof.Machine.execThermalSample x v good s
  | .dieComparator => Sys2Proof.Machine.execDieComparator s
  | .stateCmdOff level => Sys2Proof.Machine.execStateCmdOff level s
  | .stateCmdStandby level => Sys2Proof.Machine.execStateCmdStandby level s
  | .stateCmdConfigured level => Sys2Proof.Machine.execStateCmdConfigured level s
  | .stateCmdRun level => Sys2Proof.Machine.execStateCmdRun level s
  | .stateCmdEconomy level => Sys2Proof.Machine.execStateCmdEconomy level s
  | .stateCmdPark level => Sys2Proof.Machine.execStateCmdPark level s
  | .nodeHostOff level k off => Sys2Proof.Machine.execNodeHostOff level k off s
  | .nodeOnDelayExpiry k => Sys2Proof.Machine.execNodeOnDelayExpiry k s
  | .nodePowerGood k pin => Sys2Proof.Machine.execNodePowerGood k pin s
  | .nodeQualified k => Sys2Proof.Machine.execNodeQualified k s
  | .pgTimeout k => Sys2Proof.Machine.execPgTimeout k s
  | .nodeOffDelayExpiry k => Sys2Proof.Machine.execNodeOffDelayExpiry k s
  | .nodeRampDownDone k pin => Sys2Proof.Machine.execNodeRampDownDone k pin s
  | .offTimeout k => Sys2Proof.Machine.execOffTimeout k s
  | .nodeFaultCondition k pin => Sys2Proof.Machine.execNodeFaultCondition k pin s
  | .nodeFaultTimerExpiry k => Sys2Proof.Machine.execNodeFaultTimerExpiry k s
  | .nodeClear level k => Sys2Proof.Machine.execNodeClear level k s
  | .lossShutdown trigger => Sys2Proof.Machine.execLossShutdown trigger s
  | .resume level => Sys2Proof.Machine.execResume level s
  | .marginWrite level r m => Sys2Proof.Machine.execMarginWrite level r m s
  | .windowExpiry f => Sys2Proof.Machine.execWindowExpiry f s
  | .sourceClear level f => Sys2Proof.Machine.execSourceClear level f s
  | .sourceForce level f => Sys2Proof.Machine.execSourceForce level f s
  | .creditRequest g data => Sys2Proof.Machine.execCreditRequest g data s
  | .blockRelease g => Sys2Proof.Machine.execBlockRelease g s
  | .producerWaitTimeout g => Sys2Proof.Machine.execProducerWaitTimeout g s
  | .scrub corrected bad g place => Sys2Proof.Machine.execScrub corrected bad g place s
  | .streamSample g => Sys2Proof.Machine.execStreamSample g s
  | .captureFrame node scan => Sys2Proof.Machine.execCaptureFrame node scan s
  | .captureTrigger cause => Sys2Proof.Machine.execCaptureTrigger cause s
  | .captureFreeze => Sys2Proof.Machine.execCaptureFreeze s
  | .arm level => Sys2Proof.Machine.execArm level s
  | .trigHost level => Sys2Proof.Machine.execTrigHost level s
  | .pitLogTick => Sys2Proof.Machine.execPitLogTick s
  | .liveRefresh => Sys2Proof.Machine.execLiveRefresh s
  | .epochPeriod => Sys2Proof.Machine.execEpochPeriod s
  | .plCmd level => Sys2Proof.Machine.execPlCmd level s
  | .epochCommit => Sys2Proof.Machine.execEpochCommit s
  | .epochFail retired => Sys2Proof.Machine.execEpochFail retired s
  | .pduReceive port bytes => Sys2Proof.Machine.execPduReceive port bytes s
  | .read src port level tid idx sub => Sys2Proof.Machine.execRead src port level tid idx sub s
  | .write src port level tid idx sub value => Sys2Proof.Machine.execWrite src port level tid idx sub value s
  | .bundle src port level tid entries => Sys2Proof.Machine.execBundle src port level tid entries s
  | .describe src port level tid idx sub => Sys2Proof.Machine.execDescribe src port level tid idx sub s
  | .domainRead src port level tid idx sub offset count => Sys2Proof.Machine.execDomainRead src port level tid idx sub offset count s
  | .domainStart src port level tid idx sub total => Sys2Proof.Machine.execDomainStart src port level tid idx sub total s
  | .domainData src port level tid offset data => Sys2Proof.Machine.execDomainData src port level tid offset data s
  | .domainEnd src port level tid fin => Sys2Proof.Machine.execDomainEnd src port level tid fin s
  | .domainTransferTimeout src => Sys2Proof.Machine.execDomainTransferTimeout src s
  | .assign src port tid unit addr => Sys2Proof.Machine.execAssign src port tid unit addr s
  | .notice => Sys2Proof.Machine.execNotice s
  | .streamSend => Sys2Proof.Machine.execStreamSend s
  | .cfgSave level => Sys2Proof.Machine.execCfgSave level s
  | .saveComplete => Sys2Proof.Machine.execSaveComplete s
  | .cfgDefaults level => Sys2Proof.Machine.execCfgDefaults level s
  | .frameReceive c id bytes fcsOk => Sys2Proof.Machine.execFrameReceive c id bytes fcsOk s
  | .bufferToGallery c => Sys2Proof.Machine.execBufferToGallery c s
  | .beaconLoss => Sys2Proof.Machine.execBeaconLoss s
  | .beaconReceived => Sys2Proof.Machine.execBeaconReceived s
  | .ethLinkLoss => Sys2Proof.Machine.execEthLinkLoss s
  | .asSyncReceive times => Sys2Proof.Machine.execAsSyncReceive times s
  | .asSyncLoss => Sys2Proof.Machine.execAsSyncLoss s
  | .canFrameReceive k id data => Sys2Proof.Machine.execCanFrameReceive k id data s
  | .canReassemblyTimeout k id => Sys2Proof.Machine.execCanReassemblyTimeout k id s
  | .canBusOff k => Sys2Proof.Machine.execCanBusOff k s
  | .canRecover k => Sys2Proof.Machine.execCanRecover k s
  | .readStatus n => Sys2Proof.Machine.execReadStatus n s
  | .writePdu bytes => Sys2Proof.Machine.execWritePdu bytes s
  | .readPdu n => Sys2Proof.Machine.execReadPdu n s
  | .spiUnknownCmd cmd n => Sys2Proof.Machine.execSpiUnknownCmd cmd n s
  | .spiCsRise => Sys2Proof.Machine.execSpiCsRise s
  | .twPointerWrite k v => Sys2Proof.Machine.execTwPointerWrite k v s
  | .inFifo k bytes => Sys2Proof.Machine.execInFifo k bytes s
  | .outFifo k n => Sys2Proof.Machine.execOutFifo k n s
  | .twStretchTimeout k => Sys2Proof.Machine.execTwStretchTimeout k s
  | .twControllerTimeout k => Sys2Proof.Machine.execTwControllerTimeout k s
  | .inBandRequest k => Sys2Proof.Machine.execInBandRequest k s
  | .inBandAnswer k answer status pdu => Sys2Proof.Machine.execInBandAnswer k answer status pdu s
  | .arbitrationLoss k own => Sys2Proof.Machine.execArbitrationLoss k own s
  | .busClear k freed => Sys2Proof.Machine.execBusClear k freed s
  | .wihanReceive bytes bad => Sys2Proof.Machine.execWihanReceive bytes bad s
  | .syncSend => Sys2Proof.Machine.execSyncSend s
  | .syncReceive addr hops tMaster corr => Sys2Proof.Machine.execSyncReceive addr hops tMaster corr s
  | .syncLoss => Sys2Proof.Machine.execSyncLoss s
  | .electionTimeout => Sys2Proof.Machine.execElectionTimeout s
  | .shareSend => Sys2Proof.Machine.execShareSend s
  | .shareReceive pos addr payload => Sys2Proof.Machine.execShareReceive pos addr payload s
  | .shareTrimUpdate g => Sys2Proof.Machine.execShareTrimUpdate g s
  | .memberLoss g addr => Sys2Proof.Machine.execMemberLoss g addr s
  | .memberRejoin g addr => Sys2Proof.Machine.execMemberRejoin g addr s
  | .announceReceive addr group ann stepMa tGate => Sys2Proof.Machine.execAnnounceReceive addr group ann stepMa tGate s
  | .withdrawReceive addr group ann => Sys2Proof.Machine.execWithdrawReceive addr group ann s
  | .faultReceive addr group kind => Sys2Proof.Machine.execFaultReceive addr group kind s
  | .shareLoadWindow symbols => Sys2Proof.Machine.execShareLoadWindow symbols s
  | .wihanInLoss => Sys2Proof.Machine.execWihanInLoss s
  | .cardDetect signature table content => Sys2Proof.Machine.execCardDetect signature table content s
  | .cardRemoval => Sys2Proof.Machine.execCardRemoval s
  | .updCmdInstall level => Sys2Proof.Machine.execUpdCmdInstall level s
  | .updCmdActivate level => Sys2Proof.Machine.execUpdCmdActivate level s
  | .updCmdAbortTrial level => Sys2Proof.Machine.execUpdCmdAbortTrial level s
  | .updCmdEraseInactive level => Sys2Proof.Machine.execUpdCmdEraseInactive level s
  | .updCmdRelay level => Sys2Proof.Machine.execUpdCmdRelay level s
  | .imgOffer src port level tid header => Sys2Proof.Machine.execImgOffer src port level tid header s
  | .imgData src port level tid offset data => Sys2Proof.Machine.execImgData src port level tid offset data s
  | .imgEnd src port level tid => Sys2Proof.Machine.execImgEnd src port level tid s
  | .imgQuery src port level tid => Sys2Proof.Machine.execImgQuery src port level tid s
  | .imgOfferTimeout => Sys2Proof.Machine.execImgOfferTimeout s
  | .nvmOperationDone ok owner => Sys2Proof.Machine.execNvmOperationDone ok owner s
  | .trialConfirm => Sys2Proof.Machine.execTrialConfirm s
  | .trialTimeout => Sys2Proof.Machine.execTrialTimeout s
  | .domainEpochWrite level v => Sys2Proof.Machine.execDomainEpochWrite level v s
  | .sessionOpen src port tid want nonce => Sys2Proof.Machine.execSessionOpen src port tid want nonce s
  | .sessionProve src port tid pass => Sys2Proof.Machine.execSessionProve src port tid pass s
  | .sessionClose src port tid => Sys2Proof.Machine.execSessionClose src port tid s
  | .sessionOpenLapse src => Sys2Proof.Machine.execSessionOpenLapse src s
  | .sessionIdle src => Sys2Proof.Machine.execSessionIdle src s
  | .revoke level k => Sys2Proof.Machine.execRevoke level k s
  | .lock level near => Sys2Proof.Machine.execLock level near s
  | .rma level => Sys2Proof.Machine.execRma level s
  | .debugEnter level near ok => Sys2Proof.Machine.execDebugEnter level near ok s
  | .scanEnter level near ok => Sys2Proof.Machine.execScanEnter level near ok s
  | .debugPortRequest ok => Sys2Proof.Machine.execDebugPortRequest ok s
  | .debugWindowExpiry => Sys2Proof.Machine.execDebugWindowExpiry s
  | .crystalTimeout => Sys2Proof.Machine.execCrystalTimeout s
  | .startHaltRetry => Sys2Proof.Machine.execStartHaltRetry s
  | .configuredEntry fails => Sys2Proof.Machine.execConfiguredEntry fails s
  | .lampUnitDone coverage durUs fails => Sys2Proof.Machine.execLampUnitDone coverage durUs fails s
  | .lampTimeout => Sys2Proof.Machine.execLampTimeout s
  | .wake k x => Sys2Proof.Machine.execWake k x s
  | .wakePendingStart seconds => Sys2Proof.Machine.execWakePendingStart seconds s
  | .supplyDip k => Sys2Proof.Machine.execSupplyDip k s
  | .supplyHoldRelease => Sys2Proof.Machine.execSupplyHoldRelease s
  | .ioSupplyLoss k => Sys2Proof.Machine.execIoSupplyLoss k s
  | .ioSupplyReturn k => Sys2Proof.Machine.execIoSupplyReturn k s
  | .vkeepLow => Sys2Proof.Machine.execVkeepLow s
  | .vsupPowerOn seconds => Sys2Proof.Machine.execVsupPowerOn seconds s
  | .rootClockReturn => Sys2Proof.Machine.execRootClockReturn s
  | .dieComparatorRelease => Sys2Proof.Machine.execDieComparatorRelease s
  | .currentLimitRelease x => Sys2Proof.Machine.execCurrentLimitRelease x s
  | .ethLinkUp speed => Sys2Proof.Machine.execEthLinkUp speed s
  | .canBusError k tec rec => Sys2Proof.Machine.execCanBusError k tec rec s
  | .twStop k => Sys2Proof.Machine.execTwStop k s
  | .twStatusRead k n => Sys2Proof.Machine.execTwStatusRead k n s
  | .wihanInReturn => Sys2Proof.Machine.execWihanInReturn s
  | .vkeepReturn => Sys2Proof.Machine.execVkeepReturn s
  | .relayResponseReceived abort body => Sys2Proof.Machine.execRelayResponseReceived abort body s

end Sys2Proof.Machine
end

