-- ==== Sys2Proof/Machine/Step.lean ====
section
/-!
DEFINITION. One step: the command at the front of the queue, or one edge of CLK_SYS where no command waits.
-/
namespace Sys2Proof.Machine

/-- A step on an empty queue: one edge of CLK_SYS, by which the timebase advances 5 ns (01_architecture.md R31, R34), with what the passing
of time alone brings about; nothing where the core has no power (log entry 1: DESIGN CHOICE). -/
def State.idle (s : State) : State := if s.on Reg.corePowered then (s.advance 5).railTime else s

/-- One step: the command at the front of the queue acts on a state that holds the queue's rest (log entry 1: DESIGN CHOICE, log entry 2: DESIGN CHOICE) (log entry 110: DESIGN CHOICE). -/
def step (s : State) : Host.Outcome State Fault Refusal :=
  match s.pending with
  | [] => .next s.idle
  | c :: rest => exec c { s with pending := rest }

/-- The state with the command that a table word spells put at the front of the queue; the state where it spells none (log entry 2: DESIGN CHOICE). -/
def State.withFetchWord (s : State) (nbits w : Nat) : State :=
  match decodeTableWord nbits w with
  | some c => { s with pending := c :: s.pending }
  | none => s

end Sys2Proof.Machine
end

