-- ==== Sys2Proof/WellFormed.lean ====
section
/-!
DEFINITION. Which commands are well formed: the lengths and values that a command's operands can have on the part's ports.
-/
namespace Sys2Proof

/-- A port code on which a request can arrive (12_dictionary.md R527). -/
def arrives (port : Fin 9) : Bool := decide (port ≠ 0)

/-- A data length of CAN FD (12_dictionary.md R519). -/
def canLength (n : Nat) : Bool := [1, 2, 3, 4, 5, 6, 7, 8, 12, 16, 20, 24, 32, 48, 64].contains n

/-- A conversion result: a Q15 fraction, or −32 768 for none (08_sensing_and_thermal.md R335). -/
def q15Result (x : Int) : Bool := decide (-32768 ≤ x) && decide (x ≤ 32767)

/-- The level at the pins of an input, in counts of its full scale, as far as the front end tells it (log entry 114: DESIGN CHOICE). -/
def pinLevel (x : Int) : Bool := decide (-65536 ≤ x) && decide (x ≤ 65535)

/-- The body length of a BUNDLE (12_dictionary.md R506). -/
def bundleBody (entries : List (BitVec 16 × BitVec 8 × List (BitVec 8))) : Nat :=
  entries.foldl (fun t e => t + 4 + e.2.2.length) 4

/-- The operands are such as the ports can carry (R335, R450, R465; R496, R505–R510, R519; R537, R572, R577; R606, R607). -/
def Instr.wf (i : Instr) : Bool :=
  match i with
  | .watchdogExpiry => true
  | .wdtSvc _ _ => true
  | .wdtPeriod _ => true
  | .lockstepMismatch => true
  | .foreignWrite => true
  | .heartbeatMissed _ _ => true
  | .configCheck _ => true
  | .resetCmd _ => true
  | .procResetEnd _ => true
  | .planeReady _ _ _ => true
  | .holdTimeout => true
  | .powerOnReset => true
  | .resetN _ _ => true
  | .coreSupplyUndervoltage => true
  | .ppResetEnd => true
  | .rootClockLoss => true
  | .clkReturn _ => true
  | .railTrigger _ _ _ => true
  | .onTimeEnd _ _ => true
  | .frequencyLockTrim _ => true
  | .onTimeClamp _ => true
  | .vselCodeTaken _ _ => true
  | .phaseShed _ => true
  | .phaseAdd _ => true
  | .shedRotation _ => true
  | .burstEntry _ => true
  | .burstRefresh _ _ _ => true
  | .burstExit _ => true
  | .pileIn _ _ _ => true
  | .pileInRearm _ _ => true
  | .overshootTruncation _ _ => true
  | .brakingEnd _ _ => true
  | .offsetDecayEnd _ => true
  | .valleyLimit _ _ => true
  | .hiccupEntry _ => true
  | .softRetry _ => true
  | .fastShortCircuit _ _ => true
  | .phaseZeroCrossing _ => true
  | .slowOverload _ _ => true
  | .degradeHoldExpiry _ => true
  | .limitExit _ _ => true
  | .phaseOpenDetect _ => true
  | .phaseSenseRange _ _ => true
  | .phaseCageReq _ _ => true
  | .cmdOn _ _ => true
  | .cmdOff _ _ => true
  | .ctxCageReq _ _ => true
  | .bindingCommit _ _ _ => true
  | .leadExpiry _ => true
  | .channelSample _ _ _ _ => true
  | .offDecayExpiry _ => true
  | .inrushTimeout _ => true
  | .gateDriveFault _ => true
  | .directShort _ => true
  | .currentLimitReached _ => true
  | .faultTimerExpiry _ => true
  | .retryTimerExpiry _ => true
  | .retryClear _ => true
  | .tallyEvaluation => true
  | .tallyDisable _ => true
  | .limitWindowEdge _ _ => true
  | .borrowNoAnswer => true
  | .borrowBackoffEnd => true
  | .loanRequestReceived _ _ _ _ => true
  | .loanRenewReceived _ _ _ _ => true
  | .loanReturnReceived _ _ _ _ => true
  | .loanResponseReceived _ _ _ _ => true
  | .leaseHalf _ _ => true
  | .leaseEnd _ _ => true
  | .loanReturnDue _ _ => true
  | .reservationEnd _ _ => true
  | .roundStart _ => true
  | .roundJudge _ _ _ _ => true
  | .positionLost _ => true
  | .portDown _ => true
  | .positionReturn _ => true
  | .portEnable _ _ _ => true
  | .rescan _ _ => true
  | .pilotOutChange _ _ _ => true
  | .pilotQualified _ _ => true
  | .directionalTrip _ _ => true
  | .backupOutwardTrip _ _ => true
  | .inwardTrip _ _ => true
  | .switchFailed _ _ => true
  | .testPulseSend _ => true
  | .testPulseReceived _ _ => true
  | .pilotMiss _ => true
  | .pilotStuck _ _ => true
  | .pilotStuckClear _ => true
  | .rpCmdClose _ _ => true
  | .rpCmdOpen _ _ => true
  | .prechargeQualified _ _ _ => true
  | .prechargeTimeout _ => true
  | .feedSet _ _ => true
  | .ifwConditionClear _ => true
  | .ifwBroadcast => true
  | .ifwBroadcastRepeat => true
  | .ifwBroadcastReceive _ _ _ => true
  | .peerForget _ => true
  | .holdEntry _ _ => true
  | .holdExit _ => true
  | .storageExhausted _ => true
  | .chargeEntry _ => true
  | .cvEntry _ => true
  | .chargeDone _ => true
  | .storeOvp _ => true
  | .chargeNodeLow _ => true
  | .propPhaseCage _ _ => true
  | .storageSample _ _ _ _ _ _ _ _ _ => true
  | .laneTrigger _ => true
  | .slotStart _ _ => true
  | .nop _ => true
  | .endRun _ => true
  | .raise _ => true
  | .ldi _ _ _ => true
  | .mov _ _ _ => true
  | .rds _ _ _ _ => true
  | .rdp _ _ _ => true
  | .wra _ _ _ _ => true
  | .wtg _ _ _ _ => true
  | .add _ _ _ _ => true
  | .sub _ _ _ _ => true
  | .addi _ _ _ _ => true
  | .mul _ _ _ _ => true
  | .neg _ _ _ => true
  | .abs _ _ _ => true
  | .min _ _ _ _ => true
  | .max _ _ _ _ => true
  | .clmp _ _ _ _ => true
  | .shl _ _ _ _ => true
  | .shr _ _ _ _ => true
  | .lpf _ _ _ _ => true
  | .clra _ _ => true
  | .lda _ _ _ => true
  | .mac _ _ _ _ => true
  | .msu _ _ _ _ => true
  | .acca _ _ _ => true
  | .shra _ _ _ => true
  | .sata _ _ _ _ => true
  | .aclp _ _ _ _ => true
  | .skp _ _ _ _ _ => true
  | .fel _ _ _ => true
  | .slotRestart _ _ => true
  | .preset _ _ => true
  | .profileTargetWrite _ _ _ => true
  | .winderStep => true
  | .conversionResult _ _ code => pinLevel code
  | .scanRoundStart => true
  | .scanRoundEnd => true
  | .monitorCrossing _ _ => true
  | .monitorFilter _ => true
  | .cmpoClear _ _ => true
  | .checkSwap _ _ => true
  | .checkKnownLevel _ _ => true
  | .autoCheck _ _ => true
  | .checkEnd _ _ => true
  | .thermalSample _ _ _ => true
  | .dieComparator => true
  | .stateCmdOff _ => true
  | .stateCmdStandby _ => true
  | .stateCmdConfigured _ => true
  | .stateCmdRun _ => true
  | .stateCmdEconomy _ => true
  | .stateCmdPark _ => true
  | .nodeHostOff _ _ _ => true
  | .nodeOnDelayExpiry _ => true
  | .nodePowerGood _ _ => true
  | .nodeQualified _ => true
  | .pgTimeout _ => true
  | .nodeOffDelayExpiry _ => true
  | .nodeRampDownDone _ _ => true
  | .offTimeout _ => true
  | .nodeFaultCondition _ _ => true
  | .nodeFaultTimerExpiry _ => true
  | .nodeClear _ _ => true
  | .lossShutdown _ => true
  | .resume _ => true
  | .marginWrite _ _ _ => true
  | .windowExpiry _ => true
  | .sourceClear _ _ => true
  | .sourceForce _ _ => true
  | .creditRequest _ data => decide (data.length ≤ 256)
  | .blockRelease _ => true
  | .producerWaitTimeout _ => true
  | .scrub _ _ _ _ => true
  | .streamSample _ => true
  | .captureFrame node scan => node.length == 5 && decide (scan.length ≤ 9) && node.all q15Result && scan.all q15Result
  | .captureTrigger _ => true
  | .captureFreeze => true
  | .arm _ => true
  | .trigHost _ => true
  | .pitLogTick => true
  | .liveRefresh => true
  | .epochPeriod => true
  | .plCmd _ => true
  | .epochCommit => true
  | .epochFail _ => true
  | .pduReceive port _ => arrives port
  | .read _ port _ _ _ _ => arrives port
  | .write _ port _ _ _ _ value => arrives port && decide (value.length ≤ 255)
  | .bundle _ port _ _ entries => arrives port && entries.list.all (fun e => decide (e.2.2.length ≤ 255)) && decide (bundleBody entries.list ≤ 1024)
  | .describe _ port _ _ _ _ => arrives port
  | .domainRead _ port _ _ _ _ _ _ => arrives port
  | .domainStart _ port _ _ _ _ _ => arrives port
  | .domainData _ port _ _ _ data => arrives port && decide (1 ≤ data.length) && decide (data.length ≤ 1016)
  | .domainEnd _ port _ _ _ => arrives port
  | .domainTransferTimeout _ => true
  | .assign _ port _ _ _ => arrives port
  | .notice => true
  | .streamSend => true
  | .cfgSave _ => true
  | .saveComplete => true
  | .cfgDefaults _ => true
  | .frameReceive c _ bytes _ => if c.val < 2 then decide (14 ≤ bytes.length) && decide (bytes.length ≤ 1522) else canLength bytes.length
  | .bufferToGallery _ => true
  | .beaconLoss => true
  | .beaconReceived => true
  | .ethLinkLoss => true
  | .asSyncReceive _ => true
  | .asSyncLoss => true
  | .canFrameReceive _ _ data => canLength data.length
  | .canReassemblyTimeout _ _ => true
  | .canBusOff _ => true
  | .canRecover _ => true
  | .readStatus _ => true
  | .writePdu _ => true
  | .readPdu _ => true
  | .spiUnknownCmd _ _ => true
  | .spiCsRise => true
  | .twPointerWrite _ _ => true
  | .inFifo _ _ => true
  | .outFifo _ _ => true
  | .twStretchTimeout _ => true
  | .twControllerTimeout _ => true
  | .inBandRequest _ => true
  | .inBandAnswer _ _ status _ => decide (status.length ≤ 16)
  | .arbitrationLoss _ _ => true
  | .busClear _ _ => true
  | .wihanReceive bytes _ => decide (6 ≤ bytes.length) && decide (bytes.length ≤ 50)
  | .syncSend => true
  | .syncReceive _ _ _ _ => true
  | .syncLoss => true
  | .electionTimeout => true
  | .shareSend => true
  | .shareReceive _ _ payload => decide (payload.length % 11 = 0) && decide (11 ≤ payload.length) && decide (payload.length ≤ 44)
  | .shareTrimUpdate _ => true
  | .memberLoss _ _ => true
  | .memberRejoin _ _ => true
  | .announceReceive _ _ _ _ _ => true
  | .withdrawReceive _ _ _ => true
  | .faultReceive _ _ _ => true
  | .shareLoadWindow _ => true
  | .wihanInLoss => true
  | .cardDetect _ _ _ => true
  | .cardRemoval => true
  | .updCmdInstall _ => true
  | .updCmdActivate _ => true
  | .updCmdAbortTrial _ => true
  | .updCmdEraseInactive _ => true
  | .updCmdRelay _ => true
  | .imgOffer _ port _ _ header => arrives port && header.length == 256
  | .imgData _ port _ _ _ data => arrives port && decide (1 ≤ data.length) && decide (data.length ≤ 1008)
  | .imgEnd _ port _ _ => arrives port
  | .imgQuery _ port _ _ => arrives port
  | .imgOfferTimeout => true
  | .nvmOperationDone _ _ => true
  | .trialConfirm => true
  | .trialTimeout => true
  | .domainEpochWrite _ _ => true
  | .sessionOpen _ port _ _ _ => arrives port
  | .sessionProve _ port _ _ => arrives port
  | .sessionClose _ port _ => arrives port
  | .sessionOpenLapse _ => true
  | .sessionIdle _ => true
  | .revoke _ _ => true
  | .lock _ _ => true
  | .rma _ => true
  | .debugEnter _ _ _ => true
  | .scanEnter _ _ _ => true
  | .debugPortRequest _ => true
  | .debugWindowExpiry => true
  | .crystalTimeout => true
  | .startHaltRetry => true
  | .configuredEntry _ => true
  | .lampUnitDone _ _ _ => true
  | .lampTimeout => true
  | .wake _ _ => true
  | .wakePendingStart _ => true
  | .supplyDip _ => true
  | .supplyHoldRelease => true
  | .ioSupplyLoss _ => true
  | .ioSupplyReturn _ => true
  | .vkeepLow => true
  | .vsupPowerOn _ => true
  | .rootClockReturn => true
  | .dieComparatorRelease => true
  | .currentLimitRelease _ => true
  | .ethLinkUp _ => true
  | .canBusError _ _ _ => true
  | .twStop _ => true
  | .twStatusRead _ _ => true
  | .wihanInReturn => true
  | .vkeepReturn => true
  | .relayResponseReceived _ body => decide (body.length ≤ 1022)

end Sys2Proof
end

