-- ==== Sys2Proof/Safety.lean ====
section
/-!
DEFINITION. What counts as a sound state of the model, as a step that goes on, and as the effect of a command, in the terms that claims
use.
-/
namespace Sys2Proof.Machine

/-- The canonical form of a store of byte strings: keys strictly rising, and no empty string listed. -/
def blobsCanon : List (Nat × List Byte) → Bool
  | [] => true
  | (k, b) :: t => t.all (fun p => decide (k < p.1)) && !b.isEmpty && blobsCanon t

/-- The canonical form of the staging counters: offsets strictly rising, and no zero listed (11_shaft_and_pit_log.md R476). -/
def stagingCanon : List (Nat × Int) → Bool
  | [] => true
  | (k, v) :: t => storeAbove k t && decide (v ≠ 0) && stagingCanon t

/-- The state is in its canonical form, and the timebase is a 64-bit count (01_architecture.md R34). -/
def State.wf (s : State) : Prop :=
  storeCanon s.regs = true ∧ blobsCanon s.blobs = true ∧ stagingCanon s.staging = true ∧ s.timebase < 2 ^ 64

/-- The step goes on. -/
def goesOn (s : State) : Prop := ∃ t, step s = .next t

/-- `t` may follow `s` by one step. -/
def stepsTo (s t : State) : Prop := step s = .next t

/-- `u` is `s` but for the registers of `ks`: every other register, and everything that is no register, is as it was. -/
def onlyChanges (s u : State) (ks : List Nat) : Prop := (∀ k, k ∉ ks → u.rd k = s.rd k) ∧ { u with regs := s.regs } = s

/-! ### Instructions of the loop engine (07_loop_engine.md) -/

/-- An instruction word by its fields (07_loop_engine.md, Formats): OP 31:26, D or N from bit 22, A from bit 18, B from bit 14, and
the field that ends at bit 0. -/
def instrWord (op d a b low : Nat) : Nat := op * 2 ^ 26 + d * 2 ^ 22 + a * 2 ^ 18 + b * 2 ^ 14 + low

/-- The power plane runs, a run of slot `j` is in progress in lane `l`, and the word at its address is `w` (R296). -/
def atWord (s : State) (l : Fin 2) (j : Fin 128) (w : Nat) : Prop :=
  s.ppRuns = true ∧ s.rd (Reg.lnSlot l) = (j.val : Int) + 1 ∧ progWord (s.blob (Reg.ltProg l)) (s.rdN (Reg.slPc j)) = w

/-- An instruction of slot `j` with its cycles counted and the next one's turn come (R296, R305). -/
def State.counted (s : State) (j : Nat) (cyc : Int) : State :=
  (s.wr (Reg.slPc j) ((s.rdN (Reg.slPc j) + 1 : Nat) : Int)).wr (Reg.slCyc j) (s.rd (Reg.slCyc j) + cyc)

/-- sat16 of R300. -/
def sat16 (x : Int) : Int := max (-32768) (min 32767 x)

/-- What instruction `i` of slot `j` gives in state `s` of lane `l`, before the fetch of the next one (R308, R309) and what follows at once: the register `key` holds `x`, SAT is set where `sat`
says so and as it was elsewhere, `cyc` cycles are counted, the next instruction's turn comes, and nothing else changes. -/
def givesValue (i : Instr) (s : State) (l j : Nat) (cyc : Int) (key : Nat) (x : Int) (sat : Bool) : Prop :=
  ∃ u, exec i s = .next (u.fetch l).settle ∧ u.rd key = x ∧ u.rd (Reg.slSat j) = (if sat then 1 else s.rd (Reg.slSat j)) ∧
    u.rd (Reg.slPc j) = (s.rdN (Reg.slPc j) : Int) + 1 ∧ u.rd (Reg.slCyc j) = s.rd (Reg.slCyc j) + cyc ∧
    onlyChanges s u [key, Reg.slSat j, Reg.slPc j, Reg.slCyc j]

/-- The same for a result that sat16 clamps: SAT is set where that changes it (R300, R301). -/
def givesSat16 (i : Instr) (s : State) (l j : Nat) (cyc : Int) (key : Nat) (x : Int) : Prop :=
  givesValue i s l j cyc key (sat16 x) (decide (sat16 x ≠ x))

/-- The same for a result that sat40 clamps. -/
def givesSat40 (i : Instr) (s : State) (l j : Nat) (cyc : Int) (key : Nat) (x : Int) : Prop :=
  givesValue i s l j cyc key (max (-2 ^ 39) (min (2 ^ 39 - 1) x)) (decide (max (-2 ^ 39) (min (2 ^ 39 - 1) x) ≠ x))

end Sys2Proof.Machine
end

