-- ==== Sys2Proof/Certificates/Slice0/Obligations.lean ====
section
/-!
DEFINITION. The statements for the provers.
-/
open Sys2Proof Sys2Proof.Machine

/-- DERIVED, 00_scope.md. For every command c and every state s, a step of s with c put at the front of its queue answers what exec answers for
c on s with the rest of the queue. The queue is the model's (log entry 2). -/
def Obligations.FrontCommandRuns : Prop :=
  ∀ (c : Instr) (s : State), step { s with pending := c :: s.pending } = exec c s

/-- DERIVED, 01_architecture.md R31, 01_architecture.md R34, 02_converter_core.md R50. In every state with no command waiting, a step answers a
next state. In it the timebase is 5 ns later, wrapping at 64 bits, and the phases of the rails that wait for their minimum off-time or for a
current turn on (railTime), when the core has power; without power nothing changes. Where no phase's turn-on waits, everything but the
timebase is as it was. That an idle step is one edge is the model's choice (log entry 1). -/
def Obligations.EmptyQueueIsAClockEdge : Prop :=
  ∀ s : State, s.pending = [] →
    step s = .next (if s.on Reg.corePowered then { s with timebase := (s.timebase + 5) % 2 ^ 64 }.railTime else s) ∧
    ((∀ p : Nat, p < 16 → s.rd (Reg.phDue p) = 0) →
      step s = .next (if s.on Reg.corePowered then { s with timebase := (s.timebase + 5) % 2 ^ 64 } else s))

/-- DERIVED, 00_scope.md, 10_faults_watchdog_resets.md. From every state, with any command at the front of the queue or with none, a step
answers a next state. -/
def Obligations.EveryStepGoesOn : Prop :=
  ∀ s : State, goesOn s

/-- DERIVED, 00_scope.md. When a step answers a next state, the queue of that state is the queue before without its front command; an empty
queue stays empty. No command's effect touches the queue (log entry 2). -/
def Obligations.StepTakesTheFrontCommand : Prop :=
  ∀ s t : State, stepsTo s t → t.pending = s.pending.tail

/-- DERIVED, 01_architecture.md R34, 11_shaft_and_pit_log.md R476, 12_dictionary.md R489. From every state in canonical form (register keys
strictly rising and none listed at its reset value, byte strings by strictly rising key and none empty, staging counters by strictly rising
offset and none zero, the timebase below 2^64), a step that answers a next state answers one in canonical form. So equal machines are equal
data after any number of steps. -/
def Obligations.StepKeepsTheCanonicalForm : Prop :=
  ∀ s t : State, s.wf → stepsTo s t → t.wf

/-- DERIVED, 10_faults_watchdog_resets.md R440. State.reset lists no register, no byte string and no staging counter, and its timebase is 0: it
is in the canonical form that steps keep. -/
def Obligations.ResetIsCanonical : Prop :=
  State.reset.wf

/-- DERIVED, 09_sequencing_and_states.md R382, 10_faults_watchdog_resets.md R414, 10_faults_watchdog_resets.md R430, 01_architecture.md R33,
01_architecture.md R34, 07_loop_engine.md R297. After a cold reset: STATE is 0x2 and STATE_CHANGES and STATE_REJECTS are 0; every source has
COUNT_N 1, REACT_EN 1, LATCH 1, WINDOW_MS 1000 and is idle; WD_PERIOD_MS is 64 and the watchdog is unlocked; CLK_STATUS shows ROOT_OK and
PLL_LOCK and not ON_BACKUP; FRAME_NS of both lanes is 5120; the timebase is 0, no event, no block and no command waits. -/
def Obligations.ResetValuesAreTheSpecs : Prop :=
  State.reset.rd Reg.STATE = 2 ∧ State.reset.rd Reg.STATE_CHANGES = 0 ∧ State.reset.rd Reg.STATE_REJECTS = 0 ∧
    (∀ f : Fin 1024, State.reset.fld (Bit.SRC_CTRL_COUNT_N f) = 1 ∧ State.reset.bit (Bit.SRC_CTRL_REACT_EN f) = true ∧
      State.reset.bit (Bit.SRC_CTRL_LATCH f) = true ∧ State.reset.rd (Reg.WINDOW_MS f) = 1000 ∧ State.reset.rd (Reg.SRC_STATUS f) = 0 ∧
      State.reset.rd (Reg.COUNT f) = 0) ∧
    State.reset.rd Reg.WD_PERIOD_MS = 64 ∧ State.reset.bit wdLocked = false ∧
    State.reset.bit (flag Reg.CLK_STATUS 0) = true ∧ State.reset.bit (flag Reg.CLK_STATUS 2) = true ∧
    State.reset.bit (flag Reg.CLK_STATUS 1) = false ∧
    State.reset.rd (Reg.FRAME_NS 0) = 5120 ∧ State.reset.rd (Reg.FRAME_NS 1) = 5120 ∧
    State.reset.timebase = 0 ∧ State.reset.notices = [] ∧ State.reset.blocks = [] ∧ State.reset.pending = []

/-- DERIVED, 01_architecture.md R24. When a step answers a next state, the count of free values used is at least what it was. A value the spec
leaves open, such as the outcome of a RESET_N pulse of 9.0 to 10.0 µs, is so never used twice (log entry 6). -/
def Obligations.FreeValuesNeverComeBack : Prop :=
  ∀ s t : State, stepsTo s t → s.fresh ≤ t.fresh

/-- DERIVED, 12_dictionary.md R489, 12_dictionary.md R490. For two states in canonical form, if every register reads the same in both, their
register stores are equal as data: the store has one form for each content. -/
def Obligations.EqualReadsMeanEqualStores : Prop :=
  ∀ s t : State, s.wf → t.wf → (∀ k, s.rd k = t.rd k) → s.regs = t.regs

/-- DERIVED, 10_faults_watchdog_resets.md R419, 10_faults_watchdog_resets.md R434. A state with no raise, no reaction, no sequencer step, no
reset, no start, no NVM operation and nothing at the polled links due is its own settled state: settle, which ends every command, does
nothing there. The statements that end in settle say so of what follows a command at once, in one step (log entry 3). -/
def Obligations.SettledEffectIsTheOutcome : Prop :=
  ∀ u : State, u.raiseQ = [] → u.reactions = [] → u.on Reg.seqDue = false → u.resetDue = false → u.startDue = false →
    u.nvmIdleWork = false → u.linkCalm = true → u.settle = u

/-- DERIVED, 07_loop_engine.md R296, 07_loop_engine.md R300, 07_loop_engine.md R301, 07_loop_engine.md R303, 07_loop_engine.md R305,
07_loop_engine.md R307, 07_loop_engine.md R311. For every lane, slot, state and operands: when the run of the slot is at the word of LDI,
MOV, RDS, RDP, ADD, SUB, ADDI, MUL, NEG, ABS, MIN, MAX, CLMP, SHL, SHR, LPF or SATA, the command of that instruction answers a next state in
which Vd holds the result of the instruction table, SAT is set where sat16 changes the value and is as it was elsewhere, the instruction's
cycles are counted and the next instruction's turn comes; no other register and nothing else changes, before what follows at once. The word
of SATA does not tell N, whose place beside D is not given (log entry 8). What follows an instruction is the fetch of the next one
(FetchesAreChecked). -/
def Obligations.LoopDataResults : Prop :=
∀ (l : Fin 2) (j : Fin 128) (s : State),
    (∀ (d : Fin 16) (imm : BitVec 16), atWord s l j (instrWord 3 d 0 0 imm.toNat) →
      givesValue (.ldi l d imm) s l j 1 (Reg.slV (16 * j + d)) (imm.toInt) false) ∧
    (∀ (d : Fin 16) (a : Fin 16), atWord s l j (instrWord 4 d a 0 0) →
      givesValue (.mov l d a) s l j 1 (Reg.slV (16 * j + d)) ((s.rd (Reg.slV (16 * j + a)))) false) ∧
    (∀ (d : Fin 16) (rel : Bool) (sig : Fin 1024), atWord s l j (instrWord 5 d (if rel then 8 else 0) 0 sig) →
      givesValue (.rds l d rel sig) s l j 2 (Reg.slV (16 * j + d)) ((s.counted j 2).sigValue (sig + (if rel then s.rdN (Reg.ltSig j) else 0))) false) ∧
    (∀ (d : Fin 16) (k : Fin 8), atWord s l j (instrWord 6 d 0 0 k) →
      givesValue (.rdp l d k) s l j 1 (Reg.slV (16 * j + d)) (s.rd (Reg.slParam (8 * j + k))) false) ∧
    (∀ (d : Fin 16) (a b : Fin 16), atWord s l j (instrWord 0x10 d a b 0) →
      givesSat16 (.add l d a b) s l j 1 (Reg.slV (16 * j + d)) ((s.rd (Reg.slV (16 * j + a))) + (s.rd (Reg.slV (16 * j + b))))) ∧
    (∀ (d : Fin 16) (a b : Fin 16), atWord s l j (instrWord 0x11 d a b 0) →
      givesSat16 (.sub l d a b) s l j 1 (Reg.slV (16 * j + d)) ((s.rd (Reg.slV (16 * j + a))) - (s.rd (Reg.slV (16 * j + b))))) ∧
    (∀ (d : Fin 16) (a : Fin 16) (imm : BitVec 16), atWord s l j (instrWord 0x12 d a 0 imm.toNat) →
      givesSat16 (.addi l d a imm) s l j 1 (Reg.slV (16 * j + d)) ((s.rd (Reg.slV (16 * j + a))) + imm.toInt)) ∧
    (∀ (d : Fin 16) (a b : Fin 16), atWord s l j (instrWord 0x13 d a b 0) →
      givesSat16 (.mul l d a b) s l j 1 (Reg.slV (16 * j + d)) (((s.rd (Reg.slV (16 * j + a))) * (s.rd (Reg.slV (16 * j + b))) + 2 ^ 14) / 2 ^ 15)) ∧
    (∀ (d : Fin 16) (a : Fin 16), atWord s l j (instrWord 0x14 d a 0 0) →
      givesSat16 (.neg l d a) s l j 1 (Reg.slV (16 * j + d)) (-(s.rd (Reg.slV (16 * j + a))))) ∧
    (∀ (d : Fin 16) (a : Fin 16), atWord s l j (instrWord 0x15 d a 0 0) →
      givesSat16 (.abs l d a) s l j 1 (Reg.slV (16 * j + d)) (((s.rd (Reg.slV (16 * j + a))).natAbs : Int))) ∧
    (∀ (d : Fin 16) (a b : Fin 16), atWord s l j (instrWord 0x16 d a b 0) →
      givesValue (.min l d a b) s l j 1 (Reg.slV (16 * j + d)) (min (s.rd (Reg.slV (16 * j + a))) (s.rd (Reg.slV (16 * j + b)))) false) ∧
    (∀ (d : Fin 16) (a b : Fin 16), atWord s l j (instrWord 0x17 d a b 0) →
      givesValue (.max l d a b) s l j 1 (Reg.slV (16 * j + d)) (max (s.rd (Reg.slV (16 * j + a))) (s.rd (Reg.slV (16 * j + b)))) false) ∧
    (∀ (d : Fin 16) (a b : Fin 16), atWord s l j (instrWord 0x18 d a b 0) →
      givesValue (.clmp l d a b) s l j 1 (Reg.slV (16 * j + d)) (min (max (s.rd (Reg.slV (16 * j + d))) (s.rd (Reg.slV (16 * j + a)))) (s.rd (Reg.slV (16 * j + b)))) false) ∧
    (∀ (d : Fin 16) (a sh : Fin 16), atWord s l j (instrWord 0x19 d a 0 sh) →
      givesSat16 (.shl l d a sh) s l j 1 (Reg.slV (16 * j + d)) ((s.rd (Reg.slV (16 * j + a))) * 2 ^ sh.val)) ∧
    (∀ (d : Fin 16) (a sh : Fin 16), atWord s l j (instrWord 0x1A d a 0 sh) →
      givesValue (.shr l d a sh) s l j 1 (Reg.slV (16 * j + d)) ((s.rd (Reg.slV (16 * j + a))) / 2 ^ sh.val) false) ∧
    (∀ (d : Fin 16) (a b : Fin 16), atWord s l j (instrWord 0x1B d a b 0) →
      givesSat16 (.lpf l d a b) s l j 2 (Reg.slV (16 * j + d)) ((s.rd (Reg.slV (16 * j + d))) + (((s.rd (Reg.slV (16 * j + a))) - (s.rd (Reg.slV (16 * j + d)))) * (s.rd (Reg.slV (16 * j + b))) + 2 ^ 14) / 2 ^ 15)) ∧
    (∀ (d : Fin 16) (n : Fin 4) (sh : Fin 16), atWord s l j (instrWord 0x26 d 0 0 sh) →
      givesSat16 (.sata l d n sh) s l j 1 (Reg.slV (16 * j + d)) ((s.rd (Reg.slA (4 * j + n)) * 2 ^ sh.val + 2 ^ 14) / 2 ^ 15))

/-- DERIVED, 07_loop_engine.md R296, 07_loop_engine.md R300, 07_loop_engine.md R301, 07_loop_engine.md R303, 07_loop_engine.md R305. For every
lane, slot, state and operands: when the run of the slot is at the word of CLRA, LDA, MAC, MSU, ACCA, SHRA or ACLP, the command of that
instruction answers a next state in which An holds the result of the instruction table, SAT is set where sat40 changes the value and is as
it was elsewhere, ACLP leaves CLP at 1 exactly when An changed, one cycle is counted and the next instruction's turn comes; no other
register and nothing else changes, before the next fetch and what follows at once. -/
def Obligations.LoopAccumulatorResults : Prop :=
∀ (l : Fin 2) (j : Fin 128) (s : State),
    (∀ (n : Fin 4), atWord s l j (instrWord 0x20 n 0 0 0) →
      givesValue (.clra l n) s l j 1 (Reg.slA (4 * j + n)) (0) false) ∧
    (∀ (n : Fin 4) (a : Fin 16), atWord s l j (instrWord 0x21 n a 0 0) →
      givesValue (.lda l n a) s l j 1 (Reg.slA (4 * j + n)) ((s.rd (Reg.slV (16 * j + a))) * 2 ^ 15) false) ∧
    (∀ (n : Fin 4) (a b : Fin 16), atWord s l j (instrWord 0x22 n a b 0) →
      givesSat40 (.mac l n a b) s l j 1 (Reg.slA (4 * j + n)) (s.rd (Reg.slA (4 * j + n)) + (s.rd (Reg.slV (16 * j + a))) * (s.rd (Reg.slV (16 * j + b))))) ∧
    (∀ (n : Fin 4) (a b : Fin 16), atWord s l j (instrWord 0x23 n a b 0) →
      givesSat40 (.msu l n a b) s l j 1 (Reg.slA (4 * j + n)) (s.rd (Reg.slA (4 * j + n)) - (s.rd (Reg.slV (16 * j + a))) * (s.rd (Reg.slV (16 * j + b))))) ∧
    (∀ (n : Fin 4) (a : Fin 16), atWord s l j (instrWord 0x24 n a 0 0) →
      givesSat40 (.acca l n a) s l j 1 (Reg.slA (4 * j + n)) (s.rd (Reg.slA (4 * j + n)) + (s.rd (Reg.slV (16 * j + a))) * 2 ^ 15)) ∧
    (∀ (n : Fin 4) (sh : Fin 16), atWord s l j (instrWord 0x25 n 0 0 sh) →
      givesValue (.shra l n sh) s l j 1 (Reg.slA (4 * j + n)) (s.rd (Reg.slA (4 * j + n)) / 2 ^ sh.val) false) ∧
    (∀ (n : Fin 4) (a b : Fin 16), atWord s l j (instrWord 0x27 n a b 0) →
      ∃ u, exec (.aclp l n a b) s = .next (u.fetch l).settle ∧
        u.rd (Reg.slA (4 * j + n)) = min (max (s.rd (Reg.slA (4 * j + n))) ((s.rd (Reg.slV (16 * j + a))) * 2 ^ 15)) ((s.rd (Reg.slV (16 * j + b))) * 2 ^ 15) ∧
        u.rd (Reg.slClp j) = (if u.rd (Reg.slA (4 * j + n)) ≠ s.rd (Reg.slA (4 * j + n)) then 1 else 0) ∧
        u.rd (Reg.slPc j) = (s.rdN (Reg.slPc j) : Int) + 1 ∧ u.rd (Reg.slCyc j) = s.rd (Reg.slCyc j) + 1 ∧
        onlyChanges s u [(Reg.slA (4 * j + n)), Reg.slClp j, Reg.slPc j, Reg.slCyc j])

/-- DERIVED, 07_loop_engine.md R296, 07_loop_engine.md R303, 07_loop_engine.md R306, 07_loop_engine.md R311. For every lane, slot, state and
operands: when the run of the slot is at the word of NOP, END, RAISE, WRA or WTG, the command of that instruction answers a next state. NOP
only takes its turn; RAISE sets RAISED; WRA buffers Va for the actuator point, with ACT_BASE added under REL; WTG buffers the target Va ×
2^16 + Vb, Vb read as unsigned, for the profile; END ends the run of the slot (slotEnd). Nothing else changes, before the next fetch and
what follows at once. -/
def Obligations.LoopControlResults : Prop :=
∀ (l : Fin 2) (j : Fin 128) (s : State),
    (atWord s l j (instrWord 0 0 0 0 0) →
      givesValue (.nop l) s l j 1 (Reg.slPc j) ((s.rdN (Reg.slPc j) : Int) + 1) false) ∧
    (atWord s l j (instrWord 1 0 0 0 0) →
      exec (.endRun l) s = .next (((s.counted j 1).slotEnd j).fetch l).settle) ∧
    (atWord s l j (instrWord 2 0 0 0 0) →
      givesValue (.raise l) s l j 1 (Reg.slRaised j) (1) false) ∧
    (∀ (rel : Bool) (act : Fin 512) (a : Fin 16), atWord s l j (instrWord 7 0 a 0 ((if rel then 2 ^ 17 else 0) + act)) →
      exec (.wra l rel act a) s =
        .next (((s.counted j 1).loopBuffer l (act + (if rel then s.rdN (Reg.ltAct j) else 0)) (s.rd (Reg.slV (16 * j + a)))).fetch l).settle) ∧
    (∀ (prof : Fin 32) (a b : Fin 16), atWord s l j (instrWord 8 0 a b prof) →
      exec (.wtg l prof a b) s =
        .next (((s.counted j 2).loopBuffer l (1000 + prof) ((s.rd (Reg.slV (16 * j + a))) * 2 ^ 16 + (s.rd (Reg.slV (16 * j + b))) % 2 ^ 16)).fetch l).settle)

/-- STATED, 07_loop_engine.md R304. For every lane, slot, state and operands with a condition other than 0b111, a count of at least 1, and A and
B at 0 for CLP: when the run of the slot is at the word of that SKP, it answers a next state in which the next address is one on, and cnt
more when the condition holds (Va = Vb, Va ≠ Vb, Va < Vb, Va ≥ Vb, Va > Vb, Va ≤ Vb, CLP is 1, for COND 0 to 6); one cycle is counted and
nothing else changes, before the next fetch and what follows at once. A SKP with the reserved condition 0b111, or with COND CLP and A or B
not 0, changes nothing. -/
def Obligations.SkipsOnItsCondition : Prop :=
∀ (l : Fin 2) (j : Fin 128) (s : State),
    (∀ (cond : Fin 8) (a b : Fin 16) (cnt : Fin 256), cond ≠ 7 → cnt ≠ 0 → (cond = 6 → a = 0 ∧ b = 0) →
      atWord s l j (instrWord 0x30 (2 * cond.val) a b cnt) →
      ∃ u, exec (.skp l cond a b cnt) s = .next (u.fetch l).settle ∧
        u.rd (Reg.slPc j) = (s.rdN (Reg.slPc j) : Int) + 1 +
          (if [decide ((s.rd (Reg.slV (16 * j + a))) = (s.rd (Reg.slV (16 * j + b)))), decide ((s.rd (Reg.slV (16 * j + a))) ≠ (s.rd (Reg.slV (16 * j + b)))), decide ((s.rd (Reg.slV (16 * j + a))) < (s.rd (Reg.slV (16 * j + b)))),
              decide ((s.rd (Reg.slV (16 * j + b))) ≤ (s.rd (Reg.slV (16 * j + a)))), decide ((s.rd (Reg.slV (16 * j + b))) < (s.rd (Reg.slV (16 * j + a)))), decide ((s.rd (Reg.slV (16 * j + a))) ≤ (s.rd (Reg.slV (16 * j + b)))),
              s.on (Reg.slClp j)].getD cond false then (cnt.val : Int) else 0) ∧
        u.rd (Reg.slCyc j) = s.rd (Reg.slCyc j) + 1 ∧ onlyChanges s u [Reg.slPc j, Reg.slCyc j]) ∧
    (∀ (cond : Fin 8) (a b : Fin 16) (cnt : Fin 256), s.ppRuns = true → cond = 7 ∨ (cond = 6 ∧ (a ≠ 0 ∨ b ≠ 0)) →
      exec (.skp l cond a b cnt) s = .next s.settle)

/-- STATED, 07_loop_engine.md R316. For every lane, slot, state and A, B: when the run of the slot is at the word of FEL, it answers a next
state in which, when |Va| exceeds Vb, the slot's timer is on by DIV × FRAME_NS, as in effect in the lane (R299), and FE_ACTIVE is 1, and
otherwise the timer and FE_ACTIVE are 0; FE_ELAPSED_US reports the timer in µs; the other bits of SLOT_STATUS are as they were. Besides the
timer's due mark, the address and the cycle count, nothing else changes, before the next fetch and what follows at once. -/
def Obligations.FollowingErrorTimer : Prop :=
∀ (l : Fin 2) (j : Fin 128) (s : State),
    ∀ (a b : Fin 16), atWord s l j (instrWord 0x31 0 a b 0) →
      ∃ u, exec (.fel l a b) s = .next (u.fetch l).settle ∧
        ((s.rd (Reg.slV (16 * j + b))) < ((s.rd (Reg.slV (16 * j + a))).natAbs : Int) →
          u.rd (Reg.slFeNs j) = s.rd (Reg.slFeNs j) + s.rd (Reg.ltDiv j) * s.rd (Reg.ltFrameNs (j / 64)) ∧
            u.bit (flag (Reg.SLOT_STATUS j) 5) = true) ∧
        (((s.rd (Reg.slV (16 * j + a))).natAbs : Int) ≤ (s.rd (Reg.slV (16 * j + b))) → u.rd (Reg.slFeNs j) = 0 ∧ u.bit (flag (Reg.SLOT_STATUS j) 5) = false) ∧
        u.rd (Reg.FE_ELAPSED_US j) = satU 32 (u.rd (Reg.slFeNs j) / 1000) ∧
        (∀ i, i ≠ 5 → u.bit (flag (Reg.SLOT_STATUS j) i) = s.bit (flag (Reg.SLOT_STATUS j) i)) ∧
        u.rd (Reg.slPc j) = (s.rdN (Reg.slPc j) : Int) + 1 ∧ u.rd (Reg.slCyc j) = s.rd (Reg.slCyc j) + 1 ∧
        onlyChanges s u [Reg.slFeNs j, Reg.FE_ELAPSED_US j, Reg.SLOT_STATUS j, Reg.slFeDue j, Reg.slPc j, Reg.slCyc j]

/-- DERIVED, 07_loop_engine.md R306, 07_loop_engine.md R312. After a write of v is buffered for a point of a lane, the lane's buffer holds
exactly one write to that point, with the value v, and every buffered write of the other lane is still there, in its order; the registers
are as they were. A winder target buffered whole (WTG, in the model's numbering 1000 + profile) replaces one buffered for its point 32 +
profile (WRA), and the other way round. -/
def Obligations.LaterWriteReplacesEarlier : Prop :=
  ∀ (s : State) (l p : Nat) (v : Int),
    ((s.loopBuffer l p v).loopWrites.filter fun x => decide (x.1 = l) && decide (x.2.1 = p)) = [(l, p, v)] ∧
    ((s.loopBuffer l p v).loopWrites.filter fun x => decide (x.1 ≠ l)) = (s.loopWrites.filter fun x => decide (x.1 ≠ l)) ∧
    (∀ w : Nat, w < 32 →
      ((s.loopBuffer l (1000 + w) v).loopWrites.filter fun x => decide (x.1 = l) && decide (x.2.1 = 32 + w)) = [] ∧
      ((s.loopBuffer l (32 + w) v).loopWrites.filter fun x => decide (x.1 = l) && decide (x.2.1 = 1000 + w)) = []) ∧
    { s.loopBuffer l p v with loopWrites := s.loopWrites } = s

/-- STATED, 07_loop_engine.md R300. For every integer x: the model's sat16 clamps x to −32 768 … 32 767, its sat40 to −2^39 … 2^39 − 1, its
rnd15 is floor((x + 2^14) / 2^15), and division by 2^n rounds down, as the arithmetic shift right by n does. -/
def Obligations.LoopArithmeticIsExact : Prop :=
  ∀ (x : Int) (n : Nat), satI16 x = max (-32768) (min 32767 x) ∧ sat40 x = max (-2 ^ 39) (min (2 ^ 39 - 1) x) ∧
    rnd15 x = Int.fdiv (x + 2 ^ 14) (2 ^ 15) ∧ x / (2 ^ n : Nat) = x >>> n ∧ x >>> n = Int.fdiv x (2 ^ n)

/-- DERIVED, 07_loop_engine.md R310. In every state, a read of any signal index gives a value within −32 768 … 32 767, and a read of a reserved
index, 669–671 or 848–1023, gives 0. -/
def Obligations.SignalsReadSaturated : Prop :=
  ∀ (s : State) (i : Nat), -32768 ≤ s.sigValue i ∧ s.sigValue i ≤ 32767 ∧
    ((669 ≤ i ∧ i ≤ 671) ∨ (848 ≤ i ∧ i ≤ 1023) → s.sigValue i = 0)

/-- STATED, 00_scope.md R706. For every integer a and positive b: b × round(a / b) lies within b / 2 of a, and where it lies exactly b / 2 away
it is the one farther from zero; floor(a / b) is the greatest integer not above a / b. -/
def Obligations.RoundingIsToNearest : Prop :=
  ∀ a b : Int, 0 < b →
    2 * (a - b * roundDiv a b).natAbs ≤ b ∧
    (2 * ((a - b * roundDiv a b).natAbs : Int) = b → a.natAbs < (b * roundDiv a b).natAbs) ∧
    b * (a / b) ≤ a ∧ (∀ n : Int, b * n ≤ a → n ≤ a / b)

/-- DERIVED, 00_scope.md R8, 12_dictionary.md R489. For every n and v, the n bytes of v are n in number, and the number they spell, least
significant byte first, is v modulo 256^n. -/
def Obligations.BytesLeastSignificantFirst : Prop :=
  ∀ n v : Nat, (leBytes n v).length = n ∧ ofLe (leBytes n v) = v % 256 ^ n

/-- DERIVED, 04_satellite_link.md R162. The model's CRC-16 gives 0x29B1 over the nine bytes 0x31 to 0x39. -/
def Obligations.CrcCheckValue : Prop :=
  crc16 [0x31, 0x32, 0x33, 0x34, 0x35, 0x36, 0x37, 0x38, 0x39] = 0x29B1

/-- DERIVED, 10_faults_watchdog_resets.md R413, 10_faults_watchdog_resets.md R416, 10_faults_watchdog_resets.md R447. For every source f, forced
or not, and every state in which the power plane, the collector's, runs: after the raise RAISES of f is one more, saturating at 32 bits,
LAST_RAISE_NS is the timebase, LAST_FORCED says whether the raise, or another of the same instant, was forced (a forced raise is the last of
its instant, R447), and the timebase is as it was. While the power plane is held in reset a raise changes nothing (the model's reading, log
entry 4). -/
def Obligations.RaiseCountsAndStamps : Prop :=
  ∀ (f : Fin 1024) (forced : Bool) (s : State),
    (s.ppRuns = true →
      (s.raiseAs f forced).rd (Reg.RAISES f) = satU 32 (s.rd (Reg.RAISES f) + 1) ∧
      (s.raiseAs f forced).rd (Reg.LAST_RAISE_NS f) = s.now ∧
      (s.raiseAs f forced).bit (flag (Reg.SRC_STATUS f) 2) = (forced || s.markedNow markForced f) ∧
      (s.raiseAs f forced).timebase = s.timebase) ∧
    (s.ppRuns = false → s.raiseAs f forced = s)

/-- STATED, 10_faults_watchdog_resets.md R423. While the watchdog runs, a write to the watchdog registers or PLANE_READY from a master other
than the deputy answers a next state in which WD_FOREIGN is one more and source 229 is raised, and nothing else has happened, before what
follows at once. -/
def Obligations.ForeignWriteIsCountedAndRaised : Prop :=
  ∀ t : State, t.on Reg.corePowered = true → t.on Reg.procReset = false → t.on Reg.ppReset = false →
    exec .foreignWrite t = .next ((t.inc16 Reg.WD_FOREIGN).raise 229).settle

/-- STATED, 10_faults_watchdog_resets.md R428. With p = P × 25 000 ticks and e the first tick of the backup RC at or after the write, counted
from the last service, for a write to WDT_SVC: with e at p or later it is not decided; else with a key other than 0x0000_D1A6, or with e
below p / 2, it is a violation (WD_VIOLATIONS and WD_RESETS increment, source 227 is raised and a processor reset with CAUSE 4 is
requested); else it is accepted: the ticks count from that tick and the watchdog is locked. Each answers a next state, and nothing else has
happened before what follows at once. A service that comes on the tick of the one write of WDT_PERIOD is judged with the period and the
ticks before it: where it is accepted, the write is a violation; else the service is one. That a write on a tick is decided on that tick is
the model's choice (log entry 51). -/
def Obligations.WatchdogServiceIsDecided : Prop :=
  ∀ (key : BitVec 32) (e : Int) (t : State), t.on Reg.corePowered = true → t.on Reg.procReset = false → t.on Reg.ppReset = false → e = ceilDiv t.wdAge 40 →
    (t.nowMark markWdPeriod 0 = none →
      (t.rd Reg.WD_PERIOD_MS * 25000 ≤ e → exec (.wdtSvc key e) t = .next t.settle) ∧
      (e < t.rd Reg.WD_PERIOD_MS * 25000 → key ≠ 0x0000D1A6 ∨ 2 * e < t.rd Reg.WD_PERIOD_MS * 25000 →
        exec (.wdtSvc key e) t = .next ((((t.inc16 Reg.WD_VIOLATIONS).inc16 Reg.WD_RESETS).raise 227).wantReset 4).settle) ∧
      (e < t.rd Reg.WD_PERIOD_MS * 25000 → key = 0x0000D1A6 → t.rd Reg.WD_PERIOD_MS * 25000 ≤ 2 * e →
        exec (.wdtSvc key e) t = .next ((t.wr Reg.wdNs (t.rd Reg.wdNs + 40 * e)).setFld wdLocked 1).settle)) ∧
    (∀ (period at0 d : Int) (u : State), t.nowMark markWdPeriod 0 = some period → t.nowMark markWdAt 0 = some at0 →
      u = (((t.wr Reg.WD_PERIOD_MS period).wr Reg.wdNs at0).wr Reg.wdPeriodWritten 0) → d = ceilDiv u.wdAge 40 →
      exec (.wdtSvc key e) t = .next (if key = 0x0000D1A6 ∧ u.rd Reg.WD_PERIOD_MS * 25000 ≤ 2 * d ∧ d < u.rd Reg.WD_PERIOD_MS * 25000
        then ((u.wr Reg.wdNs (u.rd Reg.wdNs + 40 * d)).setFld wdLocked 1).wdViolation else t.wdViolation).settle)

/-- STATED, 10_faults_watchdog_resets.md R429. A write to WDT_PERIOD that is the first since the reset, before an accepted service, and of a
value 8–512 sets P to it and counts the ticks from now; a second write, a write after the first accepted service, and a value outside 8–512
are violations. Each answers a next state, and nothing else has happened before what follows at once, but that the model notes the former
period for a service of the same tick. -/
def Obligations.WatchdogPeriodIsSetOnce : Prop :=
  ∀ (v : BitVec 32) (t : State), t.on Reg.corePowered = true → t.on Reg.procReset = false → t.on Reg.ppReset = false →
    (t.on Reg.wdPeriodWritten = false → t.bit wdLocked = false → 8 ≤ v.toNat → v.toNat ≤ 512 →
      ∃ u : State, exec (.wdtPeriod v) t = .next u.settle ∧ u.rd Reg.WD_PERIOD_MS = v.toNat ∧ u.rd Reg.wdNs = t.now ∧ u.wdTicks = 0 ∧
        u.rd Reg.wdPeriodWritten = 1 ∧ onlyChanges t { u with marks := t.marks, edgeAt := t.edgeAt } [Reg.WD_PERIOD_MS, Reg.wdNs, Reg.wdPeriodWritten]) ∧
    (t.on Reg.wdPeriodWritten = true ∨ t.bit wdLocked = true ∨ v.toNat < 8 ∨ 512 < v.toNat →
      exec (.wdtPeriod v) t = .next ((((t.inc16 Reg.WD_VIOLATIONS).inc16 Reg.WD_RESETS).raise 227).wantReset 4).settle)

/-- DERIVED, 10_faults_watchdog_resets.md R427, 10_faults_watchdog_resets.md R431. While the watchdog runs, its expiry, once P ms have passed
since the last service, answers a next state in which WD_RESETS is one more, source 226 is raised and a processor reset with CAUSE 0x03 is
requested; before that it changes nothing. A service with a wrong key before the expiry increments WD_VIOLATIONS and WD_RESETS, raises
source 227 and requests a processor reset with CAUSE 0x04. Nothing else has happened before what follows at once. -/
def Obligations.WatchdogExpiryResets : Prop :=
  ∀ t : State, t.on Reg.corePowered = true → t.on Reg.procReset = false → t.on Reg.ppReset = false →
    (t.rd Reg.WD_PERIOD_MS * 25000 ≤ t.wdTicks →
      exec .watchdogExpiry t = .next (((t.inc16 Reg.WD_RESETS).raise 226).wantReset 3).settle) ∧
    (t.wdTicks < t.rd Reg.WD_PERIOD_MS * 25000 → exec .watchdogExpiry t = .next t.settle) ∧
    (t.wdSvcTick < t.rd Reg.WD_PERIOD_MS * 25000 → t.nowMark markWdPeriod 0 = none → exec (.wdtSvc 0xD1A7 t.wdSvcTick) t = .next ((((t.inc16 Reg.WD_VIOLATIONS).inc16 Reg.WD_RESETS).raise 227).wantReset 4).settle)

/-- DERIVED, 10_faults_watchdog_resets.md R435, 12_dictionary.md R502, 12_dictionary.md R503. Outside the loader's recovery mode, for every
session level, value and state, the judgement of a write of RESET_CMD is the access abort code below level 2; else the value-range abort
code for a value other than 0x0C1D; else the state abort code in STARTING; else 0. -/
def Obligations.ResetCommandIsJudged : Prop :=
  ∀ (level : Fin 4) (v : BitVec 16) (t : State), t.bit updRecovery = false →
    (level < 2 → t.writeAbort level false 0x1F19 1 2 v.toNat = 0x0203) ∧
    (2 ≤ level → v ≠ 0x0C1D → t.writeAbort level false 0x1F19 1 2 v.toNat = 0x0401) ∧
    (2 ≤ level → v = 0x0C1D → t.rdN Reg.STATE = 2 → t.writeAbort level false 0x1F19 1 2 v.toNat = 0x0501) ∧
    (2 ≤ level → v = 0x0C1D → t.rdN Reg.STATE ≠ 2 → t.writeAbort level false 0x1F19 1 2 v.toNat = 0)

/-- DERIVED, 09_sequencing_and_states.md R379, 12_dictionary.md R502, 12_dictionary.md R503. Outside the loader's recovery mode, for every
session of level 1 or above, value and state, the judgement of a write of STATE_CMD is the value-range abort code for 0x2 or a value above
0x6; else the state abort code in STARTING; else 0. -/
def Obligations.StateCommandIsJudged : Prop :=
  ∀ (level : Fin 4) (v : BitVec 8) (t : State), t.bit updRecovery = false → 1 ≤ level →
    (v = 2 ∨ 6 < v.toNat → t.writeAbort level false 0x1010 1 1 v.toNat = 0x0401) ∧
    (v ≠ 2 → v.toNat ≤ 6 → t.rdN Reg.STATE = 2 → t.writeAbort level false 0x1010 1 1 v.toNat = 0x0501) ∧
    (v ≠ 2 → v.toNat ≤ 6 → t.rdN Reg.STATE ≠ 2 → t.writeAbort level false 0x1010 1 1 v.toNat = 0)

/-- DERIVED, 12_dictionary.md R504, 12_dictionary.md R535, 09_sequencing_and_states.md R379, 05_ring_and_holdup.md R251,
14_images_and_security.md R606. For every register, value, session level and state of a running processor plane: a write command that the
checks of R502 do not pass answers a next state in which only the counters of aborts, of state aborts and of rejected state commands may
differ, before what follows at once. Two commands have one more effect: a close of a ring port that OPEN_PORT opened at this instant leaves
the port's status as R251 says, and an install whose header is rejected reports that fault (imgFails). -/
def Obligations.RefusedWriteHasNoSideEffect : Prop :=
  ∀ (level idx sub : Nat) (v : Int) (t : State), t.procRuns = true → t.accepts level idx sub v = false →
    ∃ u : State, t.hostWrite level idx sub v = .next u.settle ∧
      (odKey idx sub ≠ Reg.RP_CMD 0 → odKey idx sub ≠ Reg.RP_CMD 1 → odKey idx sub ≠ Reg.UPD_CMD →
        onlyChanges t u [Reg.Cnt_ABORTS, Reg.STATE_ABORTS, Reg.STATE_REJECTS]) ∧
      (∀ p : Fin 2, odKey idx sub = Reg.RP_CMD p →
        (t.markedNow markReactOpen p = false → onlyChanges t u [Reg.Cnt_ABORTS, Reg.STATE_ABORTS, Reg.STATE_REJECTS]) ∧
        onlyChanges t u [(rpState p).key, Reg.Cnt_ABORTS, Reg.STATE_ABORTS, Reg.STATE_REJECTS]) ∧
      (odKey idx sub = Reg.UPD_CMD →
        onlyChanges t u [Reg.Cnt_ABORTS, Reg.STATE_ABORTS, Reg.STATE_REJECTS] ∨
        onlyChanges (t.imgFails (t.headerFault (t.blob Reg.CARD_HEADER) true)) u [Reg.Cnt_ABORTS, Reg.STATE_ABORTS, Reg.STATE_REJECTS])

/-- DERIVED, 12_dictionary.md R490, 12_dictionary.md R502, 12_dictionary.md R503. For every state and write: where the object or the sub-index
is not implemented, the judgement is that abort code; a write to an RO or CONST sub-index has the mode abort code; else a session below the
write level has the access abort code; else a value whose length does not match the type has the type abort code. -/
def Obligations.WriteChecksInOrder : Prop :=
  ∀ (s : State) (level idx sub len raw : Nat),
    (∀ e, findRow idx sub = .error e → s.writeAbort level false idx sub len raw = e) ∧
    (∀ row, findRow idx sub = .ok row → row.acc = .ro ∨ row.acc = .const → s.writeAbort level false idx sub len raw = 0x0303) ∧
    (∀ row, findRow idx sub = .ok row → row.acc ≠ .ro → row.acc ≠ .const → row.ty ≠ .domain → row.ty ≠ .string →
      level < s.writeLevel false idx sub row (s.rd (odKey idx sub)) (tyDecode row.ty raw) →
      s.writeAbort level false idx sub len raw = 0x0203) ∧
    (∀ row, findRow idx sub = .ok row → row.acc ≠ .ro → row.acc ≠ .const → row.ty ≠ .domain → row.ty ≠ .string →
      s.writeLevel false idx sub row (s.rd (odKey idx sub)) (tyDecode row.ty raw) ≤ level → len ≠ tyBytes row.ty →
      s.writeAbort level false idx sub len raw = 0x0304)

/-- DERIVED, 01_architecture.md R34, 10_faults_watchdog_resets.md R440. For every state, cause, core power and wake: after a cold reset the
timebase is 0, no reaction, no session, no transfer, no outstanding request and no announced load step is left, and the commands waiting are
as they were. -/
def Obligations.ColdResetRestartsTheTimebase : Prop :=
  ∀ (s : State) (cause : Nat) (powered : Bool) (wake : Option (Nat × Nat)),
    (s.coldReset cause powered wake).timebase = 0 ∧ (s.coldReset cause powered wake).reactions = [] ∧
    (s.coldReset cause powered wake).sessions = [] ∧ (s.coldReset cause powered wake).transfers = [] ∧
    (s.coldReset cause powered wake).asks = [] ∧ (s.coldReset cause powered wake).anns = [] ∧
    (s.coldReset cause powered wake).pending = s.pending

/-- STATED, 02_converter_core.md R79. While the power plane runs, for every rail, sensed voltage and state: above the reference less half of
PILEIN_PERMILLE (the reference is the DAC code × 4000 / SENSE_GAIN in tenths of mV at the output), the command answers a next state in which
PILEIN of the rail's STATUS is 0 and a further pile-in is armed, and nothing else has changed; at or below it nothing changes, before what
follows at once. -/
def Obligations.PileInRearms : Prop :=
  ∀ (r : Fin 4) (vMv : Int) (t : State), t.ppRuns = true →
    (t.rd (Reg.rlDac r) * 4000 * (2000 - t.rd (Reg.PILEIN_PERMILLE r)) < vMv * t.rd (Reg.SENSE_GAIN r) * 2000 →
      exec (.pileInRearm r vMv) t = .next ((t.setFld (rlPilein r) 0).wr (Reg.rlPileArmed r) 1).settle) ∧
    (vMv * t.rd (Reg.SENSE_GAIN r) * 2000 ≤ t.rd (Reg.rlDac r) * 4000 * (2000 - t.rd (Reg.PILEIN_PERMILLE r)) →
      exec (.pileInRearm r vMv) t = .next t.settle)

/-- DERIVED, 05_ring_and_holdup.md R204, 05_ring_and_holdup.md R205, 05_ring_and_holdup.md R206, 05_ring_and_holdup.md R223, 01_architecture.md
R25. While the core has power, in a power-plane reset too, for a port in CLOSED and every voltage at its shunt: with ENABLE and PILOT_EN at
1, the far-end pilot qualified and PILOT_STUCK at 0, an outward voltage above ISO_DIR_MA × SHUNT_UOHM trips it with CAUSE 0x1; one above
ISO_MAX_MA × SHUNT_UOHM trips it with CAUSE 0x2 whatever the pilot shows; with INW_EN at 1 an inward one above ISO_IN_MA × SHUNT_UOHM trips
it with CAUSE 0x3. Each answers a next state, that of the trip, and below its limit each changes nothing. That the current has stayed there
for 2 µs is what the commands of CAUSE 2 and 3 say (log entry 9). -/
def Obligations.RingPortTrips : Prop :=
  ∀ (p : Fin 2) (uv : Int) (t : State), t.on Reg.corePowered = true → t.rpSt p = 2 →
    (t.rd (Reg.ISO_DIR_MA p) * t.rd (Reg.Ring_SHUNT_UOHM p) < uv * 1000 → t.bit (Bit.RP_CTRL_ENABLE p) = true →
      t.bit (Bit.RP_CTRL_PILOT_EN p) = true → t.bit (rpPilotIn p) = true → t.bit (rpPilotStuck p) = false →
      exec (.directionalTrip p uv) t = .next (t.rpTripNow p 1).settle) ∧
    (t.rd (Reg.ISO_MAX_MA p) * t.rd (Reg.Ring_SHUNT_UOHM p) < uv * 1000 → exec (.backupOutwardTrip p uv) t = .next (t.rpTripNow p 2).settle) ∧
    (t.bit (Bit.RP_CTRL_INW_EN p) = true → t.rd (Reg.ISO_IN_MA p) * t.rd (Reg.Ring_SHUNT_UOHM p) < -uv * 1000 →
      exec (.inwardTrip p uv) t = .next (t.rpTripNow p 3).settle) ∧
    (uv * 1000 ≤ t.rd (Reg.ISO_DIR_MA p) * t.rd (Reg.Ring_SHUNT_UOHM p) → exec (.directionalTrip p uv) t = .next t.settle) ∧
    (uv * 1000 ≤ t.rd (Reg.ISO_MAX_MA p) * t.rd (Reg.Ring_SHUNT_UOHM p) → exec (.backupOutwardTrip p uv) t = .next t.settle) ∧
    (-uv * 1000 ≤ t.rd (Reg.ISO_IN_MA p) * t.rd (Reg.Ring_SHUNT_UOHM p) → exec (.inwardTrip p uv) t = .next t.settle)

/-- DERIVED, 13_links.md R540. While the processor plane and the 10BASE-T1S port run with PLCA_EN at 1: for a follower, 1 ms without a BEACON
answers a next state in which PLCA_ACTIVE is 0 and source 233 is raised, and a loss already taken raises no more; a BEACON answers one in
which PLCA_ACTIVE is 1 and the 1 ms counts anew. Nothing else has changed before what follows at once. That one loss raises once is the
model's reading (log entry 102). -/
def Obligations.BeaconLossFallsBack : Prop :=
  ∀ t : State, t.procRuns = true → t.portRuns 1 = true → t.bit (flag Reg.T1S_CTRL 1) = true →
    (t.on Reg.PLCA_NODE_ID = true → t.on Reg.beaconOut = false → t.rd Reg.beaconNs + 1000000 ≤ t.now →
      exec .beaconLoss t = .next (((t.setFld t1sActive 0).wr Reg.beaconOut 1).raise 233).settle) ∧
    (t.on Reg.beaconOut = true ∨ t.now < t.rd Reg.beaconNs + 1000000 → exec .beaconLoss t = .next t.settle) ∧
    exec .beaconReceived t = .next (((t.setFld t1sActive 1).wr Reg.beaconNs t.now).wr Reg.beaconOut 0).settle

/-- DERIVED, 07_loop_engine.md R297. When a trigger arrives for a lane whose previous frame is still running, the lane starts no frame: OVERRUNS
is one more, source 384 + lane is raised and the frame number advances, and nothing else has happened; the running frame goes on under its
own number (lnRunFrame). -/
def Obligations.TriggerDuringAFrameIsAnOverrun : Prop :=
  ∀ (t : State) (l : Fin 2) (number : Int), ((t.wr (Reg.lnFrameNo l) number).wr (Reg.FRAME_NO l) (number % 2 ^ 32)).frameRuns l = true →
    t.laneTrigger l number =
      ((((t.wr (Reg.lnFrameNo l) number).wr (Reg.FRAME_NO l) (number % 2 ^ 32)).inc32 (Reg.OVERRUNS l)).raise (384 + l))

/-- DERIVED, 07_loop_engine.md R296, 07_loop_engine.md R308, 07_loop_engine.md R309. What the fetches of a run find is named with the start of
the run, digit by digit (log entry 60). While a run is in progress in a lane: where no error is left to find, a fetch changes nothing; a
single-bit error makes ECC_CORRECTED one more, and the run goes on; at an uncorrectable error the run ends at once, the lane's buffered
writes are dropped, what the run has done is reported (runEnd: SLOT_STATUS, CYC_LAST, SAT_COUNT and the source of a RAISE), the slot stops
with STOP_CAUSE 0b10, its actuator points take their safe values and source 386 is raised. The run of a slot that is due begins with its
first fetch. -/
def Obligations.FetchesAreChecked : Prop :=
  ∀ (l : Fin 2) (j : Fin 128) (t : State),
    (t.rd (Reg.lnEcc l) = 0 → t.fetch l = t) ∧
    (t.rd (Reg.lnSlot l) = (j.val : Int) + 1 → t.rdN (Reg.lnEcc l) % 3 = 1 →
      t.fetch l = (t.wr (Reg.lnEcc l) (t.rd (Reg.lnEcc l) / 3)).inc32 Reg.ECC_CORRECTED) ∧
    (∀ u v : State, t.rd (Reg.lnSlot l) = (j.val : Int) + 1 → t.rdN (Reg.lnEcc l) % 3 = 2 → u = t.wr (Reg.lnEcc l) (t.rd (Reg.lnEcc l) / 3) →
      v = (((u.wr (Reg.lnSlot (j / 64)) 0).loopDrop (j / 64)).runEnd j (u.on (Reg.slFeDue j))).slotStop j 2 →
      t.fetch l = (v.actSafe (v.ownPoints j)).raise 386) ∧
    (∀ ecc : List (Fin 3), t.ppRuns = true → t.slotDue j = true →
      exec (.slotStart j ecc) t = .next (((t.slotBegin j).wr (Reg.lnEcc (j / 64)) (eccDigits ecc : Nat)).fetch (j / 64)).settle)

/-- DERIVED, 01_architecture.md R21, 01_architecture.md R25, 08_sensing_and_thermal.md R368. While the power plane does not run, a command of
its converters, load channels, satellites, ring ports, tally, loop engine, winder, sensing, sequencer, signal streams and share link answers
the state as it is. One command of each block is named; that a held block ignores its commands is the model's reading (log entry 4). -/
def Obligations.PowerPlaneHeldInReset : Prop :=
  ∀ t : State, t.ppRuns = false →
    exec (.railTrigger 3 500 0) t = .next t ∧
    exec (.onTimeEnd 15 0) t = .next t ∧
    exec (.leadExpiry 511) t = .next t ∧
    exec (.roundStart 3) t = .next t ∧
    exec (.prechargeQualified 1 0 0) t = .next t ∧
    exec (.tallyEvaluation) t = .next t ∧
    exec (.nop 1) t = .next t ∧
    exec (.winderStep) t = .next t ∧
    exec (.conversionResult ⟨5, none⟩ 95 100) t = .next t ∧
    exec (.nodePowerGood 63 ⟨true, 0⟩) t = .next t ∧
    exec (.streamSample 63) t = .next t ∧
    exec (.syncSend) t = .next t

/-- DERIVED, 01_architecture.md R26, 10_faults_watchdog_resets.md R433. While the processor plane does not run, a command of its broadcasts,
galleries, links, card, sessions, and a write command through the plane bridge answers the state as it is. One command of each block is
named; that a held block ignores its commands is the model's reading (log entry 4). -/
def Obligations.ProcessorPlaneHeldInHold : Prop :=
  ∀ t : State, t.procRuns = false →
    exec (.ifwBroadcast) t = .next t ∧
    exec (.blockRelease 63) t = .next t ∧
    exec (.pduReceive 8 []) t = .next t ∧
    exec (.frameReceive 3 0 [] true) t = .next t ∧
    exec (.readStatus 16) t = .next t ∧
    exec (.inFifo 2 []) t = .next t ∧
    exec (.cardRemoval) t = .next t ∧
    exec (.sessionIdle 62) t = .next t ∧
    exec (.cfgDefaults 3) t = .next t ∧
    exec (.stateCmdRun 3) t = .next t ∧
    exec (.sourceForce 3 1023) t = .next t

/-- STATED, 12_dictionary.md R525. For a running processor plane that takes PDUs, with a non-zero own address: an ASSIGN, an IFW broadcast, a
LOAN request, renewal, return or response and a request of any service, each with the own address as SRC, answers a next state in which
RX_PDUS and ADDR_CLASH are one more and CLASH is 1, and nothing else has happened before what follows at once. That the PDU counts among
those received is the model's reading (log entry 46). -/
def Obligations.OwnAddressIsAClash : Prop :=
  ∀ (src : Fin 63) (port : Fin 9) (level : Fin 4) (tid id idx : BitVec 16) (sub addr : BitVec 8) (unit time : BitVec 64) (mw : BitVec 32)
    (op status : Fin 256) (own : Fin 64) (t u : State), t.procRuns = true → t.dengonUp = true → t.ownAddr = src → t.ownAddr ≠ 0 → own.val = src →
    u = ((t.inc32 Reg.RX_PDUS).inc32 Reg.ADDR_CLASH).setFld Bit.DG_CTRL_CLASH 1 →
    exec (.assign src port tid unit addr) t = .next u.settle ∧ exec (.ifwBroadcastReceive own status time) t = .next u.settle ∧
    exec (.loanRequestReceived src tid id mw) t = .next u.settle ∧ exec (.loanRenewReceived src tid id mw) t = .next u.settle ∧
    exec (.loanReturnReceived src tid id mw) t = .next u.settle ∧ exec (.loanResponseReceived src op id mw) t = .next u.settle ∧
    exec (.read src port level tid idx sub) t = .next u.settle

/-- DERIVED, 02_converter_core.md, 02_converter_core.md R48, 02_converter_core.md R50, 02_converter_core.md R75, 02_converter_core.md R88,
02_converter_core.md R54, 02_converter_core.md R100, 02_converter_core.md R101, 02_converter_core.md R53, 02_converter_core.md R58. For each
of the commands RAIL_TRIGGER, ON_TIME_END, FREQUENCY_LOCK_TRIM, ON_TIME_CLAMP, VSEL_CODE_TAKEN, PHASE_SHED, PHASE_ADD, SHED_ROTATION,
BURST_ENTRY, for every state and operands that meet the conditions named (the plane runs, and what the command's own rule asks of the state
and the operands alone), exec answers a next state: the effect that the rule gives, followed by what follows at once (settle). A write
command is accepted by the checks of R502; u is the state with the register written, and the tests of the unit it names are served. Where a
command has several effects, one clause stands for each. -/
def Obligations.RailTriggerCommandsComplete : Prop :=
    -- RAIL_TRIGGER: R48–R50, R75, R88: sensed output voltage, and the current of the phase next in order.
    (∀ (r : Fin 4) (vMv iMa : Int) (p : Nat) (v u : State) (t : State),
      t.ppRuns = true → v = (t.remoteGates r).wrB (Reg.rlAboveOvs r) ((t.remoteGates r).overshoots r vMv) → v.switching r = true → v.bit (rlBraking r) = false → v.on (Reg.rlAboveOvs r) = false → (v.on (Reg.rlTrigNs r) && !v.since (v.rd (Reg.rlTrigNs r) - 1) 20) = false → u = (v.wr (Reg.rlTrigNs r) (v.now + 1)).wr (Reg.rlTrigs r) (min 64 (v.rd (Reg.rlTrigs r) + 1)) → u.nextPhase r = some p → u.railSt r ≠ 3 →
      exec (.railTrigger r vMv iMa) t = .next (u.askTurnOn r p 1 iMa).settle) ∧
    -- RAIL_TRIGGER: R48–R50, R75, R88: sensed output voltage, and the current of the phase next in order.
    (∀ (r : Fin 4) (vMv iMa : Int) (p : Nat) (v u : State) (t : State),
      t.ppRuns = true → v = (t.remoteGates r).wrB (Reg.rlAboveOvs r) ((t.remoteGates r).overshoots r vMv) → v.switching r = true → v.bit (rlBraking r) = false → v.on (Reg.rlAboveOvs r) = false → (v.on (Reg.rlTrigNs r) && !v.since (v.rd (Reg.rlTrigNs r) - 1) 20) = false → u = (v.wr (Reg.rlTrigNs r) (v.now + 1)).wr (Reg.rlTrigs r) (min 64 (v.rd (Reg.rlTrigs r) + 1)) → u.nextPhase r = some p → u.railSt r = 3 → u.on (Reg.rlBurstLeft r) = false → u.rd (Reg.phPwm p) ≠ 1 →
      exec (.railTrigger r vMv iMa) t = .next ((u.wr (Reg.rlBurstLeft r) (u.fld (Bit.LL_CTRL_BURST_PULSES r) + 1 : Nat)).askTurnOn r p 1 iMa).settle) ∧
    -- ON_TIME_END: R54, R75, R100, R101: the on-time of a phase ends, its taps of 156.25 ps over; or the rise of a truncated one is known.
    (∀ (p : Fin 16) (riseMa : Int) (r : Nat) (u : State) (t : State),
      t.ppRuns = true → r = t.fld (Bit.PHASE_CTRL_RAIL p) → t.rd (Reg.phPwm p) = 1 → t.since (t.rd (Reg.phOnNs p)) (t.rd (Reg.phTaps p) * 5 / 32) = true → u = t.compareRise r p (t.rd (Reg.phTaps p)) riseMa → u.bit (phActive p) = true → u.bit (rlBraking r) = false → u.railSt r ≠ 3 →
      exec (.onTimeEnd p riseMa) t = .next (u.toLow p).settle) ∧
    -- ON_TIME_END: R54, R75, R100, R101: the on-time of a phase ends, its taps of 156.25 ps over; or the rise of a truncated one is known.
    (∀ (p : Fin 16) (riseMa : Int) (t : State),
      t.ppRuns = true → t.rd (Reg.phPwm p) ≠ 1 → t.on (Reg.phCmp p) = true →
      exec (.onTimeEnd p riseMa) t = .next ((t.compareRise (t.fld (Bit.PHASE_CTRL_RAIL p)) p (t.rd (Reg.phCmp p)) riseMa).wr (Reg.phCmp p) 0).settle) ∧
    -- FREQUENCY_LOCK_TRIM: R53: after 64 triggers the factor is trimmed; the spec gives its range only, so that the new factor is a free value.
    (∀ (r : Fin 4) (t : State),
      t.ppRuns = true → t.rd (Reg.rlTrigs r) = 64 →
      exec (.frequencyLockTrim r) t = .next (((t.wr (Reg.rlLock r) (750000 + t.free % 500001)).wr (Reg.rlTrigs r) 0).used).settle) ∧
    -- ON_TIME_CLAMP: R54: the on-time has been at a limit for 1 ms.
    (∀ (r : Fin 4) (t : State),
      t.ppRuns = true → t.switching r = true → ((t.active r).any fun p => decide (t.onTaps r p = 128) || decide (t.onTaps r p = t.upperTaps r)) = true → t.on (Reg.rlClampRun r) = false →
      exec (.onTimeClamp r) t = .next ((t.wr (Reg.rlClampRun r) 1).raise (64 + r)).settle) ∧
    -- VSEL_CODE_TAKEN: R58–R61: a code has been held on VSELr[2:0] for VSEL_FILT_US.
    (∀ (r : Fin 4) (code : Fin 8) (t : State),
      t.ppRuns = true → t.bit (Bit.RAIL_CTRL_SOFT_VSEL r) = false → (t.wr (Reg.VSEL_PINS r) (code.val : Int)).rdN (Reg.rlSelIdx r) ≠ code → (t.wr (Reg.VSEL_PINS r) (code.val : Int)).bit (Bit.RAIL_CTRL_SOFT_VSEL r) = false →
      exec (.vselCodeTaken r code) t = .next ((t.wr (Reg.VSEL_PINS r) (code.val : Int)).selectPoint r code).settle) ∧
    -- PHASE_SHED: R71, R73, R85: the per-phase current has stayed below SHED_MA for SHED_DWELL_US (log entry 73: DEDUCED).
    (∀ (r : Fin 4) (t : State),
      t.ppRuns = true → t.bit (Bit.LL_CTRL_SHED_EN r) = true → t.railSt r = 2 → t.fld (Bit.LL_CTRL_MIN_PHASES r) + 1 < (t.active r).length → t.perPhaseBelow r (t.rd (Reg.SHED_MA r)) = true → t.lightHeld r = false → t.rd (Reg.rlDwell r) ≤ t.now →
      exec (.phaseShed r) t = .next (t.shedPhase r).settle) ∧
    -- PHASE_ADD: R72: the per-phase current exceeds ADD_MA; a further phase is added 10 µs later.
    (∀ (r : Fin 4) (t : State),
      t.ppRuns = true → t.switching r = true → t.rd (Reg.ADD_MA r) * ((t.active r).length : Int) < t.rd (Reg.IOUT_MA r) → (t.on (Reg.rlAddNs r) = false ∨ t.since (t.rd (Reg.rlAddNs r) - 1) 10000 = true) →
      exec (.phaseAdd r) t = .next (((t.shedUndo r).addPhase r).wr (Reg.rlAddNs r) (t.now + 1)).settle) ∧
    -- SHED_ROTATION: R73: ROT_MS has passed.
    (∀ (r : Fin 4) (t : State),
      t.ppRuns = true → t.bit (Bit.LL_CTRL_ROT_EN r) = true → t.someShed r = true → t.since (t.rd (Reg.rlRotNs r)) (t.rd Reg.ROT_MS * 1000000) = true →
      exec (.shedRotation r) t = .next ((t.wr (Reg.rlShedOfs r) ((t.rd (Reg.rlShedOfs r) + 1) % 16)).wr (Reg.rlRotNs r) t.now).settle) ∧
    -- BURST_ENTRY: R74, R85: with one phase active the current has stayed below BURST_ENTRY_MA for 1 ms; a SHARED rail does not burst (06_tally_and_sharing.md R287) (log entry 73: DEDUCED).
    (∀ (r : Fin 4) (t : State),
      t.ppRuns = true → t.railSt r = 2 → (t.active r).length = 1 → t.bit (Bit.LL_CTRL_BURST_EN r) = true → t.shared r = false → t.on (Reg.rlLowNs r) = true → t.since (t.rd (Reg.rlLowNs r) - 1) 1000000 = true → t.lightHeld r = false →
      exec (.burstEntry r) t = .next (forAll (t.active r) (fun p u => (u.wr (Reg.phDue p) 0).when (decide (u.rd (Reg.phPwm p) ≠ 1)) fun v => v.toMid p) ((t.railTo r 3).wr (Reg.rlBurstLeft r) 0)).settle)

/-- DERIVED, 02_converter_core.md, 02_converter_core.md R75, 02_converter_core.md R76, 02_converter_core.md R78, 02_converter_core.md R88,
02_converter_core.md R79, 02_converter_core.md R80, 02_converter_core.md R81, 02_converter_core.md R83, 02_converter_core.md R89. For each
of the commands BURST_REFRESH, BURST_EXIT, PILE_IN, PILE_IN_REARM, OVERSHOOT_TRUNCATION, BRAKING_END, OFFSET_DECAY_END, VALLEY_LIMIT,
HICCUP_ENTRY, SOFT_RETRY, FAST_SHORT_CIRCUIT, PHASE_ZERO_CROSSING, SLOW_OVERLOAD, DEGRADE_HOLD_EXPIRY, LIMIT_EXIT, PHASE_OPEN_DETECT,
PHASE_SENSE_RANGE, PHASE_CAGE_REQ, for every state and operands that meet the conditions named (the plane runs, and what the command's own
rule asks of the state and the operands alone), exec answers a next state: the effect that the rule gives, followed by what follows at once
(settle). A write command is accepted by the checks of R502; u is the state with the register written, and the tests of the unit it names
are served. Where a command has several effects, one clause stands for each. -/
def Obligations.RailProtectionCommandsComplete : Prop :=
    -- BURST_REFRESH: R75: no trigger for SLEEP_MAX_US.
    (∀ (r : Fin 4) (vMv iMa : Int) (t : State),
      t.ppRuns = true → t.railSt r = 3 → (t.on (Reg.rlTrigNs r) = false ∨ t.since (t.rd (Reg.rlTrigNs r) - 1) (t.rd (Reg.SLEEP_MAX_US r) * 1000) = true) →
      exec (.burstRefresh r vMv iMa) t = .next (t.trigger r vMv iMa).settle) ∧
    -- BURST_EXIT: R76: the current exceeds BURST_EXIT_MA.
    (∀ (r : Fin 4) (t : State),
      t.ppRuns = true → t.railSt r = 3 → t.rd (Reg.BURST_EXIT_MA r) < t.rd (Reg.IOUT_MA r) →
      exec (.burstExit r) t = .next (t.burstEnds r).settle) ∧
    -- PILE_IN: R76–R78, R88: an undershoot; `above`: the phases whose current is above their valley limit (log entry 72: DESIGN CHOICE).
    (∀ (r : Fin 4) (vMv : Int) (above : List (Fin 16)) (u v : State) (t : State),
      t.ppRuns = true → t.switching r = true → t.bit (Bit.RAIL_CTRL_PILEIN_EN r) = true → t.on (Reg.rlPileArmed r) = true → t.belowRef r vMv (-2 * t.rd (Reg.PILEIN_PERMILLE r)) = true → u = (t.burstEnds r).wr (Reg.rlAboveOvs r) 0 → v = forAll (u.usable r) (fun p x => if ((x.activate p).wrB (Reg.phAbove p) (above.any fun q => q.val = p)).rd (Reg.phPwm p) = 1 then (x.activate p).wrB (Reg.phAbove p) (above.any fun q => q.val = p) else (((x.activate p).wrB (Reg.phAbove p) (above.any fun q => q.val = p)).wr (Reg.phDue p) 2).turnOn r p) (((u.brakeEnds r).setFld (rlPilein r) 1).wr (Reg.rlPileArmed r) 0) →
      exec (.pileIn r vMv above) t = .next ((v.wr (Reg.rlLastOrder r) ((((mostBy (fun p => t.fld (Bit.PHASE_CTRL_ORDER p)) (u.usable r)).map fun p => t.fld (Bit.PHASE_CTRL_ORDER p)).getD 0 + 1 : Nat) : Int)).wr (Reg.rlDwell r) (t.now + t.rd Reg.SHED_DWELL_US * 1000)).settle) ∧
    -- PILE_IN_REARM: R79: the sensed voltage is above the reference less half of PILEIN_PERMILLE.
    (∀ (r : Fin 4) (vMv : Int) (t : State),
      t.ppRuns = true → t.aboveRef r vMv (-t.rd (Reg.PILEIN_PERMILLE r)) = true →
      exec (.pileInRearm r vMv) t = .next ((t.setFld (rlPilein r) 0).wr (Reg.rlPileArmed r) 1).settle) ∧
    -- OVERSHOOT_TRUNCATION: R80, R81: an overshoot.
    (∀ (r : Fin 4) (vMv : Int) (t : State),
      t.ppRuns = true → t.switching r = true → t.overshoots r vMv = true → t.fld (Bit.RAIL_CTRL_OVS_MODE r) = 1 →
      exec (.overshootTruncation r vMv) t = .next ((forAll (t.phasesOf r) (fun p v => v.truncate p true) (t.wr (Reg.rlAboveOvs r) 1)).setFld (rlBraking r) 1).settle) ∧
    -- OVERSHOOT_TRUNCATION: R80, R81: an overshoot.
    (∀ (r : Fin 4) (vMv : Int) (t : State),
      t.ppRuns = true → t.switching r = true → t.overshoots r vMv = true → t.fld (Bit.RAIL_CTRL_OVS_MODE r) ≠ 1 →
      exec (.overshootTruncation r vMv) t = .next (forAll (t.phasesOf r) (fun p v => v.truncate p false) (t.wr (Reg.rlAboveOvs r) 1)).settle) ∧
    -- BRAKING_END: R80, R81: the sensed voltage is below the reference plus half of OVS_PERMILLE.
    (∀ (r : Fin 4) (vMv : Int) (t : State),
      t.ppRuns = true → t.belowRef r vMv (t.rd (Reg.OVS_PERMILLE r)) = true →
      exec (.brakingEnd r vMv) t = .next (((t.brakeEnds r).wr (Reg.rlAboveOvs r) 0).turnOns r).settle) ∧
    -- OFFSET_DECAY_END: R83: the decayed announcements of the rail end (log entry 72: DESIGN CHOICE).
    (∀ (r : Fin 4) (t : State),
      t.ppRuns = true →
      exec (.offsetDecayEnd r) t = .next (((t.remoteGates r).removeAnns fun a => a.rail = r && a.opened && decide (a.start + a.spanNs ≤ t.timebase)).ffActive r).settle) ∧
    -- VALLEY_LIMIT: R88, R89, R98: the current of a phase whose turn-on is due is above its valley limit, so that it waits; or it has fallen below, and the turn-on that waits takes place (log entry 71: DEDUCED).
    (∀ (p : Fin 16) (iMa : Int) (r : Nat) (t : State),
      t.ppRuns = true → r = t.fld (Bit.PHASE_CTRL_RAIL p) → t.switching r = true → (t.active r).contains p.val = true → t.rd (Reg.phPwm p) ≠ 1 → t.valleyLimit r p < iMa →
      exec (.valleyLimit p iMa) t = .next (((t.wr (Reg.phAbove p) 1).when (decide (t.rd (Reg.phDue p) = 0)) fun u => u.wr (Reg.phDue p) 1).valleyWait r p).settle) ∧
    -- VALLEY_LIMIT: R88, R89, R98: the current of a phase whose turn-on is due is above its valley limit, so that it waits; or it has fallen below, and the turn-on that waits takes place (log entry 71: DEDUCED).
    (∀ (p : Fin 16) (iMa : Int) (r : Nat) (t : State),
      t.ppRuns = true → r = t.fld (Bit.PHASE_CTRL_RAIL p) → t.switching r = true → (t.active r).contains p.val = true → t.rd (Reg.phPwm p) ≠ 1 → iMa ≤ t.valleyLimit r p →
      exec (.valleyLimit p iMa) t = .next ((t.wr (Reg.phAbove p) 0).turnOn r p).settle) ∧
    -- HICCUP_ENTRY: R89, R90, R98: HICCUP_N consecutive valley-limited cycles of a phase; a cage of that phase on this edge does not hold it back (R108).
    (∀ (r : Fin 4) (t : State),
      t.ppRuns = true → t.hiccupDue r = true →
      exec (.hiccupEntry r) t = .next (t.railHiccup r false).settle) ∧
    -- SOFT_RETRY: R91: HICCUP_OFF_MS has passed.
    (∀ (r : Fin 4) (t : State),
      t.ppRuns = true → t.railSt r = 5 → t.since (t.rd (Reg.rlStNs r)) (t.rd (Reg.HICCUP_OFF_MS r) * 1000000) = true →
      exec (.softRetry r) t = .next (t.softRetry r).settle) ∧
    -- FAST_SHORT_CIRCUIT: R92–R94: a phase current above ISC_MA; on the edge of an entry to HICCUP the short path acts, and HICCUP is entered once, and a cage of that edge does not hold it back (R108).
    (∀ (p : Fin 16) (iMa : Int) (r : Nat) (t : State),
      t.ppRuns = true → r = t.fld (Bit.PHASE_CTRL_RAIL p) → (t.usable r).contains p.val = true → t.rd (Reg.Phase_ISC_MA p) < iMa → t.switching r = true →
      exec (.fastShortCircuit p iMa) t = .next (((t.raise (32 + p)).railHiccup r false).shortLow r).settle) ∧
    -- PHASE_ZERO_CROSSING: R64–R66, R75, R93: the phase's current is at or below zero (`crossed`), or 2 µs have passed since a short drove it low: it goes to mid after a short, and where diode emulation is in force.
    (∀ (p : Fin 16) (crossed : Bool) (t : State),
      t.ppRuns = true → t.on (Reg.phZeroWait p) = true → (crossed || t.since (t.rd (Reg.phOffNs p) - 1) 2000) = true →
      exec (.phaseZeroCrossing ⟨p, crossed⟩) t = .next (t.toMid p).settle) ∧
    -- PHASE_ZERO_CROSSING: R64–R66, R75, R93: the phase's current is at or below zero (`crossed`), or 2 µs have passed since a short drove it low: it goes to mid after a short, and where diode emulation is in force.
    (∀ (p : Fin 16) (t : State),
      t.ppRuns = true → t.on (Reg.phZeroWait p) = false → t.bit (Bit.PHASE_CTRL_ASSIGNED p) = true → t.rd (Reg.phPwm p) = 2 → t.deInForce (t.fld (Bit.PHASE_CTRL_RAIL p)) = true →
      exec (.phaseZeroCrossing ⟨p, true⟩) t = .next (t.toMid p).settle) ∧
    -- SLOW_OVERLOAD: R95–R97: the average of the rail's current exceeds OVL_LIMIT_MA (log entry 73: DEDUCED) (log entry 117: DESIGN CHOICE).
    (∀ (r : Fin 4) (u : State) (t : State),
      t.ppRuns = true → t.switching r = true → t.avgAbove r = true → t.on (Reg.rlOvlAbove r) = false → u = (t.wr (Reg.rlOvlAbove r) 1).raise (52 + r) → u.railSt r ≠ 4 →
      exec (.slowOverload r (t.avgMa r)) t = .next (u.enterLimit r).settle) ∧
    -- SLOW_OVERLOAD: R95–R97: the average of the rail's current exceeds OVL_LIMIT_MA (log entry 73: DEDUCED) (log entry 117: DESIGN CHOICE).
    (∀ (r : Fin 4) (u : State) (t : State),
      t.ppRuns = true → t.switching r = true → t.avgAbove r = true → t.on (Reg.rlOvlAbove r) = false → u = (t.wr (Reg.rlOvlAbove r) 1).raise (52 + r) → u.railSt r = 4 →
      exec (.slowOverload r (t.avgMa r)) t = .next (u.overloaded r).settle) ∧
    -- DEGRADE_HOLD_EXPIRY: R98: DEGRADE_HOLD_MS has passed in LIMIT.
    (∀ (r : Fin 4) (t : State),
      t.ppRuns = true → t.railSt r = 4 → t.since (t.rd (Reg.rlStNs r)) (t.rd (Reg.DEGRADE_HOLD_MS r) * 1000000) = true →
      exec (.degradeHoldExpiry r) t = .next (t.wr (Reg.rlLimitHold r) 0).settle) ∧
    -- LIMIT_EXIT: R99: no phase valley limited for 100 µs, the current within RAIL_CAP_MA, and the average below OVL_LIMIT_MA (log entry 73: DEDUCED) (log entry 117: DESIGN CHOICE).
    (∀ (r : Fin 4) (t : State),
      t.ppRuns = true → t.railSt r = 4 → ((t.on (Reg.rlOvlLim r) && t.on (Reg.OVL_LIMIT_MA r)) = false ∨ t.rd (Reg.rlAvg r) < t.rd (Reg.OVL_LIMIT_MA r) * 65536) → t.rd (Reg.IOUT_MA r) ≤ t.railCap r → ((t.active r).any fun p => t.on (Reg.phWait p)) = false → (t.on (Reg.rlValleyNs r) = false ∨ t.since (t.rd (Reg.rlValleyNs r) - 1) 100000 = true) →
      exec (.limitExit r (t.avgMa r)) t = .next ((((t.railTo r 2).wr (Reg.rlOvlLim r) 0).wr (Reg.rlLimitHold r) 0).wr (Reg.rlCageLim r) 0).settle) ∧
    -- PHASE_OPEN_DETECT: R101: OPEN_CNT consecutive compared on-times without ripple.
    (∀ (p : Fin 16) (t : State),
      t.ppRuns = true → t.bit (Bit.PHASE_CTRL_ASSIGNED p) = true → t.bit (phCaged p) = false → t.rd (Reg.OPEN_CNT p) ≤ t.rd (Reg.phOpenRun p) →
      exec (.phaseOpenDetect p) t = .next ((t.cagePhase p 1).raise p).settle) ∧
    -- PHASE_SENSE_RANGE: R102: the CS pin out of range for 1 µs.
    (∀ (p : Fin 16) (mv : Int) (t : State),
      t.ppRuns = true → t.bit (Bit.PHASE_CTRL_ASSIGNED p) = true → t.bit (phCaged p) = false → (mv < 50 ∨ 1550 < mv) →
      exec (.phaseSenseRange p mv) t = .next ((t.cagePhase p 2).raise (16 + p)).settle) ∧
    -- PHASE_CAGE_REQ: R103: a write of 1 to CAGE_REQ.
    (∀ (level : Fin 4) (p : Fin 16) (t u : State) (raw : Nat),
      t.procRuns = true → t.accepts level (0x2010 + p) (1) (withBits (t.rd (Reg.PHASE_CTRL p)) 12 1 1) = true → raw = (rawOf (0x2010 + p) (1) (withBits (t.rd (Reg.PHASE_CTRL p)) 12 1 1)).2 → u = t.written (0x2010 + p) (1) raw → u.bit (Bit.PHASE_CTRL_CAGE_REQ p) = true → u.bit (Bit.PHASE_CTRL_ASSIGNED p) = t.bit (Bit.PHASE_CTRL_ASSIGNED p) → u.fld (Bit.PHASE_CTRL_RAIL p) = t.fld (Bit.PHASE_CTRL_RAIL p) → (u.setBit (Bit.PHASE_CTRL_CAGE_REQ p) (t.bit (Bit.PHASE_CTRL_CAGE_REQ p))).bit (phCaged p) = false →
      exec (.phaseCageReq level p) t = .next (((((u.setBit (Bit.PHASE_CTRL_CAGE_REQ p) (t.bit (Bit.PHASE_CTRL_CAGE_REQ p))).setBit (Bit.PHASE_CTRL_CAGE_REQ p) true).cagePhase p 3)).served (0x2010 + p)).settle)

/-- DERIVED, 03_load_channels.md, 03_load_channels.md R117, 03_load_channels.md R140, 03_load_channels.md R142, 03_load_channels.md R147,
03_load_channels.md R112, 03_load_channels.md R115, 03_load_channels.md R121, 03_load_channels.md R122, 03_load_channels.md R129. For each
of the commands CMD_ON, CMD_OFF, CTX_CAGE_REQ, BINDING_COMMIT, LEAD_EXPIRY, CHANNEL_SAMPLE, OFF_DECAY_EXPIRY, INRUSH_TIMEOUT,
GATE_DRIVE_FAULT, DIRECT_SHORT, CURRENT_LIMIT_REACHED, FAULT_TIMER_EXPIRY, RETRY_TIMER_EXPIRY, RETRY_CLEAR, CURRENT_LIMIT_RELEASE, for every
state and operands that meet the conditions named (the plane runs, and what the command's own rule asks of the state and the operands
alone), exec answers a next state: the effect that the rule gives, followed by what follows at once (settle). A write command is accepted by
the checks of R502; u is the state with the register written, and the tests of the unit it names are served. Where a command has several
effects, one clause stands for each. -/
def Obligations.LoadChannelCommandsComplete : Prop :=
    -- CMD_ON: R117: a write of CMD 1.
    (∀ (level : Fin 4) (n : Fin 512) (t u : State) (raw : Nat),
      t.procRuns = true → t.accepts level (0x3000 + n) (1) (withBits (t.rd (Reg.CTX_CTRL n)) 15 1 1) = true → raw = (rawOf (0x3000 + n) (1) (withBits (t.rd (Reg.CTX_CTRL n)) 15 1 1)).2 → u = t.written (0x3000 + n) (1) raw → t.cmd n = false → u.cmd n = true → u.bit (Bit.CTX_CTRL_CAGE_REQ n) = false → u.classOf n = t.classOf n → u.fld (Bit.CTX_CTRL_INRUSH_MODE n) = t.fld (Bit.CTX_CTRL_INRUSH_MODE n) →
      exec (.cmdOn level n) t = .next ((((((u.setBit (Bit.CTX_CTRL_CMD n) (t.cmd n)).setBit (Bit.CTX_CTRL_CAGE_REQ n) (t.bit (Bit.CTX_CTRL_CAGE_REQ n))).cmdOn n).redrive n)).served (0x3000 + n)).settle) ∧
    -- CMD_OFF: R140, R142: a write of CMD 0.
    (∀ (level : Fin 4) (n : Fin 512) (t u : State) (raw : Nat),
      t.procRuns = true → t.accepts level (0x3000 + n) (1) (withBits (t.rd (Reg.CTX_CTRL n)) 15 1 0) = true → raw = (rawOf (0x3000 + n) (1) (withBits (t.rd (Reg.CTX_CTRL n)) 15 1 0)).2 → u = t.written (0x3000 + n) (1) raw → u.cmd n = false → u.bit (Bit.CTX_CTRL_CAGE_REQ n) = false → u.classOf n = t.classOf n → u.fld (Bit.CTX_CTRL_INRUSH_MODE n) = t.fld (Bit.CTX_CTRL_INRUSH_MODE n) →
      exec (.cmdOff level n) t = .next ((((((u.setBit (Bit.CTX_CTRL_CMD n) (t.cmd n)).setBit (Bit.CTX_CTRL_CAGE_REQ n) (t.bit (Bit.CTX_CTRL_CAGE_REQ n))).cmdOff n).redrive n)).served (0x3000 + n)).settle) ∧
    -- CTX_CAGE_REQ: R147: a write of 1 to CAGE_REQ.
    (∀ (level : Fin 4) (n : Fin 512) (v : State) (t u : State) (raw : Nat),
      t.procRuns = true → t.accepts level (0x3000 + n) (1) (withBits (t.rd (Reg.CTX_CTRL n)) 1 1 1) = true → raw = (rawOf (0x3000 + n) (1) (withBits (t.rd (Reg.CTX_CTRL n)) 1 1 1)).2 → u = t.written (0x3000 + n) (1) raw → v = (u.setBit (Bit.CTX_CTRL_CMD n) (t.cmd n)).setBit (Bit.CTX_CTRL_CAGE_REQ n) (t.bit (Bit.CTX_CTRL_CAGE_REQ n)) → t.cmd n = true → u.cmd n = true → u.bit (Bit.CTX_CTRL_CAGE_REQ n) = true → u.classOf n = t.classOf n → u.fld (Bit.CTX_CTRL_INRUSH_MODE n) = t.fld (Bit.CTX_CTRL_INRUSH_MODE n) → v.ctxSt n ≠ 12 →
      exec (.ctxCageReq level n) t = .next (((((v.setBit (Bit.CTX_CTRL_CAGE_REQ n) true).cageCtx n 0xA).redrive n)).served (0x3000 + n)).settle) ∧
    -- CTX_CAGE_REQ: R147: a write of 1 to CAGE_REQ.
    (∀ (level : Fin 4) (n : Fin 512) (v : State) (t u : State) (raw : Nat),
      t.procRuns = true → t.accepts level (0x3000 + n) (1) (withBits (t.rd (Reg.CTX_CTRL n)) 1 1 1) = true → raw = (rawOf (0x3000 + n) (1) (withBits (t.rd (Reg.CTX_CTRL n)) 1 1 1)).2 → u = t.written (0x3000 + n) (1) raw → v = ((u.setBit (Bit.CTX_CTRL_CMD n) (t.cmd n)).setBit (Bit.CTX_CTRL_CAGE_REQ n) (t.bit (Bit.CTX_CTRL_CAGE_REQ n))).cmdOff n → u.cmd n = false → u.bit (Bit.CTX_CTRL_CAGE_REQ n) = true → u.classOf n = t.classOf n → u.fld (Bit.CTX_CTRL_INRUSH_MODE n) = t.fld (Bit.CTX_CTRL_INRUSH_MODE n) → v.ctxSt n ≠ 12 →
      exec (.ctxCageReq level n) t = .next (((((v.setBit (Bit.CTX_CTRL_CAGE_REQ n) true).cageCtx n 0xA).redrive n)).served (0x3000 + n)).settle) ∧
    -- BINDING_COMMIT: R112–R115: a write of BINDING.
    (∀ (level : Fin 4) (n : Fin 512) (value : BitVec 16) (t u : State) (raw : Nat),
      t.procRuns = true → t.accepts level (0x3000 + n) (2) ((value.toNat : Nat)) = true → raw = (rawOf (0x3000 + n) (2) ((value.toNat : Nat))).2 → u = t.written (0x3000 + n) (2) raw →
      exec (.bindingCommit level n value) t = .next ((((u.when (decide (16 ≤ n.val) && t.valid n) fun v => v.mbxDrop (t.position n) (t.channel n)).bindCtx n)).served (0x3000 + n)).settle) ∧
    -- LEAD_EXPIRY: R121, R122: LEAD_US after the announcement.
    (∀ (n : Fin 512) (t : State),
      t.ppRuns = true → t.ctxSt n = 3 → t.on (Reg.cxLeadOver n) = false → t.rd (Reg.cxLeadEnd n) ≤ t.now →
      exec (.leadExpiry n) t = .next (t.leadEnds n).settle) ∧
    -- CHANNEL_SAMPLE: R129, R135, R143, R152, R153, R707: a sample of a direct channel, on the next 10 µs of the timebase, of its inputs' results (08_sensing_and_thermal.md R333, R334); `vinMv`: the input voltage, which needs no result. Without valid results nothing else is sampled (log entry 112: DESIGN CHOICE). The measurements of remote contexts come with their reports (log entry 117: DESIGN CHOICE).
    (∀ (n : Fin 16) (vinMv : Int) (u : State) (t : State),
      t.ppRuns = true → t.valid n = true → t.resultValid (40 + n) = true → t.resultValid (56 + n) = true → u = t.wr (Reg.cxVin n) (satU 16 vinMv) →
      exec (.channelSample n (satI32 (t.shuntMa (40 + n) (t.rd (Reg.Ctx_SHUNT_UOHM n)))) (satU 16 (t.quantityMv (56 + n))) vinMv) t = .next ((u.toTickOf (Reg.cxSampleNs n) 10000).ctxSample n (satI32 (t.shuntMa (40 + n) (t.rd (Reg.Ctx_SHUNT_UOHM n)))) (satU 16 (t.quantityMv (56 + n))) (u.sampleUs n)).settle) ∧
    -- CHANNEL_SAMPLE: R129, R135, R143, R152, R153, R707: a sample of a direct channel, on the next 10 µs of the timebase, of its inputs' results (08_sensing_and_thermal.md R333, R334); `vinMv`: the input voltage, which needs no result. Without valid results nothing else is sampled (log entry 112: DESIGN CHOICE). The measurements of remote contexts come with their reports (log entry 117: DESIGN CHOICE).
    (∀ (n : Fin 16) (vinMv : Int) (t : State),
      t.ppRuns = true → t.valid n = true → (t.resultValid (40 + n) = false ∨ t.resultValid (56 + n) = false) →
      exec (.channelSample n (satI32 (t.shuntMa (40 + n) (t.rd (Reg.Ctx_SHUNT_UOHM n)))) (satU 16 (t.quantityMv (56 + n))) vinMv) t = .next (t.wr (Reg.cxVin n) (satU 16 vinMv)).settle) ∧
    -- OFF_DECAY_EXPIRY: R118, R119, R143: OFF_DECAY_MS after the context turned off.
    (∀ (n : Fin 512) (u : State) (t : State),
      t.ppRuns = true → t.on (Reg.cxDecayDone n) = false → t.conducting n = false → t.since (t.rd (Reg.cxOffNs n)) (t.rd (Reg.OFF_DECAY_MS n) * 1000000) = true → u = t.wr (Reg.cxDecayDone n) 1 → u.on (Reg.cxCheckWait n) = false →
      exec (.offDecayExpiry n) t = .next (u).settle) ∧
    -- OFF_DECAY_EXPIRY: R118, R119, R143: OFF_DECAY_MS after the context turned off.
    (∀ (n : Fin 512) (u : State) (t : State),
      t.ppRuns = true → t.on (Reg.cxDecayDone n) = false → t.conducting n = false → t.since (t.rd (Reg.cxOffNs n)) (t.rd (Reg.OFF_DECAY_MS n) * 1000000) = true → u = t.wr (Reg.cxDecayDone n) 1 → u.on (Reg.cxCheckWait n) = true → u.on (Reg.cxSampled n) = true → u.rd (Reg.V_MV n) < u.rd (Reg.VDAMAGE_MV n) →
      exec (.offDecayExpiry n) t = .next (u.enablePasses n).settle) ∧
    -- INRUSH_TIMEOUT: R127, R266: INRUSH, or a re-opening ramp, has lasted INRUSH_MAX_MS.
    (∀ (n : Fin 512) (t : State),
      t.ppRuns = true → (t.stThen n = 4 ∨ (t.stThen n = 5 ∧ t.regateThen n = true)) → t.since (t.rd (Reg.cxRampNs n)) (t.rd (Reg.INRUSH_MAX_MS n) * 1000000) = true →
      exec (.inrushTimeout n) t = .next (t.trip n 4).settle) ∧
    -- GATE_DRIVE_FAULT: R130; 17_electrical.md R693: the gate of a direct channel, `mv` above its output, has not reached its on level of 7.0 V within 1 ms after INRUSH, or falls below it.
    (∀ (n : Fin 16) (mv : Int) (t : State),
      t.ppRuns = true → (t.stThen n = 5 ∨ t.stThen n = 6) → t.gateThen n = 2 → 7000 ≤ mv →
      exec (.gateDriveFault ⟨n, mv⟩) t = .next (t.wr (Reg.cxGateUp n) 1).settle) ∧
    -- GATE_DRIVE_FAULT: R130; 17_electrical.md R693: the gate of a direct channel, `mv` above its output, has not reached its on level of 7.0 V within 1 ms after INRUSH, or falls below it.
    (∀ (n : Fin 16) (mv : Int) (t : State),
      t.ppRuns = true → (t.stThen n = 5 ∨ t.stThen n = 6) → t.gateThen n = 2 → mv < 7000 → (t.on (Reg.cxGateUp n) = true ∨ t.since (t.rd (Reg.cxFullNs n)) 1000000 = true) →
      exec (.gateDriveFault ⟨n, mv⟩) t = .next ((t.trip n 0xB).raise (96 + n)).settle) ∧
    -- DIRECT_SHORT: R129, R133: the shunt voltage of a direct channel, in µV, exceeds the ISC_MA level.
    (∀ (n : Fin 16) (shuntUv : Int) (t : State),
      t.ppRuns = true → [4, 5, 6].contains (t.stThen n) = true → t.shuntNv n (t.rd (Reg.Ctx_ISC_MA n)) < shuntUv * 1000 →
      exec (.directShort ⟨n, shuntUv⟩) t = .next (t.trip n 1).settle) ∧
    -- CURRENT_LIMIT_REACHED: R129, R134: the shunt voltage of a direct channel, in µV, reaches the ILIM_MA level in ON; a re-opening ramp stays in ON (R266). A remote channel's limit is reported by its satellite (R131).
    (∀ (n : Fin 16) (shuntUv : Int) (t : State),
      t.ppRuns = true → t.shuntNv n (t.rd (Reg.ILIM_MA n)) ≤ shuntUv * 1000 → t.ctxSt n = 5 → t.on (Reg.cxRegate n) = false → t.on (Reg.cxWindow n) = true →
      exec (.currentLimitReached ⟨n, shuntUv⟩) t = .next (t.limitOn n).settle) ∧
    -- CURRENT_LIMIT_REACHED: R129, R134: the shunt voltage of a direct channel, in µV, reaches the ILIM_MA level in ON; a re-opening ramp stays in ON (R266). A remote channel's limit is reported by its satellite (R131).
    (∀ (n : Fin 16) (shuntUv : Int) (t : State),
      t.ppRuns = true → t.shuntNv n (t.rd (Reg.ILIM_MA n)) ≤ shuntUv * 1000 → t.ctxSt n = 4 →
      exec (.currentLimitReached ⟨n, shuntUv⟩) t = .next (t.setFld (cxAtLimit n) 1).settle) ∧
    -- FAULT_TIMER_EXPIRY: R134: the fault timer reaches TFAULT_US (log entry 80: DESIGN CHOICE).
    (∀ (n : Fin 512) (u : State) (t : State),
      t.ppRuns = true → u = t.runTimer n → (u.stThen n = 5 ∨ u.stThen n = 6) → 8 * u.tfault n ≤ u.elapsedThen n →
      exec (.faultTimerExpiry n) t = .next (u.trip n 2).settle) ∧
    -- RETRY_TIMER_EXPIRY: R138, R139: RETRY_MS after a trip; the timer of a context in NO_LINK is frozen (R150).
    (∀ (n : Fin 512) (t : State),
      t.ppRuns = true → t.on (Reg.cxRetryRun n) = true → t.ctxSt n ≠ 10 → t.rd (Reg.cxRetryEnd n) ≤ t.now →
      exec (.retryTimerExpiry n) t = .next (t.retryEnds n).settle) ∧
    -- RETRY_CLEAR: R141: RETRY_CLEAR_MS in ON or LIMIT.
    (∀ (n : Fin 512) (t : State),
      t.ppRuns = true → (t.ctxSt n = 5 ∨ t.ctxSt n = 6) → t.since (t.rd (Reg.cxOnNs n)) (t.rd (Reg.RETRY_CLEAR_MS n) * 1000000) = true →
      exec (.retryClear n) t = .next (t.wr (Reg.RETRIES n) 0).settle) ∧
    -- CURRENT_LIMIT_RELEASE: R129, R134: the shunt voltage of a direct channel, in µV, falls below the ILIM_MA level.
    (∀ (n : Fin 16) (shuntUv : Int) (t : State),
      t.ppRuns = true → shuntUv * 1000 < t.shuntNv n (t.rd (Reg.ILIM_MA n)) → t.ctxSt n = 6 →
      exec (.currentLimitRelease ⟨n, shuntUv⟩) t = .next (t.limitOff n).settle) ∧
    -- CURRENT_LIMIT_RELEASE: R129, R134: the shunt voltage of a direct channel, in µV, falls below the ILIM_MA level.
    (∀ (n : Fin 16) (shuntUv : Int) (t : State),
      t.ppRuns = true → shuntUv * 1000 < t.shuntNv n (t.rd (Reg.ILIM_MA n)) → t.ctxSt n = 4 →
      exec (.currentLimitRelease ⟨n, shuntUv⟩) t = .next (t.setFld (cxAtLimit n) 0).settle)

/-- DERIVED, 04_satellite_link.md, 04_satellite_link.md R180, 04_satellite_link.md R189, 04_satellite_link.md R190, 04_satellite_link.md R191,
04_satellite_link.md R183, 04_satellite_link.md R196. For each of the commands ROUND_START, ROUND_JUDGE, POSITION_LOST, PORT_DOWN,
POSITION_RETURN, PORT_ENABLE, RESCAN, for every state and operands that meet the conditions named (the plane runs, and what the command's
own rule asks of the state and the operands alone), exec answers a next state: the effect that the rule gives, followed by what follows at
once (settle). A write command is accepted by the checks of R502; u is the state with the register written, and the tests of the unit it
names are served. Where a command has several effects, one clause stands for each. -/
def Obligations.SatelliteCommandsComplete : Prop :=
    -- ROUND_START: R180: the SOF of a port leaves at its round instant.
    (∀ (p : Fin 4) (t : State),
      t.ppRuns = true →
      exec (.roundStart p) t = .next ((t.toRound p).roundStart p).settle) ∧
    -- ROUND_JUDGE: R180: the reports of a round are judged, once, on the frame that returned.
    (∀ (p : Fin 4) (frame : List (Option (BitVec 8))) (rttNs errs : Nat) (t : State),
      t.ppRuns = true → t.fld (slState p) ≠ 0 → t.on (Reg.slJudge p) = true →
      exec (.roundJudge p frame rttNs errs) t = .next ((t.wr (Reg.slJudge p) (t.rd (Reg.slJudge p) - 1)).roundJudge p frame rttNs errs).settle) ∧
    -- POSITION_LOST: R189: LOST_ROUNDS bad rounds, or a report with ORPHAN or UNCONFIG at 1.
    (∀ (q : Fin 32) (t : State),
      t.ppRuns = true → t.posSt q = 2 → ((t.fld (Bit.PORT_CTRL_LOST_ROUNDS (q / 8)) : Int) ≤ t.rd (Reg.stBadRun q) ∨ t.on (Reg.stBadRep q) = true) →
      exec (.positionLost q) t = .next (t.posLost q).settle) ∧
    -- PORT_DOWN: R190: LOST_ROUNDS rounds without a frame.
    (∀ (p : Fin 4) (t : State),
      t.ppRuns = true → (t.fld (slState p) = 1 ∨ t.fld (slState p) = 2) → (t.fld (Bit.PORT_CTRL_LOST_ROUNDS p) : Int) ≤ t.rd (Reg.slEmpty p) →
      exec (.portDown p) t = .next (t.portDown p).settle) ∧
    -- POSITION_RETURN: R191: four good report blocks return a LOST position to CONFIG.
    (∀ (q : Fin 32) (t : State),
      t.ppRuns = true → t.posSt q = 3 → t.fld (slState (q / 8)) ≠ 3 → 4 ≤ t.rd (Reg.stGoodRun q) → t.on (Reg.stRecSet q) = true →
      exec (.positionReturn q) t = .next (t.posConfig q).settle) ∧
    -- PORT_ENABLE: R183: a commit of PORT_CTRL with ENABLE 1 and a LOST_ROUNDS.
    (∀ (level : Fin 4) (p : Fin 4) (lostRounds : Fin 16) (t u : State) (raw : Nat),
      t.procRuns = true → t.accepts level (0x3220 + p) (1) ((lostRounds * 2 + 1 : Nat)) = true → raw = (rawOf (0x3220 + p) (1) ((lostRounds * 2 + 1 : Nat))).2 → u = t.written (0x3220 + p) (1) raw → t.bit (Bit.PORT_CTRL_ENABLE p) = false → u.bit (Bit.PORT_CTRL_ENABLE p) = true →
      exec (.portEnable level p lostRounds) t = .next (((u.portStart p)).served (0x3220 + p)).settle) ∧
    -- RESCAN: R183, R196: a write of 0x01 to RESCAN.
    (∀ (level : Fin 4) (p : Fin 4) (t u : State) (raw : Nat),
      t.procRuns = true → t.accepts level (0x3220 + p) (3) (1) = true → raw = (rawOf (0x3220 + p) (3) (1)).2 → u = t.written (0x3220 + p) (3) raw →
      exec (.rescan level p) t = .next (((u.portRescan p)).served (0x3220 + p)).settle)

/-- DERIVED, 05_ring_and_holdup.md, 05_ring_and_holdup.md R202, 05_ring_and_holdup.md R203, 05_ring_and_holdup.md R204, 05_ring_and_holdup.md
R223, 05_ring_and_holdup.md R205, 05_ring_and_holdup.md R206, 05_ring_and_holdup.md R213, 05_ring_and_holdup.md R209, 05_ring_and_holdup.md
R210. For each of the commands PILOT_OUT_CHANGE, PILOT_QUALIFIED, DIRECTIONAL_TRIP, BACKUP_OUTWARD_TRIP, INWARD_TRIP, SWITCH_FAILED,
TEST_PULSE_SEND, TEST_PULSE_RECEIVED, PILOT_MISS, PILOT_STUCK, PILOT_STUCK_CLEAR, RP_CMD_CLOSE, RP_CMD_OPEN, PRECHARGE_QUALIFIED,
PRECHARGE_TIMEOUT, for every state and operands that meet the conditions named (the plane runs, and what the command's own rule asks of the
state and the operands alone), exec answers a next state: the effect that the rule gives, followed by what follows at once (settle). A write
command is accepted by the checks of R502; u is the state with the register written, and the tests of the unit it names are served. Where a
command has several effects, one clause stands for each. -/
def Obligations.RingPortCommandsComplete : Prop :=
    -- PILOT_OUT_CHANGE: R202: PLTO follows the outward current, by its shunt voltage in µV, and the ring-side voltage. The isolation logic stays armed throughout a power-plane reset (01_architecture.md R25).
    (∀ (p : Fin 2) (shuntUv vrMv : Int) (t : State),
      t.on Reg.corePowered = true →
      exec (.pilotOutChange p shuntUv vrMv) t = .next (t.setBit (rpPilotOut p) (t.pilotDrive p shuntUv vrMv)).settle) ∧
    -- PILOT_QUALIFIED: R203: the far-end pilot is qualified, or PLTI has gone low and it is no longer.
    (∀ (p : Fin 2) (high : Bool) (t : State),
      t.on Reg.corePowered = true →
      exec (.pilotQualified p high) t = .next (t.setBit (rpPilotIn p) high).settle) ∧
    -- DIRECTIONAL_TRIP: R204, R223: outward current, by its shunt voltage in µV, above ISO_DIR_MA with a pilot that is wired, qualified and not stuck.
    (∀ (p : Fin 2) (shuntUv : Int) (t : State),
      t.on Reg.corePowered = true → t.rpBeyond p (t.rd (Reg.ISO_DIR_MA p)) shuntUv = true → t.pilotOn p = true → t.bit (rpPilotIn p) = true → t.bit (rpPilotStuck p) = false →
      exec (.directionalTrip p shuntUv) t = .next (t.rpTrip p 1).settle) ∧
    -- BACKUP_OUTWARD_TRIP: R205: outward current, by its shunt voltage in µV, above ISO_MAX_MA for 2 µs.
    (∀ (p : Fin 2) (shuntUv : Int) (t : State),
      t.on Reg.corePowered = true → t.rpBeyond p (t.rd (Reg.ISO_MAX_MA p)) shuntUv = true →
      exec (.backupOutwardTrip p shuntUv) t = .next (t.rpTrip p 2).settle) ∧
    -- INWARD_TRIP: R206: inward current, by its shunt voltage in µV (negative), above ISO_IN_MA for 2 µs, with INW_EN at 1.
    (∀ (p : Fin 2) (shuntUv : Int) (t : State),
      t.on Reg.corePowered = true → t.bit (Bit.RP_CTRL_INW_EN p) = true → t.rpBeyond p (t.rd (Reg.ISO_IN_MA p)) (-shuntUv) = true →
      exec (.inwardTrip p shuntUv) t = .next (t.rpTrip p 3).settle) ∧
    -- SWITCH_FAILED: R213: an opened port that still carries more than 5 A, by its shunt voltage in µV, 20 µs after its pull-down began enters FAILED.
    (∀ (p : Fin 2) (shuntUv : Int) (u : State) (t : State),
      t.on Reg.corePowered = true → t.on (Reg.rpJudge p) = true → t.since (t.rd (Reg.rpJudge p) - 1) 20000 = true → t.rpBeyond p 5000 (absI shuntUv) = true → u = t.wr (Reg.rpJudge p) 0 →
      exec (.switchFailed p shuntUv) t = .next ((((u.setFld (rpState p) 4).setFld (rpCause p) 8).wr (Reg.rpGate p) 0).rpRaise p 192).settle) ∧
    -- TEST_PULSE_SEND: R209: a test pulse at every timebase multiple of 100 ms.
    (∀ (p : Fin 2) (u : State) (t : State),
      t.ppRuns = true → u = t.toTick (1 + p) 100000000 → u.pilotOn p = true →
      exec (.testPulseSend p) t = .next ({ u with outbox := u.outbox ++ [Out.pulse p] }).settle) ∧
    -- TEST_PULSE_RECEIVED: R210: a high level of 100–400 ns is a received test pulse.
    (∀ (p : Fin 2) (ns : Nat) (t : State),
      t.ppRuns = true → (100 ≤ ns ∧ ns ≤ 400) → t.pilotOn p = true →
      exec (.testPulseReceived p ns) t = .next ((t.setFld (rpPilotOk p) 1).rpSupervise p).settle) ∧
    -- PILOT_MISS: R210: 350 ms since the start of supervision or the last received pulse: a miss, once for each episode.
    (∀ (p : Fin 2) (t : State),
      t.ppRuns = true → t.pilotOn p = true → t.on (Reg.rpMissed p) = false → t.since (t.rd (Reg.rpSupNs p)) 350000000 = true →
      exec (.pilotMiss p) t = .next ((((t.setFld (rpPilotOk p) 0).wr (Reg.rpMissed p) 1).inc32 (Reg.TEST_MISSES p)).rpRaise p 194).settle) ∧
    -- PILOT_STUCK: R211: PLTI high for 50 µs on a CLOSED port with a healthy ring side.
    (∀ (p : Fin 2) (vrMv : Int) (t : State),
      t.on Reg.corePowered = true → t.rpSt p = 2 → t.rd (Reg.VRING_UV_MV p) ≤ vrMv → t.bit (rpPilotStuck p) = false →
      exec (.pilotStuck p vrMv) t = .next ((t.setFld (rpPilotStuck p) 1).rpRaise p 194).settle) ∧
    -- PILOT_STUCK_CLEAR: R211: PLTI low for 1 ms.
    (∀ (p : Fin 2) (t : State),
      t.on Reg.corePowered = true →
      exec (.pilotStuckClear p) t = .next ((t.setFld (rpPilotStuck p) 0).setFld (rpPilotIn p) 0).settle) ∧
    -- RP_CMD_CLOSE: R214, R218, R223: a write of 0x01 to RP_CMD.
    (∀ (level : Fin 4) (p : Fin 2) (t u : State) (raw : Nat),
      t.procRuns = true → t.accepts level (0x2200 + p) (2) (1) = true → raw = (rawOf (0x2200 + p) (2) (1)).2 → u = t.written (0x2200 + p) (2) raw →
      exec (.rpCmdClose level p) t = .next ((((u.mark markHostClose p 0).rpClose p)).served (0x2200 + p)).settle) ∧
    -- RP_CMD_OPEN: R212, R223: a write of 0x02 to RP_CMD.
    (∀ (level : Fin 4) (p : Fin 2) (t u : State) (raw : Nat),
      t.procRuns = true → t.accepts level (0x2200 + p) (2) (2) = true → raw = (rawOf (0x2200 + p) (2) (2)).2 → u = t.written (0x2200 + p) (2) raw →
      exec (.rpCmdOpen level p) t = .next ((((u.when (decide (u.rpSt p = 2)) fun v => v.mark markHostOpen p 0).rpOpens p 0 5)).served (0x2200 + p)).settle) ∧
    -- PRECHARGE_QUALIFIED: R216: |VL − VR| at or below 1000 mV for 100 µs ends a pre-charge in CLOSED (log entry 117: DESIGN CHOICE).
    (∀ (p : Fin 2) (t : State),
      t.ppRuns = true → t.rpQualified p = true →
      exec (.prechargeQualified p (t.rd (Reg.VL_MV p)) (t.rd (Reg.VR_MV p))) t = .next (t.rpClosed p).settle) ∧
    -- PRECHARGE_TIMEOUT: R217: PRECHG_MAX_MS of pre-charge end in TRIPPED; with the qualification complete on the same edge the port closes (R251).
    (∀ (p : Fin 2) (t : State),
      t.ppRuns = true → t.rpSt p = 1 → t.rpQualified p = false → t.since (t.rd (Reg.rpPreNs p)) (t.rd (Reg.PRECHG_MAX_MS p) * 1000000) = true →
      exec (.prechargeTimeout p) t = .next (((t.rpOpens p 3 6).inc16 (Reg.PRECHG_FAILS p)).rpRaise p 190).settle)

/-- DERIVED, 05_ring_and_holdup.md, 05_ring_and_holdup.md R224, 05_ring_and_holdup.md R230, 05_ring_and_holdup.md R399, 05_ring_and_holdup.md
R226, 05_ring_and_holdup.md R227, 05_ring_and_holdup.md R530, 05_ring_and_holdup.md R233, 05_ring_and_holdup.md R234, 05_ring_and_holdup.md
R251. For each of the commands FEED_SET, IFW_CONDITION_CLEAR, IFW_BROADCAST, IFW_BROADCAST_REPEAT, IFW_BROADCAST_RECEIVE, PEER_FORGET,
HOLD_ENTRY, HOLD_EXIT, STORAGE_EXHAUSTED, CHARGE_ENTRY, CV_ENTRY, CHARGE_DONE, STORE_OVP, CHARGE_NODE_LOW, PROP_PHASE_CAGE, STORAGE_SAMPLE,
for every state and operands that meet the conditions named (the plane runs, and what the command's own rule asks of the state and the
operands alone), exec answers a next state: the effect that the rule gives, followed by what follows at once (settle). A write command is
accepted by the checks of R502; u is the state with the register written, and the tests of the unit it names are served. Where a command has
several effects, one clause stands for each. -/
def Obligations.HoldUpCommandsComplete : Prop :=
    -- FEED_SET: R224: FEED sets on the node's level or its slope, by the samples of NODE_SNS; the slope starts HOLD when SLOPE_EN is 1 (R230) (log entry 117: DESIGN CHOICE).
    (∀ (u : State) (t : State),
      t.ppRuns = true → t.feedCause = true → u = t.ifwCause 0 true → (t.slopeHit && u.bit Bit.PROP_CTRL_SLOPE_EN) = false →
      exec (.feedSet t.node t.nodeFall) t = .next (u).settle) ∧
    -- FEED_SET: R224: FEED sets on the node's level or its slope, by the samples of NODE_SNS; the slope starts HOLD when SLOPE_EN is 1 (R230) (log entry 117: DESIGN CHOICE).
    (∀ (u : State) (t : State),
      t.ppRuns = true → t.feedCause = true → u = t.ifwCause 0 true → t.slopeHit = true → u.bit Bit.PROP_CTRL_SLOPE_EN = true →
      exec (.feedSet t.node t.nodeFall) t = .next (u.holdEnter 2).settle) ∧
    -- IFW_CONDITION_CLEAR: R224: a condition that has not held for IFW_CLEAR_MS clears; the feed may return to a loss shut-down (R399).
    (∀ (t : State),
      t.ppRuns = true → t.bit (flag Reg.IFW_STATUS 0) = true → t.on (Reg.ifwLastNs 0) = true → t.since (t.rd (Reg.ifwLastNs 0) - 1) (t.rd Reg.IFW_CLEAR_MS * 1000000) = true →
      exec (.ifwConditionClear 0) t = .next ((t.ifwSet 0 false).feedByWarning).settle) ∧
    -- IFW_CONDITION_CLEAR: R224: a condition that has not held for IFW_CLEAR_MS clears; the feed may return to a loss shut-down (R399).
    (∀ (c : Fin 3) (t : State),
      t.ppRuns = true → c ≠ 0 → t.bit (flag Reg.IFW_STATUS c) = true → t.on (Reg.ifwLastNs c) = true → t.since (t.rd (Reg.ifwLastNs c) - 1) (t.rd Reg.IFW_CLEAR_MS * 1000000) = true →
      exec (.ifwConditionClear c) t = .next (t.ifwSet c false).settle) ∧
    -- IFW_BROADCAST: R226: a change of ANY is broadcast, with IFW_STATUS as the change left it (log entry 84: DEDUCED).
    (∀ (d : Nat × Nat) (rest : List (Nat × Nat)) (t : State),
      t.procRuns = true → t.ifwDue = d :: rest → t.on Reg.BCAST_EN = true →
      exec .ifwBroadcast t = .next ({ t with ifwDue := rest }.ifwSend d.1 d.2).settle) ∧
    -- IFW_BROADCAST_REPEAT: R227: while ANY is 1 the broadcast repeats, 100 ms after the one before.
    (∀ (t : State),
      t.procRuns = true → t.bit (flag Reg.IFW_STATUS 4) = true → t.on Reg.BCAST_EN = true → t.since (t.rd Reg.ifwSentNs) 100000000 = true →
      exec .ifwBroadcastRepeat t = .next (t.ifwSend (t.rdN Reg.IFW_STATUS) (t.rd Reg.ifwSetNs)).settle) ∧
    -- IFW_BROADCAST_RECEIVE: R530: a broadcast of another device, received whole and authenticated.
    (∀ (src : Fin 64) (status : Fin 256) (timeNs : BitVec 64) (t : State),
      t.procRuns = true → t.dengonUp = true →
      exec (.ifwBroadcastReceive src status timeNs) t = .next (t.heardFrom src true fun u => if u.ownAddr = 0 then u else u.ifwReceive src status timeNs.toNat).settle) ∧
    -- IFW_BROADCAST_RECEIVE: R530: a broadcast of another device, received whole and authenticated.
    (∀ (src : Fin 64) (status : Fin 256) (timeNs : BitVec 64) (u : State) (t : State),
      t.procRuns = true → t.dengonUp = true → u = t.inc32 Reg.RX_PDUS → u.ownAddr ≠ 0 → src.val ≠ t.ownAddr →
      exec (.ifwBroadcastReceive src status timeNs) t = .next (u.ifwReceive src status timeNs.toNat).settle) ∧
    -- PEER_FORGET: R227: 350 ms without a broadcast from a sender whose warning is set.
    (∀ (src : Fin 64) (t : State),
      t.ppRuns = true → t.on (Reg.ifwPeerNs src) = true → t.since (t.rd (Reg.ifwPeerNs src) - 1) 350000000 = true →
      exec (.peerForget src) t = .next ((t.wr (Reg.ifwPeerNs src) 0).peerEval).settle) ∧
    -- HOLD_ENTRY: R230: the node's level or slope starts HOLD, by the samples of NODE_SNS (log entry 117: DESIGN CHOICE).
    (∀ (t : State),
      t.ppRuns = true → t.nodeOk = true → t.node < t.rd Reg.HOLD_ENTRY_MV →
      exec (.holdEntry t.node t.nodeFall) t = .next (t.holdEnter 1).settle) ∧
    -- HOLD_EXIT: R233: the node above HOLD_EXIT_MV for HOLD_EXIT_US ends HOLD; the feed may return to a loss shut-down (R399). With the storage at its minimum R234 acts (R251) (log entry 117: DESIGN CHOICE).
    (∀ (t : State),
      t.ppRuns = true → t.propMode = 3 → t.rd Reg.STORE_MIN_MV ≤ t.rd Reg.STORE_MV → t.on Reg.ppAboveNs = true → t.since (t.rd Reg.ppAboveNs - 1) (t.rd Reg.HOLD_EXIT_US * 1000) = true →
      exec (.holdExit t.node) t = .next (t.holdLeave.feedByHold).settle) ∧
    -- STORAGE_EXHAUSTED: R234: the storage is exhausted in HOLD (log entry 117: DESIGN CHOICE).
    (∀ (t : State),
      t.ppRuns = true → t.propMode = 3 → t.rd Reg.STORE_MV < t.rd Reg.STORE_MIN_MV →
      exec (.storageExhausted (t.rd Reg.STORE_MV)) t = .next (t.storeExhausted.holdUnable).settle) ∧
    -- CHARGE_ENTRY: R235: the conditions of CHARGE hold (log entry 117: DESIGN CHOICE).
    (∀ (u : State) (t : State),
      t.ppRuns = true → u = t.inhibitEval → u.propMode = 1 → u.propCaged = false → u.bit Bit.PROP_CTRL_CHG_EN = true → u.nodeOk = true → u.rd Reg.CHG_NODE_MIN_MV < u.node → (u.rd Reg.STORE_MV < u.rd Reg.CHG_VMAX_MV - 500 ∨ u.bit prDone = false) → u.bit prInhibit = false →
      exec (.chargeEntry t.node) t = .next (((u.setFld prMode 2).setFld prCv 0).propDrive).settle) ∧
    -- CV_ENTRY: R236: the storage reaches CHG_VMAX_MV (log entry 117: DESIGN CHOICE).
    (∀ (t : State),
      t.ppRuns = true → t.propMode = 2 → t.rd Reg.CHG_VMAX_MV ≤ t.rd Reg.STORE_MV →
      exec (.cvEntry (t.rd Reg.STORE_MV)) t = .next ((t.setFld prCv 1).propDrive).settle) ∧
    -- CHARGE_DONE: R236: the current in CV has stayed below CHG_TAPER_MA for 10 ms (log entry 117: DESIGN CHOICE).
    (∀ (t : State),
      t.ppRuns = true → t.propMode = 2 → t.bit prCv = true → t.on Reg.ppTaperNs = true → t.since (t.rd Reg.ppTaperNs - 1) 10000000 = true →
      exec (.chargeDone (t.rd Reg.STORE_MA)) t = .next ((t.setFld prDone 1).chargeLeave).settle) ∧
    -- STORE_OVP: R239: storage overvoltage (log entry 117: DESIGN CHOICE).
    (∀ (u : State) (t : State),
      t.ppRuns = true → t.rd Reg.STORE_OVP_MV < t.rd Reg.STORE_MV → t.bit prOvp = false → u = ((t.setFld prOvp 1).wr Reg.ppOvpLatch 1).raise 198 →
      exec (.storeOvp (t.rd Reg.STORE_MV)) t = .next ((u.when (decide (u.propMode = 2)) State.chargeLeave).inhibitEval).settle) ∧
    -- CHARGE_NODE_LOW: R240: the node falls below CHG_NODE_MIN_MV in CHARGE (log entry 117: DESIGN CHOICE).
    (∀ (t : State),
      t.ppRuns = true → t.propMode = 2 → t.nodeOk = true → t.node < t.rd Reg.CHG_NODE_MIN_MV →
      exec (.chargeNodeLow t.node) t = .next (t.propInterrupt.chargeLeave.inhibitEval).settle) ∧
    -- PROP_PHASE_CAGE: R241: PCSk outside 50–1550 mV for 1 µs while the prop converter switches; with both phases caged it is unable to hold.
    (∀ (k : Fin 2) (mv : Int) (u : State) (t : State),
      t.ppRuns = true → (mv < 50 ∨ 1550 < mv) → t.propRuns = true → t.bit (prCaged k) = false → u = t.propCage k →
      exec (.propPhaseCage k mv) t = .next (u.when u.propCaged State.holdUnable).settle) ∧
    -- STORAGE_SAMPLE: R242, R221, R252: the 10 µs sample of the node, the storage and the ring ports by the results of their inputs, and the tally's P_IN. The loop of a HOLD entered before is closed by now (R231) (log entry 117: DESIGN CHOICE).
    (∀ (u v w : State) (t : State),
      t.ppRuns = true → u = ((t.toTick 0 10000).takeMv Reg.NODE_MV 0).takeMv Reg.STORE_MV (t.rdN Reg.STORE_INPUT) → v = (u.takeStoreMa.rpSample 0).rpSample 1 → w = (v.when (decide (v.propMode = 3)) fun x => x.wr Reg.ppLoop 1).holdRaise →
      exec (.storageSample (v.rd Reg.NODE_MV) (v.rd Reg.STORE_MV) (v.rd Reg.STORE_MA) (v.rd (Reg.Ring_I_MA 0)) (v.rd (Reg.VL_MV 0)) (v.rd (Reg.VR_MV 0)) (v.rd (Reg.Ring_I_MA 1)) (v.rd (Reg.VL_MV 1)) (v.rd (Reg.VR_MV 1))) t = .next ((((w.storeCount (w.rd Reg.STORE_MV) (w.rd Reg.STORE_MA)).storeEval).samplePower).pitStorage).settle)

/-- DERIVED, 06_tally_and_sharing.md, 06_tally_and_sharing.md R255, 06_tally_and_sharing.md R256, 06_tally_and_sharing.md R265,
06_tally_and_sharing.md R266, 06_tally_and_sharing.md R270, 06_tally_and_sharing.md R271, 06_tally_and_sharing.md R272,
06_tally_and_sharing.md R273, 06_tally_and_sharing.md R277. For each of the commands TALLY_EVALUATION, TALLY_DISABLE, LIMIT_WINDOW_EDGE,
BORROW_NO_ANSWER, BORROW_BACKOFF_END, LOAN_REQUEST_RECEIVED, LOAN_RENEW_RECEIVED, LOAN_RETURN_RECEIVED, LOAN_RESPONSE_RECEIVED, LEASE_HALF,
LEASE_END, LOAN_RETURN_DUE, RESERVATION_END, SHARE_RECEIVE, SHARE_TRIM_UPDATE, MEMBER_LOSS, MEMBER_REJOIN, for every state and operands that
meet the conditions named (the plane runs, and what the command's own rule asks of the state and the operands alone), exec answers a next
state: the effect that the rule gives, followed by what follows at once (settle). A write command is accepted by the checks of R502; u is
the state with the register written, and the tests of the unit it names are served. Where a command has several effects, one clause stands
for each. -/
def Obligations.TallyCommandsComplete : Prop :=
    -- TALLY_EVALUATION: R255: an evaluation at every timebase multiple of 100 µs.
    (∀ (t : State),
      t.ppRuns = true →
      exec .tallyEvaluation t = .next ((t.toTick 9 100000).tallyTick).settle) ∧
    -- TALLY_DISABLE: R256: the write of ENABLE 0.
    (∀ (level : Fin 4) (t u : State) (raw : Nat),
      t.procRuns = true → t.accepts level (0x3300) (1) ((t.rd Reg.TALLY_CTRL - t.fld Bit.TALLY_CTRL_ENABLE)) = true → raw = (rawOf (0x3300) (1) ((t.rd Reg.TALLY_CTRL - t.fld Bit.TALLY_CTRL_ENABLE))).2 → u = t.written (0x3300) (1) raw → t.bit Bit.TALLY_CTRL_ENABLE = true → u.bit Bit.TALLY_CTRL_ENABLE = false →
      exec (.tallyDisable level) t = .next (((u.tallyUndo.dropLost)).served (0x3300)).settle) ∧
    -- LIMIT_WINDOW_EDGE: R265, R266; 07_loop_engine.md R315: the on- or off-window of a context in ON begins, as the gate pattern has it at the present timebase (log entry 117: DESIGN CHOICE).
    (∀ (n : Fin 512) (t : State),
      t.ppRuns = true → t.ctxSt n = 5 → t.winOn n = true → t.on (Reg.cxWindow n) = false →
      exec (.limitWindowEdge n true) t = .next (t.winOpen n).settle) ∧
    -- LIMIT_WINDOW_EDGE: R265, R266; 07_loop_engine.md R315: the on- or off-window of a context in ON begins, as the gate pattern has it at the present timebase (log entry 117: DESIGN CHOICE).
    (∀ (n : Fin 512) (t : State),
      t.ppRuns = true → t.ctxSt n = 5 → t.winOn n = false → t.on (Reg.cxWindow n) = true →
      exec (.limitWindowEdge n false) t = .next (t.winClose n).settle) ∧
    -- BORROW_NO_ANSWER: R270, R271: 10 ms without an answer.
    (∀ (t : State),
      t.ppRuns = true →
      exec .borrowNoAnswer t = .next (t.loanSilent).settle) ∧
    -- BORROW_BACKOFF_END: R271: the pause of 1 s ends, and the ten evaluations are counted afresh.
    (∀ (t : State),
      t.ppRuns = true → t.on Reg.tyBackoff = true → t.since (t.rd Reg.tyBackNs) 1000000000 = true →
      exec .borrowBackoffEnd t = .next ((t.wr Reg.tyBackoff 0).waitAfresh).settle) ∧
    -- LOAN_REQUEST_RECEIVED: R272, R273, R277: a REQUEST under the peer's session.
    (∀ (src : Fin 63) (tid id : BitVec 16) (mw : BitVec 32) (t : State),
      t.procRuns = true → t.dengonUp = true →
      exec (.loanRequestReceived src tid id mw) t = .next (t.heardFrom src false fun u => u.svcLoan (loanReq src tid) (loanBody 1 id.toNat mw.toNat 0)).settle) ∧
    -- LOAN_REQUEST_RECEIVED: R272, R273, R277: a REQUEST under the peer's session.
    (∀ (src : Fin 63) (tid id : BitVec 16) (mw : BitVec 32) (u : State) (t : State),
      t.procRuns = true → t.dengonUp = true → u = t.inc32 Reg.RX_PDUS → t.ownAddr ≠ 0 → (src : Nat) ≠ t.ownAddr →
      exec (.loanRequestReceived src tid id mw) t = .next (u.svcLoan (loanReq src tid) (loanBody 1 id.toNat mw.toNat 0)).settle) ∧
    -- LOAN_RENEW_RECEIVED: R273, R274: a RENEW.
    (∀ (src : Fin 63) (tid id : BitVec 16) (mw : BitVec 32) (t : State),
      t.procRuns = true → t.dengonUp = true →
      exec (.loanRenewReceived src tid id mw) t = .next (t.heardFrom src false fun u => u.svcLoan (loanReq src tid) (loanBody 4 id.toNat mw.toNat 0)).settle) ∧
    -- LOAN_RENEW_RECEIVED: R273, R274: a RENEW.
    (∀ (src : Fin 63) (tid id : BitVec 16) (mw : BitVec 32) (u : State) (t : State),
      t.procRuns = true → t.dengonUp = true → u = t.inc32 Reg.RX_PDUS → t.ownAddr ≠ 0 → (src : Nat) ≠ t.ownAddr →
      exec (.loanRenewReceived src tid id mw) t = .next (u.svcLoan (loanReq src tid) (loanBody 4 id.toNat mw.toNat 0)).settle) ∧
    -- LOAN_RETURN_RECEIVED: R273, R276: a RETURN.
    (∀ (src : Fin 63) (tid id : BitVec 16) (mw : BitVec 32) (t : State),
      t.procRuns = true → t.dengonUp = true →
      exec (.loanReturnReceived src tid id mw) t = .next (t.heardFrom src false fun u => u.svcLoan (loanReq src tid) (loanBody 7 id.toNat mw.toNat 0)).settle) ∧
    -- LOAN_RETURN_RECEIVED: R273, R276: a RETURN.
    (∀ (src : Fin 63) (tid id : BitVec 16) (mw : BitVec 32) (u : State) (t : State),
      t.procRuns = true → t.dengonUp = true → u = t.inc32 Reg.RX_PDUS → t.ownAddr ≠ 0 → (src : Nat) ≠ t.ownAddr →
      exec (.loanReturnReceived src tid id mw) t = .next (u.svcLoan (loanReq src tid) (loanBody 7 id.toNat mw.toNat 0)).settle) ∧
    -- LOAN_RESPONSE_RECEIVED: R274: the answer of a peer; DECLINED changes nothing.
    (∀ (peer : Fin 63) (op : Fin 256) (id : BitVec 16) (mw : BitVec 32) (t : State),
      t.procRuns = true → t.dengonUp = true →
      exec (.loanResponseReceived peer op id mw) t = .next (t.heardFrom peer false fun u => u.loanHeard peer op id.toNat mw.toNat).settle) ∧
    -- LEASE_HALF: R274: half of a lease has passed.
    (∀ (peer : Fin 63) (id : BitVec 16) (t : State),
      t.ppRuns = true →
      exec (.leaseHalf peer id) t = .next (t.loanHalf peer id.toNat).settle) ∧
    -- LEASE_END: R275: a lease has ended unrenewed.
    (∀ (peer : Fin 63) (id : BitVec 16) (t : State),
      t.ppRuns = true →
      exec (.leaseEnd peer id) t = .next (t.leaseEnd peer id.toNat).settle) ∧
    -- LOAN_RETURN_DUE: R276: the headroom has exceeded the loan and HYST_MW for 1 s.
    (∀ (peer : Fin 63) (id : BitVec 16) (t : State),
      t.ppRuns = true →
      exec (.loanReturnDue peer id) t = .next (t.loanGiveBack peer id.toNat).settle) ∧
    -- RESERVATION_END: R276: a reservation of the lender ends.
    (∀ (peer : Fin 63) (id : BitVec 16) (x : Loan) (t : State),
      t.ppRuns = true → findLoan peer id.toNat t.lent = some x → t.since x.start ((t.rd Reg.LEASE_MS + t.rd Reg.LEND_GUARD_MS) * 1000000) = true →
      exec (.reservationEnd peer id) t = .next (t.unlend peer id.toNat).settle) ∧
    -- SHARE_RECEIVE: R283; 13_links.md R577: the entries of a member's SHARE message.
    (∀ (pos : Fin 8) (addr : Fin 64) (payload : List (BitVec 8)) (t : State),
      t.ppRuns = true → t.wsUp = true →
      exec (.shareReceive pos addr payload) t = .next ((t.wsCount payload.length).wsAct 0x22 pos addr payload).settle) ∧
    -- SHARE_TRIM_UPDATE: R283, R285, R288, R289: 10 µs of a share group.
    (∀ (g : Fin 4) (t : State),
      t.ppRuns = true →
      exec (.shareTrimUpdate g) t = .next ((t.toTick (12 + g) 10000).groupPeriod g).settle) ∧
    -- MEMBER_LOSS: R288: three periods without a value of a member.
    (∀ (g : Fin 4) (addr : Fin 64) (t : State),
      t.ppRuns = true →
      exec (.memberLoss g addr) t = .next (t.memberLoss g addr).settle) ∧
    -- MEMBER_REJOIN: R288: ten good values of a dropped member.
    (∀ (g : Fin 4) (addr : Fin 64) (t : State),
      t.ppRuns = true →
      exec (.memberRejoin g addr) t = .next (t.memberRejoin g addr).settle)

/-- DERIVED, 07_loop_engine.md, 07_loop_engine.md R293, 07_loop_engine.md R297, 07_loop_engine.md R294, 07_loop_engine.md R296,
07_loop_engine.md R308, 07_loop_engine.md R309, 07_loop_engine.md R318, 07_loop_engine.md R323, 07_loop_engine.md R322. For each of the
commands LANE_TRIGGER, SLOT_START, SLOT_RESTART, PRESET, PROFILE_TARGET_WRITE, WINDER_STEP, for every state and operands that meet the
conditions named (the plane runs, and what the command's own rule asks of the state and the operands alone), exec answers a next state: the
effect that the rule gives, followed by what follows at once (settle). A write command is accepted by the checks of R502; u is the state
with the register written, and the tests of the unit it names are served. Where a command has several effects, one clause stands for each. -/
def Obligations.LoopTriggerAndWinderCommandsComplete : Prop :=
    -- LANE_TRIGGER: R293, R297: a timer trigger at a multiple of FRAME_NS, or the trigger that the end of a scan round has given, numbered by the rounds since the lane was enabled.
    (∀ (l : Fin 2) (u : State) (t : State),
      t.ppRuns = true → t.on (Reg.ltOn l) = true → t.rd (Reg.ltTrig l) = 0 → u = t.toTick (10 + l) (t.rdN (Reg.ltFrameNs l)) →
      exec (.laneTrigger l) t = .next (u.laneTrigger l ((u.timebase / u.rdN (Reg.ltFrameNs l) : Nat) : Int)).settle) ∧
    -- LANE_TRIGGER: R293, R297: a timer trigger at a multiple of FRAME_NS, or the trigger that the end of a scan round has given, numbered by the rounds since the lane was enabled.
    (∀ (l : Fin 2) (t : State),
      t.ppRuns = true → t.on (Reg.ltOn l) = true → t.rd (Reg.ltTrig l) ≠ 0 → t.on (Reg.lnTrig l) = true →
      exec (.laneTrigger l) t = .next ((t.wr (Reg.lnTrig l) (t.rd (Reg.lnTrig l) - 1)).laneTrigger l (t.rd (Reg.lnRounds l) - t.rd (Reg.lnTrig l) + 1)).settle) ∧
    -- SLOT_START: R294–R296, R308, R309: the run of slot `j` begins when it is due, and its first instruction is fetched. `ecc`: what the fetches of the run find, one after the other, 0 no error, 1 a single-bit error, which is corrected, 2 an uncorrectable error; the fetches after them find none (log entry 60: DEDUCED).
    (∀ (j : Fin 128) (ecc : List (Fin 3)) (t : State),
      t.ppRuns = true → t.slotDue j = true →
      exec (.slotStart j ecc) t = .next (((t.slotBegin j).wr (Reg.lnEcc (j / 64)) (eccDigits ecc : Nat)).fetch (j / 64)).settle) ∧
    -- SLOT_RESTART: R318: a write of 1 to RESTART, with the slot's other fields as they stand.
    (∀ (level : Fin 4) (j : Fin 128) (t u : State) (raw : Nat),
      t.procRuns = true → t.accepts level (0x3800 + j) (1) (withBits (t.rd (Reg.SLOT_CTRL j)) 2 1 1) = true → raw = (rawOf (0x3800 + j) (1) (withBits (t.rd (Reg.SLOT_CTRL j)) 2 1 1)).2 → u = t.written (0x3800 + j) (1) raw → bitsOf (decoded (0x3800 + j) 1 raw) (Bit.SLOT_CTRL_RESTART j).lo 1 = 1 →
      exec (.slotRestart level j) t = .next ((((u.slotRestart j).loopAccept t)).served (0x3800 + j)).settle) ∧
    -- PRESET: R323: a write of 1 to PRESET.
    (∀ (level : Fin 4) (w : Fin 32) (t u : State) (raw : Nat),
      t.procRuns = true → t.accepts level (0x38C0 + w) (1) (1) = true → raw = (rawOf (0x38C0 + w) (1) (1)).2 → u = t.written (0x38C0 + w) (1) raw →
      exec (.preset level w) t = .next (((u.windStart w)).served (0x38C0 + w)).settle) ∧
    -- PROFILE_TARGET_WRITE: R322, R325: a host write of TARGET.
    (∀ (level : Fin 4) (w : Fin 32) (target : BitVec 32) (t u : State) (raw : Nat),
      t.procRuns = true → t.accepts level (0x38C0 + w) (5) (target.toInt) = true → raw = (rawOf (0x38C0 + w) (5) (target.toInt)).2 → u = t.written (0x38C0 + w) (5) raw →
      exec (.profileTargetWrite level w target) t = .next ((((u.wr (Reg.TARGET w) (t.rd (Reg.TARGET w))).windTarget w (decoded (0x38C0 + w) 5 raw))).served (0x38C0 + w)).settle) ∧
    -- WINDER_STEP: R319, R321: every moving profile takes the step of a multiple of 1000 ns; soft retries of rails rise with it (02_converter_core.md R91), and the reference DACs follow (02_converter_core.md R62); every profile publishes its signals (R310).
    (∀ (t : State),
      t.ppRuns = true →
      exec .winderStep t = .next (forUnits 4 (fun r v => v.refresh r) (forUnits 4 (fun r v => v.softStep r) (forUnits 32 (fun w v => (v.windOne w).windShow w) (t.toTick 4 1000)))).settle)

/-- DERIVED, 08_sensing_and_thermal.md, 08_sensing_and_thermal.md R335, 08_sensing_and_thermal.md R341, 08_sensing_and_thermal.md R340,
08_sensing_and_thermal.md R342, 08_sensing_and_thermal.md R293, 08_sensing_and_thermal.md R347, 08_sensing_and_thermal.md R348,
08_sensing_and_thermal.md R351, 08_sensing_and_thermal.md R352. For each of the commands CONVERSION_RESULT, SCAN_ROUND_START,
SCAN_ROUND_END, MONITOR_CROSSING, MONITOR_FILTER, CMPO_CLEAR, CHECK_SWAP, CHECK_KNOWN_LEVEL, AUTO_CHECK, CHECK_END, THERMAL_SAMPLE, for
every state and operands that meet the conditions named (the plane runs, and what the command's own rule asks of the state and the operands
alone), exec answers a next state: the effect that the rule gives, followed by what follows at once (settle). A write command is accepted by
the checks of R502; u is the state with the register written, and the tests of the unit it names are served. Where a command has several
effects, one clause stands for each. -/
def Obligations.SensingCommandsComplete : Prop :=
    -- CONVERSION_RESULT: R335–R341: converter `c` (0–3 FADC, 4–5 PADC) completes a conversion of input `i`, of the reserved schedule or of an entry of the slot table (log entry 91: DESIGN CHOICE).
    (∀ (c : Fin 6) (i : Fin 96) (code : Int) (entry : Option (Fin 256)) (t : State),
      t.ppRuns = true →
      exec (.conversionResult ⟨c, entry⟩ i code) t = .next (t.convert c i code (entry.map Fin.val)).settle) ∧
    -- SCAN_ROUND_START: R340, R342: a scan round begins at a multiple of its period, with the table in force.
    (∀ (t : State),
      t.ppRuns = true → t.rdN Reg.SCAN_CTRL % 2 = 1 → t.on Reg.scanRound = false →
      exec .scanRoundStart t = .next (t.roundBegins).settle) ∧
    -- SCAN_ROUND_END: R340: the round ends when its last result is published; it is the loop engine's SCAN trigger (R293).
    (∀ (t : State),
      t.ppRuns = true → t.roundDone = true →
      exec .scanRoundEnd t = .next (((t.wr Reg.scanRound 0).inc32 Reg.ROUNDS).laneScan).settle) ∧
    -- MONITOR_CROSSING: R347, R348: the level at the input of a monitor is `uv` µV.
    (∀ (m : Fin 48) (uv : Int) (t : State),
      t.ppRuns = true →
      exec (.monitorCrossing m uv) t = .next ((((t.wr (Reg.mnUv m) uv).wr (Reg.mnSeen m) 1).mnApply m (((t.wr (Reg.mnUv m) uv).wr (Reg.mnSeen m) 1).loBefore m) (((t.wr (Reg.mnUv m) uv).wr (Reg.mnSeen m) 1).hiBefore m)).mnNow m).settle) ∧
    -- MONITOR_FILTER: R351, R352: OUT has held for the filter time.
    (∀ (m : Fin 48) (t : State),
      t.ppRuns = true → t.mnHeld m = true →
      exec (.monitorFilter m) t = .next (t.mnFilter m).settle) ∧
    -- CMPO_CLEAR: R353: a write of 1 to CLEAR of CMPO_CTRL, with the pin's other fields as they stand.
    (∀ (level : Fin 4) (k : Fin 8) (t u : State) (raw : Nat),
      t.procRuns = true → t.accepts level (0x3540) (9 + k) (withBits (t.rd (Reg.CMPO_CTRL k)) 3 1 1) = true → raw = (rawOf (0x3540) (9 + k) (withBits (t.rd (Reg.CMPO_CTRL k)) 3 1 1)).2 → u = t.written (0x3540) (9 + k) raw → bitsOf (decoded 0x3540 (9 + k) raw) (Bit.CMPO_CTRL_CLEAR k).lo 1 = 1 →
      exec (.cmpoClear level k) t = .next ((((u.cmpoClear k).cmpoPins)).served (0x3540)).settle) ∧
    -- CHECK_SWAP: R354: a write of 0x01 to CHECK.
    (∀ (level : Fin 4) (m : Fin 48) (t u : State) (raw : Nat),
      t.procRuns = true → t.accepts level (0x3500 + m) (7) (1) = true → raw = (rawOf (0x3500 + m) (7) (1)).2 → u = t.written (0x3500 + m) (7) raw →
      exec (.checkSwap level m) t = .next (((u.mnCheckStart m 1 false)).served (0x3500 + m)).settle) ∧
    -- CHECK_KNOWN_LEVEL: R354: a write of 0x02 to CHECK.
    (∀ (level : Fin 4) (m : Fin 48) (t u : State) (raw : Nat),
      t.procRuns = true → t.accepts level (0x3500 + m) (7) (2) = true → raw = (rawOf (0x3500 + m) (7) (2)).2 → u = t.written (0x3500 + m) (7) raw →
      exec (.checkKnownLevel level m) t = .next (((u.mnCheckStart m 2 false)).served (0x3500 + m)).settle) ∧
    -- AUTO_CHECK: R354, R355: an automatic check of either type; automatic checks never overlap.
    (∀ (m : Fin 48) (known : Bool) (t : State),
      t.ppRuns = true → t.mnAutoDue m = true → t.bit (mnChecking m) = false → ((List.range 48).any fun k => t.on (Reg.mnAuto k)) = false →
      exec (.autoCheck m known) t = .next (((t.wr (Reg.mnAutoNs m) (t.now + 1)).mark markAuto m 0).mnCheckStart m (if known then 2 else 1) true).settle) ∧
    -- CHECK_END: R354–R356: a check ends passed (0), failed (1) or inconclusive (2) (log entry 90: DESIGN CHOICE) (log entry 117: DESIGN CHOICE).
    (∀ (m : Fin 48) (result : Fin 3) (t : State),
      t.ppRuns = true →
      exec (.checkEnd m result) t = .next (t.mnCheckEnd m result).settle) ∧
    -- THERMAL_SAMPLE: R359–R370: a sample of a sensor. One of T0 that comes with a power-plane reset of another cause may join it (R376).
    (∀ (x : Fin 13) (v : Int) (good : Bool) (t : State),
      t.ppRuns = true →
      exec (.thermalSample x v good) t = .next (t.thermSample x v good).settle) ∧
    -- THERMAL_SAMPLE: R359–R370: a sample of a sensor. One of T0 that comes with a power-plane reset of another cause may join it (R376).
    (∀ (v : Int) (good : Bool) (t : State),
      t.t0Joins v good = true →
      exec (.thermalSample 0 v good) t = .next (t.dieJoins 474).settle)

/-- DERIVED, 09_sequencing_and_states.md, 09_sequencing_and_states.md R379, 09_sequencing_and_states.md R380, 09_sequencing_and_states.md R385,
09_sequencing_and_states.md R387, 09_sequencing_and_states.md R389, 09_sequencing_and_states.md R391, 09_sequencing_and_states.md R390,
09_sequencing_and_states.md R388, 09_sequencing_and_states.md R393. For each of the commands STATE_CMD_OFF, STATE_CMD_STANDBY,
STATE_CMD_CONFIGURED, STATE_CMD_RUN, STATE_CMD_ECONOMY, STATE_CMD_PARK, NODE_HOST_OFF, NODE_ON_DELAY_EXPIRY, NODE_POWER_GOOD,
NODE_QUALIFIED, PG_TIMEOUT, NODE_OFF_DELAY_EXPIRY, NODE_RAMP_DOWN_DONE, OFF_TIMEOUT, NODE_FAULT_CONDITION, NODE_FAULT_TIMER_EXPIRY,
NODE_CLEAR, LOSS_SHUTDOWN, RESUME, MARGIN_WRITE, for every state and operands that meet the conditions named (the plane runs, and what the
command's own rule asks of the state and the operands alone), exec answers a next state: the effect that the rule gives, followed by what
follows at once (settle). A write command is accepted by the checks of R502; u is the state with the register written, and the tests of the
unit it names are served. Where a command has several effects, one clause stands for each. -/
def Obligations.SequencerCommandsComplete : Prop :=
    -- STATE_CMD_OFF: R379, R380.
    (∀ (level : Fin 4) (t u : State) (raw : Nat),
      t.procRuns = true → t.accepts level (0x1010) (1) (0) = true → raw = (rawOf (0x1010) (1) (0)).2 → u = t.written (0x1010) (1) raw →
      exec (.stateCmdOff level) t = .next (((forUnits 64 (fun a v => v.wr (Reg.bcastStored a) (v.rd (Reg.bcastRx a))) (u.stateCmd 0))).served (0x1010)).settle) ∧
    -- STATE_CMD_STANDBY: R379, R380.
    (∀ (level : Fin 4) (t u : State) (raw : Nat),
      t.procRuns = true → t.accepts level (0x1010) (1) (1) = true → raw = (rawOf (0x1010) (1) (1)).2 → u = t.written (0x1010) (1) raw →
      exec (.stateCmdStandby level) t = .next (((forUnits 64 (fun a v => v.wr (Reg.bcastStored a) (v.rd (Reg.bcastRx a))) (u.stateCmd 1))).served (0x1010)).settle) ∧
    -- STATE_CMD_CONFIGURED: R379, R380.
    (∀ (level : Fin 4) (t u : State) (raw : Nat),
      t.procRuns = true → t.accepts level (0x1010) (1) (3) = true → raw = (rawOf (0x1010) (1) (3)).2 → u = t.written (0x1010) (1) raw →
      exec (.stateCmdConfigured level) t = .next (((u.stateCmd 3)).served (0x1010)).settle) ∧
    -- STATE_CMD_RUN: R379, R380.
    (∀ (level : Fin 4) (t u : State) (raw : Nat),
      t.procRuns = true → t.accepts level (0x1010) (1) (4) = true → raw = (rawOf (0x1010) (1) (4)).2 → u = t.written (0x1010) (1) raw →
      exec (.stateCmdRun level) t = .next (((u.stateCmd 4)).served (0x1010)).settle) ∧
    -- STATE_CMD_ECONOMY: R379, R380.
    (∀ (level : Fin 4) (t u : State) (raw : Nat),
      t.procRuns = true → t.accepts level (0x1010) (1) (5) = true → raw = (rawOf (0x1010) (1) (5)).2 → u = t.written (0x1010) (1) raw →
      exec (.stateCmdEconomy level) t = .next (((u.stateCmd 5)).served (0x1010)).settle) ∧
    -- STATE_CMD_PARK: R379, R380.
    (∀ (level : Fin 4) (t u : State) (raw : Nat),
      t.procRuns = true → t.accepts level (0x1010) (1) (6) = true → raw = (rawOf (0x1010) (1) (6)).2 → u = t.written (0x1010) (1) raw →
      exec (.stateCmdPark level) t = .next (((u.stateCmd 6)).served (0x1010)).settle) ∧
    -- NODE_HOST_OFF: R385: a write of HOST_OFF.
    (∀ (level : Fin 4) (k : Fin 64) (off : Bool) (t u : State) (raw : Nat),
      t.procRuns = true → t.accepts level (0x3400 + k) (1) (withBits (t.rd (Reg.NODE_CTRL k)) 11 1 (if off then 1 else 0)) = true → raw = (rawOf (0x3400 + k) (1) (withBits (t.rd (Reg.NODE_CTRL k)) 11 1 (if off then 1 else 0))).2 → u = t.written (0x3400 + k) (1) raw → bitsOf (decoded (0x3400 + k) 1 raw) 10 1 = 0 →
      exec (.nodeHostOff level k off) t = .next (((u.wr Reg.seqDue 1)).served (0x3400 + k)).settle) ∧
    -- NODE_ON_DELAY_EXPIRY: R387: ON_DELAY_US has passed in DELAY_ON.
    (∀ (k : Fin 64) (t : State),
      t.ppRuns = true → t.nodeSt k = 2 → t.nodeSince k (t.rd (Reg.ON_DELAY_US k) * 1000) = true →
      exec (.nodeOnDelayExpiry k) t = .next (t.nodeAssert k).settle) ∧
    -- NODE_POWER_GOOD: R387, R389, R391: the level of the node's PG pin, and power-good in RAMP_UP.
    (∀ (k : Fin 64) (high : Bool) (heldNs : Nat) (u : State) (t : State),
      t.ppRuns = true → u = t.pgPin k high heldNs → u.nodeSt k = 3 → u.nodeGood k = true → u.pgOver k = false →
      exec (.nodePowerGood k ⟨high, heldNs⟩) t = .next (((u.nodeEnter k 4).wr (Reg.ndOkNs k) u.now).ftFollow k).settle) ∧
    -- NODE_QUALIFIED: R390: power-good good and the fault timer idle for PG_DELAY.
    (∀ (k : Fin 64) (t : State),
      t.ppRuns = true → t.nodeSt k = 4 → t.nodeQualified k = true →
      exec (.nodeQualified k) t = .next (t.nodeEnter k 5).settle) ∧
    -- PG_TIMEOUT: R387: PG_TIMEOUT_MS has passed in RAMP_UP.
    (∀ (k : Fin 64) (t : State),
      t.ppRuns = true → t.nodeSt k = 3 → t.pgOver k = true →
      exec (.pgTimeout k) t = .next (t.nodeFault k 1).settle) ∧
    -- NODE_OFF_DELAY_EXPIRY: R388: OFF_DELAY_US has passed in DELAY_OFF.
    (∀ (k : Fin 64) (t : State),
      t.ppRuns = true → t.nodeSt k = 6 → t.nodeSince k (t.rd (Reg.OFF_DELAY_US k) * 1000) = true →
      exec (.nodeOffDelayExpiry k) t = .next ((t.nodeWithdraw k true).nodeEnter k 7).settle) ∧
    -- NODE_RAMP_DOWN_DONE: R388: an internal node's rail is OFF; an external node's DISCHARGE_US has passed and its power-good is not good.
    (∀ (k : Fin 64) (high : Bool) (heldNs : Nat) (u : State) (t : State),
      t.ppRuns = true → u = t.pgPin k high heldNs → u.nodeSt k = 7 → u.nodeDone k = true →
      exec (.nodeRampDownDone k ⟨high, heldNs⟩) t = .next (u.nodeEnter k 0).settle) ∧
    -- OFF_TIMEOUT: R388: OFF_TIMEOUT_MS has passed in RAMP_DOWN.
    (∀ (k : Fin 64) (t : State),
      t.ppRuns = true → t.nodeSt k = 7 → t.nodeSince k (t.rd (Reg.OFF_TIMEOUT_MS k) * 1000000) = true →
      exec (.offTimeout k) t = .next (t.nodeFault k 3).settle) ∧
    -- NODE_FAULT_CONDITION: R390: the fault timer of a node follows its fault condition.
    (∀ (k : Fin 64) (high : Bool) (heldNs : Nat) (u : State) (t : State),
      t.ppRuns = true → u = t.pgPin k high heldNs → (u.nodeSt k = 4 ∨ u.nodeSt k = 5) →
      exec (.nodeFaultCondition k ⟨high, heldNs⟩) t = .next (u.ftFollow k).settle) ∧
    -- NODE_FAULT_TIMER_EXPIRY: R390, R393: the fault timer reaches FAULT_US.
    (∀ (k : Fin 64) (t : State),
      t.ppRuns = true → (t.nodeSt k = 4 ∨ t.nodeSt k = 5) → t.ftOver k = true →
      exec (.nodeFaultTimerExpiry k) t = .next (t.nodeFault k 2).settle) ∧
    -- NODE_CLEAR: R395: a write of 1 to CLEAR.
    (∀ (level : Fin 4) (k : Fin 64) (t u : State) (raw : Nat),
      t.procRuns = true → t.accepts level (0x3400 + k) (1) (withBits (t.rd (Reg.NODE_CTRL k)) 10 1 1) = true → raw = (rawOf (0x3400 + k) (1) (withBits (t.rd (Reg.NODE_CTRL k)) 10 1 1)).2 → u = t.written (0x3400 + k) (1) raw → bitsOf (decoded (0x3400 + k) 1 raw) 10 1 = 1 →
      exec (.nodeClear level k) t = .next ((((u.nodeEnter k 0).wr Reg.seqDue 1)).served (0x3400 + k)).settle) ∧
    -- LOSS_SHUTDOWN: R398: a loss trigger, 0 the length of HOLD, 1 the storage level, 2 no storage to hold with.
    (∀ (trigger : Fin 3) (t : State),
      t.ppRuns = true → t.lossDue trigger = true →
      exec (.lossShutdown trigger) t = .next (t.lossStart trigger).settle) ∧
    -- RESUME: R400: a write of 0x01 to RESUME.
    (∀ (level : Fin 4) (t u : State) (raw : Nat),
      t.procRuns = true → t.accepts level (0x3441) (8) (1) = true → raw = (rawOf (0x3441) (8) (1)).2 → u = t.written (0x3441) (8) raw →
      exec (.resume level) t = .next (((u.lossResume)).served (0x3441)).settle) ∧
    -- MARGIN_WRITE: R403: a write of MARGINr.
    (∀ (level : Fin 4) (r : Fin 4) (m : BitVec 16) (t u : State) (raw : Nat),
      t.procRuns = true → t.accepts level (0x3440) (r + 1) (m.toInt) = true → raw = (rawOf (0x3440) (r + 1) (m.toInt)).2 → u = t.written (0x3440) (r + 1) raw →
      exec (.marginWrite level r m) t = .next (((((u.wr (Reg.MARGIN r) (t.rd (Reg.MARGIN r))).mark markMargin r 0).setMargin r (decoded 0x3440 (r + 1) raw))).served (0x3440)).settle)

/-- DERIVED, 10_faults_watchdog_resets.md, 10_faults_watchdog_resets.md R410, 10_faults_watchdog_resets.md R412, 10_faults_watchdog_resets.md
R416. For each of the commands WINDOW_EXPIRY, SOURCE_CLEAR, SOURCE_FORCE, for every state and operands that meet the conditions named (the
plane runs, and what the command's own rule asks of the state and the operands alone), exec answers a next state: the effect that the rule
gives, followed by what follows at once (settle). A write command is accepted by the checks of R502; u is the state with the register
written, and the tests of the unit it names are served. Where a command has several effects, one clause stands for each. -/
def Obligations.CollectorCommandsComplete : Prop :=
    -- WINDOW_EXPIRY: R410: WINDOW_MS after a source's window started.
    (∀ (f : Fin 1024) (t : State),
      t.ppRuns = true → t.windowOver f = true →
      exec (.windowExpiry f) t = .next ((t.wr (Reg.COUNT f) 0).setFld (flag (Reg.SRC_STATUS f) 1) 0).settle) ∧
    -- SOURCE_CLEAR: R412: a write of 1 to CLEAR.
    (∀ (level : Fin 4) (f : Fin 1024) (t u : State) (raw : Nat),
      t.procRuns = true → t.accepts level (0x4000 + f) (1) (withBits (t.rd (Reg.SRC_CTRL f)) 2 1 1) = true → raw = (rawOf (0x4000 + f) (1) (withBits (t.rd (Reg.SRC_CTRL f)) 2 1 1)).2 → u = t.written (0x4000 + f) (1) raw → bitsOf (decoded (0x4000 + f) 1 raw) 2 1 = 1 → bitsOf (decoded (0x4000 + f) 1 raw) 1 1 = 0 →
      exec (.sourceClear level f) t = .next ((((u.mark markReaction f (t.fld (Bit.SRC_CTRL_REACTION f))).srcClear f)).served (0x4000 + f)).settle) ∧
    -- SOURCE_FORCE: R416: a write of 1 to FORCE.
    (∀ (level : Fin 4) (f : Fin 1024) (v : State) (t u : State) (raw : Nat),
      t.procRuns = true → t.accepts level (0x4000 + f) (1) (withBits (t.rd (Reg.SRC_CTRL f)) 1 1 1) = true → raw = (rawOf (0x4000 + f) (1) (withBits (t.rd (Reg.SRC_CTRL f)) 1 1 1)).2 → u = t.written (0x4000 + f) (1) raw → bitsOf (decoded (0x4000 + f) 1 raw) 2 1 = 0 → bitsOf (decoded (0x4000 + f) 1 raw) 1 1 = 1 → v = u.mark markReaction f (t.fld (Bit.SRC_CTRL_REACTION f)) →
      exec (.sourceForce level f) t = .next ((({ v with raiseQ := v.raiseQ ++ [1024 + f.val] })).served (0x4000 + f)).settle)

/-- DERIVED, 10_faults_watchdog_resets.md, 10_faults_watchdog_resets.md R427, 10_faults_watchdog_resets.md R431, 10_faults_watchdog_resets.md
R434, 10_faults_watchdog_resets.md R428, 10_faults_watchdog_resets.md R429, 10_faults_watchdog_resets.md R422, 10_faults_watchdog_resets.md
R423, 10_faults_watchdog_resets.md R424, 10_faults_watchdog_resets.md R447. For each of the commands WATCHDOG_EXPIRY, WDT_SVC, WDT_PERIOD,
LOCKSTEP_MISMATCH, FOREIGN_WRITE, HEARTBEAT_MISSED, CONFIG_CHECK, HOLD_TIMEOUT, for every state and operands that meet the conditions named
(the plane runs, and what the command's own rule asks of the state and the operands alone), exec answers a next state: the effect that the
rule gives, followed by what follows at once (settle). A write command is accepted by the checks of R502; u is the state with the register
written, and the tests of the unit it names are served. Where a command has several effects, one clause stands for each. -/
def Obligations.WatchdogCommandsComplete : Prop :=
    -- WATCHDOG_EXPIRY: R427, R431: the count reaches the period; of the causes of one edge each acts (R434) (log entry 51: DESIGN CHOICE).
    (∀ (t : State),
      t.on Reg.corePowered = true → t.on Reg.ppReset = false → t.on Reg.procReset = false → t.wdPeriod ≤ t.wdTicks →
      exec .watchdogExpiry t = .next (t.wdExpires).settle) ∧
    -- WATCHDOG_EXPIRY: R427, R431: the count reaches the period; of the causes of one edge each acts (R434) (log entry 51: DESIGN CHOICE).
    (∀ (t : State),
      t.procBegun = true → t.watchBack.wdPeriod ≤ t.watchBack.wdTicks →
      exec .watchdogExpiry t = .next t.wdExpires.settle) ∧
    -- WDT_SVC: R428: a service write with its key (log entry 51: DESIGN CHOICE, log entry 117: DESIGN CHOICE).
    (∀ (t : State),
      t.on Reg.corePowered = true → t.on Reg.procReset = false → t.on Reg.ppReset = false → t.nowMark markWdPeriod 0 = none → t.wdPeriod ≤ 2 * t.wdSvcTick → t.wdSvcTick < t.wdPeriod →
      exec (.wdtSvc 0xD1A6 t.wdSvcTick) t = .next (t.wdServe t.wdSvcTick).settle) ∧
    -- WDT_SVC: R428: a service write with its key (log entry 51: DESIGN CHOICE, log entry 117: DESIGN CHOICE).
    (∀ (key : BitVec 32) (t : State),
      t.on Reg.corePowered = true → t.on Reg.procReset = false → t.on Reg.ppReset = false → t.nowMark markWdPeriod 0 = none → (key ≠ 0x0000D1A6 ∨ 2 * t.wdSvcTick < t.wdPeriod) → t.wdSvcTick < t.wdPeriod →
      exec (.wdtSvc key t.wdSvcTick) t = .next (t.wdViolation).settle) ∧
    -- WDT_PERIOD: R429: a write of the period.
    (∀ (v : BitVec 32) (u : State) (t : State),
      t.on Reg.corePowered = true → t.on Reg.procReset = false → t.on Reg.ppReset = false → t.on Reg.wdPeriodWritten = false → t.bit wdLocked = false → (8 ≤ v.toNat ∧ v.toNat ≤ 512) → u = (t.mark markWdPeriod 0 (t.rd Reg.WD_PERIOD_MS)).mark markWdAt 0 (t.rd Reg.wdNs) →
      exec (.wdtPeriod v) t = .next (((u.wr Reg.WD_PERIOD_MS v.toNat).wr Reg.wdNs u.now).wr Reg.wdPeriodWritten 1).settle) ∧
    -- LOCKSTEP_MISMATCH: R422: the deputy's cores disagree (log entry 14: DEDUCED).
    (∀ (t : State),
      t.on Reg.corePowered = true → t.on Reg.ppReset = false → t.on Reg.procReset = false →
      exec .lockstepMismatch t = .next ((t.raise 228).wantReset 7).settle) ∧
    -- FOREIGN_WRITE: R423: a write of another master to a deputy-only register.
    (∀ (t : State),
      t.on Reg.corePowered = true → t.on Reg.procReset = false → t.on Reg.ppReset = false →
      exec .foreignWrite t = .next ((t.inc16 Reg.WD_FOREIGN).raise 229).settle) ∧
    -- HEARTBEAT_MISSED: R424: a heartbeat interval without an answer (log entry 14: DEDUCED).
    (∀ (halted : Bool) (t : State),
      t.procRuns = true → t.on Reg.planeReady = true → (halted && t.authSilent) = false → t.rd Reg.hbMisses = 2 →
      exec (.heartbeatMissed true halted) t = .next (t.confBreak.heartLost).settle) ∧
    -- HEARTBEAT_MISSED: R424: a heartbeat interval without an answer (log entry 14: DEDUCED).
    (∀ (halted : Bool) (t : State),
      t.procRuns = true → t.on Reg.planeReady = true → (halted && t.authSilent) = false →
      exec (.heartbeatMissed false halted) t = .next (t.confBreak.wr Reg.hbMisses 1).settle) ∧
    -- HEARTBEAT_MISSED: R424: a heartbeat interval without an answer (log entry 14: DEDUCED).
    (∀ (halted : Bool) (t : State),
      t.procBegun = true → (t.watchBack.heartMissed true halted).on Reg.procReqd = true →
      exec (.heartbeatMissed true halted) t = .next t.heartLost.settle) ∧
    -- CONFIG_CHECK: R424: the check of every 100 ms; `mismatch`: the first index whose CRC differs, 0 for none (log entry 14: DEDUCED).
    (∀ (i : BitVec 16) (u : State) (t : State),
      t.procRuns = true → t.on Reg.planeReady = true → u = t.toAfter (t.rd Reg.cfgNs) 100000000 →
      exec (.configCheck i) t = .next ((u.wr Reg.cfgNs (u.now + 1)).cfgCheck i.toNat).settle) ∧
    -- HOLD_TIMEOUT: 01_architecture.md R28: the hold timer reaches 200 ms with PLANE_READY clear on that edge; one that sets with it would have come before this command, and one that follows comes on a later edge (R447; log entry 123: DESIGN CHOICE).
    (∀ (t : State),
      t.ppRuns = true → t.on Reg.holdActive = true → t.on Reg.holdTimedOut = false → t.since (t.rd Reg.holdNs) 200000000 = true →
      exec .holdTimeout t = .next (((t.wr Reg.holdTimedOut 1).raise 225).advance 5).settle)

/-- DERIVED, 10_faults_watchdog_resets.md, 10_faults_watchdog_resets.md R435, 10_faults_watchdog_resets.md R434, 10_faults_watchdog_resets.md
R433, 10_faults_watchdog_resets.md R425, 10_faults_watchdog_resets.md R436, 10_faults_watchdog_resets.md R689, 10_faults_watchdog_resets.md
R32, 10_faults_watchdog_resets.md R33, 10_faults_watchdog_resets.md R368. For each of the commands RESET_CMD, PROC_RESET_END, PLANE_READY,
PP_RESET_END, POWER_ON_RESET, RESET_N, CORE_SUPPLY_UNDERVOLTAGE, VSUP_POWER_ON, ROOT_CLOCK_LOSS, CLK_RETURN, ROOT_CLOCK_RETURN,
DIE_COMPARATOR, DIE_COMPARATOR_RELEASE, for every state and operands that meet the conditions named (the plane runs, and what the command's
own rule asks of the state and the operands alone), exec answers a next state: the effect that the rule gives, followed by what follows at
once (settle). A write command is accepted by the checks of R502; u is the state with the register written, and the tests of the unit it
names are served. Where a command has several effects, one clause stands for each. -/
def Obligations.ResetCommandsComplete : Prop :=
    -- RESET_CMD: R435: a write of 0x0C1D; with another cause of that edge it joins the reset where the host could have made it (R434).
    (∀ (level : Fin 4) (t u : State) (raw : Nat),
      t.procRuns = true → t.accepts level (0x1F19) (1) (0x0C1D) = true → raw = (rawOf (0x1F19) (1) (0x0C1D)).2 → u = t.written (0x1F19) (1) raw →
      exec (.resetCmd level) t = .next (((u.wantReset 5)).served (0x1F19)).settle) ∧
    -- PROC_RESET_END: R433; 11_shaft_and_pit_log.md R460: the 10 µs are over; `zeroOk`: the SECURE blocks read back as zero.
    (∀ (t : State),
      t.on Reg.procReset = true → t.on Reg.ppReset = false → t.on Reg.corePowered = true → t.since (t.rd Reg.procNs) 10000 = true →
      exec (.procResetEnd true) t = .next (t.procEnd).settle) ∧
    -- PROC_RESET_END: R433; 11_shaft_and_pit_log.md R460: the 10 µs are over; `zeroOk`: the SECURE blocks read back as zero.
    (∀ (t : State),
      t.on Reg.procReset = true → t.on Reg.ppReset = false → t.on Reg.corePowered = true → t.since (t.rd Reg.procNs) 10000 = true →
      exec (.procResetEnd false) t = .next ((t.procEnd.setFld (flag Reg.SH_STATUS 0) 1).raise 75).settle) ∧
    -- PLANE_READY: R425: PLANE_READY sets; `okA`, `okB`: the content of each bank verifies as read (log entry 14: DEDUCED, log entry 52: DESIGN CHOICE).
    (∀ (okA okB : Bool) (i : BitVec 16) (t : State),
      t.on Reg.corePowered = true → t.on Reg.procReset = false → t.on Reg.ppReset = false → t.on Reg.planeReady = false → t.on Reg.nvmResetDue = false → t.rdN Reg.STATE ≠ 2 →
      exec (.planeReady okA okB i) t = .next (t.becomeReady (fun b => if b = 0 then okA else okB) i.toNat).settle) ∧
    -- PP_RESET_END: R436: the satellite frames have been sent, or 200 µs have passed.
    (∀ (t : State),
      t.on Reg.ppReset = true → t.on Reg.dieHold = false → t.on Reg.corePowered = true →
      exec .ppResetEnd t = .next (t.ppEnd).settle) ∧
    -- POWER_ON_RESET: R689: VSUP falls below its power-on level.
    (∀ (t : State),
      t.on Reg.corePowered = true → ((t.wr Reg.wakeWithPower 0).coldReset 1 false none).bit (flag Reg.SUP_STATUS 5) = true →
      exec .powerOnReset t = .next ((t.wr Reg.wakeWithPower 0).coldReset 1 false none).settle) ∧
    -- RESET_N: 01_architecture.md R24: a low pulse of `lowNs`; between 9 and 10 µs which of the two outcomes follows is an open value. `seconds`: the time spent in STANDBY or OFF (log entry 50: DESIGN CHOICE).
    (∀ (lowNs seconds : Nat) (t : State),
      10000 < lowNs → t.on Reg.corePowered = true →
      exec (.resetN lowNs seconds) t = .next (t.coldReset 2 true none).settle) ∧
    -- CORE_SUPPLY_UNDERVOLTAGE: R689: VCORE falls below its threshold.
    (∀ (t : State),
      t.on Reg.corePowered = true →
      exec .coreSupplyUndervoltage t = .next (t.coldReset 0x0A (t.on Reg.wakeWithPower) none).settle) ∧
    -- VSUP_POWER_ON: R689; 15_start_bist_standby.md R654: VSUP rises above its power-on level; in STANDBY that alone starts nothing, and a wake that is pending waits for the operating range. `seconds`: the time spent in OFF (log entry 56: DEDUCED).
    (∀ (seconds : Nat) (t : State),
      t.on Reg.corePowered = false → (t.wr Reg.wakeWithPower 1).on Reg.wakePend = false → (t.wr Reg.wakeWithPower 1).on Reg.alwaysOn = true → (t.wr Reg.wakeWithPower 1).rd Reg.STATE = 0 →
      exec (.vsupPowerOn seconds) t = .next ((t.wr Reg.wakeWithPower 1).coldReset 1 true (some (7, seconds))).settle) ∧
    -- ROOT_CLOCK_LOSS: R32: 160 ns without an edge of XIN, once for each time that the edges stop; the clock unit is in no reset but the cold one.
    (∀ (t : State),
      t.on Reg.corePowered = true →
      exec .rootClockLoss t = .next (((t.setFld (flag Reg.CLK_STATUS 0) 0).setFld (flag Reg.CLK_STATUS 1) 1).raise 224).settle) ∧
    -- CLK_RETURN: R33: a write of 0x0001 to CLK_RETURN.
    (∀ (level : Fin 4) (t u : State) (raw : Nat),
      t.procRuns = true → t.accepts level (0x1F20) (2) (1) = true → raw = (rawOf (0x1F20) (2) (1)).2 → u = t.written (0x1F20) (2) raw →
      exec (.clkReturn level) t = .next (((u.setFld (flag Reg.CLK_STATUS 1) 0)).served (0x1F20)).settle) ∧
    -- ROOT_CLOCK_RETURN: R33: edges of XIN have been present for 10 ms.
    (∀ (t : State),
      t.on Reg.corePowered = true →
      exec .rootClockReturn t = .next (t.setFld (flag Reg.CLK_STATUS 0) 1).settle) ∧
    -- DIE_COMPARATOR: R368, R369: the analog die comparator trips; the power plane stays in reset while the die is above 165 °C.
    (∀ (t : State),
      t.on Reg.corePowered = true → t.on Reg.ppReset = false →
      exec .dieComparator t = .next (((t.raise 500).wr Reg.dieHold 1).wantPpReset 500 true).settle) ∧
    -- DIE_COMPARATOR: R368, R369: the analog die comparator trips; the power plane stays in reset while the die is above 165 °C.
    (∀ (t : State),
      t.on Reg.corePowered = true → t.on Reg.ppReset = true →
      exec .dieComparator t = .next ((t.wr Reg.dieHold 1).dieJoins 500)) ∧
    -- DIE_COMPARATOR_RELEASE: R368: the die has cooled to 165 °C; the hold on the power plane ends.
    (∀ (t : State),
      exec .dieComparatorRelease t = .next (t.wr Reg.dieHold 0))

/-- DERIVED, 15_start_bist_standby.md, 15_start_bist_standby.md R638, 15_start_bist_standby.md R636, 15_start_bist_standby.md R639,
15_start_bist_standby.md R646, 15_start_bist_standby.md R651, 15_start_bist_standby.md R647, 15_start_bist_standby.md R662,
15_start_bist_standby.md R653, 15_start_bist_standby.md R654. For each of the commands CONFIGURED_ENTRY, START_HALT_RETRY, CRYSTAL_TIMEOUT,
LAMP_UNIT_DONE, LAMP_TIMEOUT, WAKE, WAKE_PENDING_START, SUPPLY_DIP, SUPPLY_HOLD_RELEASE, IO_SUPPLY_LOSS, IO_SUPPLY_RETURN, VKEEP_LOW,
VKEEP_RETURN, for every state and operands that meet the conditions named (the plane runs, and what the command's own rule asks of the state
and the operands alone), exec answers a next state: the effect that the rule gives, followed by what follows at once (settle). A write
command is accepted by the checks of R502; u is the state with the register written, and the tests of the unit it names are served. Where a
command has several effects, one clause stands for each. -/
def Obligations.StartAndStandbyCommandsComplete : Prop :=
    -- CONFIGURED_ENTRY: R638: the start ends in CONFIGURED, or halts on a failure of units 0–6 (R636) (log entry 52: DESIGN CHOICE).
    (∀ (fails : List (Fin 27 × Fin 4096 × BitVec 32 × BitVec 16)) (t : State),
      t.ppRuns = true → t.rd Reg.STATE = 2 → t.on Reg.startHeld = false → t.on Reg.startHalted = false → t.on Reg.procReset = false → fails = [] →
      exec (.configuredEntry fails) t = .next (t.configure (t.recordClean && !t.on Reg.startFromPp) []).settle) ∧
    -- START_HALT_RETRY: R636: 1 s after a halted start, at most twice in a row (log entry 53: DEDUCED).
    (∀ (t : State),
      t.ppRuns = true → t.on Reg.startHalted = true → t.rd Reg.haltRun < 3 → t.since (t.rd Reg.haltNs) 1000000000 = true →
      exec .startHaltRetry t = .next ((t.wr Reg.startHalted 0).wr Reg.startNs t.now).settle) ∧
    -- CRYSTAL_TIMEOUT: R639: 20 ms without a stable XIN, once in a start.
    (∀ (t : State),
      t.ppRuns = true → t.rd Reg.STATE = 2 → t.bit (flag Reg.CLK_STATUS 1) = false → t.since (t.rd Reg.startNs) 20000000 = true →
      exec .crystalTimeout t = .next (((t.setFld (flag Reg.CLK_STATUS 0) 0).setFld (flag Reg.CLK_STATUS 1) 1).raise 224).settle) ∧
    -- LAMP_UNIT_DONE: R646, R651: the test of the unit under test completes, with its COVERAGE and failures (log entry 93: DESIGN CHOICE); at the limit of 120 ms its result stands, and the lamp check is over (R647, R662) (log entry 117: DESIGN CHOICE).
    (∀ (coverage : BitVec 16) (t : State),
      t.ppRuns = true → t.rd Reg.lampPhase = 1 → t.rdN Reg.lampUnit ≤ 25 →
      exec (.lampUnitDone coverage ((t.now - t.rd Reg.lampUnitNs) / 1000) []) t = .next (((t.setFld ⟨Reg.FAILED_MASK, t.rdN Reg.lampUnit, 1⟩ 0).lampEntry (t.rdN Reg.lampUnit) 0 coverage.toNat ((t.now - t.rd Reg.lampUnitNs) / 1000)).lampBudget).settle) ∧
    -- LAMP_TIMEOUT: R647: 120 ms from the start of the lamp check.
    (∀ (t : State),
      t.ppRuns = true →
      exec .lampTimeout t = .next (t.lampBudget).settle) ∧
    -- WAKE: R653, R654, R662: a wake source, 0–3 WAKE0–3 and 4 TW0, with what it comes with; pending while VSUP is absent, or while the power-down completes (log entry 56: DEDUCED).
    (∀ (k : Fin 5) (seconds : Nat) (high changed : Bool) (heldNs : Nat) (address : Fin 128) (t : State),
      t.rd Reg.STATE = 1 → t.wakeArmed (k.val + 1) = true → t.wakeSeen (k.val + 1) ⟨seconds, high, changed, heldNs, address⟩ = true → t.on Reg.corePowered = false → t.on Reg.alwaysOn = true → t.on Reg.wakeWithPower = true →
      exec (.wake k ⟨seconds, high, changed, heldNs, address⟩) t = .next (t.coldReset 1 true (some (k.val + 1, seconds))).settle) ∧
    -- WAKE_PENDING_START: R654: VSUP enters its range with a wake pending, after `seconds` in STANDBY (log entry 56: DEDUCED).
    (∀ (seconds : Nat) (t : State),
      t.on Reg.corePowered = false → t.on Reg.wakePend = true →
      exec (.wakePendingStart seconds) t = .next ((t.wr Reg.STBY_S (satU 32 seconds)).wr Reg.wakeWithPower 1).settle) ∧
    -- SUPPLY_DIP: R675: VDDA, VDDIO1 or VREG5 low for 2 µs; of two that go together SUP_LAST names the lower code (R686).
    (∀ (k : Fin 3) (u : State) (t : State),
      t.on Reg.corePowered = true → u = t.setFld (flag Reg.SUP_STATUS (if k.val = 2 then 4 else k.val)) 0 → u.coldNow = false → u.on Reg.ppReset = false →
      exec (.supplyDip k) t = .next (((((u.noteBefore [Reg.SUP_RESETS, Reg.SUP_LAST]).mark markSupply 0 0).wr Reg.SUP_LAST ((k.val + 1 : Nat) : Int)).inc16 Reg.SUP_RESETS).wr Reg.ppReqd 1).settle) ∧
    -- SUPPLY_HOLD_RELEASE: R674, R675: the supplies that hold the start have been in range for 1 ms.
    (∀ (t : State),
      t.ppRuns = true → t.on Reg.startHeld = true → t.on Reg.startFromPp = false →
      exec .supplyHoldRelease t = .next (((t.setFld (flag Reg.SUP_STATUS 0) 1).setFld (flag Reg.SUP_STATUS 1) 1).wr Reg.startHeld 0).settle) ∧
    -- IO_SUPPLY_LOSS: R676: VDDIO2 or VDDIO_RG leaves its range, and the card's pins with VDDIO2 (14_images_and_security.md R601) (log entry 57: DEDUCED).
    (∀ (t : State),
      t.on Reg.corePowered = true → t.on (Reg.ioStopped 1) = false →
      exec (.ioSupplyLoss 1) t = .next (forAll (portsOfSupply 1) (fun c v => v.portReset c) (((t.setFld (flag Reg.SUP_STATUS 3) 0).wr (Reg.ioStopped 1) 1).inc16 Reg.IO_LOSSES)).settle) ∧
    -- IO_SUPPLY_RETURN: R676: the supply has been in range for 1 ms, and its ports start again; a CAN controller starts error-active.
    (∀ (t : State),
      t.on Reg.corePowered = true → t.on (Reg.ioStopped 1) = true →
      exec (.ioSupplyReturn 1) t = .next ((t.setFld (flag Reg.SUP_STATUS 3) 1).wr (Reg.ioStopped 1) 0).settle) ∧
    -- VKEEP_LOW: R677: VKEEP is low; with neither VSUP nor a running core behind it, the always-on domain loses power.
    (∀ (t : State),
      t.on Reg.corePowered = true → t.on Reg.wakeWithPower = true →
      exec .vkeepLow t = .next (t.setFld (flag Reg.SUP_STATUS 5) 0).settle) ∧
    -- VKEEP_RETURN: R677: VKEEP is back.
    (∀ (t : State),
      exec .vkeepReturn t = .next (t.setFld (flag Reg.SUP_STATUS 5) 1).settle)

/-- DERIVED, 11_shaft_and_pit_log.md, 11_shaft_and_pit_log.md R37, 11_shaft_and_pit_log.md R450, 11_shaft_and_pit_log.md R453,
11_shaft_and_pit_log.md R451, 11_shaft_and_pit_log.md R458, 11_shaft_and_pit_log.md R459, 11_shaft_and_pit_log.md R457,
11_shaft_and_pit_log.md R465, 11_shaft_and_pit_log.md R471. For each of the commands CREDIT_REQUEST, BLOCK_RELEASE, PRODUCER_WAIT_TIMEOUT,
SCRUB, STREAM_SAMPLE, CAPTURE_FRAME, CAPTURE_TRIGGER, CAPTURE_FREEZE, ARM, TRIG_HOST, PIT_LOG_TICK, LIVE_REFRESH, EPOCH_PERIOD, PL_CMD,
EPOCH_COMMIT, EPOCH_FAIL, for every state and operands that meet the conditions named (the plane runs, and what the command's own rule asks
of the state and the operands alone), exec answers a next state: the effect that the rule gives, followed by what follows at once (settle).
A write command is accepted by the checks of R502; u is the state with the register written, and the tests of the unit it names are served.
Where a command has several effects, one clause stands for each. -/
def Obligations.ShaftAndPitLogCommandsComplete : Prop :=
    -- CREDIT_REQUEST: R37, R450–R453: gallery `g`'s producer asks for a block that it fills with `data`; a power-plane producer that finds the Shaft in reset or in hold mode drops it.
    (∀ (g : Fin 64) (data : List (BitVec 8)) (t : State),
      t.procRuns = true →
      exec (.creditRequest g data) t = .next (t.askCredit g data).settle) ∧
    -- BLOCK_RELEASE: R450, R451: gallery `g`'s consumer releases its oldest block; a block of G19 holds sixteen notices, and the capture's blocks come back only as its record advances, and the live image keeps its own.
    (∀ (g : Fin 64) (t : State),
      t.procRuns = true → g ≠ 19 → galClass g ≠ 2 → g ≠ 23 →
      exec (.blockRelease g) t = .next ((t.freeBlock g).txRetry).settle) ∧
    -- BLOCK_RELEASE: R450, R451: gallery `g`'s consumer releases its oldest block; a block of G19 holds sixteen notices, and the capture's blocks come back only as its record advances, and the live image keeps its own.
    (∀ (t : State),
      t.procRuns = true → t.on (Reg.USED 19) = true →
      exec (.blockRelease 19) t = .next ({ t.freeBlock 19 with notices := t.notices.drop 16 }).settle) ∧
    -- PRODUCER_WAIT_TIMEOUT: R453: a producer's wait has lasted 10 ms; once for each wait.
    (∀ (g : Fin 64) (t : State),
      t.procRuns = true → t.on (Reg.galWaitNs g) = true → t.on (Reg.galWaitRaised g) = false → t.since (t.rd (Reg.galWaitNs g) - 1) 10000000 = true →
      exec (.producerWaitTimeout g) t = .next ((t.wr (Reg.galWaitRaised g) 1).raise 71).settle) ∧
    -- SCRUB: R458, R459: the scrubber reads one block. `corrected`: the words it corrected; `bad`: the block has an uncorrectable error, and then `g` and `place` say whose it is.
    (∀ (corrected : Nat) (g : Fin 64) (place : Nat) (u : State) (t : State),
      t.procRuns = true → u = (t.toTick 5 10000).eccCorrected corrected →
      exec (.scrub corrected false g place) t = .next (u.wr Reg.scrubAt ((u.rd Reg.scrubAt + 1) % 16384)).settle) ∧
    -- SCRUB: R458, R459: the scrubber reads one block. `corrected`: the words it corrected; `bad`: the block has an uncorrectable error, and then `g` and `place` say whose it is.
    (∀ (corrected : Nat) (g : Fin 64) (place : Nat) (u v : State) (t : State),
      t.procRuns = true → u = (t.toTick 5 10000).eccCorrected corrected → v = u.wr Reg.scrubAt ((u.rd Reg.scrubAt + 1) % 16384) →
      exec (.scrub corrected true g place) t = .next ((((v.inc32 Reg.UNCORRECTED).inc16 Reg.BAD_BLOCKS).poison g place).raise 68).settle) ∧
    -- STREAM_SAMPLE: R37, R457: a sample of signal stream `g`, dropped while the Shaft takes none (log entry 64: DEDUCED).
    (∀ (g : Fin 64) (u : State) (t : State),
      t.ppRuns = true → 32 ≤ g.val → t.rd (Reg.STREAM_SIG g) ≠ 65535 → u = t.toTickOf (Reg.galTickNs g) (t.rdN (Reg.DEC_US g) * 1000) →
      exec (.streamSample g) t = .next (u.record g (leBytes 6 u.timebase ++ leBytes 2 (twos 16 (u.sigValue (u.rdN (Reg.STREAM_SIG g)))))).settle) ∧
    -- CAPTURE_FRAME: R465–R471: in hold mode a frame of a capture at work is dropped.
    (∀ (node scan : List Int) (t : State),
      t.procRuns = true →
      exec (.captureFrame node scan) t = .next (t.captureFrame node scan).settle) ∧
    -- CAPTURE_TRIGGER: R467: a trigger: 0x000–0x3FF a source's entry to SEVERE, 0x400 on a monitor's OUT_F, 0x800 the host.
    (∀ (cause : Fin 2049) (u : State) (t : State),
      t.procRuns = true → t.marked markArm 0 = none → t.marked markTrig 0 = none → t.rd Reg.CAP_STATE = 1 → t.capTrigSet cause = true → u = ((((t.wr Reg.CAP_STATE 2).wr Reg.TRIG_NS t.now).wr Reg.TRIG_CAUSE cause).wr Reg.capTrigAt t.capFrameHere).mark markTrig 0 0 → u.capDone = false →
      exec (.captureTrigger cause) t = .next (u).settle) ∧
    -- CAPTURE_FREEZE: R467: POST_FRAMES frames have followed the trigger frame.
    (∀ (t : State),
      t.procRuns = true → t.capDone = true →
      exec .captureFreeze t = .next (t.capFreeze).settle) ∧
    -- ARM: R470: the write of ARM.
    (∀ (level : Fin 4) (t u : State) (raw : Nat),
      t.procRuns = true → t.accepts level (0x5080) (1) (withBits (t.rd Reg.CAP_CTRL) 0 2 1) = true → raw = (rawOf (0x5080) (1) (withBits (t.rd Reg.CAP_CTRL) 0 2 1)).2 → u = t.written (0x5080) (1) raw → bitsOf (decoded 0x5080 1 raw) 0 1 = 1 → bitsOf (decoded 0x5080 1 raw) 1 1 = 0 →
      exec (.arm level) t = .next (((u.capArm)).served (0x5080)).settle) ∧
    -- TRIG_HOST: R467: the write of TRIG_HOST.
    (∀ (level : Fin 4) (t u : State) (raw : Nat),
      t.procRuns = true → t.accepts level (0x5080) (1) (withBits (t.rd Reg.CAP_CTRL) 0 2 2) = true → raw = (rawOf (0x5080) (1) (withBits (t.rd Reg.CAP_CTRL) 0 2 2)).2 → u = t.written (0x5080) (1) raw → bitsOf (decoded 0x5080 1 raw) 0 1 = 0 → bitsOf (decoded 0x5080 1 raw) 1 1 = 1 →
      exec (.trigHost level) t = .next (((u.capTrigger 0x800)).served (0x5080)).settle) ∧
    -- PIT_LOG_TICK: R475, R476: the tick of a second, which the plane bridge's staging counts in every reset but the cold one, and in hold mode.
    (∀ (t : State),
      t.on Reg.corePowered = true →
      exec .pitLogTick t = .next ((t.toTick 7 1000000000).pitTick).settle) ∧
    -- LIVE_REFRESH: R477: a refresh of the live image, REFRESH_MS after the one before.
    (∀ (t : State),
      t.procRuns = true →
      exec .liveRefresh t = .next ((t.toAfter (t.rd Reg.liveNs) (t.rd Reg.REFRESH_MS * 1000000)).liveRefresh).settle) ∧
    -- EPOCH_PERIOD: R481: EPOCH_PERIOD_S has passed since the last commit.
    (∀ (t : State),
      t.procRuns = true → t.since (t.rd Reg.plAtNs) (t.rd Reg.EPOCH_PERIOD_S * 1000000000) = true →
      exec .epochPeriod t = .next (t.epochStart 1).settle) ∧
    -- PL_CMD: R481: the write of PL_CMD 0x01.
    (∀ (level : Fin 4) (t u : State) (raw : Nat),
      t.procRuns = true → t.accepts level (0x5100) (1) (1) = true → raw = (rawOf (0x5100) (1) (1)).2 → u = t.written (0x5100) (1) raw →
      exec (.plCmd level) t = .next (((u.epochStart 2)).served (0x5100)).settle) ∧
    -- EPOCH_COMMIT: R480: COMMIT has verified; the operations of the epoch that have not been reported one by one have ended with it (log entry 94: DEDUCED).
    (∀ (t : State),
      t.procRuns = true → t.bit (flag Reg.PL_STATUS 0) = true →
      exec .epochCommit t = .next ((t.plOpEnds 2).epochCommit).settle) ∧
    -- EPOCH_FAIL: R479, R483: the epoch being written fails; `retired`: more than four of its slot's sectors have failed (log entry 94: DEDUCED).
    (∀ (retired : Bool) (t : State),
      t.procRuns = true → t.bit (flag Reg.PL_STATUS 0) = true →
      exec (.epochFail retired) t = .next ((t.plOpEnds 3).epochFail retired).settle)

/-- DERIVED, 12_dictionary.md, 12_dictionary.md R497, 12_dictionary.md R500, 12_dictionary.md R501, 12_dictionary.md R521, 12_dictionary.md
R525, 12_dictionary.md R505, 12_dictionary.md R502, 12_dictionary.md R514, 12_dictionary.md R506. For each of the commands PDU_RECEIVE,
READ, WRITE, BUNDLE, DESCRIBE, DOMAIN_READ, DOMAIN_START, DOMAIN_DATA, DOMAIN_END, DOMAIN_TRANSFER_TIMEOUT, ASSIGN, NOTICE, STREAM_SEND,
CFG_SAVE, SAVE_COMPLETE, CFG_DEFAULTS, CAN_FRAME_RECEIVE, CAN_REASSEMBLY_TIMEOUT, for every state and operands that meet the conditions
named (the plane runs, and what the command's own rule asks of the state and the operands alone), exec answers a next state: the effect that
the rule gives, followed by what follows at once (settle). A write command is accepted by the checks of R502; u is the state with the
register written, and the tests of the unit it names are served. Where a command has several effects, one clause stands for each. -/
def Obligations.DengonCommandsComplete : Prop :=
    -- PDU_RECEIVE: R497, R500, R501, R521–R525: the bytes of a PDU arrive on a port (log entry 46: DESIGN CHOICE).
    (∀ (port : Fin 9) (bytes : List (BitVec 8)) (t : State),
      t.procRuns = true → t.portRuns port = true → port ≠ 0 →
      exec (.pduReceive port bytes) t = .next (t.pduReceive port bytes).settle) ∧
    -- READ: R505: READ (log entry 46: DESIGN CHOICE).
    (∀ (src : Fin 63) (port : Fin 9) (level : Fin 4) (tid : BitVec 16) (idx : BitVec 16) (sub : BitVec 8) (t : State),
      t.procRuns = true → t.dengonUp = true →
      exec (.read src port level tid idx sub) t = .next (t.request src port level tid.toNat 1 (objectBytes idx sub 0)).settle) ∧
    -- WRITE: R502, R505, R514: WRITE (log entry 46: DESIGN CHOICE).
    (∀ (src : Fin 63) (port : Fin 9) (level : Fin 4) (tid : BitVec 16) (idx : BitVec 16) (sub : BitVec 8) (value : List (BitVec 8)) (t : State),
      t.procRuns = true → t.dengonUp = true →
      exec (.write src port level tid idx sub value) t = .next (t.request src port level tid.toNat 2 (objectBytes idx sub value.length ++ value)).settle) ∧
    -- BUNDLE: R506–R508: BUNDLE (log entry 46: DESIGN CHOICE). `cut`: a processor reset begins while it is being applied, after so many of its entries, by a watchdog expiry or, for `true`, by a lockstep mismatch (R515; 01_architecture.md R19).
    (∀ (src : Fin 63) (port : Fin 9) (level : Fin 4) (tid : BitVec 16) (entries : List (BitVec 16 × BitVec 8 × List (BitVec 8))) (t : State),
      t.procRuns = true → t.dengonUp = true →
      exec (.bundle src port level tid ⟨entries, none⟩) t = .next (t.request src port level tid.toNat 3 (leBytes 1 entries.length ++ leBytes 3 0 ++ entries.flatMap fun e => objectBytes e.1 e.2.1 e.2.2.length ++ e.2.2)).settle) ∧
    -- BUNDLE: R506–R508: BUNDLE (log entry 46: DESIGN CHOICE). `cut`: a processor reset begins while it is being applied, after so many of its entries, by a watchdog expiry or, for `true`, by a lockstep mismatch (R515; 01_architecture.md R19).
    (∀ (src : Fin 63) (port : Fin 9) (level : Fin 4) (tid : BitVec 16) (entries : List (BitVec 16 × BitVec 8 × List (BitVec 8))) (n : Fin 64) (lost : Bool) (u : State) (t : State),
      t.procRuns = true → t.dengonUp = true → (lost = true ∨ t.wdPeriod ≤ t.wdTicks) → u = (t.wr Reg.cutAfter ((n.val + 1 : Nat) : Int)).wrB Reg.cutCause lost →
      exec (.bundle src port level tid ⟨entries, some (n, lost)⟩) t = .next ((u.request src port level tid.toNat 3 (leBytes 1 entries.length ++ leBytes 3 0 ++ entries.flatMap fun e => objectBytes e.1 e.2.1 e.2.2.length ++ e.2.2)).wr Reg.cutAfter 0).settle) ∧
    -- DESCRIBE: R505: DESCRIBE.
    (∀ (src : Fin 63) (port : Fin 9) (level : Fin 4) (tid : BitVec 16) (idx : BitVec 16) (sub : BitVec 8) (t : State),
      t.procRuns = true → t.dengonUp = true →
      exec (.describe src port level tid idx sub) t = .next (t.request src port level tid.toNat 4 (objectBytes idx sub 0)).settle) ∧
    -- DOMAIN_READ: R513: DOMAIN_READ.
    (∀ (src : Fin 63) (port : Fin 9) (level : Fin 4) (tid : BitVec 16) (idx : BitVec 16) (sub : BitVec 8) (offset : BitVec 32) (count : BitVec 16) (t : State),
      t.procRuns = true → t.dengonUp = true →
      exec (.domainRead src port level tid idx sub offset count) t = .next (t.request src port level tid.toNat 5 (objectBytes idx sub 0 ++ leBytes 4 offset.toNat ++ leBytes 2 count.toNat ++ leBytes 2 0)).settle) ∧
    -- DOMAIN_START: R509: DOMAIN_START.
    (∀ (src : Fin 63) (port : Fin 9) (level : Fin 4) (tid : BitVec 16) (idx : BitVec 16) (sub : BitVec 8) (total : BitVec 32) (t : State),
      t.procRuns = true → t.dengonUp = true →
      exec (.domainStart src port level tid idx sub total) t = .next (t.request src port level tid.toNat 6 (objectBytes idx sub 0 ++ leBytes 4 total.toNat)).settle) ∧
    -- DOMAIN_DATA: R510: DOMAIN_DATA.
    (∀ (src : Fin 63) (port : Fin 9) (level : Fin 4) (tid : BitVec 16) (offset : BitVec 32) (data : List (BitVec 8)) (t : State),
      t.procRuns = true → t.dengonUp = true →
      exec (.domainData src port level tid offset data) t = .next (t.request src port level tid.toNat 7 (leBytes 4 offset.toNat ++ data)).settle) ∧
    -- DOMAIN_END: R511: DOMAIN_END. `cut`: a processor reset begins after its checks and before its commit, by a watchdog expiry or, for `true`, by a lockstep mismatch (R515).
    (∀ (src : Fin 63) (port : Fin 9) (level : Fin 4) (tid : BitVec 16) (crc : BitVec 32) (t : State),
      t.procRuns = true → t.dengonUp = true →
      exec (.domainEnd src port level tid ⟨crc, none⟩) t = .next (t.request src port level tid.toNat 8 (leBytes 4 crc.toNat)).settle) ∧
    -- DOMAIN_END: R511: DOMAIN_END. `cut`: a processor reset begins after its checks and before its commit, by a watchdog expiry or, for `true`, by a lockstep mismatch (R515).
    (∀ (src : Fin 63) (port : Fin 9) (level : Fin 4) (tid : BitVec 16) (crc : BitVec 32) (lost : Bool) (u : State) (t : State),
      t.procRuns = true → t.dengonUp = true → (lost = true ∨ t.wdPeriod ≤ t.wdTicks) → u = (t.wr Reg.cutAfter 1).wrB Reg.cutCause lost →
      exec (.domainEnd src port level tid ⟨crc, some lost⟩) t = .next ((u.request src port level tid.toNat 8 (leBytes 4 crc.toNat)).wr Reg.cutAfter 0).settle) ∧
    -- DOMAIN_TRANSFER_TIMEOUT: R512: the transfer of a source has had no segment for 1 s.
    (∀ (src : Fin 63) (x : Transfer) (t : State),
      t.procRuns = true → t.transfers.find? (fun y => decide (y.src = src.val) && t.transferStale y) = some x →
      exec (.domainTransferTimeout src) t = .next (t.transferEnds x).settle) ∧
    -- ASSIGN: R522: ASSIGN, to address 63 under the domain key.
    (∀ (src : Fin 63) (port : Fin 9) (tid : BitVec 16) (unit : BitVec 64) (addr : BitVec 8) (t : State),
      t.procRuns = true → t.dengonUp = true →
      exec (.assign src port tid unit addr) t = .next (t.heardFrom src true fun u => u.serve ⟨src, port, 0, tid.toNat, 9, true, true, none⟩ (leBytes 8 unit.toNat ++ [addr] ++ leBytes 3 0) 0).settle) ∧
    -- ASSIGN: R522: ASSIGN, to address 63 under the domain key.
    (∀ (src : Fin 63) (port : Fin 9) (tid : BitVec 16) (unit : BitVec 64) (addr : BitVec 8) (t : State),
      t.procRuns = true → t.dengonUp = true → ((src : Nat) ≠ t.ownAddr ∨ t.ownAddr = 0) →
      exec (.assign src port tid unit addr) t = .next ((t.inc32 Reg.RX_PDUS).serve ⟨src, port, 0, tid.toNat, 9, true, true, none⟩ (leBytes 8 unit.toNat ++ [addr] ++ leBytes 3 0) 0).settle) ∧
    -- NOTICE: R528: G19 holds 63 events, or NOTICE_MS have passed since its first.
    (∀ (t : State),
      t.procRuns = true → t.noticeDue = true →
      exec .notice t = .next (t.sendNotice).settle) ∧
    -- STREAM_SEND: R529: STREAM_MS have passed.
    (∀ (t : State),
      t.procRuns = true →
      exec .streamSend t = .next (t.streamAll).settle) ∧
    -- CFG_SAVE: R590: the write of CFG_CMD 0x01.
    (∀ (level : Fin 4) (t u : State) (raw : Nat),
      t.procRuns = true → t.accepts level (0x1011) (1) (1) = true → raw = (rawOf (0x1011) (1) (1)).2 → u = t.written (0x1011) (1) raw →
      exec (.cfgSave level) t = .next (((u.cfgSave)).served (0x1011)).settle) ∧
    -- SAVE_COMPLETE: R590: the new copy has been programmed and verified whole (log entry 48: DEDUCED).
    (∀ (t : State),
      t.procRuns = true → t.on Reg.saveLeft = false →
      exec .saveComplete t = .next (t.saveDone).settle) ∧
    -- CFG_DEFAULTS: R494: CFG_CMD 0x02.
    (∀ (level : Fin 4) (t u : State) (raw : Nat),
      t.procRuns = true → t.accepts level (0x1011) (1) (2) = true → raw = (rawOf (0x1011) (1) (2)).2 → u = t.written (0x1011) (1) raw →
      exec (.cfgDefaults level) t = .next (((u.cfgDefaults)).served (0x1011)).settle) ∧
    -- CAN_FRAME_RECEIVE: R519, R520: a CAN FD frame of controller `k`.
    (∀ (k : Fin 2) (id : BitVec 29) (data : List (BitVec 8)) (t : State),
      t.procRuns = true →
      exec (.canFrameReceive k id data) t = .next (t.canFrame k id.toNat data).settle) ∧
    -- CAN_REASSEMBLY_TIMEOUT: R520: 10 ms without the next frame of a PDU.
    (∀ (k : Fin 2) (id : BitVec 29) (t : State),
      t.procRuns = true → t.canStale k id.toNat = true →
      exec (.canReassemblyTimeout k id) t = .next ((t.setCanPart k id.toNat none).inc32 Reg.CAN_REASM_FAILS).settle)

/-- DERIVED, 13_links.md, 13_links.md R537, 13_links.md R542, 13_links.md R548, 13_links.md R538, 13_links.md R540, 13_links.md R543,
13_links.md R544, 13_links.md R545, 13_links.md R549. For each of the commands FRAME_RECEIVE, BUFFER_TO_GALLERY, BEACON_LOSS,
BEACON_RECEIVED, ETH_LINK_LOSS, ETH_LINK_UP, AS_SYNC_RECEIVE, AS_SYNC_LOSS, CAN_BUS_OFF, CAN_RECOVER, CAN_BUS_ERROR, for every state and
operands that meet the conditions named (the plane runs, and what the command's own rule asks of the state and the operands alone), exec
answers a next state: the effect that the rule gives, followed by what follows at once (settle). A write command is accepted by the checks
of R502; u is the state with the register written, and the tests of the unit it names are served. Where a command has several effects, one
clause stands for each. -/
def Obligations.NetworkLinkCommandsComplete : Prop :=
    -- FRAME_RECEIVE: R537, R542, R548: a frame arrives on port code `c` + 1 (10BASE-T1S, Ethernet, CAN FD 0 and 1).
    (∀ (c : Fin 4) (id : BitVec 29) (bytes : List (BitVec 8)) (fcsOk : Bool) (t : State),
      t.procRuns = true →
      exec (.frameReceive c id bytes fcsOk) t = .next (t.frameReceive (c + 1) id.toNat bytes fcsOk).settle) ∧
    -- BUFFER_TO_GALLERY: R538: the port with port code `c` moves its oldest data to its gallery.
    (∀ (c : Fin 9) (t : State),
      t.procRuns = true → c ≠ 0 →
      exec (.bufferToGallery c) t = .next (t.bufferOut c).settle) ∧
    -- BEACON_LOSS: R540: a follower has received no BEACON for 1 ms, once for each time that they stop (log entry 102: DEDUCED).
    (∀ (t : State),
      t.procRuns = true → t.portRuns 1 = true → t.bit (flag Reg.T1S_CTRL 1) = true → t.on Reg.PLCA_NODE_ID = true → t.on Reg.beaconOut = false → t.since (t.rd Reg.beaconNs) 1000000 = true →
      exec .beaconLoss t = .next (((t.setFld t1sActive 0).wr Reg.beaconOut 1).raise 233).settle) ∧
    -- BEACON_RECEIVED: R540: a BEACON.
    (∀ (t : State),
      t.procRuns = true → t.portRuns 1 = true → t.bit (flag Reg.T1S_CTRL 1) = true →
      exec .beaconReceived t = .next (((t.setFld t1sActive 1).wr Reg.beaconNs t.now).wr Reg.beaconOut 0).settle) ∧
    -- ETH_LINK_LOSS: R543: LINK clears.
    (∀ (t : State),
      t.procRuns = true → t.portRuns 2 = true → t.bit ethLink = true →
      exec .ethLinkLoss t = .next ((t.setFld ethLink 0).raise 234).settle) ∧
    -- ETH_LINK_UP: R542: the in-band status reports link; `speed`: 0 10, 1 100, 2 1000 Mbit/s (log entry 103: DEDUCED).
    (∀ (speed : Fin 3) (t : State),
      t.procRuns = true → t.portRuns 2 = true → t.fld Bit.ETH_CTRL_SPEED = 0 →
      exec (.ethLinkUp speed) t = .next ((t.setFld ethLink 1).setFld ethSpeed (speed + 1)).settle) ∧
    -- AS_SYNC_RECEIVE: R544, R545: a Sync.
    (∀ (late trip : Int) (t : State),
      t.procRuns = true →
      exec (.asSyncReceive ⟨late, trip⟩) t = .next (t.asSync (t.asOffset late trip)).settle) ∧
    -- AS_SYNC_LOSS: R544: 3 s without a Sync, once for each time that they stop (log entry 100: DEDUCED).
    (∀ (t : State),
      t.procRuns = true → t.portRuns 2 = true → t.bit Bit.ETH_CTRL_AS_EN = true → t.on Reg.asOut = false → t.since (t.rd Reg.asNs) 3000000000 = true →
      exec .asSyncLoss t = .next ((((t.setFld ethLocked 0).wr Reg.asGoodRun 0).wr Reg.asOut 1).raise 237).settle) ∧
    -- CAN_BUS_OFF: R549: controller `k` enters bus-off.
    (∀ (k : Fin 2) (t : State),
      t.procRuns = true → t.portRuns (3 + k) = true → t.fld (canState k) ≠ 2 →
      exec (.canBusOff k) t = .next (((t.setFld (canState k) 2).inc32 (Reg.BUS_OFFS k)).raise (235 + k)).settle) ∧
    -- CAN_RECOVER: R549: 128 occurrences of 11 recessive bits.
    (∀ (k : Fin 2) (t : State),
      t.procRuns = true → t.portRuns (3 + k) = true → t.bit (flag (Reg.CAN_CTRL k) 1) = true → t.fld (canState k) = 2 →
      exec (.canRecover k) t = .next (((t.setFld (canState k) 0).wr (Reg.TEC k) 0).wr (Reg.REC k) 0).settle) ∧
    -- CAN_BUS_ERROR: R547: a bus error leaves the counters at `tec` and `rec`; above 127 in either the controller is error-passive (log entry 103: DEDUCED).
    (∀ (k : Fin 2) (tec rec : Fin 256) (t : State),
      t.procRuns = true → t.portRuns (3 + k) = true → t.fld (canState k) ≠ 2 →
      exec (.canBusError k tec rec) t = .next (((t.wr (Reg.TEC k) (tec : Nat)).wr (Reg.REC k) (rec : Nat)).setFld (canState k) (if 127 < tec.val ∨ 127 < rec.val then 1 else 0)).settle)

/-- DERIVED, 13_links.md, 13_links.md R552, 13_links.md R553, 13_links.md R554, 13_links.md R555, 13_links.md R561, 13_links.md R560,
13_links.md R562, 13_links.md R563, 13_links.md R568. For each of the commands READ_STATUS, WRITE_PDU, READ_PDU, SPI_UNKNOWN_CMD,
SPI_CS_RISE, TW_POINTER_WRITE, IN_FIFO, OUT_FIFO, TW_STATUS_READ, TW_STOP, TW_STRETCH_TIMEOUT, TW_CONTROLLER_TIMEOUT, IN_BAND_REQUEST,
IN_BAND_ANSWER, ARBITRATION_LOSS, BUS_CLEAR, for every state and operands that meet the conditions named (the plane runs, and what the
command's own rule asks of the state and the operands alone), exec answers a next state: the effect that the rule gives, followed by what
follows at once (settle). A write command is accepted by the checks of R502; u is the state with the register written, and the tests of the
unit it names are served. Where a command has several effects, one clause stands for each. -/
def Obligations.LocalLinkCommandsComplete : Prop :=
    -- READ_STATUS: R552, R553: READ_STATUS, and `n` further bytes.
    (∀ (n : Nat) (t : State),
      t.procRuns = true →
      exec (.readStatus n) t = .next (t.spiStatus n).settle) ∧
    -- WRITE_PDU: R553, R554: WRITE_PDU and the bytes that follow it.
    (∀ (bytes : List (BitVec 8)) (t : State),
      t.procRuns = true →
      exec (.writePdu bytes) t = .next (t.spiWrite bytes).settle) ∧
    -- READ_PDU: R553, R555: READ_PDU, and `n` further bytes.
    (∀ (n : Nat) (t : State),
      t.procRuns = true →
      exec (.readPdu n) t = .next (t.spiRead n).settle) ∧
    -- SPI_UNKNOWN_CMD: R553: another command, and `n` further bytes.
    (∀ (cmd : BitVec 8) (n : Nat) (t : State),
      t.procRuns = true → cmd ≠ 0x0F → cmd ≠ 0x51 → cmd ≠ 0xA3 → t.spiFall.1 = true →
      exec (.spiUnknownCmd cmd n) t = .next ((t.spiFall.2.drive 0 (leBytes 1 (t.spiFall.2.fs0 0) ++ List.replicate n 0xFF)).inc32 Reg.SPI_ERRORS).settle) ∧
    -- SPI_CS_RISE: R554, R555: SPI_CS_N rises.
    (∀ (t : State),
      t.procRuns = true →
      exec .spiCsRise t = .next (t.spiRise).settle) ∧
    -- TW_POINTER_WRITE: R561: the first byte of a write to target port `k`.
    (∀ (k : Fin 3) (v : BitVec 8) (t : State),
      t.procRuns = true → t.twFree k = true → t.on (Reg.twIgnore k) = false →
      exec (.twPointerWrite k v) t = .next (t.twPoint k v.toNat).settle) ∧
    -- IN_FIFO: R560–R562: the bytes of a write after the first.
    (∀ (k : Fin 3) (bytes : List (BitVec 8)) (t : State),
      t.procRuns = true → t.twFree k = true →
      exec (.inFifo k bytes) t = .next (t.twWrite k bytes).settle) ∧
    -- OUT_FIFO: R562: a read of `n` bytes at OUT_FIFO.
    (∀ (k : Fin 3) (n : Nat) (t : State),
      t.procRuns = true → t.twFree k = true → t.on (Reg.twIgnore k) = false →
      exec (.outFifo k n) t = .next ((t.twStart k).twRead k n).settle) ∧
    -- TW_STATUS_READ: R552, R561: a read of `n` bytes from the status block on.
    (∀ (k : Fin 3) (n : Nat) (t : State),
      t.procRuns = true → t.twFree k = true → t.on (Reg.twIgnore k) = false →
      exec (.twStatusRead k n) t = .next ((t.twStart k).twStatus k n).settle) ∧
    -- TW_STOP: R561–R563, R568: STOP or a repeated START, a bus that has been high for 50 µs, or a START or STOP that a controller does not drive.
    (∀ (k : Fin 3) (e : BusEvent) (t : State),
      t.procRuns = true → t.twFree k = true →
      exec (.twStop ⟨k, e⟩) t = .next (t.twSees k e).settle) ∧
    -- TW_STOP: R561–R563, R568: STOP or a repeated START, a bus that has been high for 50 µs, or a START or STOP that a controller does not drive.
    (∀ (k : Fin 3) (e : BusEvent) (t : State),
      t.procRuns = true → t.twFree k = false → t.twMaster k = true →
      exec (.twStop ⟨k, e⟩) t = .next (t.twMasterSees k e).settle) ∧
    -- TW_STRETCH_TIMEOUT: R563, R567: a stretch of a grouped target has lasted 25 ms.
    (∀ (k : Fin 3) (t : State),
      t.on Reg.corePowered = true → t.procRuns = true → t.twStretchOver k = true → t.twWakeOver = false →
      exec (.twStretchTimeout k) t = .next (t.twTimeout k).settle) ∧
    -- TW_STRETCH_TIMEOUT: R563, R567: a stretch of a grouped target has lasted 25 ms.
    (∀ (t : State),
      t.on Reg.corePowered = true → t.twWakeOver = true →
      exec (.twStretchTimeout 0) t = .next ((t.wr Reg.twWakeNs 0).twTimeout 0).settle) ∧
    -- TW_CONTROLLER_TIMEOUT: R564: another device has held SCL low for 25 ms against a grouped controller.
    (∀ (k : Fin 3) (t : State),
      t.procRuns = true → t.twMaster k = true → t.grouped = true →
      exec (.twControllerTimeout k) t = .next (((((t.wr (Reg.twBus k) 0).wr (Reg.twXfer k) 0).wr (Reg.twClear k) 2).inc32 (Reg.TIMEOUTS k)).raise (238 + k)).settle) ∧
    -- IN_BAND_REQUEST: R565: a target pulls SDA low for an FS0 bit selected in its IRQ_MASK that has changed to 1, on an idle bus; SDA that it has held low for 100 µs without an answer it releases, to request again 1 ms later (log entry 102: DEDUCED).
    (∀ (k : Fin 3) (t : State),
      t.procRuns = true → t.twTarget k = true → t.bit (Bit.TW_CTRL_IBR_EN k) = true → t.on (Reg.twIbr k) = false → t.on (Reg.twIbrWant k) = true → t.on (Reg.twBus k) = false → t.rd (Reg.twIbrNs k) ≤ t.now →
      exec (.inBandRequest k) t = .next (((t.wr (Reg.twIbr k) 1).wr (Reg.twIbrWant k) 0).wr (Reg.twIbrNs k) t.now).settle) ∧
    -- IN_BAND_REQUEST: R565: a target pulls SDA low for an FS0 bit selected in its IRQ_MASK that has changed to 1, on an idle bus; SDA that it has held low for 100 µs without an answer it releases, to request again 1 ms later (log entry 102: DEDUCED).
    (∀ (k : Fin 3) (t : State),
      t.procRuns = true → t.twTarget k = true → t.bit (Bit.TW_CTRL_IBR_EN k) = true → t.on (Reg.twIbr k) = true → t.since (t.rd (Reg.twIbrNs k)) 100000 = true →
      exec (.inBandRequest k) t = .next (((t.wr (Reg.twIbr k) 0).wr (Reg.twIbrWant k) 1).wr (Reg.twIbrNs k) (t.now + 1000000)).settle) ∧
    -- IN_BAND_ANSWER: R565, R566: an in-band request is answered.
    (∀ (k : Fin 3) (answer : BitVec 8) (status pdu : List (BitVec 8)) (t : State),
      t.procRuns = true → t.twTarget k = true → t.on (Reg.twIbr k) = true → answer.toNat = 2 * t.rdN (Reg.TW_ADDR k) →
      exec (.inBandAnswer k answer status pdu) t = .next (((t.drive (1 + k) (leBytes 1 (2 * t.rdN (Reg.TW_ADDR k)))).wr (Reg.twIbr k) 0).inc32 (Reg.IBR_COUNT k)).settle) ∧
    -- IN_BAND_ANSWER: R565, R566: an in-band request is answered.
    (∀ (k : Fin 3) (answer : BitVec 8) (status pdu : List (BitVec 8)) (t : State),
      t.procRuns = true → t.twTarget k = true → t.on (Reg.twIbr k) = true → answer.toNat ≠ 2 * t.rdN (Reg.TW_ADDR k) →
      exec (.inBandAnswer k answer status pdu) t = .next (((t.wr (Reg.twIbr k) 0).wr (Reg.twIbrWant k) 1).wr (Reg.twBus k) 1).settle) ∧
    -- ARBITRATION_LOSS: R568: a controller loses arbitration; `own`: during the address, and the winner addresses this port. After eight losses the PDU is dropped (log entry 102: DEDUCED).
    (∀ (k : Fin 3) (t : State),
      t.procRuns = true → t.twMaster k = true →
      exec (.arbitrationLoss k true) t = .next (((t.inc32 (Reg.ARB_LOSSES k)).twLoss k).wr (Reg.twServe k) 1).settle) ∧
    -- ARBITRATION_LOSS: R568: a controller loses arbitration; `own`: during the address, and the winner addresses this port. After eight losses the PDU is dropped (log entry 102: DEDUCED).
    (∀ (k : Fin 3) (t : State),
      t.procRuns = true → t.twMaster k = true →
      exec (.arbitrationLoss k false) t = .next ((t.inc32 (Reg.ARB_LOSSES k)).twLoss k).settle) ∧
    -- BUS_CLEAR: R569: a bus clear; `freed`: SDA was sampled high. One that failed is repeated every 100 ms.
    (∀ (k : Fin 3) (freed : Bool) (t : State),
      t.procRuns = true → t.twMaster k = true → t.on (Reg.twClear k) = true →
      exec (.busClear k freed) t = .next (t.busClear k freed).settle)

/-- DERIVED, 13_links.md, 13_links.md R573, 13_links.md R575, 13_links.md R576, 13_links.md R577, 13_links.md R578, 13_links.md R579,
13_links.md R581, 13_links.md R582. For each of the commands WIHAN_RECEIVE, SYNC_SEND, SYNC_RECEIVE, SYNC_LOSS, ELECTION_TIMEOUT,
SHARE_SEND, ANNOUNCE_RECEIVE, WITHDRAW_RECEIVE, FAULT_RECEIVE, SHARE_LOAD_WINDOW, WIHAN_IN_LOSS, WIHAN_IN_RETURN, for every state and
operands that meet the conditions named (the plane runs, and what the command's own rule asks of the state and the operands alone), exec
answers a next state: the effect that the rule gives, followed by what follows at once (settle). A write command is accepted by the checks
of R502; u is the state with the register written, and the tests of the unit it names are served. Where a command has several effects, one
clause stands for each. -/
def Obligations.ShareLinkCommandsComplete : Prop :=
    -- WIHAN_RECEIVE: R573: a message arrives on IN, TYPE to CRC; `bad`: it contains K30.7.
    (∀ (bytes : List (BitVec 8)) (bad : Bool) (t : State),
      t.ppRuns = true →
      exec (.wihanReceive bytes bad) t = .next (t.wsReceive bytes bad).settle) ∧
    -- SYNC_SEND: R575: the next timebase multiple of 100 µs.
    (∀ (t : State),
      t.ppRuns = true →
      exec .syncSend t = .next ((t.toTick 3 100000).syncSend).settle) ∧
    -- SYNC_RECEIVE: R575, R576: a SYNC of another device, with its HOPS as received.
    (∀ (addr : Fin 64) (hops : Fin 16) (tMaster : BitVec 64) (corr : BitVec 32) (t : State),
      t.ppRuns = true → t.wsUp = true →
      exec (.syncReceive addr hops tMaster corr) t = .next ((t.wsCount 12).syncReceive addr hops (tMaster.toNat : Nat) (corr.toNat : Nat)).settle) ∧
    -- SYNC_LOSS: R576: 1 ms without a SYNC.
    (∀ (t : State),
      t.ppRuns = true → t.wsUp = true → t.syncSilent = true →
      exec .syncLoss t = .next (t.syncLost).settle) ∧
    -- ELECTION_TIMEOUT: R575: 1 ms without a SYNC of a lower address.
    (∀ (t : State),
      t.ppRuns = true → t.wsUp = true → t.lowSilent = true →
      exec .electionTimeout t = .next (t.wr Reg.wsSending 1).settle) ∧
    -- SHARE_SEND: R577: the next timebase multiple of 10 µs plus POSITION × 1250 ns.
    (∀ (t : State),
      t.ppRuns = true →
      exec .shareSend t = .next (t.toShare.shareSend).settle) ∧
    -- ANNOUNCE_RECEIVE: R578: ANNOUNCE of another member.
    (∀ (addr : Fin 64) (group : Fin 16) (ann : Fin 256) (stepMa tGate : BitVec 32) (t : State),
      t.ppRuns = true → t.wsUp = true → addr.val ≠ t.ownAddr →
      exec (.announceReceive addr group ann stepMa tGate) t = .next ((t.wsCount 10).announceReceive addr group ann (stepMa.toNat : Nat) tGate.toNat).settle) ∧
    -- WITHDRAW_RECEIVE: R578: WITHDRAW of another member.
    (∀ (addr : Fin 64) (group : Fin 16) (ann : Fin 256) (t : State),
      t.ppRuns = true → t.wsUp = true → addr.val ≠ t.ownAddr →
      exec (.withdrawReceive addr group ann) t = .next ((t.wsCount 2).withdrawReceive addr group ann).settle) ∧
    -- FAULT_RECEIVE: R579: FAULT of another member.
    (∀ (addr : Fin 64) (group : Fin 16) (kind : Fin 16) (t : State),
      t.ppRuns = true → t.wsUp = true → addr.val ≠ t.ownAddr →
      exec (.faultReceive addr group kind) t = .next ((t.wsCount 2).faultReceive addr group kind).settle) ∧
    -- SHARE_LOAD_WINDOW: R581: a window of 10 µs, and the symbols counted in it (log entry 117: DESIGN CHOICE).
    (∀ (symbols : Nat) (t : State),
      t.ppRuns = true → t.wsUp = true → t.rd Reg.wsSymbols = (symbols : Nat) →
      exec (.shareLoadWindow symbols) t = .next ((t.toTick 8 10000).loadWindow).settle) ∧
    -- WIHAN_IN_LOSS: R582: no valid symbol for 1 µs, or more than four code errors within it, once for each time that the input is lost (log entry 101: DEDUCED).
    (∀ (t : State),
      t.ppRuns = true → t.wsUp = true → t.on Reg.wsInLost = false →
      exec .wihanInLoss t = .next (((t.setFld wsInOk 0).wr Reg.wsInLost 1).raise 241).settle) ∧
    -- WIHAN_IN_RETURN: R582: valid symbols arrive again.
    (∀ (t : State),
      t.ppRuns = true → t.wsUp = true →
      exec .wihanInReturn t = .next ((t.setFld wsInOk 1).wr Reg.wsInLost 0).settle)

/-- DERIVED, 14_images_and_security.md, 14_images_and_security.md R600, 14_images_and_security.md R601, 14_images_and_security.md R604,
14_images_and_security.md R611, 14_images_and_security.md R615, 14_images_and_security.md R619, 14_images_and_security.md R608,
14_images_and_security.md R606, 14_images_and_security.md R607. For each of the commands CARD_DETECT, CARD_REMOVAL, UPD_CMD_INSTALL,
UPD_CMD_ACTIVATE, UPD_CMD_ABORT_TRIAL, UPD_CMD_ERASE_INACTIVE, UPD_CMD_RELAY, IMG_OFFER, IMG_DATA, IMG_END, IMG_QUERY, IMG_OFFER_TIMEOUT,
NVM_OPERATION_DONE, TRIAL_CONFIRM, TRIAL_TIMEOUT, DOMAIN_EPOCH_WRITE, RELAY_RESPONSE_RECEIVED, for every state and operands that meet the
conditions named (the plane runs, and what the command's own rule asks of the state and the operands alone), exec answers a next state: the
effect that the rule gives, followed by what follows at once (settle). A write command is accepted by the checks of R502; u is the state
with the register written, and the tests of the unit it names are served. Where a command has several effects, one clause stands for each. -/
def Obligations.ImageCommandsComplete : Prop :=
    -- CARD_DETECT: R600: UC_DET_N has been low for 10 ms: the first four bytes of the SFDP, DWORDs 1–3 of the Basic Flash Parameter Table, whether the 1-1-4 read needs a quad-enable bit, and the card's content.
    (∀ (signature dword1 dword2 dword3 : BitVec 32) (qe : Bool) (content : List (BitVec 8)) (t : State),
      t.procRuns = true →
      exec (.cardDetect signature ⟨dword1, dword2, dword3, qe⟩ content) t = .next (t.cardRead ⟨signature.toNat, dword1.toNat, dword2.toNat, dword3.toNat, qe⟩ content).settle) ∧
    -- CARD_REMOVAL: R601: UC_DET_N rises.
    (∀ (t : State),
      t.procRuns = true →
      exec .cardRemoval t = .next (t.cardGone).settle) ∧
    -- UPD_CMD_INSTALL: R604: 0x01, install from the card.
    (∀ (level : Fin 4) (t u : State) (raw : Nat),
      t.procRuns = true → t.accepts level (0x6000) (1) (1) = true → raw = (rawOf (0x6000) (1) (1)).2 → u = t.written (0x6000) (1) raw →
      exec (.updCmdInstall level) t = .next (((u.instStart 1 (u.blob Reg.CARD_HEADER) u.cardData)).served (0x6000)).settle) ∧
    -- UPD_CMD_ACTIVATE: R611: 0x02, activate.
    (∀ (level : Fin 4) (t u : State) (raw : Nat),
      t.procRuns = true → t.accepts level (0x6000) (1) (2) = true → raw = (rawOf (0x6000) (1) (2)).2 → u = t.written (0x6000) (1) raw →
      exec (.updCmdActivate level) t = .next ((((u.setFld updFallback 0).bootEntry u.idleBank 3 1)).served (0x6000)).settle) ∧
    -- UPD_CMD_ABORT_TRIAL: R615: 0x03, abort the trial.
    (∀ (level : Fin 4) (b : Nat) (t u : State) (raw : Nat),
      t.procRuns = true → t.accepts level (0x6000) (1) (3) = true → raw = (rawOf (0x6000) (1) (3)).2 → u = t.written (0x6000) (1) raw → u.trialBank = some b →
      exec (.updCmdAbortTrial level) t = .next (((u.bootEntry b 6 4)).served (0x6000)).settle) ∧
    -- UPD_CMD_ERASE_INACTIVE: R619: 0x04, erase the inactive bank.
    (∀ (level : Fin 4) (t u : State) (raw : Nat),
      t.procRuns = true → t.accepts level (0x6000) (1) (4) = true → raw = (rawOf (0x6000) (1) (4)).2 → u = t.written (0x6000) (1) raw →
      exec (.updCmdEraseInactive level) t = .next ((((u.wr Reg.eraseLeft 960).nvmKick 4)).served (0x6000)).settle) ∧
    -- UPD_CMD_RELAY: R608: 0x05, relay.
    (∀ (level : Fin 4) (t u : State) (raw : Nat),
      t.procRuns = true → t.accepts level (0x6000) (1) (5) = true → raw = (rawOf (0x6000) (1) (5)).2 → u = t.written (0x6000) (1) raw →
      exec (.updCmdRelay level) t = .next (((u.relayStart)).served (0x6000)).settle) ∧
    -- IMG_OFFER: R606: IMG_OFFER with a header.
    (∀ (src : Fin 63) (port : Fin 9) (level : Fin 4) (tid : BitVec 16) (header : List (BitVec 8)) (t : State),
      t.procRuns = true → t.dengonUp = true →
      exec (.imgOffer src port level tid header) t = .next (t.request src port level tid.toNat 0x40 (header)).settle) ∧
    -- IMG_DATA: R607: IMG_DATA.
    (∀ (src : Fin 63) (port : Fin 9) (level : Fin 4) (tid : BitVec 16) (offset : BitVec 32) (data : List (BitVec 8)) (t : State),
      t.procRuns = true → t.dengonUp = true →
      exec (.imgData src port level tid offset data) t = .next (t.request src port level tid.toNat 0x41 (leBytes 4 offset.toNat ++ data)).settle) ∧
    -- IMG_END: R599, R607: IMG_END.
    (∀ (src : Fin 63) (port : Fin 9) (level : Fin 4) (tid : BitVec 16) (t : State),
      t.procRuns = true → t.dengonUp = true →
      exec (.imgEnd src port level tid) t = .next (t.request src port level tid.toNat 0x42 ([])).settle) ∧
    -- IMG_QUERY: R606: IMG_QUERY.
    (∀ (src : Fin 63) (port : Fin 9) (level : Fin 4) (tid : BitVec 16) (t : State),
      t.procRuns = true → t.dengonUp = true →
      exec (.imgQuery src port level tid) t = .next (t.request src port level tid.toNat 0x43 ([])).settle) ∧
    -- IMG_OFFER_TIMEOUT: R607: an offer has had no DATA or END for 1 s.
    (∀ (t : State),
      t.procRuns = true → t.offerLapsed = true →
      exec .imgOfferTimeout t = .next (t.instEnd).settle) ∧
    -- NVM_OPERATION_DONE: R592, R593: the operation in progress ends with its verify read; `owner`: whose operation the NVM manager starts next, where several wait. An operation that a reset caught is completed in it.
    (∀ (ok : Bool) (owner : Fin 6) (t : State),
      t.on Reg.corePowered = true →
      exec (.nvmOperationDone ok owner) t = .next (t.nvmDone ok owner).settle) ∧
    -- TRIAL_CONFIRM: R614, R618: the conditions have held for CONFIRM_DWELL_S; the confirmation goes before a time-out of the same instant.
    (∀ (t : State),
      t.procRuns = true → t.confirmOk = true → t.bootWaits 2 = false → (t.bootWaits 3 && t.markedNow markTrialOut 0) = false →
      exec .trialConfirm t = .next (t.bootEntry t.activeBank 4 2).settle) ∧
    -- TRIAL_TIMEOUT: R615: TRIAL_S reaches 300 without confirmation (log entry 105: DEDUCED).
    (∀ (b : Nat) (t : State),
      t.procRuns = true → t.trialBank = some b → 300 ≤ t.trialS → t.bootWaits 2 = false → t.bootWaits 3 = false →
      exec .trialTimeout t = .next ((((t.mark markTrialOut 0 0).wr Reg.TRIAL_S t.trialS).wr Reg.trialNs 0).bootEntry b 6 3).settle) ∧
    -- DOMAIN_EPOCH_WRITE: R610: the write of DOMAIN_EPOCH.
    (∀ (level : Fin 4) (v : BitVec 16) (t u : State) (raw : Nat),
      t.procRuns = true → t.accepts level (0x6000) (9) ((v.toNat : Nat)) = true → raw = (rawOf (0x6000) (9) ((v.toNat : Nat))).2 → u = t.written (0x6000) (9) raw →
      exec (.domainEpochWrite level v) t = .next (((u.epochEval)).served (0x6000)).settle) ∧
    -- RELAY_RESPONSE_RECEIVED: R608: the target's response to the request outstanding: ABORT, and the body after it.
    (∀ (abort : BitVec 16) (body : List (BitVec 8)) (t : State),
      t.procRuns = true → t.relaying = true → t.asks.any t.relayAwaits = true →
      exec (.relayResponseReceived abort body) t = .next ({ t with asks := t.asks.filter fun a => !t.relayAwaits a }.relayResponse abort.toNat body).settle)

/-- DERIVED, 14_images_and_security.md, 14_images_and_security.md R622, 14_images_and_security.md R623, 14_images_and_security.md R624,
14_images_and_security.md R627, 14_images_and_security.md R628, 14_images_and_security.md R630, 14_images_and_security.md R629,
14_images_and_security.md R631. For each of the commands SESSION_OPEN, SESSION_PROVE, SESSION_CLOSE, SESSION_OPEN_LAPSE, SESSION_IDLE,
REVOKE, LOCK, RMA, DEBUG_ENTER, SCAN_ENTER, DEBUG_PORT_REQUEST, DEBUG_WINDOW_EXPIRY, for every state and operands that meet the conditions
named (the plane runs, and what the command's own rule asks of the state and the operands alone), exec answers a next state: the effect that
the rule gives, followed by what follows at once (settle). A write command is accepted by the checks of R502; u is the state with the
register written, and the tests of the unit it names are served. Where a command has several effects, one clause stands for each. -/
def Obligations.SecurityCommandsComplete : Prop :=
    -- SESSION_OPEN: R622, R623: SESSION_OPEN for a level with NONCE_R.
    (∀ (src : Fin 63) (port : Fin 9) (tid : BitVec 16) (want : BitVec 8) (nonce : BitVec 64) (t : State),
      t.procRuns = true → t.dengonUp = true →
      exec (.sessionOpen src port tid want nonce) t = .next (t.request src port 0 tid.toNat 0x30 ([want, 0, 0, 0] ++ leBytes 8 nonce.toNat)).settle) ∧
    -- SESSION_PROVE: R622–R624: SESSION_PROVE; `pass`: its tag passes under the key of the open.
    (∀ (src : Fin 63) (port : Fin 9) (tid : BitVec 16) (t : State),
      t.procRuns = true → t.dengonUp = true → t.authSilent = false →
      exec (.sessionProve src port tid true) t = .next (t.heardFrom src false fun u => if u.authSilent then u else u.serve ⟨src, port, 0, tid.toNat, 0x31, false, false, none⟩ [] 1).settle) ∧
    -- SESSION_PROVE: R622–R624: SESSION_PROVE; `pass`: its tag passes under the key of the open.
    (∀ (src : Fin 63) (port : Fin 9) (tid : BitVec 16) (t : State),
      t.procRuns = true → t.dengonUp = true → t.authSilent = false →
      exec (.sessionProve src port tid false) t = .next (t.heardFrom src false fun u => if u.authSilent then u else u.proveFails).settle) ∧
    -- SESSION_CLOSE: R622: SESSION_CLOSE under the session.
    (∀ (src : Fin 63) (port : Fin 9) (tid : BitVec 16) (t : State),
      t.procRuns = true → t.dengonUp = true →
      exec (.sessionClose src port tid) t = .next (t.request src port (((t.session src).map Session.level).getD 0) tid.toNat 0x32 []).settle) ∧
    -- SESSION_OPEN_LAPSE: R623: an open has not been proved within 1 s.
    (∀ (src : Fin 63) (t : State),
      t.procRuns = true →
      exec (.sessionOpenLapse src) t = .next ({ t with opens := t.opens.filter fun x => decide (x.peer ≠ src.val) || decide (t.timebase < x.last + 1000000000) }).settle) ∧
    -- SESSION_IDLE: R624: SESSION_IDLE_S have passed without a PDU of the session.
    (∀ (src : Fin 63) (t : State),
      t.procRuns = true →
      exec (.sessionIdle src) t = .next ({ t with sessions := t.sessions.filter fun x => decide (x.peer ≠ src.val) || t.sessionLive x }).settle) ∧
    -- REVOKE: R627: the write of REVOKE.
    (∀ (level : Fin 4) (k : Fin 4) (t u : State) (raw : Nat),
      t.procRuns = true → t.accepts level (0x6100) (8) ((k.val : Nat)) = true → raw = (rawOf (0x6100) (8) ((k.val : Nat))).2 → u = t.written (0x6100) (8) raw →
      exec (.revoke level k) t = .next (((u.setFld (flag Reg.KEY_MAP (12 + (decoded 0x6100 8 raw).toNat)) 1)).served (0x6100)).settle) ∧
    -- LOCK: R628: DEBUG_CMD 0x03.
    (∀ (level : Fin 4) (near : Bool) (t : State),
      t.procRuns = true → t.writeAbort level near 0x6100 12 (rawOf 0x6100 12 3).1 (rawOf 0x6100 12 3).2 = 0 →
      exec (.lock level near) t = .next (t.debugCmd 3 true).settle) ∧
    -- RMA: R628: DEBUG_CMD 0x04.
    (∀ (level : Fin 4) (t : State),
      t.procRuns = true → t.writeAbort level false 0x6100 12 (rawOf 0x6100 12 4).1 (rawOf 0x6100 12 4).2 = 0 →
      exec (.rma level) t = .next (t.debugCmd 4 true).settle) ∧
    -- DEBUG_ENTER: R628–R630: DEBUG_CMD 0x01; in LOCKED it opens the window for the port.
    (∀ (level : Fin 4) (near ok : Bool) (t : State),
      t.procRuns = true → t.writeAbort level near 0x6100 12 (rawOf 0x6100 12 1).1 (rawOf 0x6100 12 1).2 = 0 →
      exec (.debugEnter level near ok) t = .next (t.debugCmd 1 ok).settle) ∧
    -- SCAN_ENTER: R629–R631: DEBUG_CMD 0x02 (log entry 23: DEDUCED).
    (∀ (level : Fin 4) (near ok : Bool) (t : State),
      t.procRuns = true → t.writeAbort level near 0x6100 12 (rawOf 0x6100 12 2).1 (rawOf 0x6100 12 2).2 = 0 →
      exec (.scanEnter level near ok) t = .next (t.debugCmd 2 ok).settle) ∧
    -- DEBUG_PORT_REQUEST: R628: a request on the debug port (log entry 23: DEDUCED).
    (∀ (ok : Bool) (t : State),
      t.procRuns = true →
      exec (.debugPortRequest ok) t = .next (t.debugPort ok).settle) ∧
    -- DEBUG_WINDOW_EXPIRY: R628: the window of 10 s closes.
    (∀ (t : State),
      t.procRuns = true → t.windowOpen = false →
      exec .debugWindowExpiry t = .next (t.wr Reg.dbgWindow 0).settle)
end

