-- ==== Sys2Proof/Laws/State.lean ====
section
/-!
SUPPORT. What each update of the state leaves alone: one lemma for each field and each update, so that no proof unfolds a record
update; and what a read of a register sees of an update of another part of the state.
-/
namespace Sys2Proof.Machine

/-! ### wr -/

@[simp] theorem State.wr_blobs (s : State) (k : Nat) (x : Int) : (s.wr k x).blobs = s.blobs := rfl
@[simp] theorem State.wr_timebase (s : State) (k : Nat) (x : Int) : (s.wr k x).timebase = s.timebase := rfl
@[simp] theorem State.wr_fresh (s : State) (k : Nat) (x : Int) : (s.wr k x).fresh = s.fresh := rfl
@[simp] theorem State.wr_edgeAt (s : State) (k : Nat) (x : Int) : (s.wr k x).edgeAt = s.edgeAt := rfl
@[simp] theorem State.wr_edgeNo (s : State) (k : Nat) (x : Int) : (s.wr k x).edgeNo = s.edgeNo := rfl
@[simp] theorem State.wr_marks (s : State) (k : Nat) (x : Int) : (s.wr k x).marks = s.marks := rfl
@[simp] theorem State.wr_raiseQ (s : State) (k : Nat) (x : Int) : (s.wr k x).raiseQ = s.raiseQ := rfl
@[simp] theorem State.wr_reactions (s : State) (k : Nat) (x : Int) : (s.wr k x).reactions = s.reactions := rfl
@[simp] theorem State.wr_notices (s : State) (k : Nat) (x : Int) : (s.wr k x).notices = s.notices := rfl
@[simp] theorem State.wr_blocks (s : State) (k : Nat) (x : Int) : (s.wr k x).blocks = s.blocks := rfl
@[simp] theorem State.wr_staging (s : State) (k : Nat) (x : Int) : (s.wr k x).staging = s.staging := rfl
@[simp] theorem State.wr_slots (s : State) (k : Nat) (x : Int) : (s.wr k x).slots = s.slots := rfl
@[simp] theorem State.wr_live (s : State) (k : Nat) (x : Int) : (s.wr k x).live = s.live := rfl
@[simp] theorem State.wr_snap (s : State) (k : Nat) (x : Int) : (s.wr k x).snap = s.snap := rfl
@[simp] theorem State.wr_snapStaged (s : State) (k : Nat) (x : Int) : (s.wr k x).snapStaged = s.snapStaged := rfl
@[simp] theorem State.wr_capFrames (s : State) (k : Nat) (x : Int) : (s.wr k x).capFrames = s.capFrames := rfl
@[simp] theorem State.wr_capEvents (s : State) (k : Nat) (x : Int) : (s.wr k x).capEvents = s.capEvents := rfl
@[simp] theorem State.wr_anns (s : State) (k : Nat) (x : Int) : (s.wr k x).anns = s.anns := rfl
@[simp] theorem State.wr_outbox (s : State) (k : Nat) (x : Int) : (s.wr k x).outbox = s.outbox := rfl
@[simp] theorem State.wr_txWait (s : State) (k : Nat) (x : Int) : (s.wr k x).txWait = s.txWait := rfl
@[simp] theorem State.wr_rxbuf (s : State) (k : Nat) (x : Int) : (s.wr k x).rxbuf = s.rxbuf := rfl
@[simp] theorem State.wr_canParts (s : State) (k : Nat) (x : Int) : (s.wr k x).canParts = s.canParts := rfl
@[simp] theorem State.wr_ifwDue (s : State) (k : Nat) (x : Int) : (s.wr k x).ifwDue = s.ifwDue := rfl
@[simp] theorem State.wr_members (s : State) (k : Nat) (x : Int) : (s.wr k x).members = s.members := rfl
@[simp] theorem State.wr_withdrawn (s : State) (k : Nat) (x : Int) : (s.wr k x).withdrawn = s.withdrawn := rfl
@[simp] theorem State.wr_sessions (s : State) (k : Nat) (x : Int) : (s.wr k x).sessions = s.sessions := rfl
@[simp] theorem State.wr_opens (s : State) (k : Nat) (x : Int) : (s.wr k x).opens = s.opens := rfl
@[simp] theorem State.wr_bootQ (s : State) (k : Nat) (x : Int) : (s.wr k x).bootQ = s.bootQ := rfl
@[simp] theorem State.wr_copies (s : State) (k : Nat) (x : Int) : (s.wr k x).copies = s.copies := rfl
@[simp] theorem State.wr_saving (s : State) (k : Nat) (x : Int) : (s.wr k x).saving = s.saving := rfl
@[simp] theorem State.wr_transfers (s : State) (k : Nat) (x : Int) : (s.wr k x).transfers = s.transfers := rfl
@[simp] theorem State.wr_asks (s : State) (k : Nat) (x : Int) : (s.wr k x).asks = s.asks := rfl
@[simp] theorem State.wr_grants (s : State) (k : Nat) (x : Int) : (s.wr k x).grants = s.grants := rfl
@[simp] theorem State.wr_dues (s : State) (k : Nat) (x : Int) : (s.wr k x).dues = s.dues := rfl
@[simp] theorem State.wr_deferred (s : State) (k : Nat) (x : Int) : (s.wr k x).deferred = s.deferred := rfl
@[simp] theorem State.wr_onOrder (s : State) (k : Nat) (x : Int) : (s.wr k x).onOrder = s.onOrder := rfl
@[simp] theorem State.wr_shedList (s : State) (k : Nat) (x : Int) : (s.wr k x).shedList = s.shedList := rfl
@[simp] theorem State.wr_powerIn (s : State) (k : Nat) (x : Int) : (s.wr k x).powerIn = s.powerIn := rfl
@[simp] theorem State.wr_loopWrites (s : State) (k : Nat) (x : Int) : (s.wr k x).loopWrites = s.loopWrites := rfl
@[simp] theorem State.wr_borrowed (s : State) (k : Nat) (x : Int) : (s.wr k x).borrowed = s.borrowed := rfl
@[simp] theorem State.wr_lent (s : State) (k : Nat) (x : Int) : (s.wr k x).lent = s.lent := rfl
@[simp] theorem State.wr_pending (s : State) (k : Nat) (x : Int) : (s.wr k x).pending = s.pending := rfl

/-! ### wrB -/

@[simp] theorem State.wrB_blobs (s : State) (k : Nat) (b : Bool) : (s.wrB k b).blobs = s.blobs := rfl
@[simp] theorem State.wrB_timebase (s : State) (k : Nat) (b : Bool) : (s.wrB k b).timebase = s.timebase := rfl
@[simp] theorem State.wrB_fresh (s : State) (k : Nat) (b : Bool) : (s.wrB k b).fresh = s.fresh := rfl
@[simp] theorem State.wrB_edgeAt (s : State) (k : Nat) (b : Bool) : (s.wrB k b).edgeAt = s.edgeAt := rfl
@[simp] theorem State.wrB_edgeNo (s : State) (k : Nat) (b : Bool) : (s.wrB k b).edgeNo = s.edgeNo := rfl
@[simp] theorem State.wrB_marks (s : State) (k : Nat) (b : Bool) : (s.wrB k b).marks = s.marks := rfl
@[simp] theorem State.wrB_raiseQ (s : State) (k : Nat) (b : Bool) : (s.wrB k b).raiseQ = s.raiseQ := rfl
@[simp] theorem State.wrB_reactions (s : State) (k : Nat) (b : Bool) : (s.wrB k b).reactions = s.reactions := rfl
@[simp] theorem State.wrB_notices (s : State) (k : Nat) (b : Bool) : (s.wrB k b).notices = s.notices := rfl
@[simp] theorem State.wrB_blocks (s : State) (k : Nat) (b : Bool) : (s.wrB k b).blocks = s.blocks := rfl
@[simp] theorem State.wrB_staging (s : State) (k : Nat) (b : Bool) : (s.wrB k b).staging = s.staging := rfl
@[simp] theorem State.wrB_slots (s : State) (k : Nat) (b : Bool) : (s.wrB k b).slots = s.slots := rfl
@[simp] theorem State.wrB_live (s : State) (k : Nat) (b : Bool) : (s.wrB k b).live = s.live := rfl
@[simp] theorem State.wrB_snap (s : State) (k : Nat) (b : Bool) : (s.wrB k b).snap = s.snap := rfl
@[simp] theorem State.wrB_snapStaged (s : State) (k : Nat) (b : Bool) : (s.wrB k b).snapStaged = s.snapStaged := rfl
@[simp] theorem State.wrB_capFrames (s : State) (k : Nat) (b : Bool) : (s.wrB k b).capFrames = s.capFrames := rfl
@[simp] theorem State.wrB_capEvents (s : State) (k : Nat) (b : Bool) : (s.wrB k b).capEvents = s.capEvents := rfl
@[simp] theorem State.wrB_anns (s : State) (k : Nat) (b : Bool) : (s.wrB k b).anns = s.anns := rfl
@[simp] theorem State.wrB_outbox (s : State) (k : Nat) (b : Bool) : (s.wrB k b).outbox = s.outbox := rfl
@[simp] theorem State.wrB_txWait (s : State) (k : Nat) (b : Bool) : (s.wrB k b).txWait = s.txWait := rfl
@[simp] theorem State.wrB_rxbuf (s : State) (k : Nat) (b : Bool) : (s.wrB k b).rxbuf = s.rxbuf := rfl
@[simp] theorem State.wrB_canParts (s : State) (k : Nat) (b : Bool) : (s.wrB k b).canParts = s.canParts := rfl
@[simp] theorem State.wrB_ifwDue (s : State) (k : Nat) (b : Bool) : (s.wrB k b).ifwDue = s.ifwDue := rfl
@[simp] theorem State.wrB_members (s : State) (k : Nat) (b : Bool) : (s.wrB k b).members = s.members := rfl
@[simp] theorem State.wrB_withdrawn (s : State) (k : Nat) (b : Bool) : (s.wrB k b).withdrawn = s.withdrawn := rfl
@[simp] theorem State.wrB_sessions (s : State) (k : Nat) (b : Bool) : (s.wrB k b).sessions = s.sessions := rfl
@[simp] theorem State.wrB_opens (s : State) (k : Nat) (b : Bool) : (s.wrB k b).opens = s.opens := rfl
@[simp] theorem State.wrB_bootQ (s : State) (k : Nat) (b : Bool) : (s.wrB k b).bootQ = s.bootQ := rfl
@[simp] theorem State.wrB_copies (s : State) (k : Nat) (b : Bool) : (s.wrB k b).copies = s.copies := rfl
@[simp] theorem State.wrB_saving (s : State) (k : Nat) (b : Bool) : (s.wrB k b).saving = s.saving := rfl
@[simp] theorem State.wrB_transfers (s : State) (k : Nat) (b : Bool) : (s.wrB k b).transfers = s.transfers := rfl
@[simp] theorem State.wrB_asks (s : State) (k : Nat) (b : Bool) : (s.wrB k b).asks = s.asks := rfl
@[simp] theorem State.wrB_grants (s : State) (k : Nat) (b : Bool) : (s.wrB k b).grants = s.grants := rfl
@[simp] theorem State.wrB_dues (s : State) (k : Nat) (b : Bool) : (s.wrB k b).dues = s.dues := rfl
@[simp] theorem State.wrB_deferred (s : State) (k : Nat) (b : Bool) : (s.wrB k b).deferred = s.deferred := rfl
@[simp] theorem State.wrB_onOrder (s : State) (k : Nat) (b : Bool) : (s.wrB k b).onOrder = s.onOrder := rfl
@[simp] theorem State.wrB_shedList (s : State) (k : Nat) (b : Bool) : (s.wrB k b).shedList = s.shedList := rfl
@[simp] theorem State.wrB_powerIn (s : State) (k : Nat) (b : Bool) : (s.wrB k b).powerIn = s.powerIn := rfl
@[simp] theorem State.wrB_loopWrites (s : State) (k : Nat) (b : Bool) : (s.wrB k b).loopWrites = s.loopWrites := rfl
@[simp] theorem State.wrB_borrowed (s : State) (k : Nat) (b : Bool) : (s.wrB k b).borrowed = s.borrowed := rfl
@[simp] theorem State.wrB_lent (s : State) (k : Nat) (b : Bool) : (s.wrB k b).lent = s.lent := rfl
@[simp] theorem State.wrB_pending (s : State) (k : Nat) (b : Bool) : (s.wrB k b).pending = s.pending := rfl

/-! ### setFld -/

@[simp] theorem State.setFld_blobs (s : State) (b : Bits) (x : Nat) : (s.setFld b x).blobs = s.blobs := rfl
@[simp] theorem State.setFld_timebase (s : State) (b : Bits) (x : Nat) : (s.setFld b x).timebase = s.timebase := rfl
@[simp] theorem State.setFld_fresh (s : State) (b : Bits) (x : Nat) : (s.setFld b x).fresh = s.fresh := rfl
@[simp] theorem State.setFld_edgeAt (s : State) (b : Bits) (x : Nat) : (s.setFld b x).edgeAt = s.edgeAt := rfl
@[simp] theorem State.setFld_edgeNo (s : State) (b : Bits) (x : Nat) : (s.setFld b x).edgeNo = s.edgeNo := rfl
@[simp] theorem State.setFld_marks (s : State) (b : Bits) (x : Nat) : (s.setFld b x).marks = s.marks := rfl
@[simp] theorem State.setFld_raiseQ (s : State) (b : Bits) (x : Nat) : (s.setFld b x).raiseQ = s.raiseQ := rfl
@[simp] theorem State.setFld_reactions (s : State) (b : Bits) (x : Nat) : (s.setFld b x).reactions = s.reactions := rfl
@[simp] theorem State.setFld_notices (s : State) (b : Bits) (x : Nat) : (s.setFld b x).notices = s.notices := rfl
@[simp] theorem State.setFld_blocks (s : State) (b : Bits) (x : Nat) : (s.setFld b x).blocks = s.blocks := rfl
@[simp] theorem State.setFld_staging (s : State) (b : Bits) (x : Nat) : (s.setFld b x).staging = s.staging := rfl
@[simp] theorem State.setFld_slots (s : State) (b : Bits) (x : Nat) : (s.setFld b x).slots = s.slots := rfl
@[simp] theorem State.setFld_live (s : State) (b : Bits) (x : Nat) : (s.setFld b x).live = s.live := rfl
@[simp] theorem State.setFld_snap (s : State) (b : Bits) (x : Nat) : (s.setFld b x).snap = s.snap := rfl
@[simp] theorem State.setFld_snapStaged (s : State) (b : Bits) (x : Nat) : (s.setFld b x).snapStaged = s.snapStaged := rfl
@[simp] theorem State.setFld_capFrames (s : State) (b : Bits) (x : Nat) : (s.setFld b x).capFrames = s.capFrames := rfl
@[simp] theorem State.setFld_capEvents (s : State) (b : Bits) (x : Nat) : (s.setFld b x).capEvents = s.capEvents := rfl
@[simp] theorem State.setFld_anns (s : State) (b : Bits) (x : Nat) : (s.setFld b x).anns = s.anns := rfl
@[simp] theorem State.setFld_outbox (s : State) (b : Bits) (x : Nat) : (s.setFld b x).outbox = s.outbox := rfl
@[simp] theorem State.setFld_txWait (s : State) (b : Bits) (x : Nat) : (s.setFld b x).txWait = s.txWait := rfl
@[simp] theorem State.setFld_rxbuf (s : State) (b : Bits) (x : Nat) : (s.setFld b x).rxbuf = s.rxbuf := rfl
@[simp] theorem State.setFld_canParts (s : State) (b : Bits) (x : Nat) : (s.setFld b x).canParts = s.canParts := rfl
@[simp] theorem State.setFld_ifwDue (s : State) (b : Bits) (x : Nat) : (s.setFld b x).ifwDue = s.ifwDue := rfl
@[simp] theorem State.setFld_members (s : State) (b : Bits) (x : Nat) : (s.setFld b x).members = s.members := rfl
@[simp] theorem State.setFld_withdrawn (s : State) (b : Bits) (x : Nat) : (s.setFld b x).withdrawn = s.withdrawn := rfl
@[simp] theorem State.setFld_sessions (s : State) (b : Bits) (x : Nat) : (s.setFld b x).sessions = s.sessions := rfl
@[simp] theorem State.setFld_opens (s : State) (b : Bits) (x : Nat) : (s.setFld b x).opens = s.opens := rfl
@[simp] theorem State.setFld_bootQ (s : State) (b : Bits) (x : Nat) : (s.setFld b x).bootQ = s.bootQ := rfl
@[simp] theorem State.setFld_copies (s : State) (b : Bits) (x : Nat) : (s.setFld b x).copies = s.copies := rfl
@[simp] theorem State.setFld_saving (s : State) (b : Bits) (x : Nat) : (s.setFld b x).saving = s.saving := rfl
@[simp] theorem State.setFld_transfers (s : State) (b : Bits) (x : Nat) : (s.setFld b x).transfers = s.transfers := rfl
@[simp] theorem State.setFld_asks (s : State) (b : Bits) (x : Nat) : (s.setFld b x).asks = s.asks := rfl
@[simp] theorem State.setFld_grants (s : State) (b : Bits) (x : Nat) : (s.setFld b x).grants = s.grants := rfl
@[simp] theorem State.setFld_dues (s : State) (b : Bits) (x : Nat) : (s.setFld b x).dues = s.dues := rfl
@[simp] theorem State.setFld_deferred (s : State) (b : Bits) (x : Nat) : (s.setFld b x).deferred = s.deferred := rfl
@[simp] theorem State.setFld_onOrder (s : State) (b : Bits) (x : Nat) : (s.setFld b x).onOrder = s.onOrder := rfl
@[simp] theorem State.setFld_shedList (s : State) (b : Bits) (x : Nat) : (s.setFld b x).shedList = s.shedList := rfl
@[simp] theorem State.setFld_powerIn (s : State) (b : Bits) (x : Nat) : (s.setFld b x).powerIn = s.powerIn := rfl
@[simp] theorem State.setFld_loopWrites (s : State) (b : Bits) (x : Nat) : (s.setFld b x).loopWrites = s.loopWrites := rfl
@[simp] theorem State.setFld_borrowed (s : State) (b : Bits) (x : Nat) : (s.setFld b x).borrowed = s.borrowed := rfl
@[simp] theorem State.setFld_lent (s : State) (b : Bits) (x : Nat) : (s.setFld b x).lent = s.lent := rfl
@[simp] theorem State.setFld_pending (s : State) (b : Bits) (x : Nat) : (s.setFld b x).pending = s.pending := rfl

/-! ### setBit -/

@[simp] theorem State.setBit_blobs (s : State) (b : Bits) (x : Bool) : (s.setBit b x).blobs = s.blobs := rfl
@[simp] theorem State.setBit_timebase (s : State) (b : Bits) (x : Bool) : (s.setBit b x).timebase = s.timebase := rfl
@[simp] theorem State.setBit_fresh (s : State) (b : Bits) (x : Bool) : (s.setBit b x).fresh = s.fresh := rfl
@[simp] theorem State.setBit_edgeAt (s : State) (b : Bits) (x : Bool) : (s.setBit b x).edgeAt = s.edgeAt := rfl
@[simp] theorem State.setBit_edgeNo (s : State) (b : Bits) (x : Bool) : (s.setBit b x).edgeNo = s.edgeNo := rfl
@[simp] theorem State.setBit_marks (s : State) (b : Bits) (x : Bool) : (s.setBit b x).marks = s.marks := rfl
@[simp] theorem State.setBit_raiseQ (s : State) (b : Bits) (x : Bool) : (s.setBit b x).raiseQ = s.raiseQ := rfl
@[simp] theorem State.setBit_reactions (s : State) (b : Bits) (x : Bool) : (s.setBit b x).reactions = s.reactions := rfl
@[simp] theorem State.setBit_notices (s : State) (b : Bits) (x : Bool) : (s.setBit b x).notices = s.notices := rfl
@[simp] theorem State.setBit_blocks (s : State) (b : Bits) (x : Bool) : (s.setBit b x).blocks = s.blocks := rfl
@[simp] theorem State.setBit_staging (s : State) (b : Bits) (x : Bool) : (s.setBit b x).staging = s.staging := rfl
@[simp] theorem State.setBit_slots (s : State) (b : Bits) (x : Bool) : (s.setBit b x).slots = s.slots := rfl
@[simp] theorem State.setBit_live (s : State) (b : Bits) (x : Bool) : (s.setBit b x).live = s.live := rfl
@[simp] theorem State.setBit_snap (s : State) (b : Bits) (x : Bool) : (s.setBit b x).snap = s.snap := rfl
@[simp] theorem State.setBit_snapStaged (s : State) (b : Bits) (x : Bool) : (s.setBit b x).snapStaged = s.snapStaged := rfl
@[simp] theorem State.setBit_capFrames (s : State) (b : Bits) (x : Bool) : (s.setBit b x).capFrames = s.capFrames := rfl
@[simp] theorem State.setBit_capEvents (s : State) (b : Bits) (x : Bool) : (s.setBit b x).capEvents = s.capEvents := rfl
@[simp] theorem State.setBit_anns (s : State) (b : Bits) (x : Bool) : (s.setBit b x).anns = s.anns := rfl
@[simp] theorem State.setBit_outbox (s : State) (b : Bits) (x : Bool) : (s.setBit b x).outbox = s.outbox := rfl
@[simp] theorem State.setBit_txWait (s : State) (b : Bits) (x : Bool) : (s.setBit b x).txWait = s.txWait := rfl
@[simp] theorem State.setBit_rxbuf (s : State) (b : Bits) (x : Bool) : (s.setBit b x).rxbuf = s.rxbuf := rfl
@[simp] theorem State.setBit_canParts (s : State) (b : Bits) (x : Bool) : (s.setBit b x).canParts = s.canParts := rfl
@[simp] theorem State.setBit_ifwDue (s : State) (b : Bits) (x : Bool) : (s.setBit b x).ifwDue = s.ifwDue := rfl
@[simp] theorem State.setBit_members (s : State) (b : Bits) (x : Bool) : (s.setBit b x).members = s.members := rfl
@[simp] theorem State.setBit_withdrawn (s : State) (b : Bits) (x : Bool) : (s.setBit b x).withdrawn = s.withdrawn := rfl
@[simp] theorem State.setBit_sessions (s : State) (b : Bits) (x : Bool) : (s.setBit b x).sessions = s.sessions := rfl
@[simp] theorem State.setBit_opens (s : State) (b : Bits) (x : Bool) : (s.setBit b x).opens = s.opens := rfl
@[simp] theorem State.setBit_bootQ (s : State) (b : Bits) (x : Bool) : (s.setBit b x).bootQ = s.bootQ := rfl
@[simp] theorem State.setBit_copies (s : State) (b : Bits) (x : Bool) : (s.setBit b x).copies = s.copies := rfl
@[simp] theorem State.setBit_saving (s : State) (b : Bits) (x : Bool) : (s.setBit b x).saving = s.saving := rfl
@[simp] theorem State.setBit_transfers (s : State) (b : Bits) (x : Bool) : (s.setBit b x).transfers = s.transfers := rfl
@[simp] theorem State.setBit_asks (s : State) (b : Bits) (x : Bool) : (s.setBit b x).asks = s.asks := rfl
@[simp] theorem State.setBit_grants (s : State) (b : Bits) (x : Bool) : (s.setBit b x).grants = s.grants := rfl
@[simp] theorem State.setBit_dues (s : State) (b : Bits) (x : Bool) : (s.setBit b x).dues = s.dues := rfl
@[simp] theorem State.setBit_deferred (s : State) (b : Bits) (x : Bool) : (s.setBit b x).deferred = s.deferred := rfl
@[simp] theorem State.setBit_onOrder (s : State) (b : Bits) (x : Bool) : (s.setBit b x).onOrder = s.onOrder := rfl
@[simp] theorem State.setBit_shedList (s : State) (b : Bits) (x : Bool) : (s.setBit b x).shedList = s.shedList := rfl
@[simp] theorem State.setBit_powerIn (s : State) (b : Bits) (x : Bool) : (s.setBit b x).powerIn = s.powerIn := rfl
@[simp] theorem State.setBit_loopWrites (s : State) (b : Bits) (x : Bool) : (s.setBit b x).loopWrites = s.loopWrites := rfl
@[simp] theorem State.setBit_borrowed (s : State) (b : Bits) (x : Bool) : (s.setBit b x).borrowed = s.borrowed := rfl
@[simp] theorem State.setBit_lent (s : State) (b : Bits) (x : Bool) : (s.setBit b x).lent = s.lent := rfl
@[simp] theorem State.setBit_pending (s : State) (b : Bits) (x : Bool) : (s.setBit b x).pending = s.pending := rfl

/-! ### add -/

@[simp] theorem State.add_blobs (s : State) (n k : Nat) (d : Int) : (s.add n k d).blobs = s.blobs := rfl
@[simp] theorem State.add_timebase (s : State) (n k : Nat) (d : Int) : (s.add n k d).timebase = s.timebase := rfl
@[simp] theorem State.add_fresh (s : State) (n k : Nat) (d : Int) : (s.add n k d).fresh = s.fresh := rfl
@[simp] theorem State.add_edgeAt (s : State) (n k : Nat) (d : Int) : (s.add n k d).edgeAt = s.edgeAt := rfl
@[simp] theorem State.add_edgeNo (s : State) (n k : Nat) (d : Int) : (s.add n k d).edgeNo = s.edgeNo := rfl
@[simp] theorem State.add_marks (s : State) (n k : Nat) (d : Int) : (s.add n k d).marks = s.marks := rfl
@[simp] theorem State.add_raiseQ (s : State) (n k : Nat) (d : Int) : (s.add n k d).raiseQ = s.raiseQ := rfl
@[simp] theorem State.add_reactions (s : State) (n k : Nat) (d : Int) : (s.add n k d).reactions = s.reactions := rfl
@[simp] theorem State.add_notices (s : State) (n k : Nat) (d : Int) : (s.add n k d).notices = s.notices := rfl
@[simp] theorem State.add_blocks (s : State) (n k : Nat) (d : Int) : (s.add n k d).blocks = s.blocks := rfl
@[simp] theorem State.add_staging (s : State) (n k : Nat) (d : Int) : (s.add n k d).staging = s.staging := rfl
@[simp] theorem State.add_slots (s : State) (n k : Nat) (d : Int) : (s.add n k d).slots = s.slots := rfl
@[simp] theorem State.add_live (s : State) (n k : Nat) (d : Int) : (s.add n k d).live = s.live := rfl
@[simp] theorem State.add_snap (s : State) (n k : Nat) (d : Int) : (s.add n k d).snap = s.snap := rfl
@[simp] theorem State.add_snapStaged (s : State) (n k : Nat) (d : Int) : (s.add n k d).snapStaged = s.snapStaged := rfl
@[simp] theorem State.add_capFrames (s : State) (n k : Nat) (d : Int) : (s.add n k d).capFrames = s.capFrames := rfl
@[simp] theorem State.add_capEvents (s : State) (n k : Nat) (d : Int) : (s.add n k d).capEvents = s.capEvents := rfl
@[simp] theorem State.add_anns (s : State) (n k : Nat) (d : Int) : (s.add n k d).anns = s.anns := rfl
@[simp] theorem State.add_outbox (s : State) (n k : Nat) (d : Int) : (s.add n k d).outbox = s.outbox := rfl
@[simp] theorem State.add_txWait (s : State) (n k : Nat) (d : Int) : (s.add n k d).txWait = s.txWait := rfl
@[simp] theorem State.add_rxbuf (s : State) (n k : Nat) (d : Int) : (s.add n k d).rxbuf = s.rxbuf := rfl
@[simp] theorem State.add_canParts (s : State) (n k : Nat) (d : Int) : (s.add n k d).canParts = s.canParts := rfl
@[simp] theorem State.add_ifwDue (s : State) (n k : Nat) (d : Int) : (s.add n k d).ifwDue = s.ifwDue := rfl
@[simp] theorem State.add_members (s : State) (n k : Nat) (d : Int) : (s.add n k d).members = s.members := rfl
@[simp] theorem State.add_withdrawn (s : State) (n k : Nat) (d : Int) : (s.add n k d).withdrawn = s.withdrawn := rfl
@[simp] theorem State.add_sessions (s : State) (n k : Nat) (d : Int) : (s.add n k d).sessions = s.sessions := rfl
@[simp] theorem State.add_opens (s : State) (n k : Nat) (d : Int) : (s.add n k d).opens = s.opens := rfl
@[simp] theorem State.add_bootQ (s : State) (n k : Nat) (d : Int) : (s.add n k d).bootQ = s.bootQ := rfl
@[simp] theorem State.add_copies (s : State) (n k : Nat) (d : Int) : (s.add n k d).copies = s.copies := rfl
@[simp] theorem State.add_saving (s : State) (n k : Nat) (d : Int) : (s.add n k d).saving = s.saving := rfl
@[simp] theorem State.add_transfers (s : State) (n k : Nat) (d : Int) : (s.add n k d).transfers = s.transfers := rfl
@[simp] theorem State.add_asks (s : State) (n k : Nat) (d : Int) : (s.add n k d).asks = s.asks := rfl
@[simp] theorem State.add_grants (s : State) (n k : Nat) (d : Int) : (s.add n k d).grants = s.grants := rfl
@[simp] theorem State.add_dues (s : State) (n k : Nat) (d : Int) : (s.add n k d).dues = s.dues := rfl
@[simp] theorem State.add_deferred (s : State) (n k : Nat) (d : Int) : (s.add n k d).deferred = s.deferred := rfl
@[simp] theorem State.add_onOrder (s : State) (n k : Nat) (d : Int) : (s.add n k d).onOrder = s.onOrder := rfl
@[simp] theorem State.add_shedList (s : State) (n k : Nat) (d : Int) : (s.add n k d).shedList = s.shedList := rfl
@[simp] theorem State.add_powerIn (s : State) (n k : Nat) (d : Int) : (s.add n k d).powerIn = s.powerIn := rfl
@[simp] theorem State.add_loopWrites (s : State) (n k : Nat) (d : Int) : (s.add n k d).loopWrites = s.loopWrites := rfl
@[simp] theorem State.add_borrowed (s : State) (n k : Nat) (d : Int) : (s.add n k d).borrowed = s.borrowed := rfl
@[simp] theorem State.add_lent (s : State) (n k : Nat) (d : Int) : (s.add n k d).lent = s.lent := rfl
@[simp] theorem State.add_pending (s : State) (n k : Nat) (d : Int) : (s.add n k d).pending = s.pending := rfl

/-! ### inc32 -/

@[simp] theorem State.inc32_blobs (s : State) (k : Nat) : (s.inc32 k).blobs = s.blobs := rfl
@[simp] theorem State.inc32_timebase (s : State) (k : Nat) : (s.inc32 k).timebase = s.timebase := rfl
@[simp] theorem State.inc32_fresh (s : State) (k : Nat) : (s.inc32 k).fresh = s.fresh := rfl
@[simp] theorem State.inc32_edgeAt (s : State) (k : Nat) : (s.inc32 k).edgeAt = s.edgeAt := rfl
@[simp] theorem State.inc32_edgeNo (s : State) (k : Nat) : (s.inc32 k).edgeNo = s.edgeNo := rfl
@[simp] theorem State.inc32_marks (s : State) (k : Nat) : (s.inc32 k).marks = s.marks := rfl
@[simp] theorem State.inc32_raiseQ (s : State) (k : Nat) : (s.inc32 k).raiseQ = s.raiseQ := rfl
@[simp] theorem State.inc32_reactions (s : State) (k : Nat) : (s.inc32 k).reactions = s.reactions := rfl
@[simp] theorem State.inc32_notices (s : State) (k : Nat) : (s.inc32 k).notices = s.notices := rfl
@[simp] theorem State.inc32_blocks (s : State) (k : Nat) : (s.inc32 k).blocks = s.blocks := rfl
@[simp] theorem State.inc32_staging (s : State) (k : Nat) : (s.inc32 k).staging = s.staging := rfl
@[simp] theorem State.inc32_slots (s : State) (k : Nat) : (s.inc32 k).slots = s.slots := rfl
@[simp] theorem State.inc32_live (s : State) (k : Nat) : (s.inc32 k).live = s.live := rfl
@[simp] theorem State.inc32_snap (s : State) (k : Nat) : (s.inc32 k).snap = s.snap := rfl
@[simp] theorem State.inc32_snapStaged (s : State) (k : Nat) : (s.inc32 k).snapStaged = s.snapStaged := rfl
@[simp] theorem State.inc32_capFrames (s : State) (k : Nat) : (s.inc32 k).capFrames = s.capFrames := rfl
@[simp] theorem State.inc32_capEvents (s : State) (k : Nat) : (s.inc32 k).capEvents = s.capEvents := rfl
@[simp] theorem State.inc32_anns (s : State) (k : Nat) : (s.inc32 k).anns = s.anns := rfl
@[simp] theorem State.inc32_outbox (s : State) (k : Nat) : (s.inc32 k).outbox = s.outbox := rfl
@[simp] theorem State.inc32_txWait (s : State) (k : Nat) : (s.inc32 k).txWait = s.txWait := rfl
@[simp] theorem State.inc32_rxbuf (s : State) (k : Nat) : (s.inc32 k).rxbuf = s.rxbuf := rfl
@[simp] theorem State.inc32_canParts (s : State) (k : Nat) : (s.inc32 k).canParts = s.canParts := rfl
@[simp] theorem State.inc32_ifwDue (s : State) (k : Nat) : (s.inc32 k).ifwDue = s.ifwDue := rfl
@[simp] theorem State.inc32_members (s : State) (k : Nat) : (s.inc32 k).members = s.members := rfl
@[simp] theorem State.inc32_withdrawn (s : State) (k : Nat) : (s.inc32 k).withdrawn = s.withdrawn := rfl
@[simp] theorem State.inc32_sessions (s : State) (k : Nat) : (s.inc32 k).sessions = s.sessions := rfl
@[simp] theorem State.inc32_opens (s : State) (k : Nat) : (s.inc32 k).opens = s.opens := rfl
@[simp] theorem State.inc32_bootQ (s : State) (k : Nat) : (s.inc32 k).bootQ = s.bootQ := rfl
@[simp] theorem State.inc32_copies (s : State) (k : Nat) : (s.inc32 k).copies = s.copies := rfl
@[simp] theorem State.inc32_saving (s : State) (k : Nat) : (s.inc32 k).saving = s.saving := rfl
@[simp] theorem State.inc32_transfers (s : State) (k : Nat) : (s.inc32 k).transfers = s.transfers := rfl
@[simp] theorem State.inc32_asks (s : State) (k : Nat) : (s.inc32 k).asks = s.asks := rfl
@[simp] theorem State.inc32_grants (s : State) (k : Nat) : (s.inc32 k).grants = s.grants := rfl
@[simp] theorem State.inc32_dues (s : State) (k : Nat) : (s.inc32 k).dues = s.dues := rfl
@[simp] theorem State.inc32_deferred (s : State) (k : Nat) : (s.inc32 k).deferred = s.deferred := rfl
@[simp] theorem State.inc32_onOrder (s : State) (k : Nat) : (s.inc32 k).onOrder = s.onOrder := rfl
@[simp] theorem State.inc32_shedList (s : State) (k : Nat) : (s.inc32 k).shedList = s.shedList := rfl
@[simp] theorem State.inc32_powerIn (s : State) (k : Nat) : (s.inc32 k).powerIn = s.powerIn := rfl
@[simp] theorem State.inc32_loopWrites (s : State) (k : Nat) : (s.inc32 k).loopWrites = s.loopWrites := rfl
@[simp] theorem State.inc32_borrowed (s : State) (k : Nat) : (s.inc32 k).borrowed = s.borrowed := rfl
@[simp] theorem State.inc32_lent (s : State) (k : Nat) : (s.inc32 k).lent = s.lent := rfl
@[simp] theorem State.inc32_pending (s : State) (k : Nat) : (s.inc32 k).pending = s.pending := rfl

/-! ### inc16 -/

@[simp] theorem State.inc16_blobs (s : State) (k : Nat) : (s.inc16 k).blobs = s.blobs := rfl
@[simp] theorem State.inc16_timebase (s : State) (k : Nat) : (s.inc16 k).timebase = s.timebase := rfl
@[simp] theorem State.inc16_fresh (s : State) (k : Nat) : (s.inc16 k).fresh = s.fresh := rfl
@[simp] theorem State.inc16_edgeAt (s : State) (k : Nat) : (s.inc16 k).edgeAt = s.edgeAt := rfl
@[simp] theorem State.inc16_edgeNo (s : State) (k : Nat) : (s.inc16 k).edgeNo = s.edgeNo := rfl
@[simp] theorem State.inc16_marks (s : State) (k : Nat) : (s.inc16 k).marks = s.marks := rfl
@[simp] theorem State.inc16_raiseQ (s : State) (k : Nat) : (s.inc16 k).raiseQ = s.raiseQ := rfl
@[simp] theorem State.inc16_reactions (s : State) (k : Nat) : (s.inc16 k).reactions = s.reactions := rfl
@[simp] theorem State.inc16_notices (s : State) (k : Nat) : (s.inc16 k).notices = s.notices := rfl
@[simp] theorem State.inc16_blocks (s : State) (k : Nat) : (s.inc16 k).blocks = s.blocks := rfl
@[simp] theorem State.inc16_staging (s : State) (k : Nat) : (s.inc16 k).staging = s.staging := rfl
@[simp] theorem State.inc16_slots (s : State) (k : Nat) : (s.inc16 k).slots = s.slots := rfl
@[simp] theorem State.inc16_live (s : State) (k : Nat) : (s.inc16 k).live = s.live := rfl
@[simp] theorem State.inc16_snap (s : State) (k : Nat) : (s.inc16 k).snap = s.snap := rfl
@[simp] theorem State.inc16_snapStaged (s : State) (k : Nat) : (s.inc16 k).snapStaged = s.snapStaged := rfl
@[simp] theorem State.inc16_capFrames (s : State) (k : Nat) : (s.inc16 k).capFrames = s.capFrames := rfl
@[simp] theorem State.inc16_capEvents (s : State) (k : Nat) : (s.inc16 k).capEvents = s.capEvents := rfl
@[simp] theorem State.inc16_anns (s : State) (k : Nat) : (s.inc16 k).anns = s.anns := rfl
@[simp] theorem State.inc16_outbox (s : State) (k : Nat) : (s.inc16 k).outbox = s.outbox := rfl
@[simp] theorem State.inc16_txWait (s : State) (k : Nat) : (s.inc16 k).txWait = s.txWait := rfl
@[simp] theorem State.inc16_rxbuf (s : State) (k : Nat) : (s.inc16 k).rxbuf = s.rxbuf := rfl
@[simp] theorem State.inc16_canParts (s : State) (k : Nat) : (s.inc16 k).canParts = s.canParts := rfl
@[simp] theorem State.inc16_ifwDue (s : State) (k : Nat) : (s.inc16 k).ifwDue = s.ifwDue := rfl
@[simp] theorem State.inc16_members (s : State) (k : Nat) : (s.inc16 k).members = s.members := rfl
@[simp] theorem State.inc16_withdrawn (s : State) (k : Nat) : (s.inc16 k).withdrawn = s.withdrawn := rfl
@[simp] theorem State.inc16_sessions (s : State) (k : Nat) : (s.inc16 k).sessions = s.sessions := rfl
@[simp] theorem State.inc16_opens (s : State) (k : Nat) : (s.inc16 k).opens = s.opens := rfl
@[simp] theorem State.inc16_bootQ (s : State) (k : Nat) : (s.inc16 k).bootQ = s.bootQ := rfl
@[simp] theorem State.inc16_copies (s : State) (k : Nat) : (s.inc16 k).copies = s.copies := rfl
@[simp] theorem State.inc16_saving (s : State) (k : Nat) : (s.inc16 k).saving = s.saving := rfl
@[simp] theorem State.inc16_transfers (s : State) (k : Nat) : (s.inc16 k).transfers = s.transfers := rfl
@[simp] theorem State.inc16_asks (s : State) (k : Nat) : (s.inc16 k).asks = s.asks := rfl
@[simp] theorem State.inc16_grants (s : State) (k : Nat) : (s.inc16 k).grants = s.grants := rfl
@[simp] theorem State.inc16_dues (s : State) (k : Nat) : (s.inc16 k).dues = s.dues := rfl
@[simp] theorem State.inc16_deferred (s : State) (k : Nat) : (s.inc16 k).deferred = s.deferred := rfl
@[simp] theorem State.inc16_onOrder (s : State) (k : Nat) : (s.inc16 k).onOrder = s.onOrder := rfl
@[simp] theorem State.inc16_shedList (s : State) (k : Nat) : (s.inc16 k).shedList = s.shedList := rfl
@[simp] theorem State.inc16_powerIn (s : State) (k : Nat) : (s.inc16 k).powerIn = s.powerIn := rfl
@[simp] theorem State.inc16_loopWrites (s : State) (k : Nat) : (s.inc16 k).loopWrites = s.loopWrites := rfl
@[simp] theorem State.inc16_borrowed (s : State) (k : Nat) : (s.inc16 k).borrowed = s.borrowed := rfl
@[simp] theorem State.inc16_lent (s : State) (k : Nat) : (s.inc16 k).lent = s.lent := rfl
@[simp] theorem State.inc16_pending (s : State) (k : Nat) : (s.inc16 k).pending = s.pending := rfl

/-! ### inc8 -/

@[simp] theorem State.inc8_blobs (s : State) (k : Nat) : (s.inc8 k).blobs = s.blobs := rfl
@[simp] theorem State.inc8_timebase (s : State) (k : Nat) : (s.inc8 k).timebase = s.timebase := rfl
@[simp] theorem State.inc8_fresh (s : State) (k : Nat) : (s.inc8 k).fresh = s.fresh := rfl
@[simp] theorem State.inc8_edgeAt (s : State) (k : Nat) : (s.inc8 k).edgeAt = s.edgeAt := rfl
@[simp] theorem State.inc8_edgeNo (s : State) (k : Nat) : (s.inc8 k).edgeNo = s.edgeNo := rfl
@[simp] theorem State.inc8_marks (s : State) (k : Nat) : (s.inc8 k).marks = s.marks := rfl
@[simp] theorem State.inc8_raiseQ (s : State) (k : Nat) : (s.inc8 k).raiseQ = s.raiseQ := rfl
@[simp] theorem State.inc8_reactions (s : State) (k : Nat) : (s.inc8 k).reactions = s.reactions := rfl
@[simp] theorem State.inc8_notices (s : State) (k : Nat) : (s.inc8 k).notices = s.notices := rfl
@[simp] theorem State.inc8_blocks (s : State) (k : Nat) : (s.inc8 k).blocks = s.blocks := rfl
@[simp] theorem State.inc8_staging (s : State) (k : Nat) : (s.inc8 k).staging = s.staging := rfl
@[simp] theorem State.inc8_slots (s : State) (k : Nat) : (s.inc8 k).slots = s.slots := rfl
@[simp] theorem State.inc8_live (s : State) (k : Nat) : (s.inc8 k).live = s.live := rfl
@[simp] theorem State.inc8_snap (s : State) (k : Nat) : (s.inc8 k).snap = s.snap := rfl
@[simp] theorem State.inc8_snapStaged (s : State) (k : Nat) : (s.inc8 k).snapStaged = s.snapStaged := rfl
@[simp] theorem State.inc8_capFrames (s : State) (k : Nat) : (s.inc8 k).capFrames = s.capFrames := rfl
@[simp] theorem State.inc8_capEvents (s : State) (k : Nat) : (s.inc8 k).capEvents = s.capEvents := rfl
@[simp] theorem State.inc8_anns (s : State) (k : Nat) : (s.inc8 k).anns = s.anns := rfl
@[simp] theorem State.inc8_outbox (s : State) (k : Nat) : (s.inc8 k).outbox = s.outbox := rfl
@[simp] theorem State.inc8_txWait (s : State) (k : Nat) : (s.inc8 k).txWait = s.txWait := rfl
@[simp] theorem State.inc8_rxbuf (s : State) (k : Nat) : (s.inc8 k).rxbuf = s.rxbuf := rfl
@[simp] theorem State.inc8_canParts (s : State) (k : Nat) : (s.inc8 k).canParts = s.canParts := rfl
@[simp] theorem State.inc8_ifwDue (s : State) (k : Nat) : (s.inc8 k).ifwDue = s.ifwDue := rfl
@[simp] theorem State.inc8_members (s : State) (k : Nat) : (s.inc8 k).members = s.members := rfl
@[simp] theorem State.inc8_withdrawn (s : State) (k : Nat) : (s.inc8 k).withdrawn = s.withdrawn := rfl
@[simp] theorem State.inc8_sessions (s : State) (k : Nat) : (s.inc8 k).sessions = s.sessions := rfl
@[simp] theorem State.inc8_opens (s : State) (k : Nat) : (s.inc8 k).opens = s.opens := rfl
@[simp] theorem State.inc8_bootQ (s : State) (k : Nat) : (s.inc8 k).bootQ = s.bootQ := rfl
@[simp] theorem State.inc8_copies (s : State) (k : Nat) : (s.inc8 k).copies = s.copies := rfl
@[simp] theorem State.inc8_saving (s : State) (k : Nat) : (s.inc8 k).saving = s.saving := rfl
@[simp] theorem State.inc8_transfers (s : State) (k : Nat) : (s.inc8 k).transfers = s.transfers := rfl
@[simp] theorem State.inc8_asks (s : State) (k : Nat) : (s.inc8 k).asks = s.asks := rfl
@[simp] theorem State.inc8_grants (s : State) (k : Nat) : (s.inc8 k).grants = s.grants := rfl
@[simp] theorem State.inc8_dues (s : State) (k : Nat) : (s.inc8 k).dues = s.dues := rfl
@[simp] theorem State.inc8_deferred (s : State) (k : Nat) : (s.inc8 k).deferred = s.deferred := rfl
@[simp] theorem State.inc8_onOrder (s : State) (k : Nat) : (s.inc8 k).onOrder = s.onOrder := rfl
@[simp] theorem State.inc8_shedList (s : State) (k : Nat) : (s.inc8 k).shedList = s.shedList := rfl
@[simp] theorem State.inc8_powerIn (s : State) (k : Nat) : (s.inc8 k).powerIn = s.powerIn := rfl
@[simp] theorem State.inc8_loopWrites (s : State) (k : Nat) : (s.inc8 k).loopWrites = s.loopWrites := rfl
@[simp] theorem State.inc8_borrowed (s : State) (k : Nat) : (s.inc8 k).borrowed = s.borrowed := rfl
@[simp] theorem State.inc8_lent (s : State) (k : Nat) : (s.inc8 k).lent = s.lent := rfl
@[simp] theorem State.inc8_pending (s : State) (k : Nat) : (s.inc8 k).pending = s.pending := rfl

/-! ### used -/

@[simp] theorem State.used_regs (s : State) : (s.used).regs = s.regs := rfl
@[simp] theorem State.used_blobs (s : State) : (s.used).blobs = s.blobs := rfl
@[simp] theorem State.used_timebase (s : State) : (s.used).timebase = s.timebase := rfl
@[simp] theorem State.used_edgeAt (s : State) : (s.used).edgeAt = s.edgeAt := rfl
@[simp] theorem State.used_edgeNo (s : State) : (s.used).edgeNo = s.edgeNo := rfl
@[simp] theorem State.used_marks (s : State) : (s.used).marks = s.marks := rfl
@[simp] theorem State.used_raiseQ (s : State) : (s.used).raiseQ = s.raiseQ := rfl
@[simp] theorem State.used_reactions (s : State) : (s.used).reactions = s.reactions := rfl
@[simp] theorem State.used_notices (s : State) : (s.used).notices = s.notices := rfl
@[simp] theorem State.used_blocks (s : State) : (s.used).blocks = s.blocks := rfl
@[simp] theorem State.used_staging (s : State) : (s.used).staging = s.staging := rfl
@[simp] theorem State.used_slots (s : State) : (s.used).slots = s.slots := rfl
@[simp] theorem State.used_live (s : State) : (s.used).live = s.live := rfl
@[simp] theorem State.used_snap (s : State) : (s.used).snap = s.snap := rfl
@[simp] theorem State.used_snapStaged (s : State) : (s.used).snapStaged = s.snapStaged := rfl
@[simp] theorem State.used_capFrames (s : State) : (s.used).capFrames = s.capFrames := rfl
@[simp] theorem State.used_capEvents (s : State) : (s.used).capEvents = s.capEvents := rfl
@[simp] theorem State.used_anns (s : State) : (s.used).anns = s.anns := rfl
@[simp] theorem State.used_outbox (s : State) : (s.used).outbox = s.outbox := rfl
@[simp] theorem State.used_txWait (s : State) : (s.used).txWait = s.txWait := rfl
@[simp] theorem State.used_rxbuf (s : State) : (s.used).rxbuf = s.rxbuf := rfl
@[simp] theorem State.used_canParts (s : State) : (s.used).canParts = s.canParts := rfl
@[simp] theorem State.used_ifwDue (s : State) : (s.used).ifwDue = s.ifwDue := rfl
@[simp] theorem State.used_members (s : State) : (s.used).members = s.members := rfl
@[simp] theorem State.used_withdrawn (s : State) : (s.used).withdrawn = s.withdrawn := rfl
@[simp] theorem State.used_sessions (s : State) : (s.used).sessions = s.sessions := rfl
@[simp] theorem State.used_opens (s : State) : (s.used).opens = s.opens := rfl
@[simp] theorem State.used_bootQ (s : State) : (s.used).bootQ = s.bootQ := rfl
@[simp] theorem State.used_copies (s : State) : (s.used).copies = s.copies := rfl
@[simp] theorem State.used_saving (s : State) : (s.used).saving = s.saving := rfl
@[simp] theorem State.used_transfers (s : State) : (s.used).transfers = s.transfers := rfl
@[simp] theorem State.used_asks (s : State) : (s.used).asks = s.asks := rfl
@[simp] theorem State.used_grants (s : State) : (s.used).grants = s.grants := rfl
@[simp] theorem State.used_dues (s : State) : (s.used).dues = s.dues := rfl
@[simp] theorem State.used_deferred (s : State) : (s.used).deferred = s.deferred := rfl
@[simp] theorem State.used_onOrder (s : State) : (s.used).onOrder = s.onOrder := rfl
@[simp] theorem State.used_shedList (s : State) : (s.used).shedList = s.shedList := rfl
@[simp] theorem State.used_powerIn (s : State) : (s.used).powerIn = s.powerIn := rfl
@[simp] theorem State.used_loopWrites (s : State) : (s.used).loopWrites = s.loopWrites := rfl
@[simp] theorem State.used_borrowed (s : State) : (s.used).borrowed = s.borrowed := rfl
@[simp] theorem State.used_lent (s : State) : (s.used).lent = s.lent := rfl
@[simp] theorem State.used_pending (s : State) : (s.used).pending = s.pending := rfl

/-! ### advance -/

@[simp] theorem State.advance_regs (s : State) (ns : Nat) : (s.advance ns).regs = s.regs := rfl
@[simp] theorem State.advance_blobs (s : State) (ns : Nat) : (s.advance ns).blobs = s.blobs := rfl
@[simp] theorem State.advance_fresh (s : State) (ns : Nat) : (s.advance ns).fresh = s.fresh := rfl
@[simp] theorem State.advance_edgeAt (s : State) (ns : Nat) : (s.advance ns).edgeAt = s.edgeAt := rfl
@[simp] theorem State.advance_edgeNo (s : State) (ns : Nat) : (s.advance ns).edgeNo = s.edgeNo := rfl
@[simp] theorem State.advance_marks (s : State) (ns : Nat) : (s.advance ns).marks = s.marks := rfl
@[simp] theorem State.advance_raiseQ (s : State) (ns : Nat) : (s.advance ns).raiseQ = s.raiseQ := rfl
@[simp] theorem State.advance_reactions (s : State) (ns : Nat) : (s.advance ns).reactions = s.reactions := rfl
@[simp] theorem State.advance_notices (s : State) (ns : Nat) : (s.advance ns).notices = s.notices := rfl
@[simp] theorem State.advance_blocks (s : State) (ns : Nat) : (s.advance ns).blocks = s.blocks := rfl
@[simp] theorem State.advance_staging (s : State) (ns : Nat) : (s.advance ns).staging = s.staging := rfl
@[simp] theorem State.advance_slots (s : State) (ns : Nat) : (s.advance ns).slots = s.slots := rfl
@[simp] theorem State.advance_live (s : State) (ns : Nat) : (s.advance ns).live = s.live := rfl
@[simp] theorem State.advance_snap (s : State) (ns : Nat) : (s.advance ns).snap = s.snap := rfl
@[simp] theorem State.advance_snapStaged (s : State) (ns : Nat) : (s.advance ns).snapStaged = s.snapStaged := rfl
@[simp] theorem State.advance_capFrames (s : State) (ns : Nat) : (s.advance ns).capFrames = s.capFrames := rfl
@[simp] theorem State.advance_capEvents (s : State) (ns : Nat) : (s.advance ns).capEvents = s.capEvents := rfl
@[simp] theorem State.advance_anns (s : State) (ns : Nat) : (s.advance ns).anns = s.anns := rfl
@[simp] theorem State.advance_outbox (s : State) (ns : Nat) : (s.advance ns).outbox = s.outbox := rfl
@[simp] theorem State.advance_txWait (s : State) (ns : Nat) : (s.advance ns).txWait = s.txWait := rfl
@[simp] theorem State.advance_rxbuf (s : State) (ns : Nat) : (s.advance ns).rxbuf = s.rxbuf := rfl
@[simp] theorem State.advance_canParts (s : State) (ns : Nat) : (s.advance ns).canParts = s.canParts := rfl
@[simp] theorem State.advance_ifwDue (s : State) (ns : Nat) : (s.advance ns).ifwDue = s.ifwDue := rfl
@[simp] theorem State.advance_members (s : State) (ns : Nat) : (s.advance ns).members = s.members := rfl
@[simp] theorem State.advance_withdrawn (s : State) (ns : Nat) : (s.advance ns).withdrawn = s.withdrawn := rfl
@[simp] theorem State.advance_sessions (s : State) (ns : Nat) : (s.advance ns).sessions = s.sessions := rfl
@[simp] theorem State.advance_opens (s : State) (ns : Nat) : (s.advance ns).opens = s.opens := rfl
@[simp] theorem State.advance_bootQ (s : State) (ns : Nat) : (s.advance ns).bootQ = s.bootQ := rfl
@[simp] theorem State.advance_copies (s : State) (ns : Nat) : (s.advance ns).copies = s.copies := rfl
@[simp] theorem State.advance_saving (s : State) (ns : Nat) : (s.advance ns).saving = s.saving := rfl
@[simp] theorem State.advance_transfers (s : State) (ns : Nat) : (s.advance ns).transfers = s.transfers := rfl
@[simp] theorem State.advance_asks (s : State) (ns : Nat) : (s.advance ns).asks = s.asks := rfl
@[simp] theorem State.advance_grants (s : State) (ns : Nat) : (s.advance ns).grants = s.grants := rfl
@[simp] theorem State.advance_dues (s : State) (ns : Nat) : (s.advance ns).dues = s.dues := rfl
@[simp] theorem State.advance_deferred (s : State) (ns : Nat) : (s.advance ns).deferred = s.deferred := rfl
@[simp] theorem State.advance_onOrder (s : State) (ns : Nat) : (s.advance ns).onOrder = s.onOrder := rfl
@[simp] theorem State.advance_shedList (s : State) (ns : Nat) : (s.advance ns).shedList = s.shedList := rfl
@[simp] theorem State.advance_powerIn (s : State) (ns : Nat) : (s.advance ns).powerIn = s.powerIn := rfl
@[simp] theorem State.advance_loopWrites (s : State) (ns : Nat) : (s.advance ns).loopWrites = s.loopWrites := rfl
@[simp] theorem State.advance_borrowed (s : State) (ns : Nat) : (s.advance ns).borrowed = s.borrowed := rfl
@[simp] theorem State.advance_lent (s : State) (ns : Nat) : (s.advance ns).lent = s.lent := rfl
@[simp] theorem State.advance_pending (s : State) (ns : Nat) : (s.advance ns).pending = s.pending := rfl

/-! ### Reads of a register after an update of another part -/

@[simp] theorem State.used_rd (s : State) (k : Nat) : s.used.rd k = s.rd k := rfl
@[simp] theorem State.used_fld (s : State) (b : Bits) : s.used.fld b = s.fld b := rfl
@[simp] theorem State.advance_rd (s : State) (ns k : Nat) : (s.advance ns).rd k = s.rd k := rfl
@[simp] theorem State.advance_fld (s : State) (ns : Nat) (b : Bits) : (s.advance ns).fld b = s.fld b := rfl
@[simp] theorem State.with_blobs_rd (s : State) (x : List (Nat × List Byte)) (k : Nat) : ({ s with blobs := x } : State).rd k = s.rd k := rfl
@[simp] theorem State.with_timebase_rd (s : State) (x : Nat) (k : Nat) : ({ s with timebase := x } : State).rd k = s.rd k := rfl
@[simp] theorem State.with_fresh_rd (s : State) (x : Nat) (k : Nat) : ({ s with fresh := x } : State).rd k = s.rd k := rfl
@[simp] theorem State.with_edgeAt_rd (s : State) (x : Nat) (k : Nat) : ({ s with edgeAt := x } : State).rd k = s.rd k := rfl
@[simp] theorem State.with_edgeNo_rd (s : State) (x : Nat) (k : Nat) : ({ s with edgeNo := x } : State).rd k = s.rd k := rfl
@[simp] theorem State.with_marks_rd (s : State) (x : List Mark) (k : Nat) : ({ s with marks := x } : State).rd k = s.rd k := rfl
@[simp] theorem State.with_raiseQ_rd (s : State) (x : List Nat) (k : Nat) : ({ s with raiseQ := x } : State).rd k = s.rd k := rfl
@[simp] theorem State.with_reactions_rd (s : State) (x : List Reaction) (k : Nat) : ({ s with reactions := x } : State).rd k = s.rd k := rfl
@[simp] theorem State.with_notices_rd (s : State) (x : List Event) (k : Nat) : ({ s with notices := x } : State).rd k = s.rd k := rfl
@[simp] theorem State.with_blocks_rd (s : State) (x : List GalBlock) (k : Nat) : ({ s with blocks := x } : State).rd k = s.rd k := rfl
@[simp] theorem State.with_staging_rd (s : State) (x : List (Nat × Int)) (k : Nat) : ({ s with staging := x } : State).rd k = s.rd k := rfl
@[simp] theorem State.with_slots_rd (s : State) (x : List (Nat × Image)) (k : Nat) : ({ s with slots := x } : State).rd k = s.rd k := rfl
@[simp] theorem State.with_live_rd (s : State) (x : Image) (k : Nat) : ({ s with live := x } : State).rd k = s.rd k := rfl
@[simp] theorem State.with_snap_rd (s : State) (x : Image) (k : Nat) : ({ s with snap := x } : State).rd k = s.rd k := rfl
@[simp] theorem State.with_snapStaged_rd (s : State) (x : List (Nat × Int)) (k : Nat) : ({ s with snapStaged := x } : State).rd k = s.rd k := rfl
@[simp] theorem State.with_capFrames_rd (s : State) (x : List (List Int)) (k : Nat) : ({ s with capFrames := x } : State).rd k = s.rd k := rfl
@[simp] theorem State.with_capEvents_rd (s : State) (x : List (List Byte)) (k : Nat) : ({ s with capEvents := x } : State).rd k = s.rd k := rfl
@[simp] theorem State.with_anns_rd (s : State) (x : List Announcement) (k : Nat) : ({ s with anns := x } : State).rd k = s.rd k := rfl
@[simp] theorem State.with_outbox_rd (s : State) (x : List Out) (k : Nat) : ({ s with outbox := x } : State).rd k = s.rd k := rfl
@[simp] theorem State.with_txWait_rd (s : State) (x : List (Nat × List Byte)) (k : Nat) : ({ s with txWait := x } : State).rd k = s.rd k := rfl
@[simp] theorem State.with_rxbuf_rd (s : State) (x : List (Nat × List Byte)) (k : Nat) : ({ s with rxbuf := x } : State).rd k = s.rd k := rfl
@[simp] theorem State.with_canParts_rd (s : State) (x : List (Nat × Nat × Nat × Nat × List Byte)) (k : Nat) : ({ s with canParts := x } : State).rd k = s.rd k := rfl
@[simp] theorem State.with_ifwDue_rd (s : State) (x : List (Nat × Nat)) (k : Nat) : ({ s with ifwDue := x } : State).rd k = s.rd k := rfl
@[simp] theorem State.with_members_rd (s : State) (x : List Member) (k : Nat) : ({ s with members := x } : State).rd k = s.rd k := rfl
@[simp] theorem State.with_withdrawn_rd (s : State) (x : List (Nat × Nat × Nat)) (k : Nat) : ({ s with withdrawn := x } : State).rd k = s.rd k := rfl
@[simp] theorem State.with_sessions_rd (s : State) (x : List Session) (k : Nat) : ({ s with sessions := x } : State).rd k = s.rd k := rfl
@[simp] theorem State.with_opens_rd (s : State) (x : List Session) (k : Nat) : ({ s with opens := x } : State).rd k = s.rd k := rfl
@[simp] theorem State.with_bootQ_rd (s : State) (x : List BootEntry) (k : Nat) : ({ s with bootQ := x } : State).rd k = s.rd k := rfl
@[simp] theorem State.with_copies_rd (s : State) (x : List ConfigCopy) (k : Nat) : ({ s with copies := x } : State).rd k = s.rd k := rfl
@[simp] theorem State.with_saving_rd (s : State) (x : List ConfigCopy) (k : Nat) : ({ s with saving := x } : State).rd k = s.rd k := rfl
@[simp] theorem State.with_transfers_rd (s : State) (x : List Transfer) (k : Nat) : ({ s with transfers := x } : State).rd k = s.rd k := rfl
@[simp] theorem State.with_asks_rd (s : State) (x : List Ask) (k : Nat) : ({ s with asks := x } : State).rd k = s.rd k := rfl
@[simp] theorem State.with_grants_rd (s : State) (x : List Estimate) (k : Nat) : ({ s with grants := x } : State).rd k = s.rd k := rfl
@[simp] theorem State.with_dues_rd (s : State) (x : List Estimate) (k : Nat) : ({ s with dues := x } : State).rd k = s.rd k := rfl
@[simp] theorem State.with_deferred_rd (s : State) (x : List Nat) (k : Nat) : ({ s with deferred := x } : State).rd k = s.rd k := rfl
@[simp] theorem State.with_onOrder_rd (s : State) (x : List (Nat × Nat)) (k : Nat) : ({ s with onOrder := x } : State).rd k = s.rd k := rfl
@[simp] theorem State.with_shedList_rd (s : State) (x : List Estimate) (k : Nat) : ({ s with shedList := x } : State).rd k = s.rd k := rfl
@[simp] theorem State.with_powerIn_rd (s : State) (x : List (Option Int)) (k : Nat) : ({ s with powerIn := x } : State).rd k = s.rd k := rfl
@[simp] theorem State.with_loopWrites_rd (s : State) (x : List (Nat × Nat × Int)) (k : Nat) : ({ s with loopWrites := x } : State).rd k = s.rd k := rfl
@[simp] theorem State.with_borrowed_rd (s : State) (x : List Loan) (k : Nat) : ({ s with borrowed := x } : State).rd k = s.rd k := rfl
@[simp] theorem State.with_lent_rd (s : State) (x : List Loan) (k : Nat) : ({ s with lent := x } : State).rd k = s.rd k := rfl
@[simp] theorem State.with_pending_rd (s : State) (x : List Instr) (k : Nat) : ({ s with pending := x } : State).rd k = s.rd k := rfl

end Sys2Proof.Machine
end

