-- ==== Sys2Proof/Laws/Store.lean ====
section
/-!
SUPPORT. The register store and the byte strings: what is read after a write, and that every write keeps the canonical form.
-/
namespace Sys2Proof.Machine

/-! ### The register store -/

theorem storeFind_erase_self (k : Nat) (l : List (Nat × Int)) : storeFind k (storeErase k l) = none := by
  induction l with
  | nil => rfl
  | cons p t ih => unfold storeErase; split <;> simp_all [storeFind]

theorem storeFind_erase_other {j k : Nat} (h : j ≠ k) (l : List (Nat × Int)) : storeFind j (storeErase k l) = storeFind j l := by
  induction l with
  | nil => rfl
  | cons p t ih =>
    unfold storeErase
    split
    · rename_i e; simp [storeFind, ih, e, Ne.symm h]
    · simp only [storeFind, ih]

theorem storeFind_insert_self (k : Nat) (x : Int) (l : List (Nat × Int)) (h : storeFind k l = none) :
    storeFind k (storeInsert k x l) = some x := by
  induction l with
  | nil => simp [storeInsert, storeFind]
  | cons p t ih =>
    unfold storeInsert
    split
    · simp [storeFind]
    · simp only [storeFind] at h ⊢
      split at h
      · cases h
      · rename_i e; simp [e, ih h]

theorem storeFind_insert_other {j k : Nat} (h : j ≠ k) (x : Int) (l : List (Nat × Int)) :
    storeFind j (storeInsert k x l) = storeFind j l := by
  induction l with
  | nil => simp [storeInsert, storeFind, Ne.symm h]
  | cons p t ih =>
    unfold storeInsert
    split
    · simp [storeFind, Ne.symm h]
    · simp only [storeFind, ih]

theorem storeAbove_of_le {k j : Nat} (h : k ≤ j) {l : List (Nat × Int)} (a : storeAbove j l = true) : storeAbove k l = true := by
  cases l with
  | nil => rfl
  | cons p t => simp [storeAbove] at a ⊢; omega

theorem storeAbove_erase {j k : Nat} {l : List (Nat × Int)} (c : storeCanon l = true) (a : storeAbove j l = true) :
    storeAbove j (storeErase k l) = true := by
  induction l generalizing j with
  | nil => rfl
  | cons p t ih =>
    simp [storeCanon] at c
    simp [storeAbove] at a
    unfold storeErase
    split
    · exact ih c.2 (storeAbove_of_le (Nat.le_of_lt a) c.1.1)
    · simpa [storeAbove] using a

theorem storeErase_canon {k : Nat} {l : List (Nat × Int)} (c : storeCanon l = true) : storeCanon (storeErase k l) = true := by
  induction l with
  | nil => rfl
  | cons p t ih =>
    have c' := c
    simp [storeCanon] at c
    unfold storeErase
    split
    · exact ih c.2
    · simp [storeCanon, c.1.2, ih c.2, storeAbove_erase c.2 c.1.1]

theorem storeAbove_insert {j k : Nat} {x : Int} {l : List (Nat × Int)} (h : j < k) (a : storeAbove j l = true) :
    storeAbove j (storeInsert k x l) = true := by
  cases l with
  | nil => simp [storeInsert, storeAbove, h]
  | cons p t => simp [storeAbove] at a; unfold storeInsert; split <;> simp [storeAbove, h, a]

theorem storeInsert_canon {k : Nat} {x : Int} {l : List (Nat × Int)} (hx : x ≠ resetValue k) (n : storeFind k l = none)
    (c : storeCanon l = true) : storeCanon (storeInsert k x l) = true := by
  induction l with
  | nil => simp [storeInsert, storeCanon, storeAbove, hx]
  | cons p t ih =>
    have c' := c
    simp [storeCanon] at c
    unfold storeInsert
    split
    · rename_i e
      simp only [storeCanon] at c' ⊢
      have a : storeAbove k (p :: t) = true := by simp [storeAbove, e]
      simp only [a, c.1.1, c.1.2, c.2, hx, Bool.and_true, ne_eq, not_false_eq_true, decide_true]
    · rename_i e
      simp only [storeFind] at n
      split at n
      · cases n
      · have : p.1 < k := by omega
        simp [storeCanon, c.1.2, ih n c.2, storeAbove_insert this c.1.1]

/-- A write of the register store keeps its canonical form. -/
theorem storePut_canon (k : Nat) (x : Int) {l : List (Nat × Int)} (c : storeCanon l = true) : storeCanon (storePut k x l) = true := by
  unfold storePut
  split
  · exact storeErase_canon c
  · exact storeInsert_canon ‹_› (storeFind_erase_self k l) (storeErase_canon c)

theorem storeFind_put_self (k : Nat) (x : Int) (l : List (Nat × Int)) :
    storeFind k (storePut k x l) = if x = resetValue k then none else some x := by
  unfold storePut
  split
  · exact storeFind_erase_self k l
  · exact storeFind_insert_self k x _ (storeFind_erase_self k l)

theorem storeFind_put_other {j k : Nat} (h : j ≠ k) (x : Int) (l : List (Nat × Int)) : storeFind j (storePut k x l) = storeFind j l := by
  unfold storePut
  split
  · exact storeFind_erase_other h l
  · rw [storeFind_insert_other h, storeFind_erase_other h]

/-- A register reads as what was written to it. -/
@[simp] theorem State.rd_wr_self (s : State) (k : Nat) (x : Int) : (s.wr k x).rd k = x := by
  simp only [State.rd, State.wr, storeFind_put_self]
  split
  · rename_i h
    split at h
    · cases h
    · cases h; rfl
  · rename_i h
    split at h
    · exact (by assumption : x = resetValue k).symm
    · cases h

/-- A write leaves every other register as it was. -/
theorem State.rd_wr_other {j k : Nat} (h : j ≠ k) (s : State) (x : Int) : (s.wr k x).rd j = s.rd j := by
  simp only [State.rd, State.wr, storeFind_put_other h]

/-- A read after a write. -/
theorem State.rd_wr (s : State) (j k : Nat) (x : Int) : (s.wr k x).rd j = if j = k then x else s.rd j := by
  split
  · rename_i h; rw [h, State.rd_wr_self]
  · rename_i h; exact State.rd_wr_other h s x

/-- Any sub-list in the same order of a canonical store is canonical. -/
theorem storeCanon_filter (f : Nat × Int → Bool) {l : List (Nat × Int)} (c : storeCanon l = true) : storeCanon (l.filter f) = true := by
  have key : ∀ (l : List (Nat × Int)) (j : Nat), storeCanon l = true → storeAbove j l = true → storeAbove j (l.filter f) = true := by
    intro l
    induction l with
    | nil => intros; rfl
    | cons p t ih =>
      intro j c a
      simp [storeCanon] at c
      simp [storeAbove] at a
      rw [List.filter_cons]
      split
      · simpa [storeAbove] using a
      · exact ih j c.2 (storeAbove_of_le (Nat.le_of_lt a) c.1.1)
  induction l with
  | nil => rfl
  | cons p t ih =>
    have c' := c
    simp [storeCanon] at c
    rw [List.filter_cons]
    split
    · simp [storeCanon, c.1.2, ih c.2, key t p.1 c.2 c.1.1]
    · exact ih c.2

/-! ### Byte strings -/

theorem blobsCanon_filter (f : Nat × List Byte → Bool) {l : List (Nat × List Byte)} (c : blobsCanon l = true) :
    blobsCanon (l.filter f) = true := by
  induction l with
  | nil => rfl
  | cons p t ih =>
    simp only [blobsCanon, Bool.and_eq_true, List.all_eq_true] at c
    rw [List.filter_cons]
    split
    · simp only [blobsCanon, Bool.and_eq_true, List.all_eq_true]
      exact ⟨⟨fun x hx => c.1.1 x (List.mem_filter.1 hx).1, c.1.2⟩, ih c.2⟩
    · exact ih c.2

theorem blobsCanon_put {k : Nat} {b : List Byte} (hb : b.isEmpty = false) (l : List (Nat × List Byte)) (c : blobsCanon l = true) :
    blobsCanon (l.filter (fun p => p.1 < k) ++ (k, b) :: l.filter (fun p => k < p.1)) = true := by
  have hi : blobsCanon ((k, b) :: l.filter fun p => k < p.1) = true := by
    simp only [blobsCanon, Bool.and_eq_true, List.all_eq_true]
    refine ⟨⟨fun x hx => ?_, by simp [hb]⟩, blobsCanon_filter _ c⟩
    simpa using (List.mem_filter.1 hx).2
  have hall : ∀ x ∈ (k, b) :: l.filter (fun p => k < p.1), k ≤ x.1 := by
    intro x hx
    rcases List.mem_cons.1 hx with e | e
    · subst e; exact Nat.le_refl _
    · have := (List.mem_filter.1 e).2; simp at this; omega
  generalize (k, b) :: l.filter (fun p => k < p.1) = tail at hi hall
  induction l with
  | nil => simpa using hi
  | cons p t ih =>
    simp only [blobsCanon, Bool.and_eq_true, List.all_eq_true] at c
    rw [List.filter_cons]
    split
    · rename_i hp
      simp only [List.cons_append, blobsCanon, Bool.and_eq_true, List.all_eq_true]
      refine ⟨⟨fun x hx => ?_, c.1.2⟩, ih c.2⟩
      rcases List.mem_append.1 hx with e | e
      · exact c.1.1 x (List.mem_filter.1 e).1
      · have := hall x e; simp at hp ⊢; omega
    · exact ih c.2

/-- Storing a byte string keeps the canonical form. -/
theorem State.setBlob_canon (s : State) (k : Nat) (b : List Byte) (c : blobsCanon s.blobs = true) :
    blobsCanon (s.setBlob k b).blobs = true := by
  unfold State.setBlob
  dsimp only
  split
  · exact blobsCanon_filter _ c
  · exact blobsCanon_put (by simp_all) _ (blobsCanon_filter _ c)

/-! ### Staging counters -/

theorem stagingAbove_erase {j k : Nat} {l : List (Nat × Int)} (c : stagingCanon l = true) (a : storeAbove j l = true) :
    storeAbove j (storeErase k l) = true := by
  induction l generalizing j with
  | nil => rfl
  | cons p t ih =>
    simp [stagingCanon] at c
    simp [storeAbove] at a
    unfold storeErase
    split
    · exact ih c.2 (storeAbove_of_le (Nat.le_of_lt a) c.1.1)
    · simpa [storeAbove] using a

theorem stagingErase_canon {k : Nat} {l : List (Nat × Int)} (c : stagingCanon l = true) : stagingCanon (storeErase k l) = true := by
  induction l with
  | nil => rfl
  | cons p t ih =>
    simp [stagingCanon] at c
    unfold storeErase
    split
    · exact ih c.2
    · simp [stagingCanon, c.1.2, ih c.2, stagingAbove_erase c.2 c.1.1]

theorem stagingInsert_canon {k : Nat} {x : Int} {l : List (Nat × Int)} (hx : x ≠ 0) (n : storeFind k l = none)
    (c : stagingCanon l = true) : stagingCanon (storeInsert k x l) = true := by
  induction l with
  | nil => simp [storeInsert, stagingCanon, storeAbove, hx]
  | cons p t ih =>
    simp [stagingCanon] at c
    unfold storeInsert
    split
    · rename_i e
      have a : storeAbove k (p :: t) = true := by simp [storeAbove, e]
      simp only [stagingCanon, a, c.1.1, c.1.2, c.2, hx, Bool.and_true, ne_eq, not_false_eq_true, decide_true]
    · rename_i e
      simp only [storeFind] at n
      split at n
      · cases n
      · have : p.1 < k := by omega
        simp [stagingCanon, c.1.2, ih n c.2, storeAbove_insert this c.1.1]

/-- Setting a staging counter keeps the canonical form. -/
theorem State.setStaged_canon (s : State) (off : Nat) (v : Int) (c : stagingCanon s.staging = true) :
    stagingCanon (s.setStaged off v).staging = true := by
  unfold State.setStaged
  dsimp only
  split
  · exact stagingErase_canon c
  · exact stagingInsert_canon ‹_› (storeFind_erase_self off _) (stagingErase_canon c)

theorem stagingAbove_map {f : Nat × Int → Nat × Int} (hf : ∀ p, (f p).1 = p.1) (j : Nat) (l : List (Nat × Int)) :
    storeAbove j (l.map f) = storeAbove j l := by
  cases l <;> simp [storeAbove, hf]

/-- Mapping the values of staging counters and dropping the zeros keeps the canonical form. -/
theorem stagingCanon_update {f : Nat × Int → Nat × Int} (hf : ∀ p, (f p).1 = p.1) {l : List (Nat × Int)} (c : stagingCanon l = true) :
    stagingCanon ((l.map f).filter fun p => p.2 ≠ 0) = true := by
  have key : ∀ (l : List (Nat × Int)) (j : Nat), stagingCanon l = true → storeAbove j l = true →
      storeAbove j ((l.map f).filter fun p => p.2 ≠ 0) = true := by
    intro l
    induction l with
    | nil => intros; rfl
    | cons p t ih =>
      intro j c a
      simp [stagingCanon] at c
      simp [storeAbove] at a
      rw [List.map_cons, List.filter_cons]
      split
      · simpa [storeAbove, hf] using a
      · exact ih j c.2 (storeAbove_of_le (Nat.le_of_lt a) c.1.1)
  induction l with
  | nil => rfl
  | cons p t ih =>
    simp [stagingCanon] at c
    rw [List.map_cons, List.filter_cons]
    split
    · rename_i hp
      simp only [stagingCanon, hf, key t p.1 c.2 c.1.1, ih c.2, Bool.true_and, Bool.and_true]
      simpa using hp
    · exact ih c.2

end Sys2Proof.Machine
end

