-- ==== Sys2Proof/Laws/Fields.lean ====
section
/-!
SUPPORT. What a read of a field sees of a write of a field: its own value, and nothing of a write of another register or of other
bits of its own.
-/
namespace Sys2Proof.Machine

/-- A field of a replaced value is the value put in. -/
theorem bitsOf_withBits_self (v : Int) (lo w x : Nat) : bitsOf (withBits v lo w x) lo w = x % 2 ^ w := by
  unfold withBits bitsOf
  rw [Int.toNat_natCast]
  generalize v.toNat = n
  have p : 0 < 2 ^ lo := Nat.two_pow_pos lo
  have q : 0 < 2 ^ w := Nat.two_pow_pos w
  have a := Nat.div_add_mod n (2 ^ lo)
  have b := Nat.div_add_mod (n / 2 ^ lo) (2 ^ w)
  rw [← b, Nat.mul_add, Nat.mul_comm (2 ^ lo) (n / 2 ^ lo % 2 ^ w)] at a
  have e : n - n / 2 ^ lo % 2 ^ w * 2 ^ lo + x % 2 ^ w * 2 ^ lo
      = n % 2 ^ lo + 2 ^ lo * (2 ^ w * (n / 2 ^ lo / 2 ^ w) + x % 2 ^ w) := by
    rw [Nat.mul_add, Nat.mul_comm (2 ^ lo) (x % 2 ^ w)]; omega
  rw [e, Nat.add_mul_div_left _ _ p, Nat.div_eq_of_lt (Nat.mod_lt n p), Nat.zero_add, Nat.mul_add_mod]
  exact Nat.mod_eq_of_lt (Nat.mod_lt _ q)

/-- A field reads as what was written to it. -/
@[simp] theorem State.fld_setFld_self (s : State) (b : Bits) (x : Nat) : (s.setFld b x).fld b = x % 2 ^ b.width := by
  unfold State.fld State.setFld; rw [State.rd_wr_self]; exact bitsOf_withBits_self _ _ _ _

/-- A register reads the same after a write of a field of another. -/
theorem State.rd_setFld_other (s : State) (b : Bits) (x k : Nat) (h : k ≠ b.key) : (s.setFld b x).rd k = s.rd k :=
  State.rd_wr_other h s _

/-- A field reads the same after a write of another register. -/
theorem State.fld_wr_other (s : State) (b : Bits) (k : Nat) (x : Int) (h : b.key ≠ k) : (s.wr k x).fld b = s.fld b := by
  unfold State.fld; rw [State.rd_wr_other h s x]

/-- A field reads the same after a write of a field of another register. -/
theorem State.fld_setFld_other (s : State) (b c : Bits) (x : Nat) (h : b.key ≠ c.key) : (s.setFld c x).fld b = s.fld b :=
  State.fld_wr_other s b _ _ h

end Sys2Proof.Machine
end

