-- ==== Sys2Proof/Laws/Kept.lean ====
section
/-!
SUPPORT. What every operation of the model keeps: the canonical form of the state, the queue, and that a free value is never used
twice. `Kept a s` says it of a state `s` that came from `a`; one lemma for each shared operation, in the files Kept*.lean.
-/
namespace Sys2Proof.Machine

/-- `s` came from `a` by operations that keep the canonical form and the queue, and take no free value back. -/
structure Kept (a s : State) : Prop where
  wf : a.wf → s.wf
  queue : s.pending = a.pending
  fresh : a.fresh ≤ s.fresh

theorem Kept.refl (s : State) : Kept s s := ⟨id, rfl, Nat.le_refl _⟩

theorem Kept.trans {a b c : State} (h : Kept a b) (g : Kept b c) : Kept a c :=
  ⟨fun w => g.wf (h.wf w), g.queue.trans h.queue, Nat.le_trans h.fresh g.fresh⟩

theorem Kept.ite {a s t : State} {c : Prop} [Decidable c] (h : Kept a s) (g : Kept a t) : Kept a (if c then s else t) := by
  split <;> assumption

variable {a s : State}

theorem State.wr_kept (h : Kept a s) (k : Nat) (x : Int) : Kept a (s.wr k x) :=
  ⟨fun w => ⟨storePut_canon k x (h.wf w).1, (h.wf w).2⟩, h.queue, h.fresh⟩

theorem State.wrB_kept (h : Kept a s) (k : Nat) (b : Bool) : Kept a (s.wrB k b) := State.wr_kept h k _

theorem State.setFld_kept (h : Kept a s) (b : Bits) (x : Nat) : Kept a (s.setFld b x) := State.wr_kept h _ _

theorem State.setBit_kept (h : Kept a s) (b : Bits) (x : Bool) : Kept a (s.setBit b x) := State.wr_kept h _ _

theorem State.add_kept (h : Kept a s) (n k : Nat) (d : Int) : Kept a (s.add n k d) := State.wr_kept h _ _

theorem State.inc32_kept (h : Kept a s) (k : Nat) : Kept a (s.inc32 k) := State.wr_kept h _ _

theorem State.inc16_kept (h : Kept a s) (k : Nat) : Kept a (s.inc16 k) := State.wr_kept h _ _

theorem State.inc8_kept (h : Kept a s) (k : Nat) : Kept a (s.inc8 k) := State.wr_kept h _ _

theorem forAll_kept {α : Type} {f : α → State → State} (h : Kept a s) (l : List α) (g : ∀ x t, Kept a t → Kept a (f x t)) :
    Kept a (forAll l f s) := by
  unfold forAll
  induction l generalizing s with
  | nil => exact h
  | cons x l ih => exact ih (g x s h)

theorem forUnits_kept {f : Nat → State → State} (h : Kept a s) (n : Nat) (g : ∀ x t, Kept a t → Kept a (f x t)) :
    Kept a (forUnits n f s) := forAll_kept h (List.range n) g

theorem foldl_kept {α : Type} {f : State → α → State} (h : Kept a s) (l : List α) (g : ∀ t x, Kept a t → Kept a (f t x)) :
    Kept a (l.foldl f s) := by
  induction l generalizing s with
  | nil => exact h
  | cons x l ih => exact ih (g s x h)

theorem State.when_kept {f : State → State} (h : Kept a s) (c : Bool) (g : ∀ t, Kept a t → Kept a (f t)) : Kept a (s.when c f) :=
  Kept.ite (g s h) h

theorem State.used_kept (h : Kept a s) : Kept a s.used := ⟨fun w => h.wf w, h.queue, Nat.le_succ_of_le h.fresh⟩

theorem State.advance_kept (h : Kept a s) (ns : Nat) : Kept a (s.advance ns) :=
  ⟨fun w => ⟨(h.wf w).1, (h.wf w).2.1, (h.wf w).2.2.1, Nat.mod_lt _ (by decide)⟩, h.queue, h.fresh⟩

theorem State.toMultiple_kept (h : Kept a s) (p : Nat) : Kept a (s.toMultiple p) := Kept.ite h (State.advance_kept h _)

theorem State.toTickOf_kept (h : Kept a s) (k p : Nat) : Kept a (s.toTickOf k p) := by
  unfold State.toTickOf
  exact State.wr_kept (Kept.ite (State.advance_kept (State.toMultiple_kept h p) p) (State.toMultiple_kept h p)) _ _

theorem State.toTick_kept (h : Kept a s) (k p : Nat) : Kept a (s.toTick k p) := State.toTickOf_kept h _ _

theorem State.toAfter_kept (h : Kept a s) (t ns : Int) : Kept a (s.toAfter t ns) := Kept.ite h (State.advance_kept h _)

theorem State.turnedAway_kept (h : Kept a s) : Kept a s.turnedAway := State.inc32_kept (State.inc32_kept h _) _

theorem State.confBreak_kept (h : Kept a s) : Kept a s.confBreak := State.wr_kept h _ _

theorem State.mark_kept (h : Kept a s) (k u : Nat) (v : Int) : Kept a (s.mark k u v) := ⟨fun w => h.wf w, h.queue, h.fresh⟩

theorem State.noteBefore_kept (h : Kept a s) (keys : List Nat) : Kept a (s.noteBefore keys) :=
  forAll_kept h keys fun _ _ g => State.mark_kept g _ _ _

theorem State.putBack_kept (h : Kept a s) (keys : List Nat) : Kept a (s.putBack keys) := by
  refine forAll_kept h keys fun k t g => ?_
  cases t.nowFirst markBefore k with
  | none => exact g
  | some x => exact State.wr_kept g k x

theorem State.setBlob_kept (h : Kept a s) (k : Nat) (b : List Byte) : Kept a (s.setBlob k b) := by
  have e : (s.setBlob k b).regs = s.regs ∧ (s.setBlob k b).staging = s.staging ∧ (s.setBlob k b).timebase = s.timebase ∧
      (s.setBlob k b).pending = s.pending ∧ (s.setBlob k b).fresh = s.fresh := by
    unfold State.setBlob; dsimp only; split <;> simp
  refine ⟨fun w => ?_, e.2.2.2.1.trans h.queue, e.2.2.2.2 ▸ h.fresh⟩
  have w := h.wf w
  exact ⟨e.1 ▸ w.1, s.setBlob_canon k b w.2.1, e.2.1 ▸ w.2.2.1, e.2.2.1 ▸ w.2.2.2⟩

theorem State.setStaged_kept (h : Kept a s) (off : Nat) (v : Int) : Kept a (s.setStaged off v) :=
  ⟨fun w => ⟨(h.wf w).1, (h.wf w).2.1, s.setStaged_canon off v (h.wf w).2.2.1, (h.wf w).2.2.2⟩, h.queue, h.fresh⟩

end Sys2Proof.Machine
end

