-- ==== Sys2Proof/Laws/KeptPower.lean ====
section
/-!
SUPPORT. What the operations keep: the Shaft, the fault collector, the rails, the PDUs and the contexts. Each lemma says of one operation that the state it leaves is in canonical form
when the state before was, holds the same queue, and takes no free value back.
-/
namespace Sys2Proof.Machine

variable {a s : State}

theorem Kept.with_blocks (h : Kept a s) (x0 : List GalBlock) :
    Kept a { s with blocks := x0 } := ⟨fun w => h.wf w, h.queue, h.fresh⟩

theorem Kept.with_bootQ (h : Kept a s) (x0 : List BootEntry) :
    Kept a { s with bootQ := x0 } := ⟨fun w => h.wf w, h.queue, h.fresh⟩

theorem Kept.with_shedList (h : Kept a s) (x0 : List Estimate) :
    Kept a { s with shedList := x0 } := ⟨fun w => h.wf w, h.queue, h.fresh⟩

theorem Kept.with_dues (h : Kept a s) (x0 : List Estimate) :
    Kept a { s with dues := x0 } := ⟨fun w => h.wf w, h.queue, h.fresh⟩

theorem Kept.with_deferred (h : Kept a s) (x0 : List Nat) :
    Kept a { s with deferred := x0 } := ⟨fun w => h.wf w, h.queue, h.fresh⟩

theorem Kept.with_grants (h : Kept a s) (x0 : List Estimate) :
    Kept a { s with grants := x0 } := ⟨fun w => h.wf w, h.queue, h.fresh⟩

theorem Kept.with_rxbuf (h : Kept a s) (x0 : List (Nat × List Byte)) :
    Kept a { s with rxbuf := x0 } := ⟨fun w => h.wf w, h.queue, h.fresh⟩

theorem Kept.with_live (h : Kept a s) (x0 : Image) :
    Kept a { s with live := x0 } := ⟨fun w => h.wf w, h.queue, h.fresh⟩

theorem Kept.with_slots (h : Kept a s) (x0 : List (Nat × Image)) :
    Kept a { s with slots := x0 } := ⟨fun w => h.wf w, h.queue, h.fresh⟩

theorem Kept.with_transfers (h : Kept a s) (x0 : List Transfer) :
    Kept a { s with transfers := x0 } := ⟨fun w => h.wf w, h.queue, h.fresh⟩

theorem Kept.with_edgeNo (h : Kept a s) (x0 : Nat) :
    Kept a { s with edgeNo := x0 } := ⟨fun w => h.wf w, h.queue, h.fresh⟩

theorem Kept.with_borrowed (h : Kept a s) (x0 : List Loan) :
    Kept a { s with borrowed := x0 } := ⟨fun w => h.wf w, h.queue, h.fresh⟩

theorem Kept.with_raiseQ (h : Kept a s) (x0 : List Nat) :
    Kept a { s with raiseQ := x0 } := ⟨fun w => h.wf w, h.queue, h.fresh⟩

theorem Kept.with_notices (h : Kept a s) (x0 : List Event) :
    Kept a { s with notices := x0 } := ⟨fun w => h.wf w, h.queue, h.fresh⟩

theorem Kept.with_reactions (h : Kept a s) (x0 : List Reaction) :
    Kept a { s with reactions := x0 } := ⟨fun w => h.wf w, h.queue, h.fresh⟩

theorem Kept.with_anns (h : Kept a s) (x0 : List Announcement) :
    Kept a { s with anns := x0 } := ⟨fun w => h.wf w, h.queue, h.fresh⟩

theorem Kept.with_outbox (h : Kept a s) (x0 : List Out) :
    Kept a { s with outbox := x0 } := ⟨fun w => h.wf w, h.queue, h.fresh⟩

theorem Kept.with_txWait (h : Kept a s) (x0 : List (Nat × List Byte)) :
    Kept a { s with txWait := x0 } := ⟨fun w => h.wf w, h.queue, h.fresh⟩

theorem Kept.with_sessions (h : Kept a s) (x0 : List Session) :
    Kept a { s with sessions := x0 } := ⟨fun w => h.wf w, h.queue, h.fresh⟩

theorem Kept.with_asks (h : Kept a s) (x0 : List Ask) :
    Kept a { s with asks := x0 } := ⟨fun w => h.wf w, h.queue, h.fresh⟩

theorem Kept.with_opens (h : Kept a s) (x0 : List Session) :
    Kept a { s with opens := x0 } := ⟨fun w => h.wf w, h.queue, h.fresh⟩

theorem Kept.with_grants_dues (h : Kept a s) (x0 : List Estimate) (x1 : List Estimate) :
    Kept a { s with grants := x0, dues := x1 } := ⟨fun w => h.wf w, h.queue, h.fresh⟩

theorem Kept.with_deferred_onOrder_shedList (h : Kept a s) (x0 : List Nat) (x1 : List (Nat × Nat)) (x2 : List Estimate) :
    Kept a { s with deferred := x0, onOrder := x1, shedList := x2 } := ⟨fun w => h.wf w, h.queue, h.fresh⟩

theorem Kept.with_onOrder (h : Kept a s) (x0 : List (Nat × Nat)) :
    Kept a { s with onOrder := x0 } := ⟨fun w => h.wf w, h.queue, h.fresh⟩

theorem Kept.with_ifwDue (h : Kept a s) (x0 : List (Nat × Nat)) :
    Kept a { s with ifwDue := x0 } := ⟨fun w => h.wf w, h.queue, h.fresh⟩

theorem Kept.with_powerIn (h : Kept a s) (x0 : List (Option Int)) :
    Kept a { s with powerIn := x0 } := ⟨fun w => h.wf w, h.queue, h.fresh⟩

theorem Kept.with_capEvents (h : Kept a s) (x0 : List (List Byte)) :
    Kept a { s with capEvents := x0 } := ⟨fun w => h.wf w, h.queue, h.fresh⟩

theorem Kept.with_loopWrites (h : Kept a s) (x0 : List (Nat × Nat × Int)) :
    Kept a { s with loopWrites := x0 } := ⟨fun w => h.wf w, h.queue, h.fresh⟩

theorem Kept.with_capFrames (h : Kept a s) (x0 : List (List Int)) :
    Kept a { s with capFrames := x0 } := ⟨fun w => h.wf w, h.queue, h.fresh⟩

theorem Kept.with_capFrames_capEvents (h : Kept a s) (x0 : List (List Int)) (x1 : List (List Byte)) :
    Kept a { s with capFrames := x0, capEvents := x1 } := ⟨fun w => h.wf w, h.queue, h.fresh⟩

theorem Kept.with_snap_snapStaged_slots (h : Kept a s) (x0 : Image) (x1 : List (Nat × Int)) (x2 : List (Nat × Image)) :
    Kept a { s with snap := x0, snapStaged := x1, slots := x2 } := ⟨fun w => h.wf w, h.queue, h.fresh⟩

theorem Kept.with_members (h : Kept a s) (x0 : List Member) :
    Kept a { s with members := x0 } := ⟨fun w => h.wf w, h.queue, h.fresh⟩

theorem Kept.with_withdrawn (h : Kept a s) (x0 : List (Nat × Nat × Nat)) :
    Kept a { s with withdrawn := x0 } := ⟨fun w => h.wf w, h.queue, h.fresh⟩

theorem Kept.with_txWait_rxbuf_canParts_outbox (h : Kept a s) (x0 : List (Nat × List Byte)) (x1 : List (Nat × List Byte)) (x2 : List (Nat × Nat × Nat × Nat × List Byte)) (x3 : List Out) :
    Kept a { s with txWait := x0, rxbuf := x1, canParts := x2, outbox := x3 } := ⟨fun w => h.wf w, h.queue, h.fresh⟩

theorem Kept.with_copies (h : Kept a s) (x0 : List ConfigCopy) :
    Kept a { s with copies := x0 } := ⟨fun w => h.wf w, h.queue, h.fresh⟩

theorem Kept.with_saving (h : Kept a s) (x0 : List ConfigCopy) :
    Kept a { s with saving := x0 } := ⟨fun w => h.wf w, h.queue, h.fresh⟩

theorem Kept.with_opens_sessions (h : Kept a s) (x0 : List Session) (x1 : List Session) :
    Kept a { s with opens := x0, sessions := x1 } := ⟨fun w => h.wf w, h.queue, h.fresh⟩

theorem Kept.with_sessions_opens (h : Kept a s) (x0 : List Session) (x1 : List Session) :
    Kept a { s with sessions := x0, opens := x1 } := ⟨fun w => h.wf w, h.queue, h.fresh⟩

theorem Kept.with_blocks_transfers (h : Kept a s) (x0 : List GalBlock) (x1 : List Transfer) :
    Kept a { s with blocks := x0, transfers := x1 } := ⟨fun w => h.wf w, h.queue, h.fresh⟩

theorem Kept.with_notices_blocks_txWait_ifwDue_transfers_asks_rxbuf_canParts_sessions_opens_live (h : Kept a s) (x0 : List Event) (x1 : List GalBlock) (x2 : List (Nat × List Byte)) (x3 : List (Nat × Nat)) (x4 : List Transfer) (x5 : List Ask) (x6 : List (Nat × List Byte)) (x7 : List (Nat × Nat × Nat × Nat × List Byte)) (x8 : List Session) (x9 : List Session) (x10 : Image) :
    Kept a { s with notices := x0, blocks := x1, txWait := x2, ifwDue := x3, transfers := x4, asks := x5, rxbuf := x6, canParts := x7, sessions := x8, opens := x9, live := x10 } := ⟨fun w => h.wf w, h.queue, h.fresh⟩

theorem Kept.with_raiseQ_reactions_anns_members_withdrawn_grants_dues_deferred_onOrder_shedList_powerIn_loopWrites_borrowed_lent_capFrames_capEvents (h : Kept a s) (x0 : List Nat) (x1 : List Reaction) (x2 : List Announcement) (x3 : List Member) (x4 : List (Nat × Nat × Nat)) (x5 : List Estimate) (x6 : List Estimate) (x7 : List Nat) (x8 : List (Nat × Nat)) (x9 : List Estimate) (x10 : List (Option Int)) (x11 : List (Nat × Nat × Int)) (x12 : List Loan) (x13 : List Loan) (x14 : List (List Int)) (x15 : List (List Byte)) :
    Kept a { s with raiseQ := x0, reactions := x1, anns := x2, members := x3, withdrawn := x4, grants := x5, dues := x6, deferred := x7, onOrder := x8, shedList := x9, powerIn := x10, loopWrites := x11, borrowed := x12, lent := x13, capFrames := x14, capEvents := x15 } := ⟨fun w => h.wf w, h.queue, h.fresh⟩

theorem Kept.with_raiseQ_reactions_edgeNo (h : Kept a s) (x0 : List Nat) (x1 : List Reaction) (x2 : Nat) :
    Kept a { s with raiseQ := x0, reactions := x1, edgeNo := x2 } := ⟨fun w => h.wf w, h.queue, h.fresh⟩

theorem Kept.with_saving_copies (h : Kept a s) (x0 : List ConfigCopy) (x1 : List ConfigCopy) :
    Kept a { s with saving := x0, copies := x1 } := ⟨fun w => h.wf w, h.queue, h.fresh⟩

theorem Kept.with_lent (h : Kept a s) (x0 : List Loan) :
    Kept a { s with lent := x0 } := ⟨fun w => h.wf w, h.queue, h.fresh⟩

theorem Kept.with_canParts (h : Kept a s) (x0 : List (Nat × Nat × Nat × Nat × List Byte)) :
    Kept a { s with canParts := x0 } := ⟨fun w => h.wf w, h.queue, h.fresh⟩

theorem State.fed_kept {s : State} (h : Kept a s) (g : Nat) : Kept a (State.fed s g) := by
  unfold State.fed
  repeat' first | intro _ | with_reducible (first | assumption | apply State.wr_kept) | extract_lets | split

theorem State.setUsed_kept {s : State} (h : Kept a s) (g : Nat) (u : Int) : Kept a (State.setUsed s g u) := by
  unfold State.setUsed
  repeat' first | intro _ | with_reducible (first | assumption | apply State.wr_kept) | extract_lets | split

theorem State.takeBlock_kept {s : State} (h : Kept a s) (g : Nat) : Kept a (State.takeBlock s g) := by
  unfold State.takeBlock
  repeat' first | intro _ | with_reducible (first | assumption | apply State.setUsed_kept | apply State.fed_kept) | extract_lets | split

theorem State.takeRun_kept {s t : State} (h : Kept a s) (g : Nat) (n : Int) (e : State.takeRun s g n = some t) : Kept a t := by
  unfold State.takeRun at e
  extract_lets at e
  split at e
  · cases e; exact h
  · split at e
    · cases e; exact State.fed_kept (State.setUsed_kept h _ _) _
    · cases e

theorem State.waitEnds_kept {s : State} (h : Kept a s) (g : Nat) : Kept a (State.waitEnds s g) := by
  unfold State.waitEnds
  repeat' first | intro _ | with_reducible (first | assumption | apply State.wr_kept | apply Kept.ite) | extract_lets | split

theorem State.waitBegins_kept {s : State} (h : Kept a s) (g : Nat) : Kept a (State.waitBegins s g) := by
  unfold State.waitBegins
  repeat' first | intro _ | with_reducible (first | assumption | apply State.when_kept | apply State.wr_kept) | extract_lets | split

theorem State.takeBlocks_kept {s t : State} (h : Kept a s) (g n : Nat) (e : State.takeBlocks s g n = some t) : Kept a t := by
  induction n generalizing s with
  | zero => cases e; exact h
  | succ n ih =>
    unfold State.takeBlocks at e
    split at e
    · exact ih (State.takeBlock_kept h g) e
    · cases e

theorem State.dropBlock_kept {s : State} (h : Kept a s) (g : Nat) : Kept a (State.dropBlock s g) := by
  unfold State.dropBlock
  repeat' first | intro _ | with_reducible (first | assumption | apply State.inc32_kept | apply State.wr_kept | apply Kept.ite) | (with_reducible apply Kept.with_raiseQ; with_reducible (first | assumption | apply State.inc32_kept | apply State.wr_kept | apply Kept.ite)) | extract_lets | split

theorem State.dropRecord_kept {s : State} (h : Kept a s) (g : Nat) (n : Nat) : Kept a (State.dropRecord s g n) := by
  unfold State.dropRecord
  repeat' first | intro _ | with_reducible (first | assumption | apply State.wr_kept | apply State.dropBlock_kept | apply Kept.ite) | extract_lets | split

theorem State.notice_kept {s : State} (h : Kept a s) (e : Event) : Kept a (State.notice s e) := by
  unfold State.notice
  repeat' first | intro _ | with_reducible (first | assumption | apply State.takeBlock_kept | apply State.dropRecord_kept | apply Kept.ite) | (with_reducible apply Kept.with_notices; with_reducible (first | assumption | apply State.takeBlock_kept | apply State.dropRecord_kept | apply Kept.ite)) | extract_lets | split

theorem State.stage_kept {s : State} (h : Kept a s) (off : Nat) (bits : Nat) (d : Int) : Kept a (State.stage s off bits d) := by
  unfold State.stage
  repeat' first | intro _ | with_reducible (first | assumption | apply State.setStaged_kept | apply State.setFld_kept | apply Kept.ite) | (with_reducible apply Kept.with_raiseQ; with_reducible (first | assumption | apply State.setStaged_kept | apply State.setFld_kept | apply Kept.ite)) | extract_lets | split

theorem State.stageMin_kept {s : State} (h : Kept a s) (off : Nat) (v : Int) : Kept a (State.stageMin s off v) := by
  unfold State.stageMin
  repeat' first | intro _ | with_reducible (first | assumption | apply State.setStaged_kept | apply Kept.ite) | extract_lets | split

theorem State.stageMax_kept {s : State} (h : Kept a s) (off : Nat) (v : Int) : Kept a (State.stageMax s off v) := by
  unfold State.stageMax
  repeat' first | intro _ | with_reducible (first | assumption | apply State.setStaged_kept | apply Kept.ite) | extract_lets | split

theorem State.capFreeze_kept {s : State} (h : Kept a s) : Kept a (State.capFreeze s) := by
  unfold State.capFreeze
  repeat' first | intro _ | with_reducible (first | assumption | apply State.wr_kept) | (with_reducible apply Kept.with_raiseQ; with_reducible (first | assumption | apply State.wr_kept)) | extract_lets | split

theorem State.capTrigger_kept {s : State} (h : Kept a s) (cause : Nat) : Kept a (State.capTrigger s cause) := by
  unfold State.capTrigger
  repeat' first | intro _ | with_reducible (first | assumption | apply State.wr_kept | apply State.mark_kept | apply State.capFreeze_kept | apply Kept.ite) | extract_lets | split

theorem State.capReset_kept {s : State} (h : Kept a s) (cause : Nat) : Kept a (State.capReset s cause) := by
  unfold State.capReset
  repeat' first | intro _ | with_reducible (first | assumption | apply State.wr_kept | apply State.capFreeze_kept | apply State.when_kept | apply Kept.ite) | extract_lets | split

theorem State.srcIdle_kept {s : State} (h : Kept a s) (f : Nat) : Kept a (State.srcIdle s f) := by
  unfold State.srcIdle
  repeat' first | intro _ | with_reducible (first | assumption | apply State.setFld_kept | apply State.wr_kept) | extract_lets | split

theorem State.severe_kept {s : State} (h : Kept a s) (f : Nat) : Kept a (State.severe s f) := by
  unfold State.severe
  repeat' first | intro _ | with_reducible (first | assumption | apply State.setFld_kept | apply State.inc32_kept | apply State.wr_kept | apply State.notice_kept | apply State.when_kept | apply State.capTrigger_kept | apply State.srcIdle_kept | apply Kept.ite) | (with_reducible apply Kept.with_reactions; with_reducible (first | assumption | apply State.setFld_kept | apply State.inc32_kept | apply State.wr_kept | apply State.notice_kept | apply State.when_kept | apply State.capTrigger_kept | apply State.srcIdle_kept | apply Kept.ite)) | extract_lets | split

theorem State.raiseCount_kept {s : State} (h : Kept a s) (f : Nat) (forced : Bool) : Kept a (State.raiseCount s f forced) := by
  unfold State.raiseCount
  repeat' first | intro _ | with_reducible (first | assumption | apply State.setFld_kept | apply State.wr_kept | apply State.inc32_kept | apply State.setBit_kept | apply State.notice_kept | apply State.mark_kept | apply State.stage_kept | apply State.severe_kept | apply Kept.ite) | extract_lets | split

theorem State.srcClear_kept {s : State} (h : Kept a s) (f : Nat) : Kept a (State.srcClear s f) := by
  unfold State.srcClear
  repeat' first | intro _ | with_reducible (first | assumption | apply State.mark_kept | apply State.srcIdle_kept | apply Kept.ite) | extract_lets | split

theorem State.srcUnclear_kept {s : State} (h : Kept a s) (f : Nat) (was : Nat) : Kept a (State.srcUnclear s f was) := by
  unfold State.srcUnclear
  repeat' first | intro _ | with_reducible (first | assumption | apply State.wr_kept | apply State.setBit_kept) | extract_lets | split

theorem State.raiseAs_kept {s : State} (h : Kept a s) (f : Nat) (forced : Bool) : Kept a (State.raiseAs s f forced) := by
  unfold State.raiseAs
  repeat' first | intro _ | with_reducible (first | assumption | apply State.srcUnclear_kept | apply State.raiseCount_kept | apply State.srcIdle_kept | apply Kept.ite) | extract_lets | split

theorem State.raise_kept {s : State} (h : Kept a s) (f : Nat) : Kept a (State.raise s f) := by
  unfold State.raise
  repeat' first | intro _ | with_reducible (first | assumption | apply State.raiseAs_kept) | extract_lets | split

theorem State.setMotion_kept {s : State} (h : Kept a s) (w : Nat) (m : Motion) : Kept a (State.setMotion s w m) := by
  unfold State.setMotion
  repeat' first | intro _ | with_reducible (first | assumption | apply State.wr_kept) | extract_lets | split

theorem State.windTo_kept {s : State} (h : Kept a s) (w : Nat) (goal : Int) : Kept a (State.windTo s w goal) := by
  unfold State.windTo
  repeat' first | intro _ | with_reducible (first | assumption | apply State.wr_kept | apply State.setFld_kept) | extract_lets | split

theorem State.windPreset_kept {s : State} (h : Kept a s) (w : Nat) (pos : Int) : Kept a (State.windPreset s w pos) := by
  unfold State.windPreset
  repeat' first | intro _ | with_reducible (first | assumption | apply State.setMotion_kept | apply State.setFld_kept) | extract_lets | split

theorem State.windShow_kept {s : State} (h : Kept a s) (w : Nat) : Kept a (State.windShow s w) := by
  unfold State.windShow
  repeat' first | intro _ | with_reducible (first | assumption | apply State.wr_kept | apply State.wrB_kept) | extract_lets | split

theorem State.windStep_kept {s : State} (h : Kept a s) (w : Nat) : Kept a (State.windStep s w) := by
  unfold State.windStep
  repeat' first | intro _ | with_reducible (first | assumption | apply State.setMotion_kept | apply State.setFld_kept | apply State.inc32_kept | apply Kept.ite) | extract_lets | split

theorem State.onLeft_kept {s : State} (h : Kept a s) (p : Nat) : Kept a (State.onLeft s p) := by
  unfold State.onLeft
  repeat' first | intro _ | with_reducible (first | assumption | apply State.when_kept | apply State.wr_kept) | extract_lets | split

theorem State.toMid_kept {s : State} (h : Kept a s) (p : Nat) : Kept a (State.toMid s p) := by
  unfold State.toMid
  repeat' first | intro _ | with_reducible (first | assumption | apply State.onLeft_kept | apply State.wr_kept) | extract_lets | split

theorem State.toLow_kept {s : State} (h : Kept a s) (p : Nat) : Kept a (State.toLow s p) := by
  unfold State.toLow
  repeat' first | intro _ | with_reducible (first | assumption | apply State.onLeft_kept | apply State.wr_kept) | extract_lets | split

theorem State.valleyOver_kept {s : State} (h : Kept a s) (p : Nat) : Kept a (State.valleyOver s p) := by
  unfold State.valleyOver
  repeat' first | intro _ | with_reducible (first | assumption | apply State.wr_kept | apply Kept.ite) | extract_lets | split

theorem State.noTurnOn_kept {s : State} (h : Kept a s) (p : Nat) : Kept a (State.noTurnOn s p) := by
  unfold State.noTurnOn
  repeat' first | intro _ | with_reducible (first | assumption | apply State.wr_kept | apply State.valleyOver_kept) | extract_lets | split

theorem State.onCut_kept {s : State} (h : Kept a s) (p : Nat) : Kept a (State.onCut s p) := by
  unfold State.onCut
  repeat' first | intro _ | with_reducible (first | assumption | apply State.when_kept | apply State.wr_kept) | extract_lets | split

theorem State.railTo_kept {s : State} (h : Kept a s) (r : Nat) (st : Nat) : Kept a (State.railTo s r st) := by
  unfold State.railTo
  repeat' first | intro _ | with_reducible (first | assumption | apply State.setFld_kept | apply State.wr_kept) | extract_lets | split

theorem State.showRef_kept {s : State} (h : Kept a s) (r : Nat) : Kept a (State.showRef s r) := by
  unfold State.showRef
  repeat' first | intro _ | with_reducible (first | assumption | apply State.wr_kept) | extract_lets | split

theorem State.refresh_kept {s : State} (h : Kept a s) (r : Nat) : Kept a (State.refresh s r) := by
  unfold State.refresh
  repeat' first | intro _ | with_reducible (first | assumption | apply State.wr_kept | apply State.showRef_kept) | extract_lets | split

theorem State.burstEnds_kept {s : State} (h : Kept a s) (r : Nat) : Kept a (State.burstEnds s r) := by
  unfold State.burstEnds
  repeat' first | intro _ | with_reducible (first | assumption | apply State.railTo_kept | apply State.wr_kept | apply forAll_kept | apply Kept.ite) | extract_lets | split

theorem State.moveRef_kept {s : State} (h : Kept a s) (r : Nat) (mv : Int) : Kept a (State.moveRef s r mv) := by
  unfold State.moveRef
  repeat' first | intro _ | with_reducible (first | assumption | apply State.windTo_kept | apply State.wr_kept | apply State.setFld_kept | apply State.burstEnds_kept) | extract_lets | split

theorem State.stopMove_kept {s : State} (h : Kept a s) (r : Nat) : Kept a (State.stopMove s r) := by
  unfold State.stopMove
  repeat' first | intro _ | with_reducible (first | assumption | apply State.setFld_kept | apply State.wr_kept | apply State.setMotion_kept | apply Kept.ite) | extract_lets | split

theorem State.newTarget_kept {s : State} (h : Kept a s) (r : Nat) (mv : Int) : Kept a (State.newTarget s r mv) := by
  unfold State.newTarget
  repeat' first | intro _ | with_reducible (first | assumption | apply State.wr_kept | apply State.moveRef_kept | apply Kept.ite) | extract_lets | split

theorem State.selectPoint_kept {s : State} (h : Kept a s) (r : Nat) (i : Nat) : Kept a (State.selectPoint s r i) := by
  unfold State.selectPoint
  repeat' first | intro _ | with_reducible (first | assumption | apply State.wr_kept | apply State.setFld_kept | apply State.newTarget_kept | apply Kept.ite) | extract_lets | split

theorem State.ffActive_kept {s : State} (h : Kept a s) (r : Nat) : Kept a (State.ffActive s r) := by
  unfold State.ffActive
  repeat' first | intro _ | with_reducible (first | assumption | apply State.setBit_kept) | extract_lets | split

theorem State.removeAnns_kept {s : State} (h : Kept a s) (gone : Announcement → Bool) : Kept a (State.removeAnns s gone) := by
  unfold State.removeAnns
  dsimp -proj only
  repeat' first | intro _ | with_reducible (first | assumption | apply forAll_kept | apply State.setBit_kept | apply Kept.ite) | (with_reducible apply Kept.with_anns; with_reducible (first | assumption | apply forAll_kept | apply State.setBit_kept | apply Kept.ite)) | extract_lets | split

theorem State.dropAnns_kept {s : State} (h : Kept a s) (r : Nat) : Kept a (State.dropAnns s r) := by
  unfold State.dropAnns
  repeat' first | intro _ | with_reducible (first | assumption | apply State.removeAnns_kept | apply State.wr_kept | apply forAll_kept | apply State.ffActive_kept) | extract_lets | split

theorem State.activate_kept {s : State} (h : Kept a s) (p : Nat) : Kept a (State.activate s p) := by
  unfold State.activate
  repeat' first | intro _ | with_reducible (first | assumption | apply State.setFld_kept) | extract_lets | split

theorem State.shedUndo_kept {s : State} (h : Kept a s) (r : Nat) : Kept a (State.shedUndo s r) := by
  unfold State.shedUndo
  repeat' first | intro _ | with_reducible (first | assumption | apply State.activate_kept | apply State.when_kept | apply State.wr_kept | apply Kept.ite) | extract_lets | split

theorem State.addPhase_kept {s : State} (h : Kept a s) (r : Nat) : Kept a (State.addPhase s r) := by
  unfold State.addPhase
  repeat' first | intro _ | with_reducible (first | assumption | apply State.activate_kept | apply State.wr_kept) | extract_lets | split

theorem State.raiseActive_kept {s : State} (h : Kept a s) (r n : Nat) : Kept a (State.raiseActive s r n) := by
  induction n with
  | zero => exact h
  | succ n ih => exact Kept.ite (State.addPhase_kept ih r) ih

theorem State.announce_kept {s : State} (h : Kept a s) (r : Nat) (owner : Nat) (ctx : Nat) (annId : Nat) (stepMa : Int) (spanNs : Nat) : Kept a (State.announce s r owner ctx annId stepMa spanNs) := by
  unfold State.announce
  repeat' first | intro _ | with_reducible (first | assumption | apply State.shedUndo_kept | apply State.burstEnds_kept | apply State.raiseActive_kept | apply State.when_kept | apply State.setFld_kept | apply State.ffActive_kept | apply State.inc16_kept | apply Kept.ite) | (with_reducible apply Kept.with_anns; with_reducible (first | assumption | apply State.shedUndo_kept | apply State.burstEnds_kept | apply State.raiseActive_kept | apply State.when_kept | apply State.setFld_kept | apply State.ffActive_kept | apply State.inc16_kept | apply Kept.ite)) | extract_lets | split

theorem State.decayAnns_kept {s : State} (h : Kept a s) (r : Nat) (hit : Announcement → Bool) : Kept a (State.decayAnns s r hit) := by
  unfold State.decayAnns
  repeat' first | intro _ | with_reducible (first | assumption | apply Kept.ite) | (with_reducible apply Kept.with_anns; with_reducible (first | assumption | apply Kept.ite)) | extract_lets | split

theorem State.noShed_kept {s : State} (h : Kept a s) (r : Nat) : Kept a (State.noShed s r) := by
  unfold State.noShed
  repeat' first | intro _ | with_reducible (first | assumption | apply State.wr_kept) | extract_lets | split

theorem State.annOpen_kept {s : State} (h : Kept a s) (r : Nat) (hit : Announcement → Bool) : Kept a (State.annOpen s r hit) := by
  unfold State.annOpen
  repeat' first | intro _ | with_reducible (first | assumption | apply forAll_kept | apply State.wr_kept | apply State.decayAnns_kept | apply State.noShed_kept | apply Kept.ite) | extract_lets | split

theorem State.annUnopen_kept {s : State} (h : Kept a s) (r : Nat) (hit : Announcement → Bool) : Kept a (State.annUnopen s r hit) := by
  unfold State.annUnopen
  repeat' first | intro _ | with_reducible (first | assumption | apply forAll_kept | apply State.wr_kept | apply Kept.ite) | (with_reducible apply Kept.with_anns; with_reducible (first | assumption | apply forAll_kept | apply State.wr_kept | apply Kept.ite)) | extract_lets | split

theorem State.annWithdraw_kept {s : State} (h : Kept a s) (r : Nat) (hit : Announcement → Bool) : Kept a (State.annWithdraw s r hit) := by
  unfold State.annWithdraw
  repeat' first | intro _ | with_reducible (first | assumption | apply State.decayAnns_kept | apply State.noShed_kept | apply Kept.ite) | extract_lets | split

theorem State.wsOut_kept {s : State} (h : Kept a s) (b : List Byte) : Kept a (State.wsOut s b) := by
  unfold State.wsOut
  repeat' first | intro _ | with_reducible assumption | (with_reducible apply Kept.with_outbox; with_reducible assumption) | extract_lets | split

theorem State.wsCount_kept {s : State} (h : Kept a s) (len : Nat) : Kept a (State.wsCount s len) := by
  unfold State.wsCount
  repeat' first | intro _ | with_reducible (first | assumption | apply State.add_kept) | extract_lets | split

theorem State.wsSend_kept {s : State} (h : Kept a s) (type : Nat) (payload : List Byte) : Kept a (State.wsSend s type payload) := by
  unfold State.wsSend
  repeat' first | intro _ | with_reducible (first | assumption | apply State.wsOut_kept | apply State.wsCount_kept | apply Kept.ite) | extract_lets | split

theorem State.wsStop_kept {s : State} (h : Kept a s) : Kept a (State.wsStop s) := by
  unfold State.wsStop
  repeat' first | intro _ | with_reducible assumption | (with_reducible apply Kept.with_outbox; with_reducible assumption) | extract_lets | split

theorem State.wsFault_kept {s : State} (h : Kept a s) (r : Nat) (kind : Nat) : Kept a (State.wsFault s r kind) := by
  unfold State.wsFault
  repeat' first | intro _ | with_reducible (first | assumption | apply State.wsSend_kept | apply Kept.ite) | extract_lets | split

theorem State.railQuiet_kept {s : State} (h : Kept a s) (r : Nat) (st : Nat) : Kept a (State.railQuiet s r st) := by
  unfold State.railQuiet
  repeat' first | intro _ | with_reducible (first | assumption | apply forAll_kept | apply State.onCut_kept | apply State.toMid_kept | apply State.setFld_kept | apply State.noTurnOn_kept | apply State.wr_kept | apply State.stopMove_kept | apply State.dropAnns_kept | apply State.railTo_kept) | extract_lets | split

theorem State.railOff_kept {s : State} (h : Kept a s) (r : Nat) : Kept a (State.railOff s r) := by
  unfold State.railOff
  repeat' first | intro _ | with_reducible (first | assumption | apply State.railQuiet_kept) | extract_lets | split

theorem State.railFailed_kept {s : State} (h : Kept a s) (r : Nat) : Kept a (State.railFailed s r) := by
  unfold State.railFailed
  repeat' first | intro _ | with_reducible (first | assumption | apply State.railQuiet_kept | apply State.raise_kept | apply State.wsFault_kept | apply Kept.ite) | extract_lets | split

theorem State.railHiccup_kept {s : State} (h : Kept a s) (r : Nat) (follows : Bool) : Kept a (State.railHiccup s r follows) := by
  unfold State.railHiccup
  repeat' first | intro _ | with_reducible (first | assumption | apply forAll_kept | apply State.wr_kept | apply State.railQuiet_kept | apply State.mark_kept | apply State.inc32_kept | apply State.raise_kept | apply State.wsFault_kept | apply Kept.ite) | extract_lets | split

theorem State.overloaded_kept {s : State} (h : Kept a s) (r : Nat) : Kept a (State.overloaded s r) := by
  unfold State.overloaded
  repeat' first | intro _ | with_reducible (first | assumption | apply forAll_kept | apply State.activate_kept | apply State.wr_kept) | extract_lets | split

theorem State.inLimit_kept {s : State} (h : Kept a s) (r : Nat) : Kept a (State.inLimit s r) := by
  unfold State.inLimit
  repeat' first | intro _ | with_reducible (first | assumption | apply State.burstEnds_kept | apply State.railTo_kept | apply State.wr_kept | apply State.when_kept | apply State.overloaded_kept | apply State.raise_kept) | extract_lets | split

theorem State.enterLimit_kept {s : State} (h : Kept a s) (r : Nat) : Kept a (State.enterLimit s r) := by
  unfold State.enterLimit
  repeat' first | intro _ | with_reducible (first | assumption | apply State.inLimit_kept | apply Kept.ite) | extract_lets | split

theorem State.startEnds_kept {s : State} (h : Kept a s) (r : Nat) : Kept a (State.startEnds s r) := by
  unfold State.startEnds
  repeat' first | intro _ | with_reducible (first | assumption | apply State.inLimit_kept | apply State.railTo_kept | apply Kept.ite) | extract_lets | split

theorem State.railStart_kept {s : State} (h : Kept a s) (r : Nat) : Kept a (State.railStart s r) := by
  unfold State.railStart
  repeat' first | intro _ | with_reducible (first | assumption | apply forAll_kept | apply State.activate_kept | apply State.wr_kept | apply State.railTo_kept | apply State.windPreset_kept | apply State.refresh_kept) | extract_lets | split

theorem State.railEnable_kept {s : State} (h : Kept a s) (r : Nat) : Kept a (State.railEnable s r) := by
  unfold State.railEnable
  repeat' first | intro _ | with_reducible (first | assumption | apply State.railStart_kept | apply State.moveRef_kept | apply Kept.ite) | extract_lets | split

theorem State.railDisable_kept {s : State} (h : Kept a s) (r : Nat) (ramped : Bool) : Kept a (State.railDisable s r ramped) := by
  unfold State.railDisable
  repeat' first | intro _ | with_reducible (first | assumption | apply State.railOff_kept | apply State.moveRef_kept | apply State.wr_kept | apply Kept.ite) | extract_lets | split

theorem State.softRetry_kept {s : State} (h : Kept a s) (r : Nat) : Kept a (State.softRetry s r) := by
  unfold State.softRetry
  repeat' first | intro _ | with_reducible (first | assumption | apply State.railStart_kept | apply State.wr_kept) | extract_lets | split

theorem State.softStep_kept {s : State} (h : Kept a s) (r : Nat) : Kept a (State.softStep s r) := by
  unfold State.softStep
  repeat' first | intro _ | with_reducible (first | assumption | apply State.setMotion_kept | apply State.wr_kept | apply State.refresh_kept | apply State.startEnds_kept | apply Kept.ite) | extract_lets | split

theorem State.moveEnds_kept {s : State} (h : Kept a s) (r : Nat) : Kept a (State.moveEnds s r) := by
  unfold State.moveEnds
  repeat' first | intro _ | with_reducible (first | assumption | apply State.setFld_kept | apply State.wr_kept | apply State.railOff_kept | apply State.startEnds_kept | apply Kept.ite) | extract_lets | split

theorem State.cagePhase_kept {s : State} (h : Kept a s) (p : Nat) (cause : Nat) : Kept a (State.cagePhase s p cause) := by
  unfold State.cagePhase
  repeat' first | intro _ | with_reducible (first | assumption | apply State.setFld_kept | apply State.toMid_kept | apply State.wr_kept | apply State.noTurnOn_kept | apply State.mark_kept | apply State.railFailed_kept | apply State.enterLimit_kept | apply Kept.ite) | extract_lets | split

theorem State.phaseLeaves_kept {s : State} (h : Kept a s) (p : Nat) : Kept a (State.phaseLeaves s p) := by
  unfold State.phaseLeaves
  repeat' first | intro _ | with_reducible (first | assumption | apply State.toMid_kept | apply State.wr_kept | apply State.setFld_kept | apply State.noTurnOn_kept) | extract_lets | split

theorem State.profileMoved_kept {s : State} (h : Kept a s) (old : State) (r : Nat) : Kept a (State.profileMoved s old r) := by
  unfold State.profileMoved
  repeat' first | intro _ | with_reducible (first | assumption | apply State.setMotion_kept | apply State.setBit_kept | apply State.windTo_kept | apply Kept.ite) | extract_lets | split

theorem State.startOn_kept {s : State} (h : Kept a s) (r : Nat) (p : Nat) : Kept a (State.startOn s r p) := by
  unfold State.startOn
  repeat' first | intro _ | with_reducible (first | assumption | apply State.wr_kept | apply State.noTurnOn_kept | apply State.setFld_kept | apply Kept.ite) | extract_lets | split

theorem State.valleyWait_kept {s : State} (h : Kept a s) (r : Nat) (p : Nat) : Kept a (State.valleyWait s r p) := by
  unfold State.valleyWait
  repeat' first | intro _ | with_reducible (first | assumption | apply State.wr_kept | apply State.setFld_kept | apply State.add_kept | apply Kept.ite) | extract_lets | split

theorem State.clampFree_kept {s : State} (h : Kept a s) (r : Nat) (p : Nat) : Kept a (State.clampFree s r p) := by
  unfold State.clampFree
  repeat' first | intro _ | with_reducible (first | assumption | apply State.wr_kept | apply Kept.ite) | extract_lets | split

theorem State.slotNote_kept {s : State} (h : Kept a s) (r : Nat) (p : Nat) : Kept a (State.slotNote s r p) := by
  unfold State.slotNote
  repeat' first | intro _ | with_reducible (first | assumption | apply State.when_kept | apply State.wr_kept) | extract_lets | split

theorem State.turnOn_kept {s : State} (h : Kept a s) (r : Nat) (p : Nat) : Kept a (State.turnOn s r p) := by
  unfold State.turnOn
  repeat' first | intro _ | with_reducible (first | assumption | apply State.valleyWait_kept | apply State.clampFree_kept | apply State.startOn_kept | apply State.slotNote_kept | apply State.wr_kept | apply Kept.ite) | extract_lets | split

theorem State.turnOns_kept {s : State} (h : Kept a s) (r : Nat) : Kept a (State.turnOns s r) := by
  unfold State.turnOns
  repeat' first | intro _ | with_reducible (first | assumption | apply forAll_kept | apply State.turnOn_kept) | extract_lets | split

theorem State.railTime_kept {s : State} (h : Kept a s) : Kept a (State.railTime s) := by
  unfold State.railTime
  repeat' first | intro _ | with_reducible (first | assumption | apply forUnits_kept | apply State.turnOns_kept | apply Kept.ite) | extract_lets | split

theorem State.txFree_kept {s : State} (h : Kept a s) (c : Nat) (n : Nat) : Kept a (State.txFree s c n) := by
  unfold State.txFree
  repeat' first | intro _ | with_reducible (first | assumption | apply State.wr_kept) | extract_lets | split

theorem State.sendPdu_kept {s : State} (h : Kept a s) (port : Nat) (bytes : List Byte) : Kept a (State.sendPdu s port bytes) := by
  unfold State.sendPdu
  repeat' first | intro _ | with_reducible (first | assumption | apply State.inc32_kept | apply State.add_kept | apply State.used_kept | apply State.txFree_kept | apply State.when_kept | apply Kept.ite) | (with_reducible apply Kept.with_outbox; with_reducible (first | assumption | apply State.inc32_kept | apply State.add_kept | apply State.used_kept | apply State.txFree_kept | apply State.when_kept | apply Kept.ite)) | extract_lets | split

theorem State.offerPdu_kept {s : State} (h : Kept a s) (port : Nat) (bytes : List Byte) : Kept a (State.offerPdu s port bytes) := by
  unfold State.offerPdu
  extract_lets g
  split
  · exact h
  · split
    · next t e =>
      split at e
      · cases e
      · exact State.sendPdu_kept (State.waitEnds_kept (State.takeBlocks_kept h _ _ e) _) _ _
    · exact State.waitBegins_kept (Kept.with_txWait h _) _

theorem State.txRetry_kept {s : State} (h : Kept a s) : Kept a (State.txRetry s) := by
  unfold State.txRetry
  repeat' first | intro _ | with_reducible (first | assumption | apply forAll_kept | apply State.offerPdu_kept | apply Kept.ite) | (with_reducible apply Kept.with_txWait; with_reducible (first | assumption | apply forAll_kept | apply State.offerPdu_kept | apply Kept.ite)) | extract_lets | split

theorem State.setSession_kept {s : State} (h : Kept a s) (peer : Nat) (f : Session → Session) : Kept a (State.setSession s peer f) := by
  unfold State.setSession
  repeat' first | intro _ | with_reducible (first | assumption | apply Kept.ite) | (with_reducible apply Kept.with_sessions; with_reducible (first | assumption | apply Kept.ite)) | extract_lets | split

theorem State.takeTid_kept {s : State} (h : Kept a s) : Kept a s.takeTid.2 := State.wr_kept h _ _

theorem State.closeSession_kept {s : State} (h : Kept a s) (peer : Nat) : Kept a (State.closeSession s peer) := by
  unfold State.closeSession
  repeat' first | intro _ | with_reducible assumption | (with_reducible apply Kept.with_sessions; with_reducible assumption) | extract_lets | split

theorem State.sendAuthed_kept {s : State} (h : Kept a s) (dst : Nat) (svc : Nat) (body : List Byte) : Kept a (State.sendAuthed s dst svc body) := by
  unfold State.sendAuthed
  dsimp -proj only
  repeat' first | intro _ | with_reducible (first | assumption | apply State.closeSession_kept | apply State.takeTid_kept | apply State.setSession_kept | apply State.offerPdu_kept | apply Kept.ite) | (with_reducible apply Kept.with_asks; with_reducible (first | assumption | apply State.closeSession_kept | apply State.takeTid_kept | apply State.setSession_kept | apply State.offerPdu_kept | apply Kept.ite)) | extract_lets | split

theorem State.sendPlain_kept {s : State} (h : Kept a s) (dst : Nat) (svc : Nat) (body : List Byte) : Kept a (State.sendPlain s dst svc body) := by
  unfold State.sendPlain
  repeat' first | intro _ | with_reducible (first | assumption | apply State.takeTid_kept | apply State.offerPdu_kept | apply Kept.ite) | extract_lets | split

theorem State.sendBroadcast_kept {s : State} (h : Kept a s) (svc : Nat) (body : List Byte) : Kept a (State.sendBroadcast s svc body) := by
  unfold State.sendBroadcast
  repeat' first | intro _ | with_reducible (first | assumption | apply State.takeTid_kept | apply State.wr_kept | apply State.when_kept | apply forAll_kept | apply State.offerPdu_kept | apply Kept.ite) | extract_lets | split

theorem State.sendAsk_kept {s : State} (h : Kept a s) (dst : Nat) (svc : Nat) (body : List Byte) : Kept a (State.sendAsk s dst svc body) := by
  unfold State.sendAsk
  repeat' first | intro _ | with_reducible (first | assumption | apply State.takeTid_kept | apply State.offerPdu_kept | apply Kept.ite) | (with_reducible apply Kept.with_asks; with_reducible (first | assumption | apply State.takeTid_kept | apply State.offerPdu_kept | apply Kept.ite)) | extract_lets | split

theorem State.respond_kept {s : State} (h : Kept a s) (q : Req) (abort : Nat) (body : List Byte) : Kept a (State.respond s q abort body) := by
  unfold State.respond
  repeat' first | intro _ | with_reducible (first | assumption | apply State.when_kept | apply State.inc32_kept | apply State.wr_kept | apply State.offerPdu_kept | apply State.closeSession_kept | apply State.setSession_kept | apply Kept.ite) | (with_reducible apply Kept.with_opens; with_reducible (first | assumption | apply State.when_kept | apply State.inc32_kept | apply State.wr_kept | apply State.offerPdu_kept | apply State.closeSession_kept | apply State.setSession_kept | apply Kept.ite)) | extract_lets | split

theorem State.heardFrom_kept {s : State} (h : Kept a s) (src : Nat) (all : Bool) {f : State → State}
    (g : ∀ t, Kept a t → Kept a (f t)) : Kept a (State.heardFrom s src all f) := by
  unfold State.heardFrom
  extract_lets t
  have k : Kept a t := State.inc32_kept h _
  exact Kept.ite (State.setFld_kept (State.inc32_kept k _) _ _) (Kept.ite k (g t k))

theorem State.reject_kept {s : State} (h : Kept a s) (q : Req) (abort : Nat) : Kept a (State.reject s q abort) := by
  unfold State.reject
  repeat' first | intro _ | with_reducible (first | assumption | apply State.respond_kept) | extract_lets | split

theorem State.setCtxSt_kept {s : State} (h : Kept a s) (n : Nat) (st : Nat) : Kept a (State.setCtxSt s n st) := by
  unfold State.setCtxSt
  repeat' first | intro _ | with_reducible (first | assumption | apply State.wr_kept | apply State.setFld_kept | apply Kept.ite) | extract_lets | split

theorem State.ungrant_kept {s : State} (h : Kept a s) (n : Nat) : Kept a (State.ungrant s n) := by
  unfold State.ungrant
  repeat' first | intro _ | with_reducible assumption | (with_reducible apply Kept.with_grants_dues; with_reducible assumption) | extract_lets | split

theorem State.grant_kept {s : State} (h : Kept a s) (n : Nat) : Kept a (State.grant s n) := by
  unfold State.grant
  repeat' first | intro _ | with_reducible (first | assumption | apply State.ungrant_kept | apply State.wr_kept | apply Kept.ite) | (with_reducible apply Kept.with_grants_dues; with_reducible (first | assumption | apply State.ungrant_kept | apply State.wr_kept | apply Kept.ite)) | extract_lets | split

theorem State.stepTimer_kept {s : State} (h : Kept a s) (n : Nat) (us : Int) : Kept a (State.stepTimer s n us) := by
  unfold State.stepTimer
  repeat' first | intro _ | with_reducible (first | assumption | apply State.wr_kept | apply Kept.ite) | extract_lets | split

theorem State.runTimer_kept {s : State} (h : Kept a s) (n : Nat) : Kept a (State.runTimer s n) := by
  unfold State.runTimer
  repeat' first | intro _ | with_reducible (first | assumption | apply State.wr_kept | apply State.stepTimer_kept | apply Kept.ite) | extract_lets | split

theorem State.driveGate_kept {s : State} (h : Kept a s) (n : Nat) (slope : Int) (ma : Int) : Kept a (State.driveGate s n slope ma) := by
  unfold State.driveGate
  repeat' first | intro _ | with_reducible (first | assumption | apply State.when_kept | apply State.wr_kept) | extract_lets | split

theorem State.turnOff_kept {s : State} (h : Kept a s) (n : Nat) (st : Nat) : Kept a (State.turnOff s n st) := by
  unfold State.turnOff
  repeat' first | intro _ | with_reducible (first | assumption | apply State.annWithdraw_kept | apply State.wsSend_kept | apply State.when_kept | apply State.mark_kept | apply State.ungrant_kept | apply State.wr_kept | apply State.setFld_kept | apply State.driveGate_kept | apply State.setCtxSt_kept | apply Kept.ite) | (with_reducible apply Kept.with_deferred_onOrder_shedList; with_reducible (first | assumption | apply State.annWithdraw_kept | apply State.wsSend_kept | apply State.when_kept | apply State.mark_kept | apply State.ungrant_kept | apply State.wr_kept | apply State.setFld_kept | apply State.driveGate_kept | apply State.setCtxSt_kept | apply Kept.ite)) | extract_lets | split

theorem State.unshed_kept {s : State} (h : Kept a s) (n : Nat) : Kept a (State.unshed s n) := by
  unfold State.unshed
  repeat' first | intro _ | with_reducible (first | assumption | apply State.wr_kept | apply Kept.ite) | extract_lets | split

theorem State.startRetry_kept {s : State} (h : Kept a s) (n : Nat) : Kept a (State.startRetry s n) := by
  unfold State.startRetry
  repeat' first | intro _ | with_reducible (first | assumption | apply State.wr_kept | apply Kept.ite) | extract_lets | split

theorem State.tripTo_kept {s : State} (h : Kept a s) (n : Nat) (cause : Nat) : Kept a (State.tripTo s n cause) := by
  unfold State.tripTo
  repeat' first | intro _ | with_reducible (first | assumption | apply State.turnOff_kept | apply State.inc8_kept | apply Kept.ite) | extract_lets | split

theorem State.recause_kept {s : State} (h : Kept a s) (n : Nat) (cause : Nat) (retries : Nat) : Kept a (State.recause s n cause retries) := by
  unfold State.recause
  repeat' first | intro _ | with_reducible (first | assumption | apply State.mark_kept | apply State.setFld_kept | apply State.wr_kept | apply State.setCtxSt_kept | apply Kept.ite) | extract_lets | split

theorem State.trip_kept {s : State} (h : Kept a s) (n : Nat) (cause : Nat) : Kept a (State.trip s n cause) := by
  unfold State.trip
  repeat' first | intro _ | with_reducible (first | assumption | apply State.recause_kept | apply State.unshed_kept | apply State.mark_kept | apply State.tripTo_kept | apply State.setFld_kept | apply State.inc32_kept | apply State.startRetry_kept | apply State.raise_kept | apply Kept.ite) | extract_lets | split

theorem State.enableFails_kept {s : State} (h : Kept a s) (n : Nat) : Kept a (State.enableFails s n) := by
  unfold State.enableFails
  repeat' first | intro _ | with_reducible (first | assumption | apply State.turnOff_kept | apply State.setFld_kept | apply State.raise_kept | apply Kept.ite) | extract_lets | split

theorem State.driveRamp_kept {s : State} (h : Kept a s) (n : Nat) : Kept a (State.driveRamp s n) := by
  unfold State.driveRamp
  repeat' first | intro _ | with_reducible (first | assumption | apply State.driveGate_kept | apply Kept.ite) | extract_lets | split

theorem State.redrive_kept {s : State} (h : Kept a s) (n : Nat) : Kept a (State.redrive s n) := by
  unfold State.redrive
  repeat' first | intro _ | with_reducible (first | assumption | apply State.driveRamp_kept | apply State.driveGate_kept | apply Kept.ite) | extract_lets | split

theorem State.ramp_kept {s : State} (h : Kept a s) (n : Nat) : Kept a (State.ramp s n) := by
  unfold State.ramp
  repeat' first | intro _ | with_reducible (first | assumption | apply State.wr_kept | apply State.driveRamp_kept) | extract_lets | split

theorem State.enterInrush_kept {s : State} (h : Kept a s) (n : Nat) : Kept a (State.enterInrush s n) := by
  unfold State.enterInrush
  repeat' first | intro _ | with_reducible (first | assumption | apply State.ramp_kept | apply State.mark_kept | apply State.wr_kept | apply State.setCtxSt_kept | apply Kept.ite) | extract_lets | split

theorem State.gateFull_kept {s : State} (h : Kept a s) (n : Nat) : Kept a (State.gateFull s n) := by
  unfold State.gateFull
  repeat' first | intro _ | with_reducible (first | assumption | apply State.wr_kept | apply State.driveGate_kept | apply State.when_kept) | extract_lets | split

theorem State.announceCtx_kept {s : State} (h : Kept a s) (n : Nat) : Kept a (State.announceCtx s n) := by
  unfold State.announceCtx
  repeat' first | intro _ | with_reducible (first | assumption | apply State.announce_kept | apply State.wr_kept | apply State.wsSend_kept | apply Kept.ite) | extract_lets | split

theorem State.enablePasses_kept {s : State} (h : Kept a s) (n : Nat) : Kept a (State.enablePasses s n) := by
  unfold State.enablePasses
  repeat' first | intro _ | with_reducible (first | assumption | apply State.wr_kept | apply State.announceCtx_kept | apply State.setCtxSt_kept | apply State.enterInrush_kept | apply Kept.ite) | extract_lets | split

theorem State.preEnable_kept {s : State} (h : Kept a s) (n : Nat) : Kept a (State.preEnable s n) := by
  unfold State.preEnable
  repeat' first | intro _ | with_reducible (first | assumption | apply State.wr_kept | apply State.setCtxSt_kept | apply State.enablePasses_kept | apply State.enableFails_kept | apply Kept.ite) | extract_lets | split

theorem State.present_kept {s : State} (h : Kept a s) (n : Nat) : Kept a (State.present s n) := by
  unfold State.present
  repeat' first | intro _ | with_reducible (first | assumption | apply State.setCtxSt_kept | apply State.grant_kept | apply State.preEnable_kept | apply State.inc32_kept | apply Kept.ite) | (with_reducible apply Kept.with_deferred; with_reducible (first | assumption | apply State.setCtxSt_kept | apply State.grant_kept | apply State.preEnable_kept | apply State.inc32_kept | apply Kept.ite)) | extract_lets | split

theorem State.enterOff_kept {s : State} (h : Kept a s) (n : Nat) : Kept a (State.enterOff s n) := by
  unfold State.enterOff
  repeat' first | intro _ | with_reducible (first | assumption | apply State.setCtxSt_kept | apply State.present_kept | apply Kept.ite) | extract_lets | split

theorem State.cmdOn_kept {s : State} (h : Kept a s) (n : Nat) : Kept a (State.cmdOn s n) := by
  unfold State.cmdOn
  repeat' first | intro _ | with_reducible (first | assumption | apply State.setFld_kept | apply State.present_kept | apply Kept.ite) | extract_lets | split

theorem State.leadRecalled_kept {s : State} (h : Kept a s) (n : Nat) : Kept a (State.leadRecalled s n) := by
  unfold State.leadRecalled
  repeat' first | intro _ | with_reducible (first | assumption | apply State.annUnopen_kept | apply State.setCtxSt_kept | apply Kept.ite) | extract_lets | split

theorem State.cmdOff_kept {s : State} (h : Kept a s) (n : Nat) : Kept a (State.cmdOff s n) := by
  unfold State.cmdOff
  repeat' first | intro _ | with_reducible (first | assumption | apply State.setFld_kept | apply State.wr_kept | apply State.unshed_kept | apply State.leadRecalled_kept | apply State.turnOff_kept) | extract_lets | split

theorem State.cageCtx_kept {s : State} (h : Kept a s) (n : Nat) (cause : Nat) : Kept a (State.cageCtx s n cause) := by
  unfold State.cageCtx
  repeat' first | intro _ | with_reducible (first | assumption | apply State.turnOff_kept | apply State.setFld_kept | apply Kept.ite) | extract_lets | split

theorem State.joinLimit_kept {s : State} (h : Kept a s) (n : Nat) : Kept a (State.joinLimit s n) := by
  unfold State.joinLimit
  repeat' first | intro _ | with_reducible (first | assumption | apply State.when_kept | apply State.setFld_kept) | extract_lets | split

theorem State.changeClass_kept {s : State} (h : Kept a s) (n : Nat) : Kept a (State.changeClass s n) := by
  unfold State.changeClass
  repeat' first | intro _ | with_reducible (first | assumption | apply State.when_kept | apply State.setFld_kept | apply State.joinLimit_kept) | extract_lets | split

theorem State.lastOn_kept {s : State} (h : Kept a s) (n : Nat) : Kept a (State.lastOn s n) := by
  unfold State.lastOn
  repeat' first | intro _ | with_reducible (first | assumption | apply State.wr_kept) | (with_reducible apply Kept.with_onOrder; with_reducible (first | assumption | apply State.wr_kept)) | extract_lets | split

theorem State.enterOn_kept {s : State} (h : Kept a s) (n : Nat) : Kept a (State.enterOn s n) := by
  unfold State.enterOn
  repeat' first | intro _ | with_reducible (first | assumption | apply State.lastOn_kept | apply State.gateFull_kept | apply State.wr_kept | apply State.setFld_kept | apply State.joinLimit_kept | apply State.setCtxSt_kept) | extract_lets | split

theorem State.ctxUnlink_kept {s : State} (h : Kept a s) (n : Nat) : Kept a (State.ctxUnlink s n) := by
  unfold State.ctxUnlink
  repeat' first | intro _ | with_reducible (first | assumption | apply State.wr_kept | apply State.ungrant_kept | apply State.setCtxSt_kept | apply State.turnOff_kept | apply Kept.ite) | extract_lets | split

theorem State.ctxLinkLost_kept {s : State} (h : Kept a s) (n : Nat) : Kept a (State.ctxLinkLost s n) := by
  unfold State.ctxLinkLost
  repeat' first | intro _ | with_reducible (first | assumption | apply State.ctxUnlink_kept | apply State.setFld_kept | apply State.raise_kept) | extract_lets | split

theorem State.ctxAway_kept {s : State} (h : Kept a s) (n : Nat) : Kept a (State.ctxAway s n) := by
  unfold State.ctxAway
  repeat' first | intro _ | with_reducible (first | assumption | apply State.ctxUnlink_kept | apply Kept.ite) | extract_lets | split

theorem State.ctxLinkBack_kept {s : State} (h : Kept a s) (n : Nat) (held : Bool) : Kept a (State.ctxLinkBack s n held) := by
  unfold State.ctxLinkBack
  repeat' first | intro _ | with_reducible (first | assumption | apply State.wr_kept | apply State.enterOn_kept | apply State.turnOff_kept | apply State.enterOff_kept | apply State.when_kept | apply Kept.ite) | extract_lets | split

theorem State.limitOn_kept {s : State} (h : Kept a s) (n : Nat) : Kept a (State.limitOn s n) := by
  unfold State.limitOn
  repeat' first | intro _ | with_reducible (first | assumption | apply State.runTimer_kept | apply State.setFld_kept | apply State.setCtxSt_kept) | extract_lets | split

theorem State.limitOff_kept {s : State} (h : Kept a s) (n : Nat) : Kept a (State.limitOff s n) := by
  unfold State.limitOff
  repeat' first | intro _ | with_reducible (first | assumption | apply State.runTimer_kept | apply State.setFld_kept | apply State.joinLimit_kept | apply State.lastOn_kept | apply State.setCtxSt_kept) | extract_lets | split

theorem State.ctxEnergy_kept {s : State} (h : Kept a s) (n : Nat) (us : Int) : Kept a (State.ctxEnergy s n us) := by
  unfold State.ctxEnergy
  repeat' first | intro _ | with_reducible (first | assumption | apply State.add_kept | apply State.wr_kept | apply State.stage_kept | apply Kept.ite) | extract_lets | split

theorem State.ctxHeat_kept {s : State} (h : Kept a s) (n : Nat) (us : Int) : Kept a (State.ctxHeat s n us) := by
  unfold State.ctxHeat
  repeat' first | intro _ | with_reducible (first | assumption | apply State.wr_kept | apply Kept.ite) | extract_lets | split

theorem State.judgeOutput_kept {s : State} (h : Kept a s) (n : Nat) : Kept a (State.judgeOutput s n) := by
  unfold State.judgeOutput
  repeat' first | intro _ | with_reducible (first | assumption | apply State.wr_kept | apply State.raise_kept | apply State.turnOff_kept | apply State.setFld_kept | apply Kept.ite) | extract_lets | split

theorem State.record_kept {s : State} (h : Kept a s) (g : Nat) (d : List Byte) : Kept a (State.record s g d) := by
  unfold State.record
  repeat' first | intro _ | with_reducible (first | assumption | apply State.dropRecord_kept | apply State.takeBlock_kept | apply State.inc32_kept | apply State.fed_kept | apply Kept.ite) | (with_reducible apply Kept.with_blocks; with_reducible (first | assumption | apply State.dropRecord_kept | apply State.takeBlock_kept | apply State.inc32_kept | apply State.fed_kept | apply Kept.ite)) | extract_lets | split

theorem State.ctxMeasure_kept {s : State} (h : Kept a s) (n : Nat) (iMa : Int) (vMv : Int) : Kept a (State.ctxMeasure s n iMa vMv) := by
  unfold State.ctxMeasure
  repeat' first | intro _ | with_reducible (first | assumption | apply State.wr_kept | apply State.when_kept | apply State.setFld_kept) | extract_lets | split

theorem State.ctxDecide_kept {s : State} (h : Kept a s) (n : Nat) : Kept a (State.ctxDecide s n) := by
  unfold State.ctxDecide
  repeat' first | intro _ | with_reducible (first | assumption | apply State.leadRecalled_kept | apply State.enableFails_kept | apply State.trip_kept | apply State.enterOn_kept | apply State.wr_kept | apply State.gateFull_kept | apply State.enablePasses_kept | apply State.judgeOutput_kept | apply State.present_kept | apply Kept.ite) | extract_lets | split

theorem State.ctxSample_kept {s : State} (h : Kept a s) (n : Nat) (iMa : Int) (vMv : Int) (us : Int) : Kept a (State.ctxSample s n iMa vMv us) := by
  unfold State.ctxSample
  repeat' first | intro _ | with_reducible (first | assumption | apply State.ctxMeasure_kept | apply State.when_kept | apply State.wr_kept | apply State.ctxEnergy_kept | apply State.ctxHeat_kept | apply State.runTimer_kept | apply State.record_kept | apply State.ctxDecide_kept) | extract_lets | split

end Sys2Proof.Machine
end

