-- ==== Sys2Proof/Laws/KeptTally.lean ====
section
/-!
SUPPORT. What the operations keep: the tally, the lamp check, the ring ports and the hold-up. Each lemma says of one operation that the state it leaves is in canonical form
when the state before was, holds the same queue, and takes no free value back.
-/
namespace Sys2Proof.Machine

variable {a s : State}

theorem State.setDuty_kept {s : State} (h : Kept a s) (c : Nat) (v : Int) : Kept a (State.setDuty s c v) := by
  unfold State.setDuty
  repeat' first | intro _ | with_reducible (first | assumption | apply State.when_kept | apply State.wr_kept) | extract_lets | split

theorem State.setPoint_kept {s : State} (h : Kept a s) (k : Nat) (v : Int) : Kept a (State.setPoint s k v) := by
  unfold State.setPoint
  repeat' first | intro _ | with_reducible (first | assumption | apply State.when_kept | apply State.wr_kept) | extract_lets | split

theorem State.winClose_kept {s : State} (h : Kept a s) (n : Nat) : Kept a (State.winClose s n) := by
  unfold State.winClose
  repeat' first | intro _ | with_reducible (first | assumption | apply State.wr_kept | apply State.driveGate_kept) | extract_lets | split

theorem State.winOpen_kept {s : State} (h : Kept a s) (n : Nat) : Kept a (State.winOpen s n) := by
  unfold State.winOpen
  repeat' first | intro _ | with_reducible (first | assumption | apply State.ramp_kept | apply State.wr_kept) | extract_lets | split

theorem State.setBudget_kept {s : State} (h : Kept a s) : Kept a (State.setBudget s) := by
  unfold State.setBudget
  repeat' first | intro _ | with_reducible (first | assumption | apply State.wr_kept | apply State.setBit_kept | apply Kept.ite) | extract_lets | split

theorem Eval.mark_kept {e : Eval} (h : Kept a e.s) (k : Nat) : Kept a (Eval.mark e k).s := h

theorem Eval.shed_kept {e : Eval} (h : Kept a e.s) (n : Nat) : Kept a (Eval.shed e n).1.s := by
  unfold Eval.shed
  extract_lets s r est t u
  split
  · exact h
  · have g : Kept a t := State.mark_kept (State.inc32_kept (State.turnOff_kept h n 9) _) _ _ _
    exact Kept.with_shedList g _

theorem Eval.shedUntil_kept {e : Eval} (h : Kept a e.s) (need : Int) (l : List Nat) : Kept a (Eval.shedUntil e need l).1.s := by
  induction l generalizing e need with
  | nil => exact h
  | cons n l ih =>
    unfold Eval.shedUntil
    split
    · exact h
    · exact ih (Eval.shed_kept h n) _

theorem Eval.lowerDuty_kept {e : Eval} (h : Kept a e.s) (k : Nat) : Kept a (Eval.lowerDuty e k).1.s := by
  unfold Eval.lowerDuty
  split
  · exact h
  · extract_lets
    split
    · exact h
    · dsimp only
      with_reducible apply forAll_kept
      · exact State.setDuty_kept h _ _
      · exact fun _ _ g => State.setFld_kept g _ _

theorem Eval.free_kept {e : Eval} (h : Kept a e.s) (k : Nat) (need : Int) : Kept a (Eval.free e k need).1.s := by
  unfold Eval.free
  split
  · exact h
  · extract_lets
    split
    · exact Eval.shedUntil_kept h _ _
    · split
      · exact Eval.lowerDuty_kept h k
      · exact Eval.shedUntil_kept h _ _
    · exact Eval.lowerDuty_kept h k

theorem Eval.freeAbove_kept {e : Eval} (h : Kept a e.s) (floor : Nat) (l : List Nat) (need : Int) :
    Kept a (Eval.freeAbove e floor l need).1.s := by
  induction l generalizing e need with
  | nil => exact h
  | cons k l ih =>
    unfold Eval.freeAbove
    split
    · exact h
    · exact ih (Eval.free_kept h k need) _

theorem Eval.freeDues_kept {e : Eval} (h : Kept a e.s) (l : List Nat) (dues : List Estimate) (other : Int) :
    Kept a (Eval.freeDues e l dues other).1.s := by
  induction l generalizing e dues other with
  | nil => exact h
  | cons k l ih => exact ih (Eval.free_kept h k _) _ _

theorem Eval.freeExcess_kept {e : Eval} (h : Kept a e.s) : Kept a (Eval.freeExcess e).s := by
  unfold Eval.freeExcess
  dsimp only
  repeat' first | with_reducible (first | assumption | apply Kept.ite | apply State.raise_kept | apply State.inc32_kept | apply State.setBit_kept | apply Eval.freeDues_kept | apply Kept.with_dues)

theorem Eval.railShed_kept {e : Eval} (h : Kept a e.s) (r : Nat) (l : List Nat) (need : Int) : Kept a (Eval.railShed e r l need).s := by
  induction l generalizing e need with
  | nil => exact h
  | cons n l ih =>
    unfold Eval.railShed
    split
    · exact h
    · exact ih (Eval.shed_kept h n) _

theorem Eval.railConstraint_kept {e : Eval} (h : Kept a e.s) : Kept a (Eval.railConstraint e).s := by
  have key : ∀ (f : Eval → Nat → Eval), (∀ e r, Kept a e.s → Kept a (f e r).s) →
      ∀ (l : List Nat) (e : Eval), Kept a e.s → Kept a (l.foldl f e).s := by
    intro f hf l
    induction l with
    | nil => exact fun e h => h
    | cons r l ih => exact fun e h => ih _ (hf e r h)
  refine State.setBit_kept (key _ (fun e r h => ?_) _ e h) _ _
  dsimp only
  split
  · exact Eval.railShed_kept h _ _ _
  · exact h

theorem Eval.tryDeferred_kept {e : Eval} (h : Kept a e.s) (n : Nat) : Kept a (Eval.tryDeferred e n).s := by
  have hr : ∀ (c : Prop) [Decidable c] (k : Nat) (x : Int), Kept a (if c then e.freeAbove k classesDown x else (e, 0)).1.s := by
    intro c _ k x
    split
    · exact Eval.freeAbove_kept h _ _ _
    · exact h
  unfold Eval.tryDeferred
  extract_lets s
  split
  · exact h
  · split
    · exact h
    · split
      · dsimp only
        with_reducible apply Kept.ite
        · with_reducible apply State.setCtxSt_kept
          with_reducible apply Kept.with_grants
          with_reducible apply State.ungrant_kept
          with_reducible apply Kept.with_deferred
          exact hr _ _ _
        · with_reducible apply State.preEnable_kept
          with_reducible apply Kept.with_grants
          with_reducible apply State.ungrant_kept
          with_reducible apply Kept.with_deferred
          exact hr _ _ _
      · exact hr _ _ _

theorem State.release_kept {s : State} (h : Kept a s) (n : Nat) (mw : Int) : Kept a (State.release s n mw) := by
  unfold State.release
  repeat' first | intro _ | with_reducible (first | assumption | apply State.setCtxSt_kept | apply State.ungrant_kept | apply State.preEnable_kept | apply Kept.ite) | ((first | with_reducible apply Kept.with_shedList | with_reducible apply Kept.with_grants); with_reducible (first | assumption | apply State.setCtxSt_kept | apply State.ungrant_kept | apply State.preEnable_kept | apply Kept.ite)) | extract_lets | split

theorem Eval.releases_kept {e : Eval} (h : Kept a e.s) (l : List Estimate) (n : Nat) : Kept a (Eval.releases e l n).s := by
  induction l generalizing e n with
  | nil => cases n <;> exact h
  | cons x l ih =>
    cases n with
    | zero => exact h
    | succ n =>
      unfold Eval.releases
      extract_lets
      split
      · exact ih (State.release_kept h _ _) _
      · exact ih h _

theorem Eval.raiseDuty_kept {e : Eval} (h : Kept a e.s) : Kept a (Eval.raiseDuty e).s := by
  unfold Eval.raiseDuty
  split
  · exact h
  · extract_lets new t
    have g : Kept a t := State.setDuty_kept h _ _
    dsimp only
    with_reducible apply Kept.ite
    · with_reducible exact forAll_kept g _ fun _ _ g => State.setFld_kept g _ _
    · exact g

theorem Eval.restore_kept {e : Eval} (h : Kept a e.s) : Kept a (Eval.restore e).s := by
  unfold Eval.restore
  split
  · exact h
  · split
    · exact Eval.releases_kept h _ _
    · split
      · exact h
      · exact Eval.raiseDuty_kept h

theorem State.measured_kept {s : State} (h : Kept a s) : Kept a (State.measured s) := by
  unfold State.measured
  repeat' first | intro _ | with_reducible assumption | (with_reducible apply Kept.with_grants; with_reducible assumption) | extract_lets | split

theorem State.sendLoan_kept {s : State} (h : Kept a s) (peer : Nat) (op : Nat) (id : Nat) (mw : Int) (lease : Int) : Kept a (State.sendLoan s peer op id mw lease) := by
  unfold State.sendLoan
  repeat' first | intro _ | with_reducible (first | assumption | apply State.sendAuthed_kept) | extract_lets | split

theorem State.waitAfresh_kept {s : State} (h : Kept a s) : Kept a (State.waitAfresh s) := by
  unfold State.waitAfresh
  repeat' first | intro _ | with_reducible (first | assumption | apply forAll_kept | apply State.wr_kept) | extract_lets | split

theorem State.askPeer_kept {s : State} (h : Kept a s) (i : Nat) : Kept a (State.askPeer s i) := by
  unfold State.askPeer
  repeat' first | intro _ | with_reducible (first | assumption | apply State.wr_kept | apply State.waitAfresh_kept | apply State.wrB_kept | apply State.sendLoan_kept) | extract_lets | split

theorem State.borrowCount_kept {s : State} (h : Kept a s) (before : List Nat) : Kept a (State.borrowCount s before) := by
  unfold State.borrowCount
  repeat' first | intro _ | with_reducible (first | assumption | apply forAll_kept | apply State.wr_kept | apply State.askPeer_kept | apply Kept.ite) | extract_lets | split

theorem State.tallyMeasure_kept {s : State} (h : Kept a s) : Kept a (State.tallyMeasure s) := by
  unfold State.tallyMeasure
  repeat' first | intro _ | with_reducible (first | assumption | apply State.wr_kept | apply State.when_kept | apply State.raise_kept | apply Kept.ite) | extract_lets | split

theorem State.dutyShow_kept {s : State} (h : Kept a s) : Kept a (State.dutyShow s) := by
  unfold State.dutyShow
  repeat' first | intro _ | with_reducible (first | assumption | apply forUnits_kept | apply State.wr_kept) | extract_lets | split

theorem Eval.close_kept {e : Eval} (h : Kept a e.s) : Kept a (Eval.close e) := by
  unfold Eval.close
  extract_lets room t u
  have g : Kept a t := State.wr_kept (State.wr_kept (State.wr_kept h _ _) _ _) _ _
  have k : Kept a u := State.measured_kept (State.dutyShow_kept (State.wr_kept (State.setFld_kept (State.wr_kept g _ _) _ _) _ _))
  exact Kept.with_borrowed k _

theorem State.evaluate_kept {s : State} (h : Kept a s) : Kept a (State.evaluate s) := by
  have key : ∀ (l : List Nat) (e : Eval), Kept a e.s → Kept a (l.foldl (fun e n => e.tryDeferred n) e).s := by
    intro l
    induction l with
    | nil => exact fun e h => h
    | cons r l ih => exact fun e h => ih _ (Eval.tryDeferred_kept h r)
  unfold State.evaluate
  extract_lets before m x t e0 src1 src2 e2 e3
  have g : Kept a t := State.setFld_kept (State.setBit_kept (State.setBudget_kept (State.tallyMeasure_kept h)) _ _) _ _
  split
  · with_reducible exact State.waitAfresh_kept (Eval.close_kept (Kept.with_dues (State.setFld_kept g _ _) _))
  · split
    · with_reducible exact State.borrowCount_kept (Eval.close_kept (Kept.with_dues (State.setBit_kept g _ _) _)) _
    · have k2 : Kept a e2.s := Eval.freeExcess_kept (Eval.railConstraint_kept g)
      have k3 : Kept a e3.s := key _ _ k2
      with_reducible exact State.borrowCount_kept (Eval.close_kept (Eval.restore_kept k3)) _

theorem State.tallyUndo_kept {s : State} (h : Kept a s) : Kept a (State.tallyUndo s) := by
  unfold State.tallyUndo
  dsimp -proj only
  repeat' first | intro _ | with_reducible (first | assumption | apply forUnits_kept | apply State.setDuty_kept | apply State.waitAfresh_kept | apply State.setFld_kept | apply forAll_kept | apply State.grant_kept | apply State.preEnable_kept | apply State.release_kept | apply Kept.ite) | (with_reducible apply Kept.with_deferred; with_reducible (first | assumption | apply forUnits_kept | apply State.setDuty_kept | apply State.waitAfresh_kept | apply State.setFld_kept | apply forAll_kept | apply State.grant_kept | apply State.preEnable_kept | apply State.release_kept | apply Kept.ite)) | extract_lets | split

theorem State.lampEntry_kept {s : State} (h : Kept a s) (u : Nat) (result : Nat) (cov : Nat) (durUs : Int) : Kept a (State.lampEntry s u result cov durUs) := by
  unfold State.lampEntry
  repeat' first | intro _ | with_reducible (first | assumption | apply State.wr_kept) | extract_lets | split

theorem State.lampAbandon_kept {s : State} (h : Kept a s) : Kept a (State.lampAbandon s) := by
  unfold State.lampAbandon
  repeat' first | intro _ | with_reducible (first | assumption | apply State.lampEntry_kept | apply Kept.ite) | extract_lets | split

theorem State.lampService_kept {s : State} (h : Kept a s) (u : Nat) : Kept a (State.lampService s u) := by
  unfold State.lampService
  repeat' first | intro _ | with_reducible (first | assumption | apply State.lampAbandon_kept | apply Kept.ite) | extract_lets | split

theorem State.logFailure_kept {s : State} (h : Kept a s) (unit : Nat) (flags : Nat) (f : Nat × Nat) : Kept a (State.logFailure s unit flags f) := by
  unfold State.logFailure
  repeat' first | intro _ | with_reducible (first | assumption | apply State.inc16_kept | apply State.setBlob_kept | apply Kept.ite) | extract_lets | split

theorem State.lampWrite_kept {s : State} (h : Kept a s) (flags : Nat) : Kept a (State.lampWrite s flags) := by
  unfold State.lampWrite
  repeat' first | intro _ | with_reducible (first | assumption | apply State.add_kept | apply State.wr_kept | apply State.setFld_kept | apply State.setBit_kept | apply State.raise_kept | apply Kept.ite) | extract_lets | split

theorem State.lampRest_kept {s : State} (h : Kept a s) : Kept a (State.lampRest s) := by
  unfold State.lampRest
  repeat' first | intro _ | with_reducible (first | assumption | apply forUnits_kept | apply State.wr_kept | apply Kept.ite) | extract_lets | split

theorem State.lampStop_kept {s : State} (h : Kept a s) : Kept a (State.lampStop s) := by
  unfold State.lampStop
  repeat' first | intro _ | with_reducible (first | assumption | apply State.lampAbandon_kept | apply State.lampRest_kept | apply State.lampWrite_kept | apply State.wr_kept) | extract_lets | split

theorem State.lampBudget_kept {s : State} (h : Kept a s) : Kept a (State.lampBudget s) := by
  unfold State.lampBudget
  repeat' first | intro _ | with_reducible (first | assumption | apply State.lampAbandon_kept | apply State.lampRest_kept | apply State.lampWrite_kept | apply State.wr_kept | apply Kept.ite) | extract_lets | split

theorem State.ifwPins_kept {s : State} (h : Kept a s) : Kept a (State.ifwPins s) := by
  unfold State.ifwPins
  repeat' first | intro _ | with_reducible (first | assumption | apply forUnits_kept | apply State.wr_kept | apply Kept.ite) | extract_lets | split

theorem State.ifwSet_kept {s : State} (h : Kept a s) (c : Nat) (b : Bool) : Kept a (State.ifwSet s c b) := by
  unfold State.ifwSet
  repeat' first | intro _ | with_reducible (first | assumption | apply State.setBit_kept | apply State.ifwPins_kept | apply State.wr_kept | apply State.when_kept | apply State.inc32_kept | apply State.raise_kept | apply Kept.ite) | (with_reducible apply Kept.with_ifwDue; with_reducible (first | assumption | apply State.setBit_kept | apply State.ifwPins_kept | apply State.wr_kept | apply State.when_kept | apply State.inc32_kept | apply State.raise_kept | apply Kept.ite)) | extract_lets | split

theorem State.ifwHeld_kept {s : State} (h : Kept a s) (c : Nat) (b : Bool) : Kept a (State.ifwHeld s c b) := by
  unfold State.ifwHeld
  repeat' first | intro _ | with_reducible (first | assumption | apply State.wr_kept | apply Kept.ite) | extract_lets | split

theorem State.ifwCause_kept {s : State} (h : Kept a s) (c : Nat) (b : Bool) : Kept a (State.ifwCause s c b) := by
  unfold State.ifwCause
  repeat' first | intro _ | with_reducible (first | assumption | apply State.ifwHeld_kept | apply State.when_kept | apply State.ifwSet_kept) | extract_lets | split

theorem State.ifwEval_kept {s : State} (h : Kept a s) : Kept a (State.ifwEval s) := by
  unfold State.ifwEval
  repeat' first | intro _ | with_reducible (first | assumption | apply State.ifwCause_kept) | extract_lets | split

theorem State.ifwSend_kept {s : State} (h : Kept a s) (status : Nat) (ns : Int) : Kept a (State.ifwSend s status ns) := by
  unfold State.ifwSend
  repeat' first | intro _ | with_reducible (first | assumption | apply State.sendBroadcast_kept | apply State.wr_kept) | extract_lets | split

theorem State.peerEval_kept {s : State} (h : Kept a s) : Kept a (State.peerEval s) := by
  unfold State.peerEval
  repeat' first | intro _ | with_reducible (first | assumption | apply State.ifwSet_kept | apply Kept.ite) | extract_lets | split

theorem State.ifwReceive_kept {s : State} (h : Kept a s) (src : Nat) (status : Nat) (ns : Nat) : Kept a (State.ifwReceive s src status ns) := by
  unfold State.ifwReceive
  repeat' first | intro _ | with_reducible (first | assumption | apply State.wr_kept | apply State.peerEval_kept | apply Kept.ite) | extract_lets | split

theorem State.propDrive_kept {s : State} (h : Kept a s) : Kept a (State.propDrive s) := by
  unfold State.propDrive
  repeat' first | intro _ | with_reducible (first | assumption | apply forUnits_kept | apply State.wrB_kept | apply State.wr_kept | apply Kept.ite) | extract_lets | split

theorem State.chargeLeave_kept {s : State} (h : Kept a s) : Kept a (State.chargeLeave s) := by
  unfold State.chargeLeave
  repeat' first | intro _ | with_reducible (first | assumption | apply State.setFld_kept | apply State.propDrive_kept) | extract_lets | split

theorem State.propInterrupt_kept {s : State} (h : Kept a s) : Kept a (State.propInterrupt s) := by
  unfold State.propInterrupt
  repeat' first | intro _ | with_reducible (first | assumption | apply State.wr_kept) | extract_lets | split

theorem State.inhibitEval_kept {s : State} (h : Kept a s) : Kept a (State.inhibitEval s) := by
  unfold State.inhibitEval
  repeat' first | intro _ | with_reducible (first | assumption | apply State.setBit_kept | apply State.when_kept | apply State.chargeLeave_kept) | extract_lets | split

theorem State.holdEnter_kept {s : State} (h : Kept a s) (cause : Nat) : Kept a (State.holdEnter s cause) := by
  unfold State.holdEnter
  repeat' first | intro _ | with_reducible (first | assumption | apply State.setFld_kept | apply State.propInterrupt_kept | apply State.chargeLeave_kept | apply State.inhibitEval_kept | apply State.lampService_kept | apply State.when_kept | apply State.wr_kept | apply State.inc32_kept | apply State.propDrive_kept | apply State.raise_kept | apply State.ifwEval_kept | apply Kept.ite) | extract_lets | split

theorem State.holdLeave_kept {s : State} (h : Kept a s) : Kept a (State.holdLeave s) := by
  unfold State.holdLeave
  repeat' first | intro _ | with_reducible (first | assumption | apply State.setFld_kept | apply State.wr_kept | apply State.propDrive_kept | apply State.inhibitEval_kept | apply State.ifwEval_kept) | extract_lets | split

theorem State.nodeSample_kept {s : State} (h : Kept a s) : Kept a (State.nodeSample s) := by
  unfold State.nodeSample
  repeat' first | intro _ | with_reducible (first | assumption | apply State.wr_kept | apply State.ifwHeld_kept | apply State.propDrive_kept | apply forUnits_kept | apply foldl_kept | apply Kept.ite) | extract_lets | split

theorem State.holdRaise_kept {s : State} (h : Kept a s) : Kept a (State.holdRaise s) := by
  unfold State.holdRaise
  repeat' first | intro _ | with_reducible (first | assumption | apply forUnits_kept | apply State.wr_kept | apply Kept.ite) | extract_lets | split

theorem State.storeEval_kept {s : State} (h : Kept a s) : Kept a (State.storeEval s) := by
  unfold State.storeEval
  repeat' first | intro _ | with_reducible (first | assumption | apply State.setBit_kept | apply State.when_kept | apply State.raise_kept | apply State.wr_kept | apply State.setFld_kept | apply State.inhibitEval_kept | apply State.ifwEval_kept | apply State.propDrive_kept | apply Kept.ite) | extract_lets | split

theorem State.takeStoreMa_kept {s : State} (h : Kept a s) : Kept a (State.takeStoreMa s) := by
  unfold State.takeStoreMa
  repeat' first | intro _ | with_reducible (first | assumption | apply State.when_kept | apply State.wr_kept) | extract_lets | split

theorem State.storeCount_kept {s : State} (h : Kept a s) (mv : Int) (ma : Int) : Kept a (State.storeCount s mv ma) := by
  unfold State.storeCount
  repeat' first | intro _ | with_reducible (first | assumption | apply State.wr_kept | apply State.add_kept | apply State.stage_kept | apply Kept.ite) | extract_lets | split

theorem State.propCage_kept {s : State} (h : Kept a s) (k : Nat) : Kept a (State.propCage s k) := by
  unfold State.propCage
  repeat' first | intro _ | with_reducible (first | assumption | apply State.setFld_kept | apply State.raise_kept | apply State.holdLeave_kept | apply State.chargeLeave_kept | apply State.ifwEval_kept | apply State.propDrive_kept | apply Kept.ite) | extract_lets | split

theorem State.storeExhausted_kept {s : State} (h : Kept a s) : Kept a (State.storeExhausted s) := by
  unfold State.storeExhausted
  repeat' first | intro _ | with_reducible (first | assumption | apply State.holdLeave_kept | apply State.setFld_kept | apply State.wr_kept | apply State.raise_kept) | extract_lets | split

theorem State.rpRaise_kept {s : State} (h : Kept a s) (p : Nat) (f : Nat) : Kept a (State.rpRaise s p f) := by
  unfold State.rpRaise
  repeat' first | intro _ | with_reducible (first | assumption | apply State.raise_kept | apply Kept.ite) | extract_lets | split

theorem State.rpClose_kept {s : State} (h : Kept a s) (p : Nat) : Kept a (State.rpClose s p) := by
  unfold State.rpClose
  repeat' first | intro _ | with_reducible (first | assumption | apply State.setFld_kept | apply State.wr_kept) | extract_lets | split

theorem State.rpWest_kept {s : State} (h : Kept a s) (p : Nat) : Kept a (State.rpWest s p) := by
  unfold State.rpWest
  repeat' first | intro _ | with_reducible (first | assumption | apply State.wr_kept | apply State.rpClose_kept | apply Kept.ite) | extract_lets | split

theorem State.rpOpens_kept {s : State} (h : Kept a s) (p : Nat) (st : Nat) (cause : Nat) : Kept a (State.rpOpens s p st cause) := by
  unfold State.rpOpens
  repeat' first | intro _ | with_reducible (first | assumption | apply State.setFld_kept | apply State.wr_kept | apply State.rpWest_kept | apply Kept.ite) | extract_lets | split

theorem State.rpTripNow_kept {s : State} (h : Kept a s) (p : Nat) (cause : Nat) : Kept a (State.rpTripNow s p cause) := by
  unfold State.rpTripNow
  repeat' first | intro _ | with_reducible (first | assumption | apply State.lampService_kept | apply State.rpOpens_kept | apply State.inc32_kept | apply State.wr_kept | apply State.rpRaise_kept | apply State.holdEnter_kept | apply State.propInterrupt_kept | apply State.chargeLeave_kept | apply State.inhibitEval_kept | apply Kept.ite) | extract_lets | split

theorem State.rpTrip_kept {s : State} (h : Kept a s) (p : Nat) (cause : Nat) : Kept a (State.rpTrip s p cause) := by
  unfold State.rpTrip
  repeat' first | intro _ | with_reducible (first | assumption | apply State.rpTripNow_kept | apply State.turnedAway_kept | apply State.setFld_kept | apply State.rpRaise_kept | apply Kept.ite) | extract_lets | split

theorem State.rpReactOpen_kept {s : State} (h : Kept a s) (p : Nat) : Kept a (State.rpReactOpen s p) := by
  unfold State.rpReactOpen
  repeat' first | intro _ | with_reducible (first | assumption | apply State.mark_kept | apply State.rpOpens_kept | apply State.when_kept | apply State.turnedAway_kept | apply Kept.ite) | extract_lets | split

theorem State.rpSupervise_kept {s : State} (h : Kept a s) (p : Nat) : Kept a (State.rpSupervise s p) := by
  unfold State.rpSupervise
  repeat' first | intro _ | with_reducible (first | assumption | apply State.wr_kept) | extract_lets | split

theorem State.rpNear_kept {s : State} (h : Kept a s) (p : Nat) : Kept a (State.rpNear s p) := by
  unfold State.rpNear
  repeat' first | intro _ | with_reducible (first | assumption | apply State.wr_kept | apply Kept.ite) | extract_lets | split

theorem State.rpClosed_kept {s : State} (h : Kept a s) (p : Nat) : Kept a (State.rpClosed s p) := by
  unfold State.rpClosed
  repeat' first | intro _ | with_reducible (first | assumption | apply State.setFld_kept | apply State.wr_kept | apply State.rpWest_kept) | extract_lets | split

theorem State.rpStartClose_kept {s : State} (h : Kept a s) : Kept a (State.rpStartClose s) := by
  unfold State.rpStartClose
  repeat' first | intro _ | with_reducible (first | assumption | apply State.rpClose_kept | apply State.wrB_kept | apply Kept.ite) | extract_lets | split

end Sys2Proof.Machine
end

