-- ==== Sys2Proof/Laws/KeptSense.lean ====
section
/-!
SUPPORT. What the operations keep: the satellite link, sensing, the loop engine, the pit log and the sequencer. Each lemma says of one operation that the state it leaves is in canonical form
when the state before was, holds the same queue, and takes no free value back.
-/
namespace Sys2Proof.Machine

variable {a s : State}

theorem State.setPending_kept {s : State} (h : Kept a s) (q : Nat) (i : Nat) (b : Bool) : Kept a (State.setPending s q i b) := by
  unfold State.setPending
  repeat' first | intro _ | with_reducible (first | assumption | apply State.wr_kept | apply Kept.ite) | extract_lets | split

theorem State.takeMseq_kept {s : State} (h : Kept a s) (q : Nat) : Kept a (State.takeMseq s q) := by
  unfold State.takeMseq
  repeat' first | intro _ | with_reducible (first | assumption | apply State.wr_kept | apply Kept.ite) | extract_lets | split

theorem State.mbxFly_kept {s : State} (h : Kept a s) (q : Nat) (i : Nat) : Kept a (State.mbxFly s q i) := by
  unfold State.mbxFly
  repeat' first | intro _ | with_reducible (first | assumption | apply State.setPending_kept | apply State.takeMseq_kept | apply State.wr_kept) | extract_lets | split

theorem State.mbxSet_kept {s : State} (h : Kept a s) (q : Nat) (i : Nat) : Kept a (State.mbxSet s q i) := by
  unfold State.mbxSet
  repeat' first | intro _ | with_reducible (first | assumption | apply State.setPending_kept | apply State.mbxFly_kept | apply Kept.ite) | extract_lets | split

theorem State.mbxServe_kept {s : State} (h : Kept a s) (q : Nat) : Kept a (State.mbxServe s q) := by
  unfold State.mbxServe
  repeat' first | intro _ | with_reducible (first | assumption | apply State.mbxFly_kept | apply Kept.ite) | extract_lets | split

theorem State.mbxDrop_kept {s : State} (h : Kept a s) (q : Nat) (c : Nat) : Kept a (State.mbxDrop s q c) := by
  unfold State.mbxDrop
  repeat' first | intro _ | with_reducible (first | assumption | apply State.setPending_kept | apply foldl_kept) | extract_lets | split

theorem State.mbxCtx_kept {s : State} (h : Kept a s) (n : Nat) : Kept a (State.mbxCtx s n) := by
  unfold State.mbxCtx
  repeat' first | intro _ | with_reducible (first | assumption | apply State.mbxSet_kept | apply foldl_kept) | extract_lets | split

theorem State.slSend_kept {s : State} (h : Kept a s) (p : Nat) (ftype : Nat) (npos : Nat) (body : List Byte) : Kept a (State.slSend s p ftype npos body) := by
  unfold State.slSend
  repeat' first | intro _ | with_reducible (first | assumption | apply State.wr_kept) | (with_reducible apply Kept.with_outbox; with_reducible (first | assumption | apply State.wr_kept)) | extract_lets | split

theorem State.slCycle_kept {s : State} (h : Kept a s) (p : Nat) (stop : Bool) : Kept a (State.slCycle s p stop) := by
  unfold State.slCycle
  repeat' first | intro _ | with_reducible (first | assumption | apply State.slSend_kept) | extract_lets | split

theorem State.slEnum_kept {s : State} (h : Kept a s) (p : Nat) : Kept a (State.slEnum s p) := by
  unfold State.slEnum
  repeat' first | intro _ | with_reducible (first | assumption | apply State.slSend_kept) | extract_lets | split

theorem State.slStop_kept {s : State} (h : Kept a s) (p : Nat) : Kept a (State.slStop s p) := by
  unfold State.slStop
  repeat' first | intro _ | with_reducible (first | assumption | apply State.slCycle_kept | apply State.setFld_kept | apply Kept.ite) | extract_lets | split

theorem State.posUnlink_kept {s : State} (h : Kept a s) (q : Nat) : Kept a (State.posUnlink s q) := by
  unfold State.posUnlink
  repeat' first | intro _ | with_reducible (first | assumption | apply forAll_kept | apply State.ctxLinkLost_kept) | extract_lets | split

theorem State.posAway_kept {s : State} (h : Kept a s) (q : Nat) : Kept a (State.posAway s q) := by
  unfold State.posAway
  repeat' first | intro _ | with_reducible (first | assumption | apply forAll_kept | apply State.ctxAway_kept) | extract_lets | split

theorem State.posLost_kept {s : State} (h : Kept a s) (q : Nat) : Kept a (State.posLost s q) := by
  unfold State.posLost
  repeat' first | intro _ | with_reducible (first | assumption | apply State.setFld_kept | apply State.wr_kept | apply State.inc16_kept | apply State.raise_kept | apply State.posUnlink_kept) | extract_lets | split

theorem State.posReady_kept {s : State} (h : Kept a s) (q : Nat) : Kept a (State.posReady s q) := by
  unfold State.posReady
  repeat' first | intro _ | with_reducible (first | assumption | apply State.wrB_kept | apply Kept.ite) | extract_lets | split

theorem State.posConfig_kept {s : State} (h : Kept a s) (q : Nat) : Kept a (State.posConfig s q) := by
  unfold State.posConfig
  repeat' first | intro _ | with_reducible (first | assumption | apply State.setFld_kept | apply State.posAway_kept | apply State.wr_kept | apply forAll_kept | apply State.mbxCtx_kept | apply State.posReady_kept | apply Kept.ite) | extract_lets | split

theorem State.bindCtx_kept {s0 : State} (h : Kept a s0) (n : Nat) : Kept a (State.bindCtx s0 n) := by
  unfold State.bindCtx
  repeat' first | intro _ | with_reducible (first | assumption | apply State.ungrant_kept | apply State.wr_kept | apply State.turnOff_kept | apply State.enterOff_kept | apply State.setCtxSt_kept | apply State.raise_kept | apply State.mbxCtx_kept | apply State.posReady_kept | apply Kept.ite) | extract_lets | split

theorem State.posLinked_kept {s : State} (h : Kept a s) (q : Nat) (r : List Byte) : Kept a (State.posLinked s q r) := by
  unfold State.posLinked
  repeat' first | intro _ | with_reducible (first | assumption | apply State.wr_kept | apply State.setFld_kept | apply forAll_kept | apply State.ctxMeasure_kept | apply State.ctxLinkBack_kept | apply Kept.ite) | extract_lets | split

theorem State.mbxRefused_kept {s : State} (h : Kept a s) (q : Nat) (c : Nat) : Kept a (State.mbxRefused s q c) := by
  unfold State.mbxRefused
  repeat' first | intro _ | with_reducible (first | assumption | apply State.inc16_kept | apply State.raise_kept | apply State.wr_kept | apply State.turnOff_kept | apply State.setFld_kept | apply Kept.ite) | extract_lets | split

theorem State.mbxAck_kept {s : State} (h : Kept a s) (q : Nat) (mack : Nat) (nak : Bool) : Kept a (State.mbxAck s q mack nak) := by
  unfold State.mbxAck
  repeat' first | intro _ | with_reducible (first | assumption | apply State.setPending_kept | apply State.wr_kept | apply State.mbxRefused_kept | apply Kept.ite) | extract_lets | split

theorem State.ctxTripped_kept {s : State} (h : Kept a s) (n : Nat) (was : Nat) (st : Nat) : Kept a (State.ctxTripped s n was st) := by
  unfold State.ctxTripped
  repeat' first | intro _ | with_reducible (first | assumption | apply State.trip_kept | apply Kept.ite) | extract_lets | split

theorem State.ctxHeld_kept {s : State} (h : Kept a s) (n : Nat) (st : Nat) : Kept a (State.ctxHeld s n st) := by
  unfold State.ctxHeld
  repeat' first | intro _ | with_reducible (first | assumption | apply State.when_kept | apply State.wr_kept) | extract_lets | split

theorem State.ctxReport_kept {s : State} (h : Kept a s) (n : Nat) (st : Nat) (i : Int) (v : Int) (us : Int) : Kept a (State.ctxReport s n st i v us) := by
  unfold State.ctxReport
  repeat' first | intro _ | with_reducible (first | assumption | apply State.limitOn_kept | apply State.limitOff_kept | apply State.setBit_kept | apply State.stepTimer_kept | apply State.ctxSample_kept | apply Kept.ite) | extract_lets | split

theorem State.posReport_kept {s : State} (h : Kept a s) (q : Nat) (r : List Byte) : Kept a (State.posReport s q r) := by
  unfold State.posReport
  repeat' first | intro _ | with_reducible (first | assumption | apply State.setBit_kept | apply State.wr_kept | apply State.inc32_kept | apply forUnits_kept | apply State.add_kept | apply State.wrB_kept | apply forAll_kept | apply State.ctxHeld_kept | apply State.ctxTripped_kept | apply State.ctxReport_kept | apply State.mbxAck_kept | apply State.posReady_kept | apply State.posLinked_kept | apply Kept.ite) | extract_lets | split

theorem State.posBad_kept {s : State} (h : Kept a s) (q : Nat) : Kept a (State.posBad s q) := by
  unfold State.posBad
  repeat' first | intro _ | with_reducible (first | assumption | apply State.inc32_kept | apply State.add_kept | apply State.wr_kept | apply Kept.ite) | extract_lets | split

theorem State.posJudge_kept {s : State} (h : Kept a s) (p : Nat) (k : Nat) (f : Symbols) : Kept a (State.posJudge s p k f) := by
  unfold State.posJudge
  repeat' first | intro _ | with_reducible (first | assumption | apply State.posReport_kept | apply State.posBad_kept | apply Kept.ite) | extract_lets | split

theorem State.posRefuse_kept {s : State} (h : Kept a s) (q : Nat) (st : Nat) : Kept a (State.posRefuse s q st) := by
  unfold State.posRefuse
  repeat' first | intro _ | with_reducible (first | assumption | apply State.setFld_kept | apply State.raise_kept | apply State.posUnlink_kept) | extract_lets | split

theorem State.slotJudge_kept {s : State} (h : Kept a s) (p : Nat) (k : Nat) (f : Symbols) : Kept a (State.slotJudge s p k f) := by
  unfold State.slotJudge
  repeat' first | intro _ | with_reducible (first | assumption | apply State.posRefuse_kept | apply State.wr_kept | apply State.posConfig_kept | apply forAll_kept | apply State.ctxLinkLost_kept | apply State.raise_kept | apply Kept.ite) | extract_lets | split

theorem State.slotAbsent_kept {s : State} (h : Kept a s) (q : Nat) : Kept a (State.slotAbsent s q) := by
  unfold State.slotAbsent
  repeat' first | intro _ | with_reducible (first | assumption | apply State.setFld_kept | apply State.posUnlink_kept | apply Kept.ite) | extract_lets | split

theorem State.enumResult_kept {s : State} (h : Kept a s) (p : Nat) (f : Symbols) : Kept a (State.enumResult s p f) := by
  unfold State.enumResult
  repeat' first | intro _ | with_reducible (first | assumption | apply State.setFld_kept | apply State.wr_kept | apply State.raise_kept | apply forUnits_kept | apply State.slotJudge_kept | apply State.slotAbsent_kept | apply Kept.ite) | extract_lets | split

theorem State.roundEmpty_kept {s : State} (h : Kept a s) (p : Nat) : Kept a (State.roundEmpty s p) := by
  unfold State.roundEmpty
  repeat' first | intro _ | with_reducible (first | assumption | apply forUnits_kept | apply State.posBad_kept | apply State.add_kept) | extract_lets | split

theorem State.roundJudge_kept {s : State} (h : Kept a s) (p : Nat) (f : Symbols) (rttNs : Nat) (errs : Nat) : Kept a (State.roundJudge s p f rttNs errs) := by
  unfold State.roundJudge
  repeat' first | intro _ | with_reducible (first | assumption | apply State.add_kept | apply State.inc32_kept | apply State.roundEmpty_kept | apply State.wr_kept | apply State.when_kept | apply State.enumResult_kept | apply forUnits_kept | apply State.posJudge_kept | apply State.posBad_kept | apply Kept.ite) | extract_lets | split

theorem State.portDown_kept {s : State} (h : Kept a s) (p : Nat) : Kept a (State.portDown s p) := by
  unfold State.portDown
  repeat' first | intro _ | with_reducible (first | assumption | apply State.setFld_kept | apply State.wr_kept | apply State.raise_kept | apply forUnits_kept | apply State.posLost_kept | apply Kept.ite) | extract_lets | split

theorem State.gateOpens_kept {s : State} (h : Kept a s) (n : Nat) : Kept a (State.gateOpens s n) := by
  unfold State.gateOpens
  repeat' first | intro _ | with_reducible (first | assumption | apply State.annOpen_kept | apply State.enterInrush_kept | apply Kept.ite) | extract_lets | split

theorem State.roundStart_kept {s : State} (h : Kept a s) (p : Nat) : Kept a (State.roundStart s p) := by
  unfold State.roundStart
  repeat' first | intro _ | with_reducible (first | assumption | apply State.wr_kept | apply State.slEnum_kept | apply forAll_kept | apply State.gateOpens_kept | apply forUnits_kept | apply State.mbxServe_kept | apply State.slCycle_kept | apply Kept.ite) | extract_lets | split

theorem State.portStart_kept {s : State} (h : Kept a s) (p : Nat) : Kept a (State.portStart s p) := by
  unfold State.portStart
  repeat' first | intro _ | with_reducible (first | assumption | apply State.setFld_kept | apply State.wr_kept | apply Kept.ite) | extract_lets | split

theorem State.portStop_kept {s : State} (h : Kept a s) (p : Nat) : Kept a (State.portStop s p) := by
  unfold State.portStop
  repeat' first | intro _ | with_reducible (first | assumption | apply State.setFld_kept | apply State.wr_kept | apply forUnits_kept | apply State.posUnlink_kept) | extract_lets | split

theorem State.portRescan_kept {s : State} (h : Kept a s) (p : Nat) : Kept a (State.portRescan s p) := by
  unfold State.portRescan
  repeat' first | intro _ | with_reducible (first | assumption | apply forUnits_kept | apply State.wr_kept | apply State.portStart_kept) | extract_lets | split

theorem State.toRound_kept {s : State} (h : Kept a s) (p : Nat) : Kept a (State.toRound s p) := by
  unfold State.toRound
  repeat' first | intro _ | with_reducible (first | assumption | apply State.advance_kept | apply State.wr_kept | apply Kept.ite) | extract_lets | split

theorem State.vinTake_kept {s : State} (h : Kept a s) (r : Nat) : Kept a (State.vinTake s r) := by
  unfold State.vinTake
  repeat' first | intro _ | with_reducible (first | assumption | apply State.wr_kept | apply State.raise_kept | apply Kept.ite) | extract_lets | split

theorem State.railVin_kept {s : State} (h : Kept a s) (i : Nat) : Kept a (State.railVin s i) := by
  unfold State.railVin
  repeat' first | intro _ | with_reducible (first | assumption | apply forUnits_kept | apply State.vinTake_kept | apply Kept.ite) | extract_lets | split

theorem State.railSense_kept {s : State} (h : Kept a s) (r : Nat) : Kept a (State.railSense s r) := by
  unfold State.railSense
  repeat' first | intro _ | with_reducible (first | assumption | apply State.wr_kept | apply State.record_kept | apply State.stageMin_kept | apply State.stageMax_kept | apply Kept.ite) | extract_lets | split

theorem State.avgFell_kept {s : State} (h : Kept a s) (r : Nat) : Kept a (State.avgFell s r) := by
  unfold State.avgFell
  repeat' first | intro _ | with_reducible (first | assumption | apply State.when_kept | apply State.wr_kept) | extract_lets | split

theorem State.avgStep_kept {s : State} (h : Kept a s) (r : Nat) : Kept a (State.avgStep s r) := by
  unfold State.avgStep
  repeat' first | intro _ | with_reducible (first | assumption | apply State.wr_kept | apply State.when_kept | apply State.avgFell_kept | apply Kept.ite) | extract_lets | split

theorem State.burstStamp_kept {s : State} (h : Kept a s) (r : Nat) : Kept a (State.burstStamp s r) := by
  unfold State.burstStamp
  repeat' first | intro _ | with_reducible (first | assumption | apply State.wr_kept | apply Kept.ite) | extract_lets | split

theorem State.railSum_kept {s : State} (h : Kept a s) (r : Nat) : Kept a (State.railSum s r) := by
  unfold State.railSum
  repeat' first | intro _ | with_reducible (first | assumption | apply State.wr_kept | apply State.when_kept | apply State.burstStamp_kept | apply foldl_kept) | extract_lets | split

theorem State.railCurrent_kept {s : State} (h : Kept a s) (r : Nat) : Kept a (State.railCurrent s r) := by
  unfold State.railCurrent
  repeat' first | intro _ | with_reducible (first | assumption | apply State.railSum_kept | apply State.avgStep_kept) | extract_lets | split

theorem State.phaseSense_kept {s : State} (h : Kept a s) (p : Nat) : Kept a (State.phaseSense s p) := by
  unfold State.phaseSense
  repeat' first | intro _ | with_reducible (first | assumption | apply State.wr_kept | apply State.record_kept | apply State.railCurrent_kept | apply Kept.ite) | extract_lets | split

theorem State.publish_kept {s : State} (h : Kept a s) (i : Nat) (code : Int) : Kept a (State.publish s i code) := by
  unfold State.publish
  repeat' first | intro _ | with_reducible (first | assumption | apply State.wr_kept | apply State.when_kept | apply State.railVin_kept | apply State.railSense_kept | apply State.phaseSense_kept | apply State.nodeSample_kept | apply Kept.ite) | extract_lets | split

theorem State.dropLost_kept {s : State} (h : Kept a s) : Kept a (State.dropLost s) := by
  unfold State.dropLost
  repeat' first | intro _ | with_reducible (first | assumption | apply forAll_kept | apply State.publish_kept | apply Kept.ite) | extract_lets | split

theorem State.cageConverter_kept {s : State} (h : Kept a s) (c : Nat) : Kept a (State.cageConverter s c) := by
  unfold State.cageConverter
  repeat' first | intro _ | with_reducible (first | assumption | apply State.setFld_kept | apply State.raise_kept | apply State.dropLost_kept) | extract_lets | split

theorem State.refCheck_kept {s : State} (h : Kept a s) (c : Nat) (i : Nat) (code : Int) : Kept a (State.refCheck s c i code) := by
  unfold State.refCheck
  repeat' first | intro _ | with_reducible (first | assumption | apply State.inc32_kept | apply State.add_kept | apply State.cageConverter_kept | apply State.wr_kept | apply Kept.ite) | extract_lets | split

theorem State.checkLevel_kept {s : State} (h : Kept a s) (c : Nat) (i : Nat) (code : Int) : Kept a (State.checkLevel s c i code) := by
  unfold State.checkLevel
  repeat' first | intro _ | with_reducible (first | assumption | apply State.wrB_kept | apply State.refCheck_kept | apply Kept.ite) | extract_lets | split

theorem State.entryConverts_kept {s : State} (h : Kept a s) (prec : Bool) (e : Nat) (i : Nat) (v : Int) : Kept a (State.entryConverts s prec e i v) := by
  unfold State.entryConverts
  repeat' first | intro _ | with_reducible (first | assumption | apply State.wr_kept | apply State.publish_kept | apply Kept.ite) | extract_lets | split

theorem State.convert_kept {s : State} (h : Kept a s) (c : Nat) (i : Nat) (code : Int) (entry : Option Nat) : Kept a (State.convert s c i code entry) := by
  unfold State.convert
  repeat' first | intro _ | with_reducible (first | assumption | apply State.publish_kept | apply State.checkLevel_kept | apply State.entryConverts_kept | apply Kept.ite) | extract_lets | split

theorem State.scanTake_kept {s : State} (h : Kept a s) : Kept a (State.scanTake s) := by
  unfold State.scanTake
  repeat' first | intro _ | with_reducible (first | assumption | apply forUnits_kept | apply State.wr_kept) | extract_lets | split

theorem State.toScanRound_kept {s : State} (h : Kept a s) : Kept a (State.toScanRound s) := by
  unfold State.toScanRound
  repeat' first | intro _ | with_reducible (first | assumption | apply State.toMultiple_kept | apply State.advance_kept | apply Kept.ite) | extract_lets | split

theorem State.roundBegins_kept {s : State} (h : Kept a s) : Kept a (State.roundBegins s) := by
  unfold State.roundBegins
  repeat' first | intro _ | with_reducible (first | assumption | apply State.toScanRound_kept | apply State.wr_kept | apply forUnits_kept | apply State.scanTake_kept | apply State.dropLost_kept | apply Kept.ite) | extract_lets | split

theorem State.samplePower_kept {s : State} (h : Kept a s) : Kept a (State.samplePower s) := by
  unfold State.samplePower
  repeat' first | intro _ | with_reducible assumption | (with_reducible apply Kept.with_powerIn; with_reducible assumption) | extract_lets | split

theorem State.cmpoPins_kept {s : State} (h : Kept a s) : Kept a (State.cmpoPins s) := by
  unfold State.cmpoPins
  repeat' first | intro _ | with_reducible (first | assumption | apply forUnits_kept | apply State.wrB_kept | apply State.setBit_kept | apply State.wr_kept | apply Kept.ite) | extract_lets | split

theorem State.cmpoClear_kept {s : State} (h : Kept a s) (k : Nat) : Kept a (State.cmpoClear s k) := by
  unfold State.cmpoClear
  repeat' first | intro _ | with_reducible (first | assumption | apply State.wr_kept | apply State.cmpoPins_kept | apply Kept.ite) | extract_lets | split

theorem State.capEvent_kept {s : State} (h : Kept a s) (m : Nat) (b : Bool) : Kept a (State.capEvent s m b) := by
  unfold State.capEvent
  repeat' first | intro _ | with_reducible (first | assumption | apply State.used_kept | apply State.setUsed_kept | apply State.fed_kept | apply Kept.ite) | (with_reducible apply Kept.with_capEvents; with_reducible (first | assumption | apply State.used_kept | apply State.setUsed_kept | apply State.fed_kept | apply Kept.ite)) | extract_lets | split

theorem State.mnFilter_kept {s : State} (h : Kept a s) (m : Nat) : Kept a (State.mnFilter s m) := by
  unfold State.mnFilter
  repeat' first | intro _ | with_reducible (first | assumption | apply State.setBit_kept | apply State.wr_kept | apply State.capEvent_kept | apply State.inc32_kept | apply State.raise_kept | apply State.when_kept | apply State.capTrigger_kept | apply State.cmpoPins_kept | apply Kept.ite) | extract_lets | split

theorem State.mnFollow_kept {s : State} (h : Kept a s) (m : Nat) : Kept a (State.mnFollow s m) := by
  unfold State.mnFollow
  repeat' first | intro _ | with_reducible (first | assumption | apply State.mnFilter_kept | apply Kept.ite) | extract_lets | split

theorem State.mnOutput_kept {s : State} (h : Kept a s) (m : Nat) (b : Bool) : Kept a (State.mnOutput s m b) := by
  unfold State.mnOutput
  repeat' first | intro _ | with_reducible (first | assumption | apply State.setBit_kept | apply State.wr_kept | apply State.cmpoPins_kept | apply State.mnFollow_kept | apply Kept.ite) | extract_lets | split

theorem State.mnApply_kept {s : State} (h : Kept a s) (m : Nat) (lo : Int) (hi : Int) : Kept a (State.mnApply s m lo hi) := by
  unfold State.mnApply
  repeat' first | intro _ | with_reducible (first | assumption | apply State.wrB_kept | apply State.mnOutput_kept | apply Kept.ite) | extract_lets | split

theorem State.mnNow_kept {s : State} (h : Kept a s) (m : Nat) : Kept a (State.mnNow s m) := by
  unfold State.mnNow
  repeat' first | intro _ | with_reducible (first | assumption | apply State.mnApply_kept) | extract_lets | split

theorem State.mnCross_kept {s : State} (h : Kept a s) (m : Nat) (uv : Int) : Kept a (State.mnCross s m uv) := by
  unfold State.mnCross
  repeat' first | intro _ | with_reducible (first | assumption | apply State.wr_kept | apply State.mnApply_kept | apply State.mnNow_kept) | extract_lets | split

theorem State.mnEnable_kept {s : State} (h : Kept a s) (m : Nat) (b : Bool) : Kept a (State.mnEnable s m b) := by
  unfold State.mnEnable
  repeat' first | intro _ | with_reducible (first | assumption | apply State.setBit_kept | apply State.setFld_kept | apply State.wr_kept | apply State.cmpoPins_kept | apply State.mnNow_kept) | extract_lets | split

theorem State.mnCheckStart_kept {s : State} (h : Kept a s) (m : Nat) (type : Nat) (auto : Bool) : Kept a (State.mnCheckStart s m type auto) := by
  unfold State.mnCheckStart
  repeat' first | intro _ | with_reducible (first | assumption | apply State.setFld_kept | apply State.wr_kept | apply State.wrB_kept) | extract_lets | split

theorem State.mnAutoCheck_kept {s : State} (h : Kept a s) (m : Nat) (known : Bool) : Kept a (State.mnAutoCheck s m known) := by
  unfold State.mnAutoCheck
  repeat' first | intro _ | with_reducible (first | assumption | apply State.wr_kept | apply State.mark_kept | apply State.mnCheckStart_kept | apply Kept.ite) | extract_lets | split

theorem State.mnCheckEnd_kept {s : State} (h : Kept a s) (m : Nat) (result : Nat) : Kept a (State.mnCheckEnd s m result) := by
  unfold State.mnCheckEnd
  repeat' first | intro _ | with_reducible (first | assumption | apply State.setFld_kept | apply State.inc32_kept | apply State.raise_kept | apply State.wr_kept | apply State.mnOutput_kept | apply State.when_kept | apply State.mnCheckStart_kept | apply Kept.ite) | extract_lets | split

theorem State.levelRise_kept {s : State} (h : Kept a s) (x : Nat) (old : Nat) (l : Nat) : Kept a (State.levelRise s x old l) := by
  unfold State.levelRise
  repeat' first | intro _ | with_reducible (first | assumption | apply State.raise_kept | apply Kept.ite) | extract_lets | split

theorem State.thermSummary_kept {s : State} (h : Kept a s) : Kept a (State.thermSummary s) := by
  unfold State.thermSummary
  repeat' first | intro _ | with_reducible (first | assumption | apply State.wr_kept | apply State.wrB_kept | apply State.inhibitEval_kept) | extract_lets | split

theorem State.tsPace_kept {s : State} (h : Kept a s) (x : Nat) : Kept a (State.tsPace s x) := by
  unfold State.tsPace
  repeat' first | intro _ | with_reducible (first | assumption | apply State.setBit_kept) | extract_lets | split

theorem State.tsJudge_kept {s : State} (h : Kept a s) (x : Nat) (v : Int) : Kept a (State.tsJudge s x v) := by
  unfold State.tsJudge
  repeat' first | intro _ | with_reducible (first | assumption | apply State.setFld_kept | apply State.wr_kept | apply State.levelRise_kept | apply State.tsPace_kept | apply Kept.ite) | extract_lets | split

theorem State.tsHealth_kept {s : State} (h : Kept a s) (x : Nat) (bad : Bool) : Kept a (State.tsHealth s x bad) := by
  unfold State.tsHealth
  repeat' first | intro _ | with_reducible (first | assumption | apply State.add_kept | apply State.wr_kept | apply State.setFld_kept | apply State.raise_kept | apply Kept.ite) | extract_lets | split

theorem State.lockEval_kept {s : State} (h : Kept a s) (x : Nat) (v : Int) : Kept a (State.lockEval s x v) := by
  unfold State.lockEval
  repeat' first | intro _ | with_reducible (first | assumption | apply State.add_kept | apply State.wr_kept | apply Kept.ite) | extract_lets | split

theorem State.wantPpReset_kept {s : State} (h : Kept a s) (f : Nat) (die : Bool) : Kept a (State.wantPpReset s f die) := by
  unfold State.wantPpReset
  repeat' first | intro _ | with_reducible (first | assumption | apply State.wr_kept | apply State.when_kept) | extract_lets | split

theorem State.toSample_kept {s : State} (h : Kept a s) (x : Nat) : Kept a (State.toSample s x) := by
  unfold State.toSample
  repeat' first | intro _ | with_reducible (first | assumption | apply State.toAfter_kept | apply State.wr_kept | apply Kept.ite) | extract_lets | split

theorem State.thermReading_kept {s : State} (h : Kept a s) (x : Nat) (v : Int) (good : Bool) : Kept a (State.thermReading s x v good) := by
  unfold State.thermReading
  repeat' first | intro _ | with_reducible (first | assumption | apply State.tsHealth_kept | apply State.used_kept | apply State.wr_kept | apply State.tsJudge_kept | apply State.record_kept | apply State.lockEval_kept | apply State.thermSummary_kept | apply State.wantPpReset_kept | apply Kept.ite) | extract_lets | split

theorem State.thermSample_kept {s : State} (h : Kept a s) (x : Nat) (v : Int) (good : Bool) : Kept a (State.thermSample s x v good) := by
  unfold State.thermSample
  repeat' first | intro _ | with_reducible (first | assumption | apply State.toSample_kept | apply State.thermReading_kept | apply Kept.ite) | extract_lets | split

theorem State.tsEnable_kept {s : State} (h : Kept a s) (x : Nat) : Kept a (State.tsEnable s x) := by
  unfold State.tsEnable
  repeat' first | intro _ | with_reducible (first | assumption | apply State.wr_kept | apply State.thermSummary_kept | apply State.dropLost_kept | apply Kept.ite) | extract_lets | split

theorem State.windTarget_kept {s : State} (h : Kept a s) (w : Nat) (goal : Int) : Kept a (State.windTarget s w goal) := by
  unfold State.windTarget
  repeat' first | intro _ | with_reducible (first | assumption | apply State.wr_kept | apply State.windTo_kept | apply Kept.ite) | extract_lets | split

theorem State.actWrite_kept {s : State} (h : Kept a s) (p : Nat) (v : Int) : Kept a (State.actWrite s p v) := by
  unfold State.actWrite
  repeat' first | intro _ | with_reducible (first | assumption | apply State.windTarget_kept | apply State.setPoint_kept | apply State.wr_kept | apply State.propDrive_kept | apply Kept.ite) | extract_lets | split

theorem State.actSafe_kept {s : State} (h : Kept a s) (l : List Nat) : Kept a (State.actSafe s l) := by
  unfold State.actSafe
  repeat' first | intro _ | with_reducible (first | assumption | apply forAll_kept | apply State.actWrite_kept | apply Kept.ite) | extract_lets | split

theorem State.loopCommit_kept {s : State} (h : Kept a s) (l : Nat) : Kept a (State.loopCommit s l) := by
  unfold State.loopCommit
  repeat' first | intro _ | with_reducible (first | assumption | apply forAll_kept | apply State.windTarget_kept | apply State.actWrite_kept | apply Kept.ite) | (with_reducible apply Kept.with_loopWrites; with_reducible (first | assumption | apply forAll_kept | apply State.windTarget_kept | apply State.actWrite_kept | apply Kept.ite)) | extract_lets | split

theorem State.loopDrop_kept {s : State} (h : Kept a s) (l : Nat) : Kept a (State.loopDrop s l) := by
  unfold State.loopDrop
  repeat' first | intro _ | with_reducible assumption | (with_reducible apply Kept.with_loopWrites; with_reducible assumption) | extract_lets | split

theorem State.loopBuffer_kept {s : State} (h : Kept a s) (l : Nat) (p : Nat) (v : Int) : Kept a (State.loopBuffer s l p v) := by
  unfold State.loopBuffer
  repeat' first | intro _ | with_reducible assumption | (with_reducible apply Kept.with_loopWrites; with_reducible assumption) | extract_lets | split

theorem State.setV_kept {s : State} (h : Kept a s) (j : Nat) (i : Nat) (x : Int) : Kept a (State.setV s j i x) := by
  unfold State.setV
  repeat' first | intro _ | with_reducible (first | assumption | apply State.wr_kept) | extract_lets | split

theorem State.satV_kept {s : State} (h : Kept a s) (j : Nat) (i : Nat) (x : Int) : Kept a (State.satV s j i x) := by
  unfold State.satV
  repeat' first | intro _ | with_reducible (first | assumption | apply State.setV_kept | apply State.wr_kept | apply Kept.ite) | extract_lets | split

theorem State.setA_kept {s : State} (h : Kept a s) (j : Nat) (n : Nat) (x : Int) : Kept a (State.setA s j n x) := by
  unfold State.setA
  repeat' first | intro _ | with_reducible (first | assumption | apply State.wr_kept) | extract_lets | split

theorem State.satA_kept {s : State} (h : Kept a s) (j : Nat) (n : Nat) (x : Int) : Kept a (State.satA s j n x) := by
  unfold State.satA
  repeat' first | intro _ | with_reducible (first | assumption | apply State.setA_kept | apply State.wr_kept | apply Kept.ite) | extract_lets | split

theorem State.slotZero_kept {s : State} (h : Kept a s) (j : Nat) (timer : Bool) : Kept a (State.slotZero s j timer) := by
  unfold State.slotZero
  repeat' first | intro _ | with_reducible (first | assumption | apply forUnits_kept | apply State.setA_kept | apply State.setV_kept | apply State.wr_kept | apply State.setFld_kept | apply Kept.ite) | extract_lets | split

theorem State.slotRunning_kept {s : State} (h : Kept a s) (j : Nat) : Kept a (State.slotRunning s j) := by
  unfold State.slotRunning
  repeat' first | intro _ | with_reducible (first | assumption | apply State.setBit_kept) | extract_lets | split

theorem State.progShow_kept {s : State} (h : Kept a s) : Kept a (State.progShow s) := by
  unfold State.progShow
  repeat' first | intro _ | with_reducible (first | assumption | apply State.wr_kept | apply Kept.ite) | extract_lets | split

theorem State.laneOwn_kept {s : State} (h : Kept a s) (l : Nat) : Kept a (State.laneOwn s l) := by
  unfold State.laneOwn
  repeat' first | intro _ | with_reducible (first | assumption | apply State.when_kept | apply State.wr_kept | apply State.wrB_kept) | extract_lets | split

theorem State.laneTake_kept {s : State} (h : Kept a s) (l : Nat) : Kept a (State.laneTake s l) := by
  unfold State.laneTake
  repeat' first | intro _ | with_reducible (first | assumption | apply State.wrB_kept | apply State.wr_kept | apply State.when_kept | apply forUnits_kept | apply State.setBlob_kept | apply State.laneOwn_kept | apply State.progShow_kept | apply Kept.ite) | extract_lets | split

theorem State.toHalf_kept {s : State} (h : Kept a s) (h : Int) : Kept a (State.toHalf s h) := by
  unfold State.toHalf
  repeat' first | intro _ | with_reducible (first | assumption | apply State.advance_kept) | extract_lets | split

theorem State.frameBegin_kept {s : State} (h : Kept a s) (l : Nat) : Kept a (State.frameBegin s l) := by
  unfold State.frameBegin
  repeat' first | intro _ | with_reducible (first | assumption | apply forUnits_kept | apply State.wr_kept | apply State.inc32_kept) | extract_lets | split

theorem State.laneTrigger_kept {s : State} (h : Kept a s) (l : Nat) (number : Int) : Kept a (State.laneTrigger s l number) := by
  unfold State.laneTrigger
  repeat' first | intro _ | with_reducible (first | assumption | apply State.wr_kept | apply State.inc32_kept | apply State.raise_kept | apply State.laneTake_kept | apply State.frameBegin_kept | apply Kept.ite) | extract_lets | split

theorem State.laneScan_kept {s : State} (h : Kept a s) : Kept a (State.laneScan s) := by
  unfold State.laneScan
  repeat' first | intro _ | with_reducible (first | assumption | apply forUnits_kept | apply State.wr_kept | apply State.when_kept | apply Kept.ite) | extract_lets | split

theorem State.slotStop_kept {s : State} (h : Kept a s) (j : Nat) (cause : Nat) : Kept a (State.slotStop s j cause) := by
  unfold State.slotStop
  repeat' first | intro _ | with_reducible (first | assumption | apply State.setFld_kept | apply State.slotRunning_kept) | extract_lets | split

theorem State.slotBegin_kept {s : State} (h : Kept a s) (j : Nat) : Kept a (State.slotBegin s j) := by
  unfold State.slotBegin
  repeat' first | intro _ | with_reducible (first | assumption | apply State.toHalf_kept | apply State.wr_kept | apply State.slotZero_kept | apply forUnits_kept | apply State.loopDrop_kept | apply Kept.ite) | extract_lets | split

theorem State.runStatus_kept {s : State} (h : Kept a s) (j : Nat) : Kept a (State.runStatus s j) := by
  unfold State.runStatus
  repeat' first | intro _ | with_reducible (first | assumption | apply State.setBit_kept) | extract_lets | split

theorem State.runEnd_kept {s : State} (h : Kept a s) (j : Nat) (more : Bool) : Kept a (State.runEnd s j more) := by
  unfold State.runEnd
  repeat' first | intro _ | with_reducible (first | assumption | apply State.runStatus_kept | apply State.wr_kept | apply State.when_kept | apply State.inc32_kept | apply State.raise_kept) | extract_lets | split

theorem State.slotEcc_kept {s : State} (h : Kept a s) (j : Nat) : Kept a (State.slotEcc s j) := by
  unfold State.slotEcc
  repeat' first | intro _ | with_reducible (first | assumption | apply State.wr_kept | apply State.loopDrop_kept | apply State.runEnd_kept | apply State.slotStop_kept | apply State.actSafe_kept | apply State.raise_kept) | extract_lets | split

theorem State.fetch_kept {s : State} (h : Kept a s) (l : Nat) : Kept a (State.fetch s l) := by
  unfold State.fetch
  repeat' first | intro _ | with_reducible (first | assumption | apply State.wr_kept | apply State.inc32_kept | apply State.slotEcc_kept | apply Kept.ite) | extract_lets | split

theorem State.loopDo_kept {s : State} (h : Kept a s) (l w mask cyc : Nat) {f : Nat → State → State}
    (g : ∀ j t, Kept a t → Kept a (f j t)) : Kept a (State.loopDo s l w mask cyc f) :=
  Kept.ite h (Kept.ite (State.fetch_kept (g _ _ (State.wr_kept (State.wr_kept h _ _) _ _)) _) h)

theorem State.fel_kept {s : State} (h : Kept a s) (j : Nat) (err : Int) (lim : Int) : Kept a (State.fel s j err lim) := by
  unfold State.fel
  repeat' first | intro _ | with_reducible (first | assumption | apply State.wr_kept | apply State.setFld_kept | apply Kept.ite) | extract_lets | split

theorem State.feAction_kept {s : State} (h : Kept a s) (j : Nat) : Kept a (State.feAction s j) := by
  unfold State.feAction
  repeat' first | intro _ | with_reducible (first | assumption | apply State.loopCommit_kept | apply State.slotStop_kept | apply State.wr_kept | apply State.loopDrop_kept | apply State.actSafe_kept | apply Kept.ite) | extract_lets | split

theorem State.slotEnd_kept {s : State} (h : Kept a s) (j : Nat) : Kept a (State.slotEnd s j) := by
  unfold State.slotEnd
  repeat' first | intro _ | with_reducible (first | assumption | apply State.toHalf_kept | apply State.feAction_kept | apply State.wr_kept | apply State.inc32_kept | apply State.runEnd_kept) | extract_lets | split

theorem State.slotRestart_kept {s : State} (h : Kept a s) (j : Nat) : Kept a (State.slotRestart s j) := by
  unfold State.slotRestart
  repeat' first | intro _ | with_reducible (first | assumption | apply State.slotZero_kept | apply State.setFld_kept | apply State.wr_kept | apply State.slotRunning_kept | apply Kept.ite) | extract_lets | split

theorem State.loopAccept_kept {s : State} (h : Kept a s) (old : State) : Kept a (State.loopAccept s old) := by
  unfold State.loopAccept
  repeat' first | intro _ | with_reducible (first | assumption | apply State.when_kept | apply State.wr_kept | apply State.slotRunning_kept | apply forUnits_kept | apply State.laneTake_kept | apply Kept.ite) | extract_lets | split

theorem State.windStart_kept {s : State} (h : Kept a s) (w : Nat) : Kept a (State.windStart s w) := by
  unfold State.windStart
  repeat' first | intro _ | with_reducible (first | assumption | apply State.windPreset_kept) | extract_lets | split

theorem State.freeBlock_kept {s : State} (h : Kept a s) (g : Nat) : Kept a (State.freeBlock s g) := by
  unfold State.freeBlock
  repeat' first | intro _ | with_reducible (first | assumption | apply State.wr_kept | apply Kept.ite) | (with_reducible apply Kept.with_blocks; with_reducible (first | assumption | apply State.wr_kept | apply Kept.ite)) | extract_lets | split

theorem State.askCredit_kept {s : State} (h : Kept a s) (g : Nat) (d : List Byte) : Kept a (State.askCredit s g d) := by
  unfold State.askCredit
  repeat' first | intro _ | with_reducible (first | assumption | apply State.record_kept | apply State.dropBlock_kept | apply State.waitEnds_kept | apply State.takeBlock_kept | apply State.waitBegins_kept | apply Kept.ite) | (with_reducible apply Kept.with_blocks; with_reducible (first | assumption | apply State.record_kept | apply State.dropBlock_kept | apply State.waitEnds_kept | apply State.takeBlock_kept | apply State.waitBegins_kept | apply Kept.ite)) | extract_lets | split

theorem State.reclaimOne_kept {s : State} (h : Kept a s) (g : Nat) : Kept a (State.reclaimOne s g) := by
  unfold State.reclaimOne
  repeat' first | intro _ | with_reducible (first | assumption | apply State.wr_kept | apply State.inc32_kept | apply Kept.ite) | (with_reducible apply Kept.with_blocks; with_reducible (first | assumption | apply State.wr_kept | apply State.inc32_kept | apply Kept.ite)) | extract_lets | split

theorem State.reclaim_kept {s : State} (h : Kept a s) (g : Nat) : Kept a (State.reclaim s g) := by
  unfold State.reclaim
  repeat' first | intro _ | with_reducible (first | assumption | apply forUnits_kept | apply State.reclaimOne_kept | apply State.txRetry_kept | apply Kept.ite) | extract_lets | split

theorem State.capWrite_kept {s : State} (h : Kept a s) (frame : List Int) : Kept a (State.capWrite s frame) := by
  unfold State.capWrite
  repeat' first | intro _ | with_reducible (first | assumption | apply State.used_kept | apply State.wr_kept | apply State.setUsed_kept | apply State.fed_kept) | (with_reducible apply Kept.with_capFrames; with_reducible (first | assumption | apply State.used_kept | apply State.wr_kept | apply State.setUsed_kept | apply State.fed_kept)) | extract_lets | split

theorem State.capArm_kept {s : State} (h : Kept a s) : Kept a (State.capArm s) := by
  unfold State.capArm
  repeat' first | intro _ | with_reducible (first | assumption | apply State.wr_kept | apply State.mark_kept) | (with_reducible apply Kept.with_capFrames_capEvents; with_reducible (first | assumption | apply State.wr_kept | apply State.mark_kept)) | extract_lets | split

theorem State.mirrorWd_kept {s : State} (h : Kept a s) : Kept a (State.mirrorWd s) := by
  unfold State.mirrorWd
  repeat' first | intro _ | with_reducible (first | assumption | apply State.stage_kept | apply State.wr_kept | apply Kept.ite) | extract_lets | split

theorem State.liveRefresh_kept {s : State} (h : Kept a s) : Kept a (State.liveRefresh s) := by
  unfold State.liveRefresh
  have g : Kept a s.mirrorWd := State.mirrorWd_kept h
  split
  · exact State.waitBegins_kept g _
  · next u e =>
    extract_lets t
    have k : Kept a t := State.wr_kept (State.waitEnds_kept (State.takeRun_kept g _ _ e) _) _ _
    exact State.wr_kept (State.wr_kept (Kept.with_live k _) _ _) _ _

theorem State.epochOver_kept {s : State} (h : Kept a s) (reason : Nat) : Kept a (State.epochOver s reason) := by
  unfold State.epochOver
  repeat' first | intro _ | with_reducible (first | assumption | apply State.wr_kept | apply Kept.ite) | extract_lets | split

theorem State.epochWait_kept {s : State} (h : Kept a s) (reason : Nat) : Kept a (State.epochWait s reason) := by
  unfold State.epochWait
  repeat' first | intro _ | with_reducible (first | assumption | apply State.wr_kept | apply Kept.ite) | extract_lets | split

theorem State.plErased_kept {s : State} (h : Kept a s) (k : Nat) (left : Nat) : Kept a (State.plErased s k left) := by
  unfold State.plErased
  repeat' first | intro _ | with_reducible (first | assumption | apply State.wr_kept | apply Kept.ite) | extract_lets | split

theorem State.epochStart_kept {s : State} (h : Kept a s) (reason : Nat) : Kept a (State.epochStart s reason) := by
  unfold State.epochStart
  repeat' first | intro _ | with_reducible (first | assumption | apply State.epochWait_kept | apply State.epochOver_kept | apply State.setFld_kept | apply State.raise_kept | apply State.liveRefresh_kept | apply State.when_kept | apply State.wr_kept | apply Kept.ite) | (with_reducible apply Kept.with_snap_snapStaged_slots; with_reducible (first | assumption | apply State.epochWait_kept | apply State.epochOver_kept | apply State.setFld_kept | apply State.raise_kept | apply State.liveRefresh_kept | apply State.when_kept | apply State.wr_kept | apply Kept.ite)) | extract_lets | split

theorem State.epochEnds_kept {s : State} (h : Kept a s) : Kept a (State.epochEnds s) := by
  unfold State.epochEnds
  repeat' first | intro _ | with_reducible (first | assumption | apply State.setFld_kept | apply State.wr_kept | apply State.epochOver_kept | apply State.epochStart_kept | apply Kept.ite) | extract_lets | split

theorem subtractStaged_canon (snap : List (Nat × Int)) {l : List (Nat × Int)} (c : stagingCanon l = true) :
    stagingCanon (subtractStaged snap l) = true := by
  refine stagingCanon_update (fun p => ?_) c
  split
  · rfl
  · split <;> rfl

theorem State.epochCommit_kept {s : State} (h : Kept a s) : Kept a (State.epochCommit s) := by
  have g : ∀ x y, Kept a { s with slots := x, staging := subtractStaged y s.staging } := fun x y =>
    ⟨fun w => ⟨(h.wf w).1, (h.wf w).2.1, subtractStaged_canon _ (h.wf w).2.2.1, (h.wf w).2.2.2⟩, h.queue, h.fresh⟩
  unfold State.epochCommit
  split
  · extract_lets k kept t next u v w y
    have gt : Kept a t := State.wr_kept (g _ _) _ _
    have gu : Kept a u := State.when_kept (Kept.with_slots gt _) _ fun _ h => State.wr_kept h _ _
    have gv : Kept a v := State.wr_kept (State.wr_kept (State.wr_kept gu _ _) _ _) _ _
    have gw : Kept a w := State.when_kept gv _ fun _ h => State.wr_kept h _ _
    have gy : Kept a y := State.when_kept gw _ fun _ h => State.raise_kept (State.setFld_kept h _ _) _
    with_reducible exact State.epochEnds_kept (State.setFld_kept gy _ _)
  · exact h

theorem State.slotRetire_kept {s : State} (h : Kept a s) (k : Nat) : Kept a (State.slotRetire s k) := by
  unfold State.slotRetire
  repeat' first | intro _ | with_reducible (first | assumption | apply State.wr_kept | apply State.setFld_kept | apply Kept.ite) | extract_lets | split

theorem State.epochDrop_kept {s : State} (h : Kept a s) (retired : Bool) : Kept a (State.epochDrop s retired) := by
  unfold State.epochDrop
  repeat' first | intro _ | with_reducible (first | assumption | apply State.inc32_kept | apply State.wr_kept | apply State.slotRetire_kept | apply State.raise_kept | apply Kept.ite) | (with_reducible apply Kept.with_slots; with_reducible (first | assumption | apply State.inc32_kept | apply State.wr_kept | apply State.slotRetire_kept | apply State.raise_kept | apply Kept.ite)) | extract_lets | split

theorem State.epochFail_kept {s : State} (h : Kept a s) (retired : Bool) : Kept a (State.epochFail s retired) := by
  unfold State.epochFail
  repeat' first | intro _ | with_reducible (first | assumption | apply State.epochDrop_kept | apply State.epochEnds_kept | apply Kept.ite) | extract_lets | split

theorem State.sectorFails_kept {s : State} (h : Kept a s) (k sector : Nat) : Kept a (State.sectorFails s k sector).1 :=
  State.wr_kept h _ _

theorem State.plOpLost_kept {s : State} (h : Kept a s) (erase : Bool) : Kept a (State.plOpLost s erase) := by
  unfold State.plOpLost
  repeat' first | intro _ | with_reducible (first | assumption | apply State.sectorFails_kept | apply State.epochFail_kept | apply State.slotRetire_kept | apply State.when_kept | apply State.raise_kept | apply State.plErased_kept | apply State.wr_kept | apply Kept.ite) | extract_lets | split

theorem State.plOpDone_kept {s : State} (h : Kept a s) (erase : Bool) : Kept a (State.plOpDone s erase) := by
  unfold State.plOpDone
  repeat' first | intro _ | with_reducible (first | assumption | apply State.plErased_kept | apply State.epochCommit_kept | apply State.wr_kept | apply Kept.ite) | extract_lets | split

theorem State.plShow_kept {s : State} (h : Kept a s) : Kept a (State.plShow s) := by
  unfold State.plShow
  repeat' first | intro _ | with_reducible (first | assumption | apply State.setBit_kept) | extract_lets | split

theorem State.tickCtx_kept {s : State} (h : Kept a s) (n : Nat) : Kept a (State.tickCtx s n) := by
  unfold State.tickCtx
  repeat' first | intro _ | with_reducible (first | assumption | apply State.stage_kept | apply State.used_kept | apply State.wr_kept | apply Kept.ite) | extract_lets | split

theorem State.tickSensor_kept {s : State} (h : Kept a s) (x : Nat) : Kept a (State.tickSensor s x) := by
  unfold State.tickSensor
  repeat' first | intro _ | with_reducible (first | assumption | apply State.stage_kept | apply Kept.ite) | extract_lets | split

theorem State.tickPort_kept {s : State} (h : Kept a s) (p : Nat) : Kept a (State.tickPort s p) := by
  unfold State.tickPort
  repeat' first | intro _ | with_reducible (first | assumption | apply State.stage_kept | apply State.used_kept | apply State.wr_kept | apply Kept.ite) | extract_lets | split

theorem State.pitTick_kept {s : State} (h : Kept a s) : Kept a (State.pitTick s) := by
  unfold State.pitTick
  repeat' first | intro _ | with_reducible (first | assumption | apply forUnits_kept | apply State.tickPort_kept | apply State.tickSensor_kept | apply State.tickCtx_kept | apply State.stage_kept | apply Kept.ite) | extract_lets | split

theorem State.pitStorage_kept {s : State} (h : Kept a s) : Kept a (State.pitStorage s) := by
  unfold State.pitStorage
  repeat' first | intro _ | with_reducible (first | assumption | apply State.stageMin_kept | apply State.stageMax_kept | apply forUnits_kept | apply State.wr_kept) | extract_lets | split

theorem State.marginEnds_kept {s : State} (h : Kept a s) (k : Nat) : Kept a (State.marginEnds s k) := by
  unfold State.marginEnds
  repeat' first | intro _ | with_reducible (first | assumption | apply State.wr_kept | apply State.newTarget_kept | apply State.when_kept | apply State.turnedAway_kept | apply Kept.ite) | extract_lets | split

theorem State.ftFollow_kept {s : State} (h : Kept a s) (k : Nat) : Kept a (State.ftFollow s k) := by
  unfold State.ftFollow
  repeat' first | intro _ | with_reducible (first | assumption | apply State.setFld_kept | apply State.wr_kept | apply Kept.ite) | extract_lets | split

theorem State.nodeEnter_kept {s : State} (h : Kept a s) (k : Nat) (st : Nat) : Kept a (State.nodeEnter s k st) := by
  unfold State.nodeEnter
  repeat' first | intro _ | with_reducible (first | assumption | apply State.marginEnds_kept | apply State.setFld_kept | apply State.wr_kept | apply Kept.ite) | extract_lets | split

theorem State.enPins_kept {s : State} (h : Kept a s) : Kept a (State.enPins s) := by
  unfold State.enPins
  repeat' first | intro _ | with_reducible (first | assumption | apply forUnits_kept | apply State.wr_kept | apply Kept.ite) | extract_lets | split

theorem State.nodeWithdraw_kept {s : State} (h : Kept a s) (k : Nat) (ramped : Bool) : Kept a (State.nodeWithdraw s k ramped) := by
  unfold State.nodeWithdraw
  repeat' first | intro _ | with_reducible (first | assumption | apply State.wr_kept | apply State.railDisable_kept | apply State.enPins_kept | apply Kept.ite) | extract_lets | split

theorem State.loseDep_kept {s : State} (h : Kept a s) (d : Nat) : Kept a (State.loseDep s d) := by
  unfold State.loseDep
  repeat' first | intro _ | with_reducible (first | assumption | apply State.setFld_kept | apply State.nodeEnter_kept | apply State.nodeWithdraw_kept | apply State.wr_kept | apply Kept.ite) | extract_lets | split

theorem State.depLost_kept {s : State} (h : Kept a s) (k : Nat) : Kept a (State.depLost s k) := by
  unfold State.depLost
  repeat' first | intro _ | with_reducible (first | assumption | apply forUnits_kept | apply State.loseDep_kept | apply Kept.ite) | extract_lets | split

theorem State.nodeFault_kept {s : State} (h : Kept a s) (k : Nat) (cause : Nat) : Kept a (State.nodeFault s k cause) := by
  unfold State.nodeFault
  repeat' first | intro _ | with_reducible (first | assumption | apply State.nodeWithdraw_kept | apply State.setFld_kept | apply State.nodeEnter_kept | apply State.inc32_kept | apply State.wr_kept | apply State.mark_kept | apply State.raise_kept | apply State.depLost_kept | apply Kept.ite) | extract_lets | split

theorem State.nodeAssert_kept {s : State} (h : Kept a s) (k : Nat) : Kept a (State.nodeAssert s k) := by
  unfold State.nodeAssert
  repeat' first | intro _ | with_reducible (first | assumption | apply State.nodeFault_kept | apply State.wr_kept | apply State.moveRef_kept | apply State.nodeEnter_kept | apply State.railEnable_kept | apply State.enPins_kept | apply Kept.ite) | extract_lets | split

theorem State.nodeRise_kept {s : State} (h : Kept a s) (k : Nat) : Kept a (State.nodeRise s k) := by
  unfold State.nodeRise
  repeat' first | intro _ | with_reducible (first | assumption | apply State.nodeFault_kept | apply State.nodeEnter_kept | apply State.wr_kept | apply State.ftFollow_kept | apply Kept.ite) | extract_lets | split

theorem State.nodeRampDown_kept {s : State} (h : Kept a s) (k : Nat) : Kept a (State.nodeRampDown s k) := by
  unfold State.nodeRampDown
  repeat' first | intro _ | with_reducible (first | assumption | apply State.nodeWithdraw_kept | apply State.nodeEnter_kept) | extract_lets | split

theorem State.nodeStep_kept {s : State} (h : Kept a s) (k : Nat) : Kept a (State.nodeStep s k) := by
  unfold State.nodeStep
  repeat' first | intro _ | with_reducible (first | assumption | apply State.nodeEnter_kept | apply State.setFld_kept | apply State.nodeAssert_kept | apply State.nodeRise_kept | apply State.nodeRampDown_kept | apply State.ftFollow_kept | apply State.nodeFault_kept | apply Kept.ite) | extract_lets | split

theorem State.seqEdge_kept {s : State} (h : Kept a s) : Kept a (State.seqEdge s) := by
  unfold State.seqEdge
  repeat' first | intro _ | with_reducible (first | assumption | apply forUnits_kept | apply State.nodeStep_kept | apply State.wr_kept) | extract_lets | split

theorem State.seqRun_kept {s : State} (h : Kept a s) (n : Nat) : Kept a (State.seqRun s n) := by
  induction n generalizing s with
  | zero => exact h
  | succ n ih => exact Kept.ite (ih (State.seqEdge_kept (State.advance_kept (State.wr_kept h _ _) _))) (State.wr_kept h _ _)

theorem State.lampBegin_kept {s : State} (h : Kept a s) : Kept a (State.lampBegin s) := by
  unfold State.lampBegin
  repeat' first | intro _ | with_reducible (first | assumption | apply forUnits_kept | apply State.cmdOff_kept | apply State.slStop_kept | apply State.setFld_kept | apply State.wr_kept | apply Kept.ite) | extract_lets | split

theorem State.powerDown_kept {s : State} (h : Kept a s) : Kept a (State.powerDown s) := by
  unfold State.powerDown
  dsimp -proj only
  repeat' first | intro _ | with_reducible (first | assumption | apply forUnits_kept | apply State.rpOpens_kept | apply State.wr_kept | apply State.enPins_kept | apply Kept.ite) | extract_lets | split

theorem State.lampSettle_kept {s : State} (h : Kept a s) : Kept a (State.lampSettle s) := by
  unfold State.lampSettle
  repeat' first | intro _ | with_reducible (first | assumption | apply State.lampEntry_kept | apply State.lampWrite_kept | apply State.wr_kept | apply State.powerDown_kept | apply Kept.ite) | extract_lets | split

theorem State.seqSettle_kept {s : State} (h : Kept a s) : Kept a (State.seqSettle s) := by
  unfold State.seqSettle
  repeat' first | intro _ | with_reducible (first | assumption | apply State.seqEdge_kept | apply State.seqRun_kept | apply State.lampBegin_kept | apply State.lampSettle_kept | apply Kept.ite) | extract_lets | split

theorem State.enterState_kept {s : State} (h : Kept a s) (v : Nat) : Kept a (State.enterState s v) := by
  unfold State.enterState
  repeat' first | intro _ | with_reducible (first | assumption | apply State.wr_kept | apply State.notice_kept | apply State.ifwPins_kept | apply State.cmpoPins_kept) | extract_lets | split

theorem State.stateCmd_kept {s0 : State} (h : Kept a s0) (v : Nat) : Kept a (State.stateCmd s0 v) := by
  unfold State.stateCmd
  repeat' first | intro _ | with_reducible (first | assumption | apply State.setFld_kept | apply State.inc32_kept | apply State.enterState_kept | apply State.wr_kept | apply State.epochStart_kept | apply State.lampStop_kept | apply Kept.ite) | extract_lets | split

theorem State.lossStart_kept {s : State} (h : Kept a s) (trigger : Nat) : Kept a (State.lossStart s trigger) := by
  unfold State.lossStart
  repeat' first | intro _ | with_reducible (first | assumption | apply State.mark_kept | apply State.setFld_kept | apply forUnits_kept | apply State.wr_kept | apply State.wrB_kept | apply State.inc32_kept | apply State.raise_kept | apply State.epochStart_kept | apply Kept.ite) | extract_lets | split

theorem State.lossResume_kept {s : State} (h : Kept a s) : Kept a (State.lossResume s) := by
  unfold State.lossResume
  repeat' first | intro _ | with_reducible (first | assumption | apply forUnits_kept | apply State.wr_kept | apply State.setFld_kept) | extract_lets | split

theorem State.fallsBegun_kept {s : State} (h : Kept a s) : Kept a (State.fallsBegun s) := by
  unfold State.fallsBegun
  repeat' first | intro _ | with_reducible (first | assumption | apply forUnits_kept | apply State.nodeRampDown_kept | apply Kept.ite) | extract_lets | split

theorem State.lossHalt_kept {s0 : State} (h : Kept a s0) : Kept a (State.lossHalt s0) := by
  unfold State.lossHalt
  repeat' first | intro _ | with_reducible (first | assumption | apply State.fallsBegun_kept | apply forUnits_kept | apply State.wrB_kept | apply State.setFld_kept | apply State.wr_kept | apply State.lossResume_kept | apply Kept.ite) | extract_lets | split

theorem State.feedByHold_kept {s : State} (h : Kept a s) : Kept a (State.feedByHold s) := by
  unfold State.feedByHold
  repeat' first | intro _ | with_reducible (first | assumption | apply State.lossHalt_kept | apply Kept.ite) | extract_lets | split

theorem State.feedByWarning_kept {s : State} (h : Kept a s) : Kept a (State.feedByWarning s) := by
  unfold State.feedByWarning
  repeat' first | intro _ | with_reducible (first | assumption | apply State.lossHalt_kept | apply Kept.ite) | extract_lets | split

theorem State.holdUnable_kept {s : State} (h : Kept a s) : Kept a (State.holdUnable s) := by
  unfold State.holdUnable
  repeat' first | intro _ | with_reducible (first | assumption | apply State.wr_kept | apply Kept.ite) | extract_lets | split

theorem State.setMargin_kept {s : State} (h : Kept a s) (r : Nat) (m : Int) : Kept a (State.setMargin s r m) := by
  unfold State.setMargin
  repeat' first | intro _ | with_reducible (first | assumption | apply State.wr_kept | apply State.newTarget_kept) | extract_lets | split

end Sys2Proof.Machine
end

