-- ==== Sys2Proof/Laws/KeptLinks.lean ====
section
/-!
SUPPORT. What the operations keep: the share link, the ports, the images, the keys and the resets. Each lemma says of one operation that the state it leaves is in canonical form
when the state before was, holds the same queue, and takes no free value back.
-/
namespace Sys2Proof.Machine

variable {a s : State}

theorem State.asSuspend_kept {s : State} (h : Kept a s) : Kept a (State.asSuspend s) := by
  unfold State.asSuspend
  repeat' first | intro _ | with_reducible (first | assumption | apply State.setFld_kept | apply Kept.ite) | extract_lets | split

theorem State.wsLost_kept {s : State} (h : Kept a s) : Kept a (State.wsLost s) := by
  unfold State.wsLost
  repeat' first | intro _ | with_reducible (first | assumption | apply State.when_kept | apply State.asSuspend_kept | apply State.setFld_kept | apply State.wr_kept | apply State.raise_kept | apply Kept.ite) | extract_lets | split

theorem State.wsPlace_kept {s : State} (h : Kept a s) (pos : Nat) : Kept a (State.wsPlace s pos) := by
  unfold State.wsPlace
  repeat' first | intro _ | with_reducible (first | assumption | apply State.wsLost_kept | apply State.setFld_kept | apply State.wr_kept | apply Kept.ite) | extract_lets | split

theorem State.servo_kept {s : State} (h : Kept a s) (integ : Nat) (err : Int) : Kept a (State.servo s integ err) := by
  unfold State.servo
  split
  · have g : ((s.now - err) % 18446744073709551616).toNat < 2 ^ 64 := by omega
    have k : Kept a { s with timebase := ((s.now - err) % 18446744073709551616).toNat } :=
      ⟨fun w => ⟨(h.wf w).1, (h.wf w).2.1, (h.wf w).2.2.1, g⟩, h.queue, h.fresh⟩
    exact State.wr_kept (State.wr_kept k _ _) _ _
  · exact State.wr_kept (State.wr_kept h _ _) _ _

theorem State.syncLost_kept {s : State} (h : Kept a s) : Kept a (State.syncLost s) := by
  unfold State.syncLost
  repeat' first | intro _ | with_reducible (first | assumption | apply State.wr_kept | apply State.setFld_kept | apply State.inc32_kept | apply State.raise_kept | apply Kept.ite) | extract_lets | split

theorem State.syncJudge_kept {s : State} (h : Kept a s) (err : Int) : Kept a (State.syncJudge s err) := by
  unfold State.syncJudge
  repeat' first | intro _ | with_reducible (first | assumption | apply State.wr_kept | apply State.add_kept | apply State.setFld_kept | apply State.syncLost_kept | apply Kept.ite) | extract_lets | split

theorem State.syncReceive_kept {s : State} (h : Kept a s) (addr : Nat) (hops : Nat) (tMaster : Int) (corr : Int) : Kept a (State.syncReceive s addr hops tMaster corr) := by
  unfold State.syncReceive
  repeat' first | intro _ | with_reducible (first | assumption | apply State.wr_kept | apply State.when_kept | apply State.asSuspend_kept | apply State.setFld_kept | apply State.wsLost_kept | apply State.wsPlace_kept | apply State.syncJudge_kept | apply State.servo_kept | apply Kept.ite) | extract_lets | split

theorem State.toShare_kept {s : State} (h : Kept a s) : Kept a (State.toShare s) := by
  unfold State.toShare
  repeat' first | intro _ | with_reducible (first | assumption | apply State.advance_kept | apply State.wr_kept | apply Kept.ite) | extract_lets | split

theorem State.syncSend_kept {s : State} (h : Kept a s) : Kept a (State.syncSend s) := by
  unfold State.syncSend
  repeat' first | intro _ | with_reducible (first | assumption | apply State.wsLost_kept | apply State.wsPlace_kept | apply State.setFld_kept | apply State.wr_kept | apply State.wsOut_kept | apply State.wsCount_kept | apply Kept.ite) | extract_lets | split

theorem State.shareSend_kept {s : State} (h : Kept a s) : Kept a (State.shareSend s) := by
  unfold State.shareSend
  repeat' first | intro _ | with_reducible (first | assumption | apply State.wsSend_kept | apply forAll_kept | apply State.wr_kept | apply Kept.ite) | extract_lets | split

theorem State.shareTake_kept {s : State} (h : Kept a s) (r : Nat) (addr : Nat) (pos : Nat) (e : List Byte) : Kept a (State.shareTake s r addr pos e) := by
  unfold State.shareTake
  repeat' first | intro _ | with_reducible assumption | (with_reducible apply Kept.with_members; with_reducible assumption) | extract_lets | split

theorem State.shareReceive_kept {s : State} (h : Kept a s) (addr pos n : Nat) (b : List Byte) :
    Kept a (State.shareReceive s addr pos n b) := by
  induction n generalizing s b with
  | zero => exact h
  | succ n ih =>
    refine Kept.ite h (ih ?_ _)
    split
    · exact State.shareTake_kept h _ _ _ _
    · exact h

theorem State.groupJudge_kept {s : State} (h : Kept a s) (r : Nat) : Kept a (State.groupJudge s r) := by
  unfold State.groupJudge
  repeat' first | intro _ | with_reducible (first | assumption | apply State.wrB_kept | apply State.raise_kept | apply Kept.ite) | (with_reducible apply Kept.with_members; with_reducible (first | assumption | apply State.wrB_kept | apply State.raise_kept | apply Kept.ite)) | extract_lets | split

theorem State.groupSums_kept {s : State} (h : Kept a s) (r : Nat) : Kept a (State.groupSums s r) := by
  unfold State.groupSums
  repeat' first | intro _ | with_reducible (first | assumption | apply State.wr_kept | apply foldl_kept | apply Kept.ite) | extract_lets | split

theorem State.groupAge_kept {s : State} (h : Kept a s) (r : Nat) : Kept a (State.groupAge s r) := by
  unfold State.groupAge
  repeat' first | intro _ | with_reducible (first | assumption | apply Kept.ite) | (with_reducible apply Kept.with_members; with_reducible (first | assumption | apply Kept.ite)) | extract_lets | split

theorem State.setTrim_kept {s : State} (h : Kept a s) (r : Nat) (pv : Int) : Kept a (State.setTrim s r pv) := by
  unfold State.setTrim
  repeat' first | intro _ | with_reducible (first | assumption | apply State.wr_kept) | extract_lets | split

theorem State.groupPeriod_kept {s : State} (h : Kept a s) (r : Nat) : Kept a (State.groupPeriod s r) := by
  unfold State.groupPeriod
  repeat' first | intro _ | with_reducible (first | assumption | apply State.groupJudge_kept | apply State.groupSums_kept | apply State.setTrim_kept | apply State.wr_kept | apply State.groupAge_kept | apply Kept.ite) | extract_lets | split

theorem State.memberLoss_kept {s : State} (h : Kept a s) (r : Nat) (addr : Nat) : Kept a (State.memberLoss s r addr) := by
  unfold State.memberLoss
  repeat' first | intro _ | with_reducible (first | assumption | apply State.inc32_kept | apply State.raise_kept | apply State.groupJudge_kept | apply State.groupSums_kept | apply Kept.ite) | (with_reducible apply Kept.with_members; with_reducible (first | assumption | apply State.inc32_kept | apply State.raise_kept | apply State.groupJudge_kept | apply State.groupSums_kept | apply Kept.ite)) | extract_lets | split

theorem State.memberRejoin_kept {s : State} (h : Kept a s) (r : Nat) (addr : Nat) : Kept a (State.memberRejoin s r addr) := by
  unfold State.memberRejoin
  repeat' first | intro _ | with_reducible (first | assumption | apply State.groupJudge_kept | apply State.groupSums_kept | apply Kept.ite) | (with_reducible apply Kept.with_members; with_reducible (first | assumption | apply State.groupJudge_kept | apply State.groupSums_kept | apply Kept.ite)) | extract_lets | split

theorem State.announceReceive_kept {s : State} (h : Kept a s) (addr : Nat) (group : Nat) (annId : Nat) (stepMa : Int) (tGate : Nat) : Kept a (State.announceReceive s addr group annId stepMa tGate) := by
  unfold State.announceReceive
  repeat' first | intro _ | with_reducible (first | assumption | apply State.announce_kept | apply State.shedUndo_kept | apply State.burstEnds_kept | apply State.raiseActive_kept | apply State.wr_kept | apply State.inc16_kept | apply Kept.ite) | (with_reducible apply Kept.with_withdrawn; with_reducible (first | assumption | apply State.announce_kept | apply State.shedUndo_kept | apply State.burstEnds_kept | apply State.raiseActive_kept | apply State.wr_kept | apply State.inc16_kept | apply Kept.ite)) | extract_lets | split

theorem State.withdrawReceive_kept {s : State} (h : Kept a s) (addr : Nat) (group : Nat) (annId : Nat) : Kept a (State.withdrawReceive s addr group annId) := by
  unfold State.withdrawReceive
  repeat' first | intro _ | with_reducible (first | assumption | apply State.annWithdraw_kept | apply Kept.ite) | (with_reducible apply Kept.with_withdrawn; with_reducible (first | assumption | apply State.annWithdraw_kept | apply Kept.ite)) | extract_lets | split

theorem State.remoteGates_kept {s : State} (h : Kept a s) (r : Nat) : Kept a (State.remoteGates s r) := by
  unfold State.remoteGates
  repeat' first | intro _ | with_reducible (first | assumption | apply State.annOpen_kept | apply Kept.ite) | extract_lets | split

theorem State.faultReceive_kept {s : State} (h : Kept a s) (addr : Nat) (group : Nat) (kind : Nat) : Kept a (State.faultReceive s addr group kind) := by
  unfold State.faultReceive
  repeat' first | intro _ | with_reducible (first | assumption | apply State.wr_kept | apply State.railHiccup_kept | apply Kept.ite) | extract_lets | split

theorem State.wsAct_kept {s : State} (h : Kept a s) (type : Nat) (orig : Nat) (addr : Nat) (payload : List Byte) : Kept a (State.wsAct s type orig addr payload) := by
  unfold State.wsAct
  repeat' first | intro _ | with_reducible (first | assumption | apply State.syncReceive_kept | apply State.shareReceive_kept | apply State.announceReceive_kept | apply State.withdrawReceive_kept | apply State.faultReceive_kept | apply Kept.ite) | extract_lets | split

theorem State.wsReceive_kept {s : State} (h : Kept a s) (b : List Byte) (bad : Bool) : Kept a (State.wsReceive s b bad) := by
  unfold State.wsReceive
  repeat' first | intro _ | with_reducible (first | assumption | apply State.wsCount_kept | apply State.inc32_kept | apply State.wsAct_kept | apply State.wsOut_kept | apply State.when_kept | apply State.used_kept | apply Kept.ite) | extract_lets | split

theorem State.loadWindow_kept {s : State} (h : Kept a s) : Kept a (State.loadWindow s) := by
  unfold State.loadWindow
  repeat' first | intro _ | with_reducible (first | assumption | apply State.wr_kept | apply State.add_kept | apply State.raise_kept | apply Kept.ite) | extract_lets | split

theorem State.macLearn_kept {s : State} (h : Kept a s) (c : Nat) (b : List Byte) : Kept a (State.macLearn s c b) := by
  unfold State.macLearn
  repeat' first | intro _ | with_reducible (first | assumption | apply State.wr_kept | apply Kept.ite) | extract_lets | split

theorem State.frameReceive_kept {s : State} (h : Kept a s) (c : Nat) (id : Nat) (b : List Byte) (fcsOk : Bool) : Kept a (State.frameReceive s c id b fcsOk) := by
  unfold State.frameReceive
  repeat' first | intro _ | with_reducible (first | assumption | apply State.inc32_kept | apply State.when_kept | apply State.macLearn_kept | apply Kept.ite) | (with_reducible apply Kept.with_rxbuf; with_reducible (first | assumption | apply State.inc32_kept | apply State.when_kept | apply State.macLearn_kept | apply Kept.ite)) | extract_lets | split

theorem State.moveChunks_kept {s : State} (h : Kept a s) (g n : Nat) (b : List Byte) : Kept a (State.moveChunks s g n b).1 := by
  induction n generalizing s b with
  | zero => exact h
  | succ n ih =>
    unfold State.moveChunks
    split
    · exact h
    · split
      · exact ih (Kept.with_blocks (State.takeBlock_kept h g) _) _
      · exact h

theorem State.twSetPtr_kept {s : State} (h : Kept a s) (k : Nat) (v : Nat) : Kept a (State.twSetPtr s k v) := by
  unfold State.twSetPtr
  repeat' first | intro _ | with_reducible (first | assumption | apply State.wr_kept | apply Kept.ite) | extract_lets | split

theorem State.twLetGo_kept {s : State} (h : Kept a s) (k : Nat) : Kept a (State.twLetGo s k) := by
  unfold State.twLetGo
  repeat' first | intro _ | with_reducible (first | assumption | apply State.wr_kept | apply State.twSetPtr_kept | apply Kept.ite) | extract_lets | split

theorem State.bufferOut_kept {s : State} (h : Kept a s) (c : Nat) : Kept a (State.bufferOut s c) := by
  unfold State.bufferOut
  split
  · exact h
  · split
    · exact h
    · extract_lets r src t
      have g : Kept a t := Kept.with_rxbuf (State.moveChunks_kept h _ _ _) _
      exact Kept.ite (State.twLetGo_kept (State.setBlob_kept (Kept.ite g (Kept.with_rxbuf g _)) _ _) _) g

theorem State.releasePdu_kept {s : State} (h : Kept a s) (c : Nat) : Kept a (State.releasePdu s c) := by
  unfold State.releasePdu
  repeat' first | intro _ | with_reducible (first | assumption | apply State.txFree_kept | apply State.txRetry_kept) | (with_reducible apply Kept.with_outbox; with_reducible (first | assumption | apply State.txFree_kept | apply State.txRetry_kept)) | extract_lets | split

theorem State.fsChange_kept {s : State} (h : Kept a s) (q : Nat) : Kept a (State.fsChange s q) := by
  unfold State.fsChange
  repeat' first | intro _ | with_reducible (first | assumption | apply State.setBlob_kept | apply State.wr_kept | apply State.when_kept | apply Kept.ite) | extract_lets | split

theorem State.fsFollow_kept {s : State} (h : Kept a s) : Kept a (State.fsFollow s) := by
  unfold State.fsFollow
  repeat' first | intro _ | with_reducible (first | assumption | apply forUnits_kept | apply State.fsChange_kept | apply Kept.ite) | extract_lets | split

theorem State.fsReady_kept {s : State} (h : Kept a s) : Kept a (State.fsReady s) := by
  unfold State.fsReady
  repeat' first | intro _ | with_reducible (first | assumption | apply forUnits_kept | apply State.wr_kept | apply State.fsChange_kept) | extract_lets | split

theorem State.snapshot_kept {s : State} (h : Kept a s) (q : Nat) : Kept a (State.snapshot s q).2 := State.fsChange_kept h q

theorem State.drive_kept {s : State} (h : Kept a s) (q : Nat) (b : List Byte) : Kept a (State.drive s q b) := by
  unfold State.drive
  repeat' first | intro _ | with_reducible assumption | (with_reducible apply Kept.with_outbox; with_reducible assumption) | extract_lets | split

theorem State.spiFall_kept {s : State} (h : Kept a s) : Kept a (State.spiFall s).2 := by
  unfold State.spiFall
  split
  · exact State.lampService_kept h _
  · exact State.wr_kept h _ _

theorem State.spiStatus_kept {s : State} (h : Kept a s) (n : Nat) : Kept a (State.spiStatus s n) := by
  unfold State.spiStatus
  repeat' first | intro _ | with_reducible (first | assumption | apply State.spiFall_kept | apply State.snapshot_kept | apply State.drive_kept | apply State.wr_kept | apply Kept.ite) | extract_lets | split

theorem State.spiWrite_kept {s : State} (h : Kept a s) (b : List Byte) : Kept a (State.spiWrite s b) := by
  unfold State.spiWrite
  repeat' first | intro _ | with_reducible (first | assumption | apply State.spiFall_kept | apply State.drive_kept | apply State.inc32_kept | apply State.wr_kept | apply Kept.ite) | (with_reducible apply Kept.with_rxbuf; with_reducible (first | assumption | apply State.spiFall_kept | apply State.drive_kept | apply State.inc32_kept | apply State.wr_kept | apply Kept.ite)) | extract_lets | split

theorem State.spiRead_kept {s : State} (h : Kept a s) (n : Nat) : Kept a (State.spiRead s n) := by
  unfold State.spiRead
  repeat' first | intro _ | with_reducible (first | assumption | apply State.spiFall_kept | apply State.drive_kept | apply State.wr_kept | apply Kept.ite) | extract_lets | split

theorem State.spiRise_kept {s : State} (h : Kept a s) : Kept a (State.spiRise s) := by
  unfold State.spiRise
  repeat' first | intro _ | with_reducible (first | assumption | apply State.wr_kept | apply State.inc32_kept | apply State.releasePdu_kept | apply Kept.ite) | extract_lets | split

theorem State.twStart_kept {s : State} (h : Kept a s) (k : Nat) : Kept a (State.twStart s k) := by
  unfold State.twStart
  repeat' first | intro _ | with_reducible (first | assumption | apply State.lampService_kept | apply State.wr_kept | apply State.wrB_kept) | extract_lets | split

theorem State.twPoint_kept {s : State} (h : Kept a s) (k : Nat) (v : Nat) : Kept a (State.twPoint s k v) := by
  unfold State.twPoint
  repeat' first | intro _ | with_reducible (first | assumption | apply State.twStart_kept | apply State.wr_kept | apply State.twSetPtr_kept | apply Kept.ite) | extract_lets | split

theorem State.twFill_kept {s : State} (h : Kept a s) (k : Nat) (b : List Byte) : Kept a (State.twFill s k b) := by
  unfold State.twFill
  repeat' first | intro _ | with_reducible (first | assumption | apply State.setBlob_kept | apply State.wr_kept | apply Kept.ite) | (with_reducible apply Kept.with_rxbuf; with_reducible (first | assumption | apply State.setBlob_kept | apply State.wr_kept | apply Kept.ite)) | extract_lets | split

theorem State.twWrite_kept {s : State} (h : Kept a s) (k : Nat) (b : List Byte) : Kept a (State.twWrite s k b) := by
  unfold State.twWrite
  repeat' first | intro _ | with_reducible (first | assumption | apply State.add_kept | apply State.wr_kept | apply State.twFill_kept | apply Kept.ite) | extract_lets | split

theorem State.twStatus_kept {s : State} (h : Kept a s) (k : Nat) (n : Nat) : Kept a (State.twStatus s k n) := by
  unfold State.twStatus
  repeat' first | intro _ | with_reducible (first | assumption | apply State.snapshot_kept | apply State.drive_kept | apply State.wr_kept | apply Kept.ite) | extract_lets | split

theorem State.twRead_kept {s : State} (h : Kept a s) (k : Nat) (n : Nat) : Kept a (State.twRead s k n) := by
  unfold State.twRead
  repeat' first | intro _ | with_reducible (first | assumption | apply State.drive_kept | apply State.wr_kept | apply State.twStatus_kept | apply Kept.ite) | extract_lets | split

theorem State.twStop_kept {s : State} (h : Kept a s) (k : Nat) : Kept a (State.twStop s k) := by
  unfold State.twStop
  repeat' first | intro _ | with_reducible (first | assumption | apply State.setBlob_kept | apply State.inc32_kept | apply State.releasePdu_kept | apply State.wr_kept | apply Kept.ite) | extract_lets | split

theorem State.twIdle_kept {s : State} (h : Kept a s) (k : Nat) : Kept a (State.twIdle s k) := by
  unfold State.twIdle
  repeat' first | intro _ | with_reducible (first | assumption | apply State.wr_kept) | extract_lets | split

theorem State.twLoss_kept {s : State} (h : Kept a s) (k : Nat) : Kept a (State.twLoss s k) := by
  unfold State.twLoss
  repeat' first | intro _ | with_reducible (first | assumption | apply State.wr_kept | apply State.add_kept | apply State.releasePdu_kept | apply State.dropBlock_kept | apply Kept.ite) | extract_lets | split

theorem State.twSees_kept {s : State} (h : Kept a s) (k : Nat) (e : BusEvent) : Kept a (State.twSees s k e) := by
  unfold State.twSees
  repeat' first | intro _ | with_reducible (first | assumption | apply State.twStop_kept | apply State.twIdle_kept | apply Kept.ite) | extract_lets | split

theorem State.twMasterSees_kept {s : State} (h : Kept a s) (k : Nat) (e : BusEvent) : Kept a (State.twMasterSees s k e) := by
  unfold State.twMasterSees
  repeat' first | intro _ | with_reducible (first | assumption | apply State.when_kept | apply State.releasePdu_kept | apply State.wr_kept | apply State.twIdle_kept | apply State.inc32_kept | apply State.twLoss_kept | apply Kept.ite) | extract_lets | split

theorem State.twGo_kept {s : State} (h : Kept a s) (k : Nat) : Kept a (State.twGo s k) := by
  unfold State.twGo
  repeat' first | intro _ | with_reducible (first | assumption | apply State.drive_kept | apply State.wr_kept | apply Kept.ite) | extract_lets | split

theorem State.linkFollow_kept {s : State} (h : Kept a s) : Kept a (State.linkFollow s) := by
  unfold State.linkFollow
  repeat' first | intro _ | with_reducible (first | assumption | apply State.twGo_kept | apply State.fsFollow_kept) | extract_lets | split

theorem State.twReset_kept {s : State} (h : Kept a s) (k : Nat) : Kept a (State.twReset s k) := by
  unfold State.twReset
  repeat' first | intro _ | with_reducible (first | assumption | apply State.setBlob_kept | apply State.wr_kept | apply State.twIdle_kept) | extract_lets | split

theorem State.twTimeout_kept {s : State} (h : Kept a s) (k : Nat) : Kept a (State.twTimeout s k) := by
  unfold State.twTimeout
  repeat' first | intro _ | with_reducible (first | assumption | apply State.twReset_kept | apply State.wr_kept | apply State.inc32_kept | apply State.raise_kept) | extract_lets | split

theorem State.busClear_kept {s : State} (h : Kept a s) (k : Nat) (freed : Bool) : Kept a (State.busClear s k freed) := by
  unfold State.busClear
  repeat' first | intro _ | with_reducible (first | assumption | apply State.inc32_kept | apply State.wr_kept | apply State.setFld_kept | apply State.raise_kept | apply Kept.ite) | extract_lets | split

theorem State.portReset_kept {s : State} (h : Kept a s) (c : Nat) : Kept a (State.portReset s c) := by
  unfold State.portReset
  repeat' first | intro _ | with_reducible (first | assumption | apply State.txFree_kept | apply State.wr_kept | apply State.twReset_kept | apply Kept.ite) | (with_reducible apply Kept.with_txWait_rxbuf_canParts_outbox; with_reducible (first | assumption | apply State.txFree_kept | apply State.wr_kept | apply State.twReset_kept | apply Kept.ite)) | extract_lets | split

theorem State.wantReset_kept {s : State} (h : Kept a s) (c : Nat) : Kept a (State.wantReset s c) := by
  unfold State.wantReset
  repeat' first | intro _ | with_reducible (first | assumption | apply State.setFld_kept) | extract_lets | split

theorem State.epochEval_kept {s : State} (h : Kept a s) : Kept a (State.epochEval s) := by
  unfold State.epochEval
  repeat' first | intro _ | with_reducible (first | assumption | apply State.setBit_kept | apply State.raise_kept | apply Kept.ite) | extract_lets | split

theorem State.imgFails_kept {s : State} (h : Kept a s) (f : Nat) : Kept a (State.imgFails s f) := by
  unfold State.imgFails
  repeat' first | intro _ | with_reducible (first | assumption | apply State.setFld_kept | apply State.raise_kept) | extract_lets | split

theorem State.describeBank_kept {s : State} (h : Kept a s) (b : Nat) (h : List Byte) : Kept a (State.describeBank s b h) := by
  unfold State.describeBank
  repeat' first | intro _ | with_reducible (first | assumption | apply State.wr_kept) | extract_lets | split

theorem State.nvmStart_kept {s : State} (h : Kept a s) (owner : Nat) (op : Bool × Nat) : Kept a (State.nvmStart s owner op) := by
  unfold State.nvmStart
  repeat' first | intro _ | with_reducible (first | assumption | apply State.setFld_kept | apply State.wr_kept | apply State.when_kept | apply Kept.ite) | extract_lets | split

theorem State.nvmKick_kept {s : State} (h : Kept a s) (named : Nat) : Kept a (State.nvmKick s named) := by
  unfold State.nvmKick
  repeat' first | intro _ | with_reducible (first | assumption | apply State.nvmStart_kept | apply Kept.ite) | extract_lets | split

theorem State.bootEntry_kept {s : State} (h : Kept a s) (bank : Nat) (st : Nat) (act : Nat) : Kept a (State.bootEntry s bank st act) := by
  unfold State.bootEntry
  repeat' first | intro _ | with_reducible (first | assumption | apply State.nvmKick_kept) | (with_reducible apply Kept.with_bootQ; with_reducible (first | assumption | apply State.nvmKick_kept)) | extract_lets | split

theorem State.activity_kept {s : State} (h : Kept a s) (v : Nat) : Kept a (State.activity s v) := by
  unfold State.activity
  repeat' first | intro _ | with_reducible (first | assumption | apply State.setFld_kept) | extract_lets | split

theorem State.g24Follow_kept {s : State} (h : Kept a s) (old : State) : Kept a (State.g24Follow s old) := by
  unfold State.g24Follow
  repeat' first | intro _ | with_reducible (first | assumption | apply State.used_kept | apply State.wr_kept) | extract_lets | split

theorem State.nvmStrays_kept {s : State} (h : Kept a s) : Kept a (State.nvmStrays s) := by
  unfold State.nvmStrays
  repeat' first | intro _ | with_reducible (first | assumption | apply State.wr_kept | apply Kept.ite) | extract_lets | split

theorem State.instEnd_kept {s0 : State} (h : Kept a s0) : Kept a (State.instEnd s0) := by
  unfold State.instEnd
  repeat' first | intro _ | with_reducible (first | assumption | apply State.nvmStrays_kept | apply State.wr_kept | apply State.setBlob_kept | apply State.activity_kept | apply State.g24Follow_kept) | extract_lets | split

theorem State.instStart_kept {s0 : State} (h : Kept a s0) (src : Nat) (h : List Byte) (data : List Byte) : Kept a (State.instStart s0 src h data) := by
  unfold State.instStart
  repeat' first | intro _ | with_reducible (first | assumption | apply State.nvmStrays_kept | apply State.wr_kept | apply State.activity_kept | apply State.setBlob_kept | apply State.nvmKick_kept | apply State.bootEntry_kept | apply Kept.ite) | extract_lets | split

theorem State.instJudge_kept {s : State} (h : Kept a s) : Kept a (State.instJudge s) := by
  unfold State.instJudge
  repeat' first | intro _ | with_reducible (first | assumption | apply State.activity_kept | apply State.wr_kept | apply State.bootEntry_kept | apply State.imgFails_kept | apply Kept.ite) | extract_lets | split

theorem State.instFlush_kept {s0 : State} (h : Kept a s0) : Kept a (State.instFlush s0) := by
  unfold State.instFlush
  repeat' first | intro _ | with_reducible (first | assumption | apply State.nvmStrays_kept | apply State.setBlob_kept | apply State.wr_kept | apply State.describeBank_kept | apply State.setFld_kept | apply State.g24Follow_kept) | extract_lets | split

theorem State.sectorErased_kept {s : State} (h : Kept a s) (b : Nat) (off : Nat) : Kept a (State.sectorErased s b off) := by
  unfold State.sectorErased
  repeat' first | intro _ | with_reducible (first | assumption | apply State.setBlob_kept | apply State.when_kept | apply State.describeBank_kept) | extract_lets | split

theorem State.instStep_kept {s : State} (h : Kept a s) (erase : Bool) : Kept a (State.instStep s erase) := by
  unfold State.instStep
  repeat' first | intro _ | with_reducible (first | assumption | apply State.sectorErased_kept | apply State.wr_kept | apply State.setBlob_kept | apply State.describeBank_kept | apply State.g24Follow_kept | apply Kept.ite) | extract_lets | split

theorem State.trialStop_kept {s : State} (h : Kept a s) : Kept a (State.trialStop s) := by
  unfold State.trialStop
  repeat' first | intro _ | with_reducible (first | assumption | apply State.wr_kept) | extract_lets | split

theorem State.rollbackUp_kept {s : State} (h : Kept a s) (b : Nat) : Kept a (State.rollbackUp s b) := by
  unfold State.rollbackUp
  repeat' first | intro _ | with_reducible (first | assumption | apply State.wr_kept) | extract_lets | split

theorem State.trialReject_kept {s : State} (h : Kept a s) (b : Nat) : Kept a (State.trialReject s b) := by
  unfold State.trialReject
  repeat' first | intro _ | with_reducible (first | assumption | apply State.trialStop_kept | apply State.setFld_kept | apply State.inc16_kept | apply State.raise_kept) | extract_lets | split

theorem State.bootApply_kept {s : State} (h : Kept a s) (e : BootEntry) : Kept a (State.bootApply s e) := by
  unfold State.bootApply
  repeat' first | intro _ | with_reducible (first | assumption | apply State.wr_kept | apply State.setFld_kept | apply State.wantReset_kept | apply State.trialStop_kept | apply State.rollbackUp_kept | apply State.trialReject_kept | apply State.instEnd_kept | apply State.describeBank_kept | apply Kept.ite) | (with_reducible apply Kept.with_bootQ; with_reducible (first | assumption | apply State.wr_kept | apply State.setFld_kept | apply State.wantReset_kept | apply State.trialStop_kept | apply State.rollbackUp_kept | apply State.trialReject_kept | apply State.instEnd_kept | apply State.describeBank_kept | apply Kept.ite)) | extract_lets | split

theorem State.bootCut_kept {s : State} (h : Kept a s) : Kept a (State.bootCut s) := by
  unfold State.bootCut
  repeat' first | intro _ | with_reducible (first | assumption | apply State.wr_kept | apply State.bootApply_kept | apply State.when_kept | apply Kept.ite) | (with_reducible apply Kept.with_bootQ; with_reducible (first | assumption | apply State.wr_kept | apply State.bootApply_kept | apply State.when_kept | apply Kept.ite)) | extract_lets | split

theorem State.nvmStep_kept {s : State} (h : Kept a s) (owner : Nat) (erase : Bool) : Kept a (State.nvmStep s owner erase) := by
  have hb : Kept a ((s.bootQ.head?.map (s.wr Reg.bootWord 0).bootApply).getD s) := by
    cases s.bootQ.head? with
    | none => exact h
    | some x => exact State.bootApply_kept (State.wr_kept h _ _) x
  unfold State.nvmStep
  repeat' first | with_reducible (first | assumption | apply State.wr_kept | apply State.setBlob_kept | apply State.instJudge_kept | apply State.instStep_kept | apply State.bootEntry_kept | apply State.g24Follow_kept | apply State.plOpDone_kept | apply State.setFld_kept | apply Kept.ite) | extract_lets | split

theorem State.saveSpoils_kept {s : State} (h : Kept a s) : Kept a (State.saveSpoils s) := by
  unfold State.saveSpoils
  repeat' first | intro _ | with_reducible (first | assumption | apply Kept.ite) | (with_reducible apply Kept.with_copies; with_reducible (first | assumption | apply Kept.ite)) | extract_lets | split

theorem State.saveDrop_kept {s : State} (h : Kept a s) : Kept a (State.saveDrop s) := by
  unfold State.saveDrop
  repeat' first | intro _ | with_reducible (first | assumption | apply State.saveSpoils_kept | apply State.wr_kept | apply State.setFld_kept) | (with_reducible apply Kept.with_saving; with_reducible (first | assumption | apply State.saveSpoils_kept | apply State.wr_kept | apply State.setFld_kept)) | extract_lets | split

theorem State.nvmHalt_kept {s : State} (h : Kept a s) : Kept a (State.nvmHalt s) := by
  unfold State.nvmHalt
  repeat' first | intro _ | with_reducible (first | assumption | apply State.saveDrop_kept | apply State.bootCut_kept | apply State.instEnd_kept | apply State.wr_kept) | extract_lets | split

theorem State.strayDone_kept {s : State} (h : Kept a s) (ok : Bool) (erase : Bool) : Kept a (State.strayDone s ok erase) := by
  unfold State.strayDone
  repeat' first | intro _ | with_reducible (first | assumption | apply State.wr_kept | apply State.sectorErased_kept | apply Kept.ite) | extract_lets | split

theorem State.nvmLost_kept {s : State} (h : Kept a s) (owner : Nat) : Kept a (State.nvmLost s owner) := by
  unfold State.nvmLost
  repeat' first | intro _ | with_reducible (first | assumption | apply State.raise_kept | apply State.saveDrop_kept | apply State.wr_kept | apply State.instEnd_kept | apply State.wrB_kept | apply State.setFld_kept | apply State.plOpLost_kept | apply Kept.ite) | (with_reducible apply Kept.with_bootQ; with_reducible (first | assumption | apply State.raise_kept | apply State.saveDrop_kept | apply State.wr_kept | apply State.instEnd_kept | apply State.wrB_kept | apply State.setFld_kept | apply State.plOpLost_kept | apply Kept.ite)) | extract_lets | split

theorem State.nvmDone_kept {s : State} (h : Kept a s) (ok : Bool) (owner : Nat) : Kept a (State.nvmDone s ok owner) := by
  unfold State.nvmDone
  repeat' first | intro _ | with_reducible (first | assumption | apply State.wr_kept | apply State.setFld_kept | apply State.strayDone_kept | apply State.nvmStep_kept | apply State.nvmLost_kept | apply State.nvmStart_kept | apply State.nvmHalt_kept | apply State.nvmKick_kept | apply Kept.ite) | extract_lets | split

theorem State.nvmReset_kept {s : State} (h : Kept a s) (die : Bool) : Kept a (State.nvmReset s die) := by
  unfold State.nvmReset
  repeat' first | intro _ | with_reducible (first | assumption | apply State.wr_kept | apply State.setFld_kept | apply State.strayDone_kept | apply State.nvmStep_kept | apply State.nvmHalt_kept | apply Kept.ite) | extract_lets | split

theorem State.eraseAgain_kept {s : State} (h : Kept a s) : Kept a (State.eraseAgain s) := by
  unfold State.eraseAgain
  repeat' first | intro _ | with_reducible (first | assumption | apply State.wr_kept | apply State.setBlob_kept | apply State.sectorErased_kept) | extract_lets | split

theorem State.nvmRecover_kept {s : State} (h : Kept a s) : Kept a (State.nvmRecover s) := by
  unfold State.nvmRecover
  repeat' first | intro _ | with_reducible (first | assumption | apply State.wr_kept | apply State.when_kept | apply State.setFld_kept | apply State.eraseAgain_kept | apply State.inc16_kept | apply State.raise_kept | apply Kept.ite) | extract_lets | split

theorem State.bootFrom_kept {s : State} (h : Kept a s) (b : Nat) : Kept a (State.bootFrom s b) := by
  unfold State.bootFrom
  repeat' first | intro _ | with_reducible (first | assumption | apply State.wr_kept | apply State.setFld_kept | apply State.rollbackUp_kept | apply State.epochEval_kept | apply Kept.ite) | extract_lets | split

theorem State.bootService_kept {s : State} (h : Kept a s) (intact : Nat → Bool) : Kept a (State.bootService s intact) := by
  unfold State.bootService
  repeat' first | intro _ | with_reducible (first | assumption | apply State.bootFrom_kept | apply State.setFld_kept | apply State.raise_kept | apply Kept.ite) | extract_lets | split

theorem State.bootChoose_kept {s : State} (h : Kept a s) (intact : Nat → Bool) : Kept a (State.bootChoose s intact) := by
  unfold State.bootChoose
  repeat' first | intro _ | with_reducible (first | assumption | apply State.trialReject_kept | apply State.bootService_kept | apply State.inc8_kept | apply State.wr_kept | apply State.bootFrom_kept | apply Kept.ite) | extract_lets | split

theorem State.cardGone_kept {s : State} (h : Kept a s) : Kept a (State.cardGone s) := by
  unfold State.cardGone
  repeat' first | intro _ | with_reducible (first | assumption | apply State.instEnd_kept | apply State.setFld_kept | apply State.wr_kept | apply State.activity_kept | apply State.setBlob_kept | apply State.raise_kept | apply Kept.ite) | extract_lets | split

theorem State.cardRead_kept {s0 : State} (h : Kept a s0) (c : CardTable) (content : List Byte) : Kept a (State.cardRead s0 c content) := by
  unfold State.cardRead
  repeat' first | intro _ | with_reducible (first | assumption | apply State.wr_kept | apply State.setBlob_kept | apply State.imgFails_kept | apply Kept.ite) | extract_lets | split

theorem State.updCmd_kept {s : State} (h : Kept a s) (v : Nat) : Kept a (State.updCmd s v) := by
  have hb : Kept a ((s.trialBank.map fun b => s.bootEntry b 6 4).getD s) := by
    cases s.trialBank with
    | none => exact h
    | some x => exact State.bootEntry_kept h x 6 4
  unfold State.updCmd
  repeat' first | with_reducible (first | assumption | apply State.wr_kept | apply State.instStart_kept | apply State.bootEntry_kept | apply State.nvmKick_kept | apply State.setFld_kept) | split

theorem State.saveStart_kept {s : State} (h : Kept a s) (c : ConfigCopy) : Kept a (State.saveStart s c) := by
  unfold State.saveStart
  repeat' first | intro _ | with_reducible (first | assumption | apply State.wr_kept | apply State.setFld_kept | apply State.nvmKick_kept) | (with_reducible apply Kept.with_saving; with_reducible (first | assumption | apply State.wr_kept | apply State.setFld_kept | apply State.nvmKick_kept)) | extract_lets | split

theorem State.svcOpen_kept {s : State} (h : Kept a s) (q : Req) (body : List Byte) : Kept a (State.svcOpen s q body) := by
  unfold State.svcOpen
  repeat' first | intro _ | with_reducible (first | assumption | apply State.reject_kept | apply State.used_kept | apply State.respond_kept | apply Kept.ite) | (with_reducible apply Kept.with_opens; with_reducible (first | assumption | apply State.reject_kept | apply State.used_kept | apply State.respond_kept | apply Kept.ite)) | extract_lets | split

theorem State.proveFails_kept {s : State} (h : Kept a s) : Kept a (State.proveFails s) := by
  unfold State.proveFails
  repeat' first | intro _ | with_reducible (first | assumption | apply State.inc32_kept | apply State.raise_kept) | extract_lets | split

theorem State.proveRejected_kept {s : State} (h : Kept a s) (r : Req) (abort : Nat) : Kept a (State.proveRejected s r abort) := by
  unfold State.proveRejected
  repeat' first | intro _ | with_reducible (first | assumption | apply State.reject_kept) | (with_reducible apply Kept.with_sessions; with_reducible (first | assumption | apply State.reject_kept)) | extract_lets | split

theorem State.svcProve_kept {s : State} (h : Kept a s) (q : Req) (body : List Byte) (fresh : Nat) : Kept a (State.svcProve s q body fresh) := by
  unfold State.svcProve
  repeat' first | intro _ | with_reducible (first | assumption | apply State.proveFails_kept | apply State.proveRejected_kept | apply State.respond_kept | apply Kept.ite) | (with_reducible apply Kept.with_opens_sessions; with_reducible (first | assumption | apply State.proveFails_kept | apply State.proveRejected_kept | apply State.respond_kept | apply Kept.ite)) | extract_lets | split

theorem State.svcClose_kept {s : State} (h : Kept a s) (q : Req) (body : List Byte) : Kept a (State.svcClose s q body) := by
  unfold State.svcClose
  repeat' first | intro _ | with_reducible (first | assumption | apply State.reject_kept | apply State.respond_kept | apply State.closeSession_kept | apply Kept.ite) | extract_lets | split

theorem State.keyStore_kept {s : State} (h : Kept a s) (k : Nat) (key : List Byte) : Kept a (State.keyStore s k key) := by
  unfold State.keyStore
  repeat' first | intro _ | with_reducible (first | assumption | apply State.setBlob_kept | apply State.setFld_kept | apply forUnits_kept | apply State.wr_kept | apply Kept.ite) | (with_reducible apply Kept.with_sessions_opens; with_reducible (first | assumption | apply State.setBlob_kept | apply State.setFld_kept | apply forUnits_kept | apply State.wr_kept | apply Kept.ite)) | extract_lets | split

theorem State.keyCommit_kept {s : State} (h : Kept a s) (q : Req) (k : Nat) (data : List Byte) : Kept a (State.keyCommit s q k data) := by
  have hb : ∀ o : Option (List Nat), Kept a ((o.map fun key => s.keyStore k (bytesOf key)).getD s) := by
    intro o
    cases o with
    | none => exact h
    | some x => exact State.keyStore_kept h k _
  unfold State.keyCommit
  split
  · exact State.keyStore_kept h k _
  · split
    · exact hb _
    · exact h

theorem State.rma_kept {s : State} (h : Kept a s) : Kept a (State.rma s) := by
  unfold State.rma
  repeat' first | intro _ | with_reducible (first | assumption | apply forUnits_kept | apply State.setBlob_kept | apply State.setFld_kept | apply State.wr_kept) | (with_reducible apply Kept.with_sessions_opens; with_reducible (first | assumption | apply forUnits_kept | apply State.setBlob_kept | apply State.setFld_kept | apply State.wr_kept)) | extract_lets | split

theorem State.secureZero_kept {s : State} (h : Kept a s) : Kept a (State.secureZero s) := by
  unfold State.secureZero
  repeat' first | intro _ | with_reducible (first | assumption | apply State.wr_kept) | (with_reducible apply Kept.with_blocks_transfers; with_reducible (first | assumption | apply State.wr_kept)) | extract_lets | split

theorem State.debugEnter_kept {s : State} (h : Kept a s) (scan : Bool) (ok : Bool) : Kept a (State.debugEnter s scan ok) := by
  unfold State.debugEnter
  repeat' first | intro _ | with_reducible (first | assumption | apply State.secureZero_kept | apply State.setFld_kept | apply State.mark_kept | apply State.raise_kept | apply State.wr_kept | apply Kept.ite) | (with_reducible apply Kept.with_sessions_opens; with_reducible (first | assumption | apply State.secureZero_kept | apply State.setFld_kept | apply State.mark_kept | apply State.raise_kept | apply State.wr_kept | apply Kept.ite)) | extract_lets | split

theorem State.debugPort_kept {s : State} (h : Kept a s) (ok : Bool) : Kept a (State.debugPort s ok) := by
  unfold State.debugPort
  repeat' first | intro _ | with_reducible (first | assumption | apply State.wr_kept | apply State.debugEnter_kept | apply Kept.ite) | extract_lets | split

theorem State.svcOffer_kept {s : State} (h : Kept a s) (q : Req) (body : List Byte) : Kept a (State.svcOffer s q body) := by
  unfold State.svcOffer
  repeat' first | intro _ | with_reducible (first | assumption | apply State.reject_kept | apply State.imgFails_kept | apply State.instStart_kept | apply State.respond_kept | apply Kept.ite) | extract_lets | split

theorem State.imgTake_kept {s t : State} (h : Kept a s) (d : List Byte) (e : State.imgTake s d = some t) : Kept a t := by
  unfold State.imgTake at e
  obtain ⟨u, hu, rfl⟩ := Option.map_eq_some_iff.mp e
  with_reducible exact State.wr_kept (State.setBlob_kept (State.takeBlocks_kept h _ _ hu) _ _) _ _

theorem State.svcData_kept {s : State} (h : Kept a s) (q : Req) (body : List Byte) : Kept a (State.svcData s q body) := by
  unfold State.svcData
  repeat' first | intro _ | with_reducible (first | assumption | apply State.reject_kept | apply State.instEnd_kept | apply State.wr_kept | apply State.respond_kept | apply State.nvmKick_kept | apply Kept.ite) | extract_lets | split
  rename_i e
  exact State.imgTake_kept h _ e

theorem State.imgEnd_kept {s : State} (h : Kept a s) : Kept a (State.imgEnd s).2.2 := by
  unfold State.imgEnd
  split
  · with_reducible exact State.wr_kept h _ _
  · split
    · exact h
    · split
      · with_reducible exact State.instEnd_kept h
      · split
        · with_reducible exact State.wr_kept h _ _
        · dsimp only
          with_reducible apply State.instJudge_kept
          with_reducible apply Kept.with_bootQ
          with_reducible exact State.instFlush_kept h

theorem State.svcQuery_kept {s : State} (h : Kept a s) (q : Req) (body : List Byte) : Kept a (State.svcQuery s q body) := by
  unfold State.svcQuery
  repeat' first | intro _ | with_reducible (first | assumption | apply State.reject_kept | apply State.respond_kept | apply Kept.ite) | extract_lets | split

theorem State.relayStatus_kept {s : State} (h : Kept a s) (st : Nat) (abort : Nat) : Kept a (State.relayStatus s st abort) := by
  unfold State.relayStatus
  repeat' first | intro _ | with_reducible (first | assumption | apply State.wr_kept) | extract_lets | split

theorem State.relayEnd_kept {s : State} (h : Kept a s) (st : Nat) (abort : Nat) : Kept a (State.relayEnd s st abort) := by
  unfold State.relayEnd
  repeat' first | intro _ | with_reducible (first | assumption | apply State.relayStatus_kept | apply State.wr_kept | apply State.activity_kept) | extract_lets | split

theorem State.relayAsk_kept {s : State} (h : Kept a s) (step : Nat) (svc : Nat) (body : List Byte) : Kept a (State.relayAsk s step svc body) := by
  unfold State.relayAsk
  repeat' first | intro _ | with_reducible (first | assumption | apply State.wr_kept | apply State.sendAuthed_kept) | extract_lets | split

theorem State.relayStart_kept {s : State} (h : Kept a s) : Kept a (State.relayStart s) := by
  unfold State.relayStart
  repeat' first | intro _ | with_reducible (first | assumption | apply State.used_kept | apply State.setBlob_kept | apply State.activity_kept | apply State.relayStatus_kept | apply State.wr_kept | apply State.sendAsk_kept) | extract_lets | split

theorem State.relayNext_kept {s : State} (h : Kept a s) : Kept a (State.relayNext s) := by
  unfold State.relayNext
  repeat' first | intro _ | with_reducible (first | assumption | apply State.relayAsk_kept | apply State.wr_kept | apply Kept.ite) | extract_lets | split

theorem State.relayResponse_kept {s : State} (h : Kept a s) (abort : Nat) (body : List Byte) : Kept a (State.relayResponse s abort body) := by
  unfold State.relayResponse
  repeat' first | intro _ | with_reducible (first | assumption | apply State.relayEnd_kept | apply State.relayAsk_kept | apply State.wr_kept | apply State.relayNext_kept | apply Kept.ite) | (with_reducible apply Kept.with_sessions; with_reducible (first | assumption | apply State.relayEnd_kept | apply State.relayAsk_kept | apply State.wr_kept | apply State.relayNext_kept | apply Kept.ite)) | extract_lets | split

theorem State.forget_kept {s : State} (h : Kept a s) (keep : Nat → Bool) : Kept a (State.forget s keep) :=
  ⟨fun w => ⟨storeCanon_filter _ (h.wf w).1, blobsCanon_filter _ (h.wf w).2.1, (h.wf w).2.2⟩, h.queue, h.fresh⟩

theorem State.dropPdus_kept {s : State} (h : Kept a s) : Kept a (State.dropPdus s) := by
  unfold State.dropPdus
  repeat' first | intro _ | with_reducible assumption | (with_reducible apply Kept.with_outbox; with_reducible assumption) | extract_lets | split

theorem State.epochDown_kept {s : State} (h : Kept a s) : Kept a (State.epochDown s) := by
  unfold State.epochDown
  repeat' first | intro _ | with_reducible (first | assumption | apply State.wr_kept | apply State.epochFail_kept | apply forAll_kept | apply State.inc32_kept | apply State.raise_kept | apply State.epochOver_kept | apply Kept.ite) | extract_lets | split

theorem State.procDown_kept {s : State} (h : Kept a s) (capCause : Nat) (die : Bool) : Kept a (State.procDown s capCause die) := by
  unfold State.procDown
  repeat' first | intro _ | with_reducible (first | assumption | apply State.capReset_kept | apply State.epochDown_kept | apply State.nvmReset_kept | apply State.dropPdus_kept | apply State.forget_kept | apply State.wr_kept | apply State.setFld_kept | apply Kept.ite) | (with_reducible apply Kept.with_notices_blocks_txWait_ifwDue_transfers_asks_rxbuf_canParts_sessions_opens_live; with_reducible (first | assumption | apply State.capReset_kept | apply State.epochDown_kept | apply State.nvmReset_kept | apply State.dropPdus_kept | apply State.forget_kept | apply State.wr_kept | apply State.setFld_kept | apply Kept.ite)) | extract_lets | split

theorem State.recordReset_kept {s : State} (h : Kept a s) (level : Nat) (cause : Nat) : Kept a (State.recordReset s level cause) := by
  unfold State.recordReset
  repeat' first | intro _ | with_reducible (first | assumption | apply State.wr_kept) | extract_lets | split

theorem State.watchBack_kept {s : State} (h : Kept a s) : Kept a (State.watchBack s) := by
  unfold State.watchBack
  repeat' first | intro _ | with_reducible (first | assumption | apply State.putBack_kept | apply Kept.ite) | extract_lets | split

theorem State.procStart_kept {s : State} (h : Kept a s) (causes : Nat) : Kept a (State.procStart s causes) := by
  unfold State.procStart
  repeat' first | intro _ | with_reducible (first | assumption | apply State.mark_kept | apply State.recordReset_kept | apply State.noteBefore_kept | apply State.inc32_kept | apply State.stage_kept | apply State.wr_kept | apply State.procDown_kept | apply Kept.ite) | extract_lets | split

theorem State.procUndo_kept {s : State} (h : Kept a s) : Kept a (State.procUndo s) := by
  unfold State.procUndo
  repeat' first | intro _ | with_reducible (first | assumption | apply State.wr_kept | apply State.setStaged_kept) | extract_lets | split

theorem State.procEnd_kept {s : State} (h : Kept a s) : Kept a (State.procEnd s) := by
  unfold State.procEnd
  repeat' first | intro _ | with_reducible (first | assumption | apply State.wr_kept) | extract_lets | split

theorem State.ppStamp_kept {s : State} (h : Kept a s) : Kept a (State.ppStamp s) := by
  unfold State.ppStamp
  repeat' first | intro _ | with_reducible (first | assumption | apply State.wr_kept) | extract_lets | split

theorem State.ppLeave_kept {s : State} (h : Kept a s) : Kept a (State.ppLeave s) := by
  unfold State.ppLeave
  repeat' first | intro _ | with_reducible (first | assumption | apply forUnits_kept | apply State.wsFault_kept | apply State.wsStop_kept | apply State.slStop_kept | apply State.setFld_kept | apply State.wr_kept | apply Kept.ite) | extract_lets | split

theorem State.enDeassert_kept {s : State} (h : Kept a s) (old : State) : Kept a (State.enDeassert s old) := by
  unfold State.enDeassert
  repeat' first | intro _ | with_reducible (first | assumption | apply forUnits_kept | apply State.wr_kept | apply State.enPins_kept) | extract_lets | split

theorem State.holdRecord_kept {s : State} (h : Kept a s) : Kept a (State.holdRecord s) := by
  unfold State.holdRecord
  repeat' first | intro _ | with_reducible (first | assumption | apply State.wr_kept) | extract_lets | split

theorem State.holdBroken_kept {s : State} (h : Kept a s) : Kept a (State.holdBroken s) := by
  unfold State.holdBroken
  repeat' first | intro _ | with_reducible (first | assumption | apply State.when_kept | apply State.holdRecord_kept) | extract_lets | split

theorem State.ppNote_kept {s : State} (h : Kept a s) : Kept a (State.ppNote s) := by
  unfold State.ppNote
  repeat' first | intro _ | with_reducible (first | assumption | apply State.noteBefore_kept | apply State.mark_kept | apply State.when_kept | apply Kept.ite) | extract_lets | split

theorem State.ppStart_kept {s0 : State} (h : Kept a s0) : Kept a (State.ppStart s0) := by
  unfold State.ppStart
  repeat' first | intro _ | with_reducible (first | assumption | apply State.procUndo_kept | apply State.holdBroken_kept | apply State.ppNote_kept | apply State.recordReset_kept | apply State.wr_kept | apply State.inc16_kept | apply State.stage_kept | apply State.ppStamp_kept | apply State.ppLeave_kept | apply State.procDown_kept | apply State.forget_kept | apply State.setFld_kept | apply State.enDeassert_kept | apply State.wrB_kept | apply Kept.ite) | (with_reducible apply Kept.with_raiseQ_reactions_anns_members_withdrawn_grants_dues_deferred_onOrder_shedList_powerIn_loopWrites_borrowed_lent_capFrames_capEvents; with_reducible (first | assumption | apply State.procUndo_kept | apply State.holdBroken_kept | apply State.ppNote_kept | apply State.recordReset_kept | apply State.wr_kept | apply State.inc16_kept | apply State.stage_kept | apply State.ppStamp_kept | apply State.ppLeave_kept | apply State.procDown_kept | apply State.forget_kept | apply State.setFld_kept | apply State.enDeassert_kept | apply State.wrB_kept | apply Kept.ite)) | extract_lets | split

theorem State.startBegins_kept {s : State} (h : Kept a s) (fromPp : Bool) : Kept a (State.startBegins s fromPp) := by
  unfold State.startBegins
  repeat' first | intro _ | with_reducible (first | assumption | apply State.wr_kept | apply State.wrB_kept) | extract_lets | split

theorem State.dieLock_kept {s : State} (h : Kept a s) : Kept a (State.dieLock s) := by
  unfold State.dieLock
  repeat' first | intro _ | with_reducible (first | assumption | apply State.wr_kept | apply State.inc16_kept | apply Kept.ite) | extract_lets | split

theorem State.ppEnd_kept {s : State} (h : Kept a s) : Kept a (State.ppEnd s) := by
  unfold State.ppEnd
  repeat' first | intro _ | with_reducible (first | assumption | apply forUnits_kept | apply State.rpSupervise_kept | apply State.dieLock_kept | apply State.wr_kept | apply State.procEnd_kept | apply State.startBegins_kept | apply State.notice_kept) | extract_lets | split

theorem State.lowerUndone_kept {s : State} (h : Kept a s) : Kept a (State.lowerUndone s) := by
  unfold State.lowerUndone
  repeat' first | intro _ | with_reducible (first | assumption | apply State.putBack_kept) | extract_lets | split

theorem State.coldFinds_kept {s : State} (h : Kept a s) : Kept a (State.coldFinds s) := by
  unfold State.coldFinds
  repeat' first | intro _ | with_reducible (first | assumption | apply State.lowerUndone_kept | apply State.when_kept | apply State.dieLock_kept | apply State.holdBroken_kept) | extract_lets | split

theorem State.coldReset_kept {s : State} (h0 : Kept a s) (cause : Nat) (powered : Bool) (wake : Option (Nat × Nat)) :
    Kept a (State.coldReset s cause powered wake) := by
  have h : Kept a s.coldFinds.saveSpoils.bootCut := State.bootCut_kept (State.saveSpoils_kept (State.coldFinds_kept h0))
  unfold State.coldReset
  generalize s.coldFinds.saveSpoils.bootCut = s at h
  have g : Kept a { State.reset with
      regs := s.regs, blobs := s.blobs, slots := s.slots, copies := s.copies, fresh := s.fresh, pending := s.pending, outbox := s.outbox } :=
    ⟨fun w => ⟨(h.wf w).1, (h.wf w).2.1, rfl, Nat.two_pow_pos 64⟩, h.queue, h.fresh⟩
  have k := State.forget_kept (State.dropPdus_kept g) (keptInCold (s.on Reg.alwaysOn))
  have c : ∀ (u : State) (b : Bool), Kept a u → Kept a (if b then ((u.startBegins false).stage 0x124 32 1).mark markCold 0 0 else u) :=
    fun u b h => Kept.ite (State.mark_kept (State.stage_kept (State.startBegins_kept h _) _ _ _) _ _ _) h
  dsimp -proj only
  repeat' first | with_reducible (first | assumption | apply Kept.ite | apply State.mark_kept | apply State.stage_kept | apply State.startBegins_kept | apply State.wr_kept | apply State.wrB_kept | apply State.setBit_kept | apply State.recordReset_kept | apply State.inc32_kept | apply forUnits_kept) | (with_reducible apply Kept.with_live; with_reducible (first | apply State.setBit_kept)) | intro _ | split

theorem State.railOffBlock_kept {s : State} (h : Kept a s) (r : Nat) : Kept a (State.railOffBlock s r) := by
  unfold State.railOffBlock
  repeat' first | intro _ | with_reducible (first | assumption | apply State.railDisable_kept | apply State.wr_kept) | extract_lets | split

theorem State.react_kept {s : State} (h : Kept a s) (r : Reaction) : Kept a (State.react s r) := by
  have o : ∀ (x : Option Nat) (f : Nat → State), (∀ p, Kept a (f p)) → Kept a ((x.map f).getD s) := by
    intro x f g
    cases x with
    | none => exact h
    | some p => exact g p
  unfold State.react
  repeat' first | intro _ | with_reducible (first | assumption | apply o | apply Kept.ite | apply State.cagePhase_kept | apply State.cageCtx_kept | apply State.rpReactOpen_kept | apply State.holdEnter_kept | apply State.railOffBlock_kept | apply State.wantReset_kept | apply State.wantPpReset_kept | apply State.when_kept | apply State.wr_kept) | split

theorem State.resetTaken_kept {s : State} (h : Kept a s) : Kept a (State.resetTaken s) := by
  unfold State.resetTaken
  repeat' first | intro _ | with_reducible (first | assumption | apply State.wr_kept) | extract_lets | split

theorem State.reactionsJoin_kept {s : State} (h : Kept a s) : Kept a (State.reactionsJoin s) := by
  unfold State.reactionsJoin
  repeat' first | intro _ | with_reducible (first | assumption | apply forAll_kept | apply State.wantPpReset_kept | apply State.when_kept | apply State.wr_kept) | extract_lets | split

theorem State.resetBegin_kept {s : State} (h : Kept a s) : Kept a (State.resetBegin s) := by
  unfold State.resetBegin
  repeat' first | intro _ | with_reducible (first | assumption | apply State.resetTaken_kept | apply State.wr_kept | apply State.when_kept | apply State.recordReset_kept | apply State.reactionsJoin_kept | apply State.ppStart_kept | apply State.procStart_kept | apply Kept.ite) | extract_lets | split

theorem State.raiseDue_kept {s : State} (h : Kept a s) (f : Nat) : Kept a (State.raiseDue s f) := by
  unfold State.raiseDue
  repeat' first | intro _ | with_reducible (first | assumption | apply State.raiseAs_kept | apply State.raise_kept | apply Kept.ite) | extract_lets | split

theorem State.edge_kept {s : State} (h : Kept a s) : Kept a (State.edge s) := by
  unfold State.edge
  repeat' first | intro _ | with_reducible (first | assumption | apply State.resetBegin_kept | apply forAll_kept | apply State.react_kept | apply State.raiseDue_kept | apply State.seqSettle_kept | apply Kept.ite) | (with_reducible apply Kept.with_raiseQ_reactions_edgeNo; with_reducible (first | assumption | apply State.resetBegin_kept | apply forAll_kept | apply State.react_kept | apply State.raiseDue_kept | apply State.seqSettle_kept | apply Kept.ite)) | extract_lets | split

theorem State.drain_kept {s : State} (h : Kept a s) (n : Nat) : Kept a (State.drain s n) := by
  induction n generalizing s with
  | zero => exact h
  | succ n ih => exact Kept.ite h (ih (State.edge_kept h))

theorem State.startNow_kept {s : State} (h : Kept a s) : Kept a (State.startNow s) := by
  unfold State.startNow
  repeat' first | intro _ | with_reducible (first | assumption | apply State.coldReset_kept | apply Kept.ite) | extract_lets | split

theorem State.settle_kept {s : State} (h : Kept a s) : Kept a (State.settle s) := by
  unfold State.settle
  extract_lets t u
  have g : Kept a t := State.drain_kept h 4096
  have k : Kept a u := Kept.ite (State.drain_kept (State.startNow_kept g) 4096) g
  with_reducible exact Kept.ite h (Kept.with_edgeNo (State.linkFollow_kept (State.nvmKick_kept k 0)) _)

end Sys2Proof.Machine
end

