-- ==== Sys2Proof/Laws/KeptConfig.lean ====
section
/-!
SUPPORT. What the operations keep: the configuration: commits, their hooks and the load of a copy. Each lemma says of one operation that the state it leaves is in canonical form
when the state before was, holds the same queue, and takes no free value back.
-/
namespace Sys2Proof.Machine

variable {a s : State}

theorem State.cfgSave_kept {s : State} (h : Kept a s) : Kept a (State.cfgSave s) := by
  unfold State.cfgSave
  repeat' first | intro _ | with_reducible (first | assumption | apply State.saveStart_kept) | extract_lets | split

theorem State.cfgShow_kept {s : State} (h : Kept a s) : Kept a (State.cfgShow s) := by
  unfold State.cfgShow
  repeat' first | intro _ | with_reducible (first | assumption | apply State.wr_kept | apply State.setFld_kept) | extract_lets | split

theorem State.saveDone_kept {s : State} (h : Kept a s) : Kept a (State.saveDone s) := by
  unfold State.saveDone
  repeat' first | intro _ | with_reducible (first | assumption | apply State.confBreak_kept | apply State.wr_kept | apply State.inc32_kept | apply State.setFld_kept | apply State.cfgShow_kept | apply Kept.ite) | (with_reducible apply Kept.with_saving_copies; with_reducible (first | assumption | apply State.confBreak_kept | apply State.wr_kept | apply State.inc32_kept | apply State.setFld_kept | apply State.cfgShow_kept | apply Kept.ite)) | extract_lets | split

theorem State.cfgDefaults_kept {s : State} (h : Kept a s) : Kept a (State.cfgDefaults s) := by
  unfold State.cfgDefaults
  repeat' first | intro _ | with_reducible (first | assumption | apply State.cfgShow_kept) | (with_reducible apply Kept.with_copies; with_reducible (first | assumption | apply State.cfgShow_kept)) | extract_lets | split

theorem State.stored_kept {s : State} (h : Kept a s) (idx : Nat) (sub : Nat) (row : SubRow) (new : Int) : Kept a (State.stored s idx sub row new) := by
  unfold State.stored
  repeat' first | intro _ | with_reducible (first | assumption | apply State.wr_kept) | extract_lets | split

theorem State.clkReturn_kept {s : State} (h : Kept a s) : Kept a (State.clkReturn s) := by
  unfold State.clkReturn
  repeat' first | intro _ | with_reducible (first | assumption | apply State.setFld_kept) | extract_lets | split

theorem State.linkHook_kept {t : State} (h : Kept a t) (s : State) (idx : Nat) : Kept a (State.linkHook s t idx) := by
  unfold State.linkHook
  repeat' first | intro _ | with_reducible (first | assumption | apply State.portReset_kept | apply State.when_kept | apply State.setFld_kept | apply State.wr_kept | apply State.asSuspend_kept | apply State.syncLost_kept | apply Kept.ite) | extract_lets | split

theorem State.pointHook_kept {t : State} (h : Kept a t) (s : State) (r : Nat) (sub : Nat) : Kept a (State.pointHook s t r sub) := by
  unfold State.pointHook
  repeat' first | intro _ | with_reducible (first | assumption | apply State.selectPoint_kept | apply Kept.ite) | extract_lets | split

theorem State.railHook_kept {t : State} (h : Kept a t) (s : State) (r : Nat) (sub : Nat) : Kept a (State.railHook s t r sub) := by
  unfold State.railHook
  repeat' first | intro _ | with_reducible (first | assumption | apply State.dropLost_kept | apply State.vinTake_kept | apply State.showRef_kept | apply State.profileMoved_kept | apply State.refresh_kept | apply State.pointHook_kept | apply Kept.ite) | extract_lets | split

theorem State.phaseHook_kept {t : State} (h : Kept a t) (s : State) (p : Nat) (sub : Nat) : Kept a (State.phaseHook s t p sub) := by
  unfold State.phaseHook
  repeat' first | intro _ | with_reducible (first | assumption | apply State.setBit_kept | apply State.phaseLeaves_kept | apply State.railSum_kept | apply State.cagePhase_kept | apply Kept.ite) | extract_lets | split

theorem State.propHook_kept {t : State} (h : Kept a t) (s : State) (new : Int) : Kept a (State.propHook s t new) := by
  unfold State.propHook
  repeat' first | intro _ | with_reducible (first | assumption | apply State.wr_kept | apply State.chargeLeave_kept | apply State.setFld_kept | apply State.holdLeave_kept | apply State.propDrive_kept | apply State.inhibitEval_kept | apply Kept.ite) | extract_lets | split

theorem State.ringHook_kept {t : State} (h : Kept a t) (s : State) (p : Nat) (sub : Nat) (new : Int) : Kept a (State.ringHook s t p sub new) := by
  unfold State.ringHook
  repeat' first | intro _ | with_reducible (first | assumption | apply State.mark_kept | apply State.rpClose_kept | apply State.when_kept | apply State.rpOpens_kept | apply State.wr_kept | apply State.setFld_kept | apply State.rpSupervise_kept | apply Kept.ite) | extract_lets | split

theorem State.ctxHook_kept {t : State} (h : Kept a t) (s : State) (n sub : Nat) (x : Int) : Kept a (State.ctxHook s t n sub x) := by
  have o : ∀ (c : Option Nat) (f : Nat → State), (∀ p, Kept a (f p)) → Kept a ((c.map f).getD t) := by
    intro c f g
    cases c with
    | none => exact h
    | some p => exact g p
  unfold State.ctxHook
  repeat' first | intro _ | with_reducible (first | assumption | apply o | apply Kept.ite | apply State.setBit_kept | apply State.redrive_kept | apply State.changeClass_kept | apply State.cmdOn_kept | apply State.cmdOff_kept | apply State.cageCtx_kept | apply State.when_kept | apply State.mbxSet_kept | apply State.mbxDrop_kept | apply State.bindCtx_kept) | extract_lets | split

theorem State.nodeHook_kept {t : State} (h : Kept a t) (k : Nat) (sub : Nat) (new : Int) : Kept a (State.nodeHook t k sub new) := by
  unfold State.nodeHook
  repeat' first | intro _ | with_reducible (first | assumption | apply State.nodeEnter_kept | apply State.wr_kept | apply Kept.ite) | extract_lets | split

theorem State.monHook_kept {t : State} (h : Kept a t) (s : State) (m : Nat) (sub : Nat) (new : Int) : Kept a (State.monHook s t m sub new) := by
  unfold State.monHook
  repeat' first | intro _ | with_reducible (first | assumption | apply State.mnCheckStart_kept | apply State.cmpoPins_kept | apply State.mnFollow_kept | apply State.mnNow_kept | apply State.mnEnable_kept | apply State.when_kept | apply State.mark_kept | apply State.wr_kept | apply Kept.ite) | extract_lets | split

theorem State.srcHook_kept {t : State} (h : Kept a t) (s : State) (f : Nat) (new : Int) : Kept a (State.srcHook s t f new) := by
  unfold State.srcHook
  repeat' first | intro _ | with_reducible (first | assumption | apply State.mark_kept | apply State.srcClear_kept | apply Kept.ite) | (with_reducible apply Kept.with_raiseQ; with_reducible (first | assumption | apply State.mark_kept | apply State.srcClear_kept | apply Kept.ite)) | extract_lets | split

theorem State.debugCmd_kept {t : State} (h : Kept a t) (v : Int) (ok : Bool) : Kept a (State.debugCmd t v ok) := by
  unfold State.debugCmd
  repeat' first | intro _ | with_reducible (first | assumption | apply State.wr_kept | apply State.rma_kept | apply State.debugEnter_kept | apply Kept.ite) | extract_lets | split

theorem State.hookLow_kept {t : State} (h : Kept a t) (s : State) (idx : Nat) (sub : Nat) (new : Int) : Kept a (State.hookLow s t idx sub new) := by
  unfold State.hookLow
  repeat' first | intro _ | with_reducible (first | assumption | apply State.linkHook_kept | apply State.stateCmd_kept | apply forUnits_kept | apply State.wr_kept | apply State.cfgSave_kept | apply State.cfgDefaults_kept | apply State.setFld_kept | apply State.wantReset_kept | apply State.clkReturn_kept | apply State.railHook_kept | apply State.phaseHook_kept | apply State.when_kept | apply State.burstStamp_kept | apply State.propHook_kept | apply State.dropLost_kept | apply State.storeEval_kept | apply State.ringHook_kept | apply State.ifwPins_kept | apply State.setTrim_kept | apply Kept.ite) | extract_lets | split

theorem State.hookHigh_kept {t : State} (h : Kept a t) (s : State) (idx : Nat) (sub : Nat) (new : Int) : Kept a (State.hookHigh s t idx sub new) := by
  unfold State.hookHigh
  repeat' first | intro _ | with_reducible (first | assumption | apply State.ctxHook_kept | apply State.portRescan_kept | apply State.portStart_kept | apply State.portStop_kept | apply State.tallyUndo_kept | apply State.dropLost_kept | apply State.wr_kept | apply State.nodeHook_kept | apply State.mark_kept | apply State.setMargin_kept | apply State.lossResume_kept | apply State.enPins_kept | apply State.monHook_kept | apply State.cmpoClear_kept | apply State.cmpoPins_kept | apply State.tsEnable_kept | apply State.when_kept | apply State.tsPace_kept | apply State.thermSummary_kept | apply State.slotRestart_kept | apply State.loopAccept_kept | apply State.windTarget_kept | apply State.windStart_kept | apply State.srcHook_kept | apply State.reclaim_kept | apply State.capArm_kept | apply State.capTrigger_kept | apply State.epochStart_kept | apply State.relayStart_kept | apply State.updCmd_kept | apply State.epochEval_kept | apply State.setFld_kept | apply State.used_kept | apply State.debugCmd_kept | apply foldl_kept | apply Kept.ite) | extract_lets | split

theorem State.hook_kept {t : State} (h : Kept a t) (s : State) (idx : Nat) (sub : Nat) (new : Int) : Kept a (State.hook s t idx sub new) := by
  unfold State.hook
  repeat' first | intro _ | with_reducible (first | assumption | apply State.hookLow_kept | apply State.hookHigh_kept | apply Kept.ite) | extract_lets | split

theorem State.written_kept {s : State} (h : Kept a s) (idx : Nat) (sub : Nat) (raw : Nat) : Kept a (State.written s idx sub raw) := by
  unfold State.written
  repeat' first | intro _ | with_reducible (first | assumption | apply State.stored_kept) | extract_lets | split

theorem State.served_kept {s : State} (h : Kept a s) (idx : Nat) : Kept a (State.served s idx) := by
  unfold State.served
  repeat' first | intro _ | with_reducible (first | assumption | apply forAll_kept | apply State.lampService_kept) | extract_lets | split

theorem State.commit_kept {s : State} (h : Kept a s) (idx : Nat) (sub : Nat) (raw : Nat) : Kept a (State.commit s idx sub raw) := by
  unfold State.commit
  repeat' first | intro _ | with_reducible (first | assumption | apply State.hook_kept | apply State.written_kept | apply State.served_kept) | extract_lets | split

theorem State.closeBeaten_kept {s : State} (h : Kept a s) (p : Nat) : Kept a (State.closeBeaten s p) := by
  unfold State.closeBeaten
  repeat' first | intro _ | with_reducible (first | assumption | apply State.setFld_kept | apply Kept.ite) | extract_lets | split

theorem State.write_kept {s : State} (h : Kept a s) (abort : Nat) (idx : Nat) (sub : Nat) (raw : Nat) : Kept a (State.write s abort idx sub raw) := by
  unfold State.write
  repeat' first | intro _ | with_reducible (first | assumption | apply State.commit_kept | apply State.inc32_kept | apply State.closeBeaten_kept | apply State.imgFails_kept | apply Kept.ite) | extract_lets | split

theorem State.hostSet_kept {s : State} (h : Kept a s) (level : Nat) (near : Bool) (idx : Nat) (sub : Nat) (v : Int) : Kept a (State.hostSet s level near idx sub v) := by
  unfold State.hostSet
  repeat' first | intro _ | with_reducible (first | assumption | apply State.write_kept | apply State.when_kept | apply State.inc32_kept) | extract_lets | split

theorem Loading.take_kept {l : Loading} (h : Kept a l.st) (idx sub : Nat) (row : SubRow) (v : Int) : Kept a (Loading.take l idx sub row v).st := by
  have hm : ∀ b : Bool, Kept a (if b then l else { l with short := true } : Loading).st := by
    intro b
    cases b <;> exact h
  unfold Loading.take
  extract_lets
  split
  · exact hm _
  · exact State.wr_kept (hm _) _ _

theorem Loading.takeBytes_kept {l : Loading} (h : Kept a l.st) (idx sub : Nat) (b : List Byte) : Kept a (Loading.takeBytes l idx sub b).st := by
  unfold Loading.takeBytes
  extract_lets
  split
  · exact h
  · split
    · split
      · exact h
      · exact State.setFld_kept (State.setBlob_kept h _ _) _ _
    · split
      · exact State.setBlob_kept h _ _
      · exact h

theorem State.restoreField_kept {t : State} (h : Kept a t) (before : State) (b : Bits) : Kept a (State.restoreField t before b) := by
  unfold State.restoreField
  repeat' first | intro _ | with_reducible (first | assumption | apply State.wr_kept | apply State.setBlob_kept | apply State.setFld_kept | apply Kept.ite) | extract_lets | split

theorem Loading.judge_kept {l : Loading} (h : Kept a l.st) (before : State) (c : CheckId) : Kept a (Loading.judge before l c).st := by
  unfold Loading.judge
  split
  · exact h
  · exact foldl_kept h _ fun _ _ g => State.restoreField_kept g _ _

theorem Loading.settle_kept {l : Loading} (h : Kept a l.st) (before : State) (checks : List CheckId) (n : Nat) :
    Kept a (Loading.settle before checks n l).st := by
  induction n generalizing l with
  | zero => exact h
  | succ n ih =>
    have g : ∀ (cs : List CheckId) (l : Loading), Kept a l.st → Kept a (cs.foldl (Loading.judge before) l).st := by
      intro cs
      induction cs with
      | nil => exact fun l h => h
      | cons c cs ih => exact fun l h => ih _ (Loading.judge_kept h before c)
    unfold Loading.settle
    split
    · exact h
    · exact ih (g _ _ h)

theorem State.keepFailed_kept {s : State} (h : Kept a s) : Kept a (State.keepFailed s) := by
  unfold State.keepFailed
  repeat' first | intro _ | with_reducible (first | assumption | apply State.setFld_kept | apply forUnits_kept | apply Kept.ite) | extract_lets | split

theorem State.loadHooks_kept {t : State} (h : Kept a t) (before : State) (changed : List (Nat × Nat)) : Kept a (State.loadHooks before t changed) := by
  unfold State.loadHooks
  repeat' first | intro _ | with_reducible (first | assumption | apply State.hook_kept | apply State.loopAccept_kept | apply foldl_kept | apply Kept.ite) | extract_lets | split

theorem State.loadCopy_kept {s : State} (h : Kept a s) (c : ConfigCopy) : Kept a (State.loadCopy s c) := by
  have g : ∀ (xs : List ((Nat × Nat × SubRow) × Int)) (l : Loading), Kept a l.st → Kept a (xs.foldl (fun l p =>
      if s.loadSkips p.1.1 p.1.2.1 then l
      else if p.1.2.2.ty = .domain then l.takeBytes p.1.1 p.1.2.1 (c.bytes (odKey p.1.1 p.1.2.1))
      else l.take p.1.1 p.1.2.1 p.1.2.2 p.2) l).st := by
    intro xs
    induction xs with
    | nil => exact fun l h => h
    | cons p xs ih =>
      intro l h
      refine ih _ ?_
      dsimp only
      split
      · exact h
      · split
        · exact Loading.takeBytes_kept h _ _ _
        · exact Loading.take_kept h _ _ _ _
  have k := fun checks => Loading.settle_kept (g (besides storedSubs c.regs) ⟨s, [], false⟩ h) s checks 64
  unfold State.loadCopy
  exact State.setBit_kept (State.loadHooks_kept (State.keepFailed_kept (k _)) _ _) _ _

theorem State.loadConfig_kept {s : State} (h : Kept a s) : Kept a (State.loadConfig s) := by
  unfold State.loadConfig
  repeat' first | intro _ | with_reducible (first | assumption | apply State.cfgShow_kept | apply State.setFld_kept | apply State.loadCopy_kept) | extract_lets | split

theorem State.unlend_kept {s : State} (h : Kept a s) (peer : Nat) (id : Nat) : Kept a (State.unlend s peer id) := by
  unfold State.unlend
  repeat' first | intro _ | with_reducible (first | assumption | apply State.wr_kept) | (with_reducible apply Kept.with_lent; with_reducible (first | assumption | apply State.wr_kept)) | extract_lets | split

theorem State.loanRequest_kept {s0 : State} (h : Kept a s0) (q : Req) (id : Nat) (mw : Int) : Kept a (State.loanRequest s0 q id mw) := by
  unfold State.loanRequest
  repeat' first | intro _ | with_reducible (first | assumption | apply State.unlend_kept | apply State.respond_kept | apply State.wr_kept | apply Kept.ite) | (with_reducible apply Kept.with_lent; with_reducible (first | assumption | apply State.unlend_kept | apply State.respond_kept | apply State.wr_kept | apply Kept.ite)) | extract_lets | split

theorem State.loanRenew_kept {s : State} (h : Kept a s) (q : Req) (id : Nat) : Kept a (State.loanRenew s q id) := by
  unfold State.loanRenew
  repeat' first | intro _ | with_reducible (first | assumption | apply State.respond_kept | apply Kept.ite) | (with_reducible apply Kept.with_lent; with_reducible (first | assumption | apply State.respond_kept | apply Kept.ite)) | extract_lets | split

theorem State.loanReturn_kept {s : State} (h : Kept a s) (q : Req) (id : Nat) (mw : Int) : Kept a (State.loanReturn s q id mw) := by
  unfold State.loanReturn
  repeat' first | intro _ | with_reducible (first | assumption | apply State.unlend_kept | apply State.respond_kept) | extract_lets | split

theorem State.svcLoan_kept {s : State} (h : Kept a s) (q : Req) (body : List Byte) : Kept a (State.svcLoan s q body) := by
  unfold State.svcLoan
  repeat' first | intro _ | with_reducible (first | assumption | apply State.reject_kept | apply State.loanRequest_kept | apply State.loanRenew_kept | apply State.loanReturn_kept | apply Kept.ite) | extract_lets | split

theorem State.loanRenewed_kept {s : State} (h : Kept a s) (peer : Nat) (id : Nat) : Kept a (State.loanRenewed s peer id) := by
  unfold State.loanRenewed
  repeat' first | intro _ | with_reducible (first | assumption | apply State.wr_kept | apply Kept.ite) | (with_reducible apply Kept.with_borrowed; with_reducible (first | assumption | apply State.wr_kept | apply Kept.ite)) | extract_lets | split

theorem State.loanAnswer_kept {s : State} (h : Kept a s) (peer : Nat) (op : Nat) (id : Nat) (mw : Int) : Kept a (State.loanAnswer s peer op id mw) := by
  unfold State.loanAnswer
  repeat' first | intro _ | with_reducible (first | assumption | apply State.loanRenewed_kept | apply State.wr_kept | apply State.askPeer_kept | apply Kept.ite) | (with_reducible apply Kept.with_borrowed; with_reducible (first | assumption | apply State.loanRenewed_kept | apply State.wr_kept | apply State.askPeer_kept | apply Kept.ite)) | extract_lets | split

theorem State.loanTimed_kept {s : State} (h : Kept a s) (x : Ask) : Kept a (State.loanTimed s x) := by
  unfold State.loanTimed
  repeat' first | intro _ | with_reducible (first | assumption | apply State.wr_kept) | extract_lets | split

theorem State.loanHeard_kept {s : State} (h : Kept a s) (peer : Nat) (op : Nat) (id : Nat) (mw : Int) : Kept a (State.loanHeard s peer op id mw) := by
  unfold State.loanHeard
  repeat' first | intro _ | with_reducible (first | assumption | apply State.inc32_kept | apply State.loanTimed_kept | apply State.loanAnswer_kept) | (with_reducible apply Kept.with_asks; with_reducible (first | assumption | apply State.inc32_kept | apply State.loanTimed_kept | apply State.loanAnswer_kept)) | extract_lets | split

theorem State.loanSilent_kept {s : State} (h : Kept a s) : Kept a (State.loanSilent s) := by
  unfold State.loanSilent
  repeat' first | intro _ | with_reducible (first | assumption | apply State.askPeer_kept | apply State.wr_kept | apply Kept.ite) | (with_reducible apply Kept.with_asks; with_reducible (first | assumption | apply State.askPeer_kept | apply State.wr_kept | apply Kept.ite)) | extract_lets | split

theorem State.loanHalf_kept {s : State} (h : Kept a s) (peer : Nat) (id : Nat) : Kept a (State.loanHalf s peer id) := by
  unfold State.loanHalf
  repeat' first | intro _ | with_reducible (first | assumption | apply State.sendLoan_kept | apply Kept.ite) | (with_reducible apply Kept.with_borrowed; with_reducible (first | assumption | apply State.sendLoan_kept | apply Kept.ite)) | extract_lets | split

theorem State.leaseEnd_kept {s : State} (h : Kept a s) (peer : Nat) (id : Nat) : Kept a (State.leaseEnd s peer id) := by
  unfold State.leaseEnd
  repeat' first | intro _ | with_reducible (first | assumption | apply State.wr_kept | apply State.mark_kept | apply Kept.ite) | (with_reducible apply Kept.with_borrowed; with_reducible (first | assumption | apply State.wr_kept | apply State.mark_kept | apply Kept.ite)) | extract_lets | split

theorem State.reservationEnd_kept {s : State} (h : Kept a s) (peer : Nat) (id : Nat) : Kept a (State.reservationEnd s peer id) := by
  unfold State.reservationEnd
  repeat' first | intro _ | with_reducible (first | assumption | apply State.unlend_kept | apply Kept.ite) | extract_lets | split

theorem State.loanGiveBack_kept {s : State} (h : Kept a s) (peer : Nat) (id : Nat) : Kept a (State.loanGiveBack s peer id) := by
  unfold State.loanGiveBack
  repeat' first | intro _ | with_reducible (first | assumption | apply State.wr_kept | apply State.sendLoan_kept | apply Kept.ite) | (with_reducible apply Kept.with_borrowed; with_reducible (first | assumption | apply State.wr_kept | apply State.sendLoan_kept | apply Kept.ite)) | extract_lets | split

theorem State.tallyTick_kept {s : State} (h : Kept a s) : Kept a (State.tallyTick s) := by
  unfold State.tallyTick
  repeat' first | intro _ | with_reducible (first | assumption | apply State.wr_kept | apply State.evaluate_kept | apply State.raise_kept | apply Kept.ite) | extract_lets | split

theorem State.describeLevels_kept {s : State} (h : Kept a s) (idx sub : Nat) (row : SubRow) :
    Kept a (State.describeLevels s idx sub row).2.2 := by
  unfold State.describeLevels
  extract_lets
  split
  · exact State.used_kept h
  · split
    · exact h
    · exact State.used_kept h

theorem State.describeValues_kept {s : State} (h : Kept a s) (idx sub : Nat) (row : SubRow) :
    Kept a (State.describeValues s idx sub row).2.2.2 := by
  unfold State.describeValues
  split
  · exact State.used_kept (State.used_kept (State.used_kept h))
  · extract_lets
    split
    · exact h
    · exact State.used_kept h
  · exact h

theorem State.logOutcome_kept {s : State} (h : Kept a s) (q : Req) (outcome : Nat) (applied : Nat) (total : Nat) (abort : Nat) : Kept a (State.logOutcome s q outcome applied total abort) := by
  unfold State.logOutcome
  repeat' first | intro _ | with_reducible (first | assumption | apply forUnits_kept | apply State.wr_kept) | extract_lets | split

theorem State.answer_kept {s : State} (h : Kept a s) (q : Req) (abort : Nat) (body : List Byte) : Kept a (State.answer s q abort body) := by
  unfold State.answer
  repeat' first | intro _ | with_reducible (first | assumption | apply State.settle_kept | apply State.respond_kept | apply Kept.ite) | extract_lets | split

theorem State.turnAway_kept {s : State} (h : Kept a s) (q : Req) (abort : Nat) : Kept a (State.turnAway s q abort) := by
  unfold State.turnAway
  repeat' first | intro _ | with_reducible (first | assumption | apply State.when_kept | apply State.logOutcome_kept | apply State.respond_kept | apply Kept.ite) | extract_lets | split

theorem State.refuse_kept {s : State} (h : Kept a s) (q : Req) (total : Nat) (abort : Nat) : Kept a (State.refuse s q total abort) := by
  unfold State.refuse
  repeat' first | intro _ | with_reducible (first | assumption | apply State.logOutcome_kept | apply State.answer_kept) | extract_lets | split

theorem State.answerAgain_kept {s : State} (h : Kept a s) (q : Req) (e : Nat) : Kept a (State.answerAgain s q e) := by
  unfold State.answerAgain
  repeat' first | intro _ | with_reducible (first | assumption | apply State.inc32_kept | apply State.respond_kept | apply Kept.ite) | extract_lets | split

theorem State.svcRead_kept {s : State} (h : Kept a s) (q : Req) (body : List Byte) : Kept a (State.svcRead s q body) := by
  unfold State.svcRead
  repeat' first | intro _ | with_reducible (first | assumption | apply State.reject_kept | apply State.respond_kept | apply Kept.ite) | extract_lets | split

theorem State.svcDescribe_kept {s : State} (h : Kept a s) (q : Req) (body : List Byte) : Kept a (State.svcDescribe s q body) := by
  unfold State.svcDescribe
  repeat' first | intro _ | with_reducible (first | assumption | apply State.reject_kept | apply State.describeLevels_kept | apply State.describeValues_kept | apply State.respond_kept) | extract_lets | split

theorem State.svcWrite_kept {s : State} (h : Kept a s) (q : Req) (body : List Byte) : Kept a (State.svcWrite s q body) := by
  unfold State.svcWrite
  repeat' first | intro _ | with_reducible (first | assumption | apply State.refuse_kept | apply State.write_kept | apply State.logOutcome_kept | apply State.answer_kept | apply Kept.ite) | extract_lets | split

theorem State.cutShort_kept {s : State} (h : Kept a s) : Kept a (State.cutShort s) := by
  unfold State.cutShort
  repeat' first | intro _ | with_reducible (first | assumption | apply State.raise_kept | apply State.wantReset_kept | apply State.inc16_kept | apply State.settle_kept | apply Kept.ite) | extract_lets | split

theorem State.runBundle_kept {s : State} (h : Kept a s) (q : Req) (k : Nat) (l : List BundleEntry) :
    Kept a (State.runBundle s q k l).1 := by
  induction l generalizing s k with
  | nil => exact h
  | cons e l ih =>
    unfold State.runBundle
    split
    · exact State.cutShort_kept h
    · extract_lets x t
      have w : Kept a t := State.write_kept h x e.idx e.sub e.raw
      split
      · exact w
      · split
        · exact w
        · split
          · exact ih (State.settle_kept w) _
          · exact State.settle_kept w

theorem State.svcBundle_kept {s : State} (h : Kept a s) (q : Req) (body : List Byte) : Kept a (State.svcBundle s q body) := by
  have r := fun k l => State.runBundle_kept h q k l
  unfold State.svcBundle
  split
  · exact State.answer_kept (State.logOutcome_kept h _ _ _ _ _) _ _ _
  · extract_lets
    exact Kept.ite (State.answer_kept (State.logOutcome_kept (r _ _) _ _ _ _ _) _ _ _)
      (State.answer_kept (State.logOutcome_kept (r _ _) _ _ _ _ _) _ _ _)

theorem State.transferEnds_kept {s : State} (h : Kept a s) (x : Transfer) : Kept a (State.transferEnds s x) := by
  unfold State.transferEnds
  repeat' first | intro _ | with_reducible (first | assumption | apply State.wr_kept | apply Kept.ite) | (with_reducible apply Kept.with_transfers; with_reducible (first | assumption | apply State.wr_kept | apply Kept.ite)) | extract_lets | split

theorem State.dropStale_kept {s : State} (h : Kept a s) (src : Nat) : Kept a (State.dropStale s src) := by
  unfold State.dropStale
  repeat' first | intro _ | with_reducible (first | assumption | apply forAll_kept | apply State.transferEnds_kept) | extract_lets | split

theorem State.svcStart_kept {s : State} (h0 : Kept a s) (q : Req) (body : List Byte) : Kept a (State.svcStart s q body) := by
  unfold State.svcStart
  have h := State.dropStale_kept h0 q.src
  extract_lets s
  replace h : Kept a s := h
  split
  · exact State.reject_kept h _ _
  · split
    · exact State.reject_kept h _ _
    · split
      · exact State.reject_kept h _ _
      · exact State.respond_kept (Kept.with_transfers (State.takeBlocks_kept h _ _ (by assumption)) _) _ _ _

theorem State.svcDomainData_kept {s : State} (h : Kept a s) (q : Req) (body : List Byte) : Kept a (State.svcDomainData s q body) := by
  unfold State.svcDomainData
  repeat' first | intro _ | with_reducible (first | assumption | apply State.reject_kept | apply State.transferEnds_kept | apply State.respond_kept | apply Kept.ite) | (with_reducible apply Kept.with_transfers; with_reducible (first | assumption | apply State.reject_kept | apply State.transferEnds_kept | apply State.respond_kept | apply Kept.ite)) | extract_lets | split

theorem State.domainCommit_kept {s : State} (h : Kept a s) (q : Req) (x : Transfer) : Kept a (State.domainCommit s q x) := by
  unfold State.domainCommit
  repeat' first | intro _ | with_reducible (first | assumption | apply State.setBlob_kept | apply State.setFld_kept | apply State.keyCommit_kept | apply forAll_kept | apply State.lampService_kept | apply State.hook_kept) | extract_lets | split

theorem State.svcEnd_kept {s : State} (h : Kept a s) (q : Req) (body : List Byte) : Kept a (State.svcEnd s q body) := by
  unfold State.svcEnd
  have k : Kept a (((s.transferOf q).map s.transferEnds).getD s) := by
    cases s.transferOf q with
    | none => exact h
    | some x => exact State.transferEnds_kept h x
  repeat' first | intro _ | with_reducible (first | assumption | apply State.transferEnds_kept | apply State.refuse_kept | apply State.reject_kept | apply State.cutShort_kept | apply State.logOutcome_kept | apply State.answer_kept | apply State.domainCommit_kept | apply Kept.ite) | extract_lets | split

theorem State.svcDomainRead_kept {s : State} (h : Kept a s) (q : Req) (body : List Byte) : Kept a (State.svcDomainRead s q body) := by
  unfold State.svcDomainRead
  repeat' first | intro _ | with_reducible (first | assumption | apply State.reject_kept | apply State.when_kept | apply State.mark_kept | apply State.respond_kept | apply Kept.ite) | extract_lets | split

theorem State.svcAssign_kept {s : State} (h : Kept a s) (q : Req) (body : List Byte) : Kept a (State.svcAssign s q body) := by
  unfold State.svcAssign
  repeat' first | intro _ | with_reducible (first | assumption | apply State.refuse_kept | apply State.wr_kept | apply State.setFld_kept | apply State.logOutcome_kept | apply State.answer_kept | apply Kept.ite) | extract_lets | split

theorem State.svcImgEnd_kept {s : State} (h : Kept a s) (q : Req) (body : List Byte) : Kept a (State.svcImgEnd s q body) := by
  unfold State.svcImgEnd
  split
  · exact State.refuse_kept h _ _ _
  · split
    · exact State.refuse_kept h _ _ _
    · exact Kept.ite (State.refuse_kept (State.imgEnd_kept h) _ _ _)
        (State.answer_kept (State.logOutcome_kept (State.imgEnd_kept h) _ _ _ _ _) _ _ _)

theorem State.serveNew_kept {s : State} (h : Kept a s) (q : Req) (body : List Byte) (fresh : Nat) : Kept a (State.serveNew s q body fresh) := by
  unfold State.serveNew
  repeat' first | intro _ | with_reducible (first | assumption | apply State.svcRead_kept | apply State.svcWrite_kept | apply State.svcBundle_kept | apply State.svcDescribe_kept | apply State.svcDomainRead_kept | apply State.svcStart_kept | apply State.svcDomainData_kept | apply State.svcEnd_kept | apply State.svcAssign_kept | apply State.reject_kept | apply State.svcLoan_kept | apply State.svcOpen_kept | apply State.svcProve_kept | apply State.svcClose_kept | apply State.svcOffer_kept | apply State.svcData_kept | apply State.svcImgEnd_kept | apply State.svcQuery_kept | apply Kept.ite) | extract_lets | split

theorem State.serve_kept {s : State} (h : Kept a s) (q : Req) (body : List Byte) (fresh : Nat) : Kept a (State.serve s q body fresh) := by
  unfold State.serve
  repeat' first | intro _ | with_reducible (first | assumption | apply State.turnAway_kept | apply State.when_kept | apply State.confBreak_kept | apply State.wr_kept | apply State.answerAgain_kept | apply State.serveNew_kept | apply Kept.ite) | extract_lets | split

theorem State.forwardPdu_kept {s : State} (h : Kept a s) (port : Nat) (p : Pdu) (front : List Byte) : Kept a (State.forwardPdu s port p front) := by
  unfold State.forwardPdu
  repeat' first | intro _ | with_reducible (first | assumption | apply State.inc32_kept | apply State.offerPdu_kept | apply Kept.ite) | extract_lets | split

theorem State.forwardAll_kept {s : State} (h : Kept a s) (port : Nat) (p : Pdu) (front : List Byte) : Kept a (State.forwardAll s port p front) := by
  unfold State.forwardAll
  repeat' first | intro _ | with_reducible (first | assumption | apply State.inc32_kept | apply forAll_kept | apply State.offerPdu_kept | apply Kept.ite) | extract_lets | split

theorem State.tagFails_kept {s : State} (h : Kept a s) : Kept a (State.tagFails s) := by
  unfold State.tagFails
  repeat' first | intro _ | with_reducible (first | assumption | apply State.inc32_kept | apply State.raise_kept) | extract_lets | split

theorem State.onResponse_kept {s : State} (h : Kept a s) (p : Pdu) : Kept a (State.onResponse s p) := by
  unfold State.onResponse
  repeat' first | intro _ | with_reducible (first | assumption | apply State.inc32_kept | apply State.when_kept | apply State.loanTimed_kept | apply State.relayResponse_kept | apply State.loanAnswer_kept | apply Kept.ite) | (with_reducible apply Kept.with_asks; with_reducible (first | assumption | apply State.inc32_kept | apply State.when_kept | apply State.loanTimed_kept | apply State.relayResponse_kept | apply State.loanAnswer_kept | apply Kept.ite)) | extract_lets | split

theorem State.plainPdu_kept {s : State} (h : Kept a s) (port : Nat) (p : Pdu) : Kept a (State.plainPdu s port p) := by
  unfold State.plainPdu
  repeat' first | intro _ | with_reducible (first | assumption | apply State.onResponse_kept | apply State.proveFails_kept | apply State.serve_kept | apply Kept.ite) | extract_lets | split

theorem State.authPdu_kept {s : State} (h : Kept a s) (port : Nat) (p : Pdu) (tag : List Byte) : Kept a (State.authPdu s port p tag) := by
  unfold State.authPdu
  repeat' first | intro _ | with_reducible (first | assumption | apply State.proveFails_kept | apply State.inc32_kept | apply State.reject_kept | apply State.serve_kept | apply State.tagFails_kept | apply State.turnAway_kept | apply State.setSession_kept | apply State.onResponse_kept | apply Kept.ite) | extract_lets | split

theorem State.bcastPdu_kept {s : State} (h : Kept a s) (port : Nat) (p : Pdu) (tag : List Byte) (front : List Byte) : Kept a (State.bcastPdu s port p tag front) := by
  unfold State.bcastPdu
  repeat' first | intro _ | with_reducible (first | assumption | apply State.tagFails_kept | apply State.inc32_kept | apply State.wr_kept | apply State.forwardAll_kept | apply State.ifwReceive_kept | apply State.proveFails_kept | apply State.serve_kept | apply Kept.ite) | extract_lets | split

theorem State.pduReceive_kept {s : State} (h : Kept a s) (port : Nat) (b : List Byte) : Kept a (State.pduReceive s port b) := by
  unfold State.pduReceive
  repeat' first | intro _ | with_reducible (first | assumption | apply State.inc32_kept | apply State.setFld_kept | apply State.bcastPdu_kept | apply State.forwardPdu_kept | apply State.authPdu_kept | apply State.plainPdu_kept | apply Kept.ite) | extract_lets | split

theorem State.cutting_kept {s : State} (h : Kept a s) (cut : Option (Nat × Bool)) {f : State → State}
    (g : ∀ t, Kept a t → Kept a (f t)) : Kept a (State.cutting s cut f) := by
  unfold State.cutting
  split
  · exact g s h
  · with_reducible exact Kept.ite (g s h) (State.wr_kept (g _ (State.wrB_kept (State.wr_kept h _ _) _ _)) _ _)

theorem State.request_kept {s : State} (h : Kept a s) (src : Nat) (port : Nat) (level : Nat) (tid : Nat) (svc : Nat) (body : List Byte) : Kept a (State.request s src port level tid svc body) := by
  unfold State.request
  repeat' first | intro _ | with_reducible (first | assumption | apply State.inc32_kept | apply State.heardFrom_kept | apply State.serve_kept | apply Kept.ite) | extract_lets | split

theorem State.sendNotice_kept {s : State} (h : Kept a s) : Kept a (State.sendNotice s) := by
  unfold State.sendNotice
  repeat' first | intro _ | with_reducible (first | assumption | apply State.wr_kept | apply State.sendPlain_kept | apply Kept.ite) | (with_reducible apply Kept.with_notices; with_reducible (first | assumption | apply State.wr_kept | apply State.sendPlain_kept | apply Kept.ite)) | extract_lets | split

theorem State.sendStream_kept {s : State} (h : Kept a s) (g n : Nat) (b : List Byte) : Kept a (State.sendStream s g n b) := by
  induction n generalizing s b with
  | zero => exact h
  | succ n ih => exact Kept.ite h (ih (State.sendPlain_kept (State.wr_kept h _ _) _ _ _) _)

theorem State.streamOut_kept {s : State} (h : Kept a s) (g : Nat) : Kept a (State.streamOut s g) :=
  State.sendStream_kept (Kept.with_blocks (State.wr_kept h _ _) _) _ _ _

theorem State.streamAll_kept {s0 : State} (h : Kept a s0) : Kept a (State.streamAll s0) := by
  unfold State.streamAll
  repeat' first | intro _ | with_reducible (first | assumption | apply State.toAfter_kept | apply forUnits_kept | apply State.streamOut_kept | apply State.wr_kept | apply Kept.ite) | extract_lets | split

theorem State.setCanPart_kept {s : State} (h : Kept a s) (k : Nat) (id : Nat) (part : Option (Nat × List Byte)) : Kept a (State.setCanPart s k id part) := by
  unfold State.setCanPart
  repeat' first | intro _ | with_reducible assumption | (with_reducible apply Kept.with_canParts; with_reducible assumption) | extract_lets | split

theorem State.canDiscard_kept {s : State} (h : Kept a s) (k : Nat) (id : Nat) : Kept a (State.canDiscard s k id) := by
  unfold State.canDiscard
  repeat' first | intro _ | with_reducible (first | assumption | apply State.setCanPart_kept | apply State.inc32_kept) | extract_lets | split

theorem State.canFrame_kept {s0 : State} (h : Kept a s0) (k : Nat) (id : Nat) (b : List Byte) : Kept a (State.canFrame s0 k id b) := by
  unfold State.canFrame
  repeat' first | intro _ | with_reducible (first | assumption | apply State.canDiscard_kept | apply State.setCanPart_kept | apply State.pduReceive_kept | apply Kept.ite) | extract_lets | split

end Sys2Proof.Machine
end

