-- ==== Sys2Proof/Laws/KeptCommands.lean ====
section
/-!
SUPPORT. What the operations keep: the operations that belong to one family of commands. Each lemma says of one operation that the state it leaves is in canonical form
when the state before was, holds the same queue, and takes no free value back.
-/
namespace Sys2Proof.Machine

variable {a s : State}

theorem State.dieJoins_kept {s : State} (h : Kept a s) (f : Nat) : Kept a (State.dieJoins s f) := by
  unfold State.dieJoins
  repeat' first | intro _ | with_reducible (first | assumption | apply State.wr_kept | apply State.when_kept | apply State.nvmReset_kept | apply State.stage_kept) | extract_lets | split

theorem State.windOne_kept {s : State} (h : Kept a s) (w : Nat) : Kept a (State.windOne s w) := by
  unfold State.windOne
  repeat' first | intro _ | with_reducible (first | assumption | apply State.windStep_kept | apply forUnits_kept | apply State.moveEnds_kept | apply Kept.ite) | extract_lets | split

theorem State.takeMv_kept {s : State} (h : Kept a s) (k : Nat) (i : Nat) : Kept a (State.takeMv s k i) := by
  unfold State.takeMv
  repeat' first | intro _ | with_reducible (first | assumption | apply State.wr_kept | apply Kept.ite) | extract_lets | split

theorem State.rpSample_kept {s : State} (h : Kept a s) (p : Nat) : Kept a (State.rpSample s p) := by
  unfold State.rpSample
  repeat' first | intro _ | with_reducible (first | assumption | apply State.wr_kept | apply State.takeMv_kept | apply State.rpNear_kept | apply Kept.ite) | extract_lets | split

theorem State.askTurnOn_kept {s : State} (h : Kept a s) (r : Nat) (p : Nat) (kind : Int) (iMa : Int) : Kept a (State.askTurnOn s r p kind iMa) := by
  unfold State.askTurnOn
  repeat' first | intro _ | with_reducible (first | assumption | apply State.wrB_kept | apply State.when_kept | apply State.wr_kept | apply State.turnOn_kept) | extract_lets | split

theorem State.trigger_kept {s : State} (h : Kept a s) (r : Nat) (vMv : Int) (iMa : Int) : Kept a (State.trigger s r vMv iMa) := by
  unfold State.trigger
  repeat' first | intro _ | with_reducible (first | assumption | apply State.wrB_kept | apply State.wr_kept | apply State.askTurnOn_kept | apply Kept.ite) | extract_lets | split

theorem State.shedPhase_kept {s : State} (h : Kept a s) (r : Nat) : Kept a (State.shedPhase s r) := by
  unfold State.shedPhase
  repeat' first | intro _ | with_reducible (first | assumption | apply State.wr_kept | apply State.mark_kept | apply State.setFld_kept | apply State.noTurnOn_kept | apply State.toMid_kept | apply Kept.ite) | extract_lets | split

theorem State.compareRise_kept {s : State} (h : Kept a s) (r : Nat) (p : Nat) (taps : Int) (riseMa : Int) : Kept a (State.compareRise s r p taps riseMa) := by
  unfold State.compareRise
  repeat' first | intro _ | with_reducible (first | assumption | apply State.add_kept | apply State.wr_kept | apply Kept.ite) | extract_lets | split

theorem State.truncate_kept {s : State} (h : Kept a s) (p : Nat) (mid : Bool) : Kept a (State.truncate s p mid) := by
  unfold State.truncate
  repeat' first | intro _ | with_reducible (first | assumption | apply State.toMid_kept | apply State.wr_kept | apply State.toLow_kept | apply Kept.ite) | extract_lets | split

theorem State.brakeEnds_kept {s : State} (h : Kept a s) (r : Nat) : Kept a (State.brakeEnds s r) := by
  unfold State.brakeEnds
  repeat' first | intro _ | with_reducible (first | assumption | apply State.setFld_kept) | extract_lets | split

theorem State.shortLow_kept {s : State} (h : Kept a s) (r : Nat) : Kept a (State.shortLow s r) := by
  unfold State.shortLow
  repeat' first | intro _ | with_reducible (first | assumption | apply forAll_kept | apply State.wr_kept) | extract_lets | split

theorem State.leadEnds_kept {s : State} (h : Kept a s) (n : Nat) : Kept a (State.leadEnds s n) := by
  unfold State.leadEnds
  repeat' first | intro _ | with_reducible (first | assumption | apply State.enableFails_kept | apply State.gateOpens_kept | apply State.wr_kept | apply Kept.ite) | extract_lets | split

theorem State.retryEnds_kept {s : State} (h : Kept a s) (n : Nat) : Kept a (State.retryEnds s n) := by
  unfold State.retryEnds
  repeat' first | intro _ | with_reducible (first | assumption | apply State.wr_kept | apply State.turnOff_kept | apply State.present_kept | apply Kept.ite) | extract_lets | split

theorem State.wdViolation_kept {s : State} (h : Kept a s) : Kept a (State.wdViolation s) := by
  unfold State.wdViolation
  repeat' first | intro _ | with_reducible (first | assumption | apply State.inc16_kept | apply State.raise_kept | apply State.wantReset_kept) | extract_lets | split

theorem State.wdExpires_kept {s : State} (h : Kept a s) : Kept a (State.wdExpires s) := by
  unfold State.wdExpires
  repeat' first | intro _ | with_reducible (first | assumption | apply State.inc16_kept | apply State.raise_kept | apply State.wantReset_kept) | extract_lets | split

theorem State.wdServe_kept {s : State} (h : Kept a s) (e : Int) : Kept a (State.wdServe s e) := by
  unfold State.wdServe
  repeat' first | intro _ | with_reducible (first | assumption | apply State.wr_kept | apply State.setFld_kept) | extract_lets | split

theorem State.wdUnwrite_kept {s : State} (h : Kept a s) (period : Int) (at0 : Int) : Kept a (State.wdUnwrite s period at0) := by
  unfold State.wdUnwrite
  repeat' first | intro _ | with_reducible (first | assumption | apply State.wr_kept) | extract_lets | split

theorem State.wdService_kept {t : State} (h : Kept a t) (key : BitVec 32) (e : Int) : Kept a (State.wdService t key e) := by
  unfold State.wdService
  repeat' first | intro _ | with_reducible (first | assumption | apply State.wdUnwrite_kept | apply State.wdServe_kept | apply State.wdViolation_kept | apply Kept.ite) | extract_lets | split

theorem State.wdNewPeriod_kept {t : State} (h : Kept a t) (v : BitVec 32) : Kept a (State.wdNewPeriod t v) := by
  unfold State.wdNewPeriod
  repeat' first | intro _ | with_reducible (first | assumption | apply State.wdViolation_kept | apply State.mark_kept | apply State.wr_kept | apply Kept.ite) | extract_lets | split

theorem State.heartLost_kept {s : State} (h : Kept a s) : Kept a (State.heartLost s) := by
  unfold State.heartLost
  repeat' first | intro _ | with_reducible (first | assumption | apply State.wr_kept | apply State.raise_kept | apply State.wantReset_kept) | extract_lets | split

theorem State.heartMissed_kept {t : State} (h : Kept a t) (again : Bool) (halted : Bool) : Kept a (State.heartMissed t again halted) := by
  unfold State.heartMissed
  repeat' first | intro _ | with_reducible (first | assumption | apply State.confBreak_kept | apply State.heartLost_kept | apply State.wr_kept | apply Kept.ite) | extract_lets | split

theorem State.cfgCheck_kept {s : State} (h : Kept a s) (idx : Nat) : Kept a (State.cfgCheck s idx) := by
  unfold State.cfgCheck
  repeat' first | intro _ | with_reducible (first | assumption | apply State.confBreak_kept | apply State.wr_kept | apply State.raise_kept | apply Kept.ite) | extract_lets | split

theorem State.applyPeriod_kept {s : State} (h : Kept a s) : Kept a (State.applyPeriod s) := by
  unfold State.applyPeriod
  repeat' first | intro _ | with_reducible (first | assumption | apply State.wr_kept | apply Kept.ite) | extract_lets | split

theorem State.holdModeEnds_kept {s : State} (h : Kept a s) : Kept a (State.holdModeEnds s) := by
  unfold State.holdModeEnds
  repeat' first | intro _ | with_reducible (first | assumption | apply State.when_kept | apply State.holdRecord_kept | apply State.wr_kept) | extract_lets | split

theorem State.readyNotice_kept {s : State} (h : Kept a s) : Kept a (State.readyNotice s) := by
  unfold State.readyNotice
  repeat' first | intro _ | with_reducible (first | assumption | apply State.notice_kept | apply Kept.ite) | (with_reducible apply Kept.with_notices; with_reducible (first | assumption | apply State.notice_kept | apply Kept.ite)) | extract_lets | split

theorem State.becomeReady_kept {s : State} (h : Kept a s) (intact : Nat → Bool) (mismatch : Nat) : Kept a (State.becomeReady s intact mismatch) := by
  unfold State.becomeReady
  repeat' first | intro _ | with_reducible (first | assumption | apply State.confBreak_kept | apply State.wr_kept | apply State.holdModeEnds_kept | apply State.applyPeriod_kept | apply State.readyNotice_kept | apply State.fsReady_kept | apply State.cfgCheck_kept | apply State.bootChoose_kept) | extract_lets | split

theorem State.resetPin_kept {s : State} (h : Kept a s) (seconds : Nat) : Kept a (State.resetPin s seconds) := by
  unfold State.resetPin
  repeat' first | intro _ | with_reducible (first | assumption | apply State.coldReset_kept | apply State.wr_kept | apply State.setFld_kept | apply Kept.ite) | extract_lets | split

theorem State.judgeRecord_kept {s : State} (h : Kept a s) (quick : Bool) : Kept a (State.judgeRecord s quick) := by
  unfold State.judgeRecord
  repeat' first | intro _ | with_reducible (first | assumption | apply State.setBit_kept | apply State.wr_kept) | extract_lets | split

theorem State.rowFails_kept {s : State} (h : Kept a s) (row : Nat) (l : List Failure) : Kept a (State.rowFails s row l) := by
  unfold State.rowFails
  repeat' first | intro _ | with_reducible (first | assumption | apply State.logFailure_kept | apply State.inc8_kept | apply State.raise_kept | apply State.add_kept | apply foldl_kept | apply Kept.ite) | extract_lets | split

theorem State.logUnit_kept {s : State} (h : Kept a s) (u : Nat) (flags : Nat) (l : List Failure) : Kept a (State.logUnit s u flags l) := by
  unfold State.logUnit
  repeat' first | intro _ | with_reducible (first | assumption | apply State.logFailure_kept | apply foldl_kept) | extract_lets | split

theorem State.unitFails_kept {s : State} (h : Kept a s) (u : Nat) (l : List Failure) : Kept a (State.unitFails s u l) := by
  unfold State.unitFails
  repeat' first | intro _ | with_reducible (first | assumption | apply State.rowFails_kept | apply State.logUnit_kept | apply forAll_kept | apply State.cagePhase_kept | apply State.propCage_kept | apply State.wr_kept | apply State.cageCtx_kept | apply State.cageConverter_kept | apply State.setFld_kept | apply foldl_kept | apply Kept.ite) | extract_lets | split

theorem State.startReads_kept {s : State} (h : Kept a s) (quick : Bool) : Kept a (State.startReads s quick) := by
  unfold State.startReads
  repeat' first | intro _ | with_reducible (first | assumption | apply State.nvmRecover_kept | apply State.plShow_kept | apply State.judgeRecord_kept) | extract_lets | split

theorem State.startHalts_kept {s : State} (h : Kept a s) (quick : Bool) (l : List Failure) : Kept a (State.startHalts s quick l) := by
  unfold State.startHalts
  repeat' first | intro _ | with_reducible (first | assumption | apply State.when_kept | apply State.startReads_kept | apply State.logFailure_kept | apply State.setFld_kept | apply State.inc16_kept | apply State.wr_kept | apply foldl_kept) | extract_lets | split

theorem State.restore_kept {s : State} (h : Kept a s) : Kept a (State.restore s) := by
  unfold State.restore
  repeat' first | intro _ | with_reducible (first | assumption | apply State.stateCmd_kept | apply State.setFld_kept | apply Kept.ite) | extract_lets | split

theorem State.configure_kept {s : State} (h : Kept a s) (quick : Bool) (l : List Failure) : Kept a (State.configure s quick l) := by
  unfold State.configure
  repeat' first | intro _ | with_reducible (first | assumption | apply State.startReads_kept | apply State.wr_kept | apply forAll_kept | apply State.unitFails_kept | apply State.cageCtx_kept | apply State.loadConfig_kept | apply State.enPins_kept | apply State.enterState_kept | apply State.raise_kept | apply State.restore_kept | apply State.rpStartClose_kept | apply Kept.ite) | extract_lets | split

theorem State.pgPin_kept {s : State} (h : Kept a s) (k : Nat) (high : Bool) (heldNs : Nat) : Kept a (State.pgPin s k high heldNs) := by
  unfold State.pgPin
  repeat' first | intro _ | with_reducible (first | assumption | apply State.wrB_kept | apply State.wr_kept | apply Kept.ite) | extract_lets | split

theorem State.eccCorrected_kept {s : State} (h : Kept a s) (n : Nat) : Kept a (State.eccCorrected s n) := by
  unfold State.eccCorrected
  repeat' first | intro _ | with_reducible (first | assumption | apply State.add_kept | apply State.wr_kept | apply forUnits_kept | apply State.raise_kept) | extract_lets | split

theorem State.poison_kept {s : State} (h : Kept a s) (g : Nat) (place : Nat) : Kept a (State.poison s g place) := by
  unfold State.poison
  repeat' first | intro _ | with_reducible (first | assumption | apply State.inc32_kept | apply State.wr_kept | apply State.instEnd_kept | apply Kept.ite) | ((first | with_reducible apply Kept.with_capFrames | with_reducible apply Kept.with_capEvents | with_reducible apply Kept.with_notices | with_reducible apply Kept.with_transfers | with_reducible apply Kept.with_blocks); with_reducible (first | assumption | apply State.inc32_kept | apply State.wr_kept | apply State.instEnd_kept | apply Kept.ite)) | extract_lets | split

theorem State.streamSample_kept {s : State} (h : Kept a s) (g : Nat) : Kept a (State.streamSample s g) := by
  unfold State.streamSample
  repeat' first | intro _ | with_reducible (first | assumption | apply State.toTickOf_kept | apply State.record_kept | apply Kept.ite) | extract_lets | split

theorem State.captureFrame_kept {s : State} (h : Kept a s) (node : List Int) (scan : List Int) : Kept a (State.captureFrame s node scan) := by
  unfold State.captureFrame
  repeat' first | intro _ | with_reducible (first | assumption | apply State.toTick_kept | apply State.capWrite_kept | apply State.wr_kept | apply State.capFreeze_kept | apply State.dropRecord_kept | apply Kept.ite) | extract_lets | split

theorem State.plOpEnds_kept {s : State} (h : Kept a s) (st : Nat) : Kept a (State.plOpEnds s st) := by
  unfold State.plOpEnds
  repeat' first | intro _ | with_reducible (first | assumption | apply State.when_kept | apply State.wr_kept | apply State.setFld_kept) | extract_lets | split

theorem State.asSync_kept {s : State} (h : Kept a s) (offset : Int) : Kept a (State.asSync s offset) := by
  unfold State.asSync
  repeat' first | intro _ | with_reducible (first | assumption | apply State.wr_kept | apply State.setFld_kept | apply State.servo_kept | apply Kept.ite) | extract_lets | split

theorem State.ibrAnswer_kept {s : State} (h : Kept a s) (k : Nat) (answer : Nat) (status : List Byte) (pdu : List Byte) : Kept a (State.ibrAnswer s k answer status pdu) := by
  unfold State.ibrAnswer
  repeat' first | intro _ | with_reducible (first | assumption | apply State.answer_kept | apply State.drive_kept | apply State.wr_kept | apply State.inc32_kept | apply State.setBlob_kept | apply Kept.ite) | (with_reducible apply Kept.with_rxbuf; with_reducible (first | assumption | apply State.answer_kept | apply State.drive_kept | apply State.wr_kept | apply State.inc32_kept | apply State.setBlob_kept | apply Kept.ite)) | extract_lets | split

theorem State.debugWrite_kept {s : State} (h : Kept a s) (level : Nat) (near : Bool) (v : Int) (ok : Bool) : Kept a (State.debugWrite s level near v ok) := by
  unfold State.debugWrite
  repeat' first | intro _ | with_reducible (first | assumption | apply State.debugCmd_kept | apply State.inc32_kept | apply State.when_kept | apply Kept.ite) | extract_lets | split

end Sys2Proof.Machine
end

