-- ==== Sys2Proof/Laws/Outcome.lean ====
section
/-!
SUPPORT. What a command's outcome is: the shared ends of the meanings answer a next state whatever they are given.
-/
namespace Sys2Proof.Machine

/-- A command to the power plane: its effect, settled, while the plane runs, and nothing else. -/
theorem State.ppDo_eq (s : State) (f : State → State) : s.ppDo f = .next (if s.ppRuns then (f s).settle else s) := by
  unfold State.ppDo State.done; split <;> rfl

/-- A command to the processor plane: its effect, settled, while the plane runs, and nothing else. -/
theorem State.procDo_eq (s : State) (f : State → State) : s.procDo f = .next (if s.procRuns then (f s).settle else s) := by
  unfold State.procDo State.done; split <;> rfl

/-- A command to the watchdog or the deputy. -/
theorem State.wdDo_eq (s : State) (f : State → State) :
    s.wdDo f = .next (if s.on Reg.corePowered && !s.on Reg.procReset && !s.on Reg.ppReset then (f s).settle else s) := by
  unfold State.wdDo State.done; split <;> rfl

/-- An event that the ring ports' isolation logic or the clock and reset unit sees. -/
theorem State.coreDo_eq (s : State) (f : State → State) : s.coreDo f = .next (if s.on Reg.corePowered then (f s).settle else s) := by
  unfold State.coreDo State.done; split <;> rfl

/-- A cause of a processor reset. -/
theorem State.causeDo_eq (s : State) (f : State → State) : s.causeDo f =
    .next (if s.on Reg.corePowered && !s.on Reg.ppReset && (!s.on Reg.procReset || (s.marked markProc 0).isSome) then (f s).settle else s) := by
  unfold State.causeDo State.done; split <;> rfl

/-- A write of the configuration by a command. -/
theorem State.hostWrite_eq (s : State) (level idx sub : Nat) (v : Int) :
    s.hostWrite level idx sub v = .next (if s.procRuns then (s.hostSet level false idx sub v).settle else s) :=
  s.procDo_eq _

/-- An accepted write is committed: the register, what follows in its block, the tests it interrupts, and what follows at once. -/
theorem State.hostWrite_accepted {s : State} {level idx sub : Nat} {v : Int} (h : s.procRuns = true)
    (a : s.accepts level idx sub v = true) : s.hostWrite level idx sub v =
      .next ((s.hook (s.written idx sub (rawOf idx sub v).2) idx sub (decoded idx sub (rawOf idx sub v).2)).served idx).settle := by
  have e : s.writeAbort level false idx sub (rawOf idx sub v).1 (rawOf idx sub v).2 = 0 := by simpa [State.accepts] using a
  simp [State.hostWrite_eq, h, State.hostSet, e, State.write, State.when, State.commit]

/-- The processor plane does not run while it is in reset. -/
theorem State.procReset_off {s : State} (h : s.procRuns = true) : s.on Reg.procReset = false := by
  simp [State.procRuns] at h; simp [h]

/-- The power plane does not run while it is in reset. -/
theorem State.ppReset_off {s : State} (h : s.ppRuns = true) : s.on Reg.ppReset = false := by
  simp [State.ppRuns] at h; simp [h]

/-- Outside a processor reset no cause joins one: the command runs. -/
theorem State.orJoins_awake {s : State} (h : s.on Reg.procReset = false) (f g : State → State) (run : Result) :
    s.orJoins f g run = run := by
  simp [State.orJoins, State.procBegun, h]

/-- Outside a processor reset the watchdog is judged as it stands. -/
theorem State.watchBack_awake {s : State} (h : s.on Reg.procReset = false) : s.watchBack = s := by
  simp [State.watchBack, State.procBegun, h]

/-- While the power plane runs a sample of T0 joins no reset of it. -/
theorem State.t0Joins_running {s : State} (h : s.ppRuns = true) (v : Int) (good : Bool) : s.t0Joins v good = false := by
  simp [State.t0Joins, State.ppReset_off h]

/-- A settled state stays as it is. -/
theorem State.settle_settled {s : State} (h : s.settled = true) : s.settle = s := by
  unfold State.settle; simp [h]

theorem State.ppDo_kept {a s t : State} {f : State → State} (h : Kept a s) (g : ∀ u, Kept a u → Kept a (f u))
    (e : s.ppDo f = .next t) : Kept a t := by
  rw [State.ppDo_eq] at e; cases e; exact Kept.ite (State.settle_kept (g s h)) h

theorem State.procDo_kept {a s t : State} {f : State → State} (h : Kept a s) (g : ∀ u, Kept a u → Kept a (f u))
    (e : s.procDo f = .next t) : Kept a t := by
  rw [State.procDo_eq] at e; cases e; exact Kept.ite (State.settle_kept (g s h)) h

theorem State.wdDo_kept {a s t : State} {f : State → State} (h : Kept a s) (g : ∀ u, Kept a u → Kept a (f u))
    (e : s.wdDo f = .next t) : Kept a t := by
  rw [State.wdDo_eq] at e; cases e; exact Kept.ite (State.settle_kept (g s h)) h

theorem State.coreDo_kept {a s t : State} {f : State → State} (h : Kept a s) (g : ∀ u, Kept a u → Kept a (f u))
    (e : s.coreDo f = .next t) : Kept a t := by
  rw [State.coreDo_eq] at e; cases e; exact Kept.ite (State.settle_kept (g s h)) h

theorem State.causeDo_kept {a s t : State} {f : State → State} (h : Kept a s) (g : ∀ u, Kept a u → Kept a (f u))
    (e : s.causeDo f = .next t) : Kept a t := by
  rw [State.causeDo_eq] at e; cases e; exact Kept.ite (State.settle_kept (g s h)) h

theorem State.done_kept {a s t : State} (h : Kept a s) (e : s.done = .next t) : Kept a t := by
  cases e; exact State.settle_kept h

theorem State.hostWrite_kept {a s t : State} (h : Kept a s) (level idx sub : Nat) (v : Int)
    (e : s.hostWrite level idx sub v = .next t) : Kept a t :=
  State.procDo_kept h (fun _ g => State.hostSet_kept g _ _ _ _ _) e

end Sys2Proof.Machine
end

