-- ==== Sys2Proof/Tests/Slice0.lean ====
section
/-!
SUPPORT. The model's own tests: ill-formed terms that the check refuses, examples of the spec, single commands on small states, and for
every statement states and operands that meet its hypotheses.
-/
namespace Sys2Proof.Machine

set_option maxRecDepth 100000

/-- The state after reset with some registers and some fields at other values. -/
def built (l : List (Nat × Int)) (f : List (Bits × Nat)) : State :=
  f.foldl (fun s p => s.setFld p.1 p.2) (l.foldl (fun s p => s.wr p.1 p.2) State.reset)

/-- Lane 1 runs slot 127, whose word is `w`. -/
def atInstr (w : Nat) : State := (built [(Reg.lnSlot 1, 128)] []).setBlob (Reg.ltProg 1) (leBytes 4 w)

/-- A card with an image header signed (with the private key 1) under the public key loaded in slot 0. -/
def cardInstalled : State :=
  ((built [(Reg.STATE, 3)] [(flag Reg.CARD_STATUS 1, 1), (flag Reg.KEY_MAP 8, 1)]).setBlob Reg.CARD_HEADER (leBytes 256
    14665978449581463909828670262457462738488107509521753328338919575345525673376370309331185048775975015600797397927915065091538485925968266117939520438115940291032621389492586791283584453014438527510081608115854371472040478965266585845524598262896775971212397917701065845170762960760077915123835078037942648987724829350894510470501393424003053321625914953746709704516328485757055327539706622238974447751852980929074444573365395385790320548865078641744818093724827923232555838281432177941243039890517531458545345551138901145156780539150102921778468316415245525106044761945653181658362164685344525742027673559222092646733)).setBlob (Reg.PUBKEY 0) (leBytes 64
    12848415536889929810942929663809185622044927303012336624043531494795519418898768949504774849640561268181849910057269387681333224483169262077435046232397675)

/-- A register after a command. -/
def after (c : Instr) (s : State) (k : Nat) : Option Int :=
  match exec c s with
  | .next t => some (t.rd k)
  | _ => none

/-! ### Ill-formed terms -/

/-- Refused: conversionResult (log entry 114: a level beyond twice the full scale); creditRequest (R450: a block holds 256 bytes); captureFrame (R465: five node words); captureFrame (R465: at most nine scan words); captureFrame (R335: a node word is a Q15 fraction); captureFrame (R335: a scan word is a Q15 fraction); pduReceive (R527: port code 0 is no port). -/
theorem test_illFormed_samples :
    Instr.wf (.conversionResult ⟨0, none⟩ 0 65536) = false ∧
    Instr.wf (.creditRequest 19 (List.replicate 257 0)) = false ∧
    Instr.wf (.captureFrame [0, 0, 0, 0] []) = false ∧
    Instr.wf (.captureFrame [0, 0, 0, 0, 0] (List.replicate 10 0)) = false ∧
    Instr.wf (.captureFrame [0, 0, 0, 0, 40000] []) = false ∧
    Instr.wf (.captureFrame [0, 0, 0, 0, 0] [-40000]) = false ∧
    Instr.wf (.pduReceive 0 []) = false := by
  decide

/-- Refused: read (R527); write (R527); write (R505: VLEN is one byte); bundle (R527); bundle (R506: VLEN is one byte); bundle (R506: a body holds 1024 bytes); describe (R527). -/
theorem test_illFormed_requests :
    Instr.wf (.read 1 0 0 0 0 0) = false ∧
    Instr.wf (.write 1 0 0 0 0 0 []) = false ∧
    Instr.wf (.write 1 5 0 0 0 0 (List.replicate 256 0)) = false ∧
    Instr.wf (.bundle 1 0 0 0 ⟨[], none⟩) = false ∧
    Instr.wf (.bundle 1 5 0 0 ⟨[(0, 0, List.replicate 256 0)], none⟩) = false ∧
    Instr.wf (.bundle 1 5 0 0 ⟨List.replicate 4 (0, 0, List.replicate 255 0), none⟩) = false ∧
    Instr.wf (.describe 1 0 0 0 0 0) = false := by
  decide

/-- Refused: domainRead (R527); domainStart (R527); domainData (R527); domainData (R510: a segment holds a byte); domainData (R510: a segment holds at most 1016 bytes); domainEnd (R527); assign (R527). -/
theorem test_illFormed_segments :
    Instr.wf (.domainRead 1 0 0 0 0 0 0 0) = false ∧
    Instr.wf (.domainStart 1 0 0 0 0 0 0) = false ∧
    Instr.wf (.domainData 1 0 0 0 0 [0]) = false ∧
    Instr.wf (.domainData 1 5 0 0 0 []) = false ∧
    Instr.wf (.domainData 1 5 0 0 0 (List.replicate 1017 0)) = false ∧
    Instr.wf (.domainEnd 1 0 0 0 ⟨0, none⟩) = false ∧
    Instr.wf (.assign 1 0 0 0 0) = false := by
  decide

/-- Refused: frameReceive (R517: the shortest frame); frameReceive (R517: the longest frame); frameReceive (R519: no CAN FD length); canFrameReceive (R519: no CAN FD length); inBandAnswer (R553: a status answer holds 16 bytes); wihanReceive (R572: the shortest message); wihanReceive (R572: the longest message). -/
theorem test_illFormed_frames :
    Instr.wf (.frameReceive 0 0 [] true) = false ∧
    Instr.wf (.frameReceive 1 0 (List.replicate 1523 0) true) = false ∧
    Instr.wf (.frameReceive 2 0 (List.replicate 9 0) true) = false ∧
    Instr.wf (.canFrameReceive 0 0 []) = false ∧
    Instr.wf (.inBandAnswer 0 0 (List.replicate 17 0) []) = false ∧
    Instr.wf (.wihanReceive [0, 0, 0, 0, 0] false) = false ∧
    Instr.wf (.wihanReceive (List.replicate 51 0) false) = false := by
  decide

/-- Refused: shareReceive (R577: entries of 11 bytes); shareReceive (R577: at least one entry); shareReceive (R577: at most four entries); imgOffer (R527); imgOffer (R606: the header holds 256 bytes); imgData (R527); imgData (R607: a part holds a byte). -/
theorem test_illFormed_messages :
    Instr.wf (.shareReceive 0 0 (List.replicate 12 0)) = false ∧
    Instr.wf (.shareReceive 0 0 []) = false ∧
    Instr.wf (.shareReceive 0 0 (List.replicate 55 0)) = false ∧
    Instr.wf (.imgOffer 1 0 0 0 (List.replicate 256 0)) = false ∧
    Instr.wf (.imgOffer 1 5 0 0 []) = false ∧
    Instr.wf (.imgData 1 0 0 0 0 [0]) = false ∧
    Instr.wf (.imgData 1 5 0 0 0 []) = false := by
  decide

/-- Refused: imgData (R607: a part holds at most 1008 bytes); imgEnd (R527); imgQuery (R527); sessionOpen (R527); sessionProve (R527); sessionClose (R527); relayResponseReceived (R496: the longest response body). -/
theorem test_illFormed_images :
    Instr.wf (.imgData 1 5 0 0 0 (List.replicate 1009 0)) = false ∧
    Instr.wf (.imgEnd 1 0 0 0) = false ∧
    Instr.wf (.imgQuery 1 0 0 0) = false ∧
    Instr.wf (.sessionOpen 1 0 0 0 0) = false ∧
    Instr.wf (.sessionProve 1 0 0 true) = false ∧
    Instr.wf (.sessionClose 1 0 0) = false ∧
    Instr.wf (.relayResponseReceived 0 (List.replicate 1023 0)) = false := by
  decide

/-- Well formed: one command of each shape that a check admits, at the boundary of the check. -/
theorem test_wellFormed_boundaries :
    Instr.wf (.conversionResult ⟨5, some 255⟩ 95 (-65536)) = true ∧ Instr.wf (.conversionResult ⟨0, none⟩ 0 65535) = true ∧ Instr.wf (.captureFrame [0, 0, 0, 0, 32767] (List.replicate 9 0)) = true ∧
    Instr.wf (.write 62 8 3 0xFFFF 0xFFFF 0xFF (List.replicate 255 0)) = true ∧ Instr.wf (.domainData 1 5 0 0 0 (List.replicate 1016 0)) = true ∧
    Instr.wf (.frameReceive 2 0 (List.replicate 12 0) true) = true ∧ Instr.wf (.shareReceive 7 63 (List.replicate 44 0)) = true ∧
    Instr.wf (.imgData 1 5 0 0 0 (List.replicate 1008 0)) = true := by
  decide

/-! ### Examples of the spec -/

/-- 07_loop_engine.md, Encoding examples: MAC A0, V2, V3; RDS V1, 96, relative; LDI V2, −2000; SKP EQ, V7, V4, 1; WRA 20, V6; END. -/
theorem test_words_of_the_examples : instrWord 0x22 0 2 3 0 = 0x8808C000 ∧ instrWord 5 1 8 0 96 = 0x14600060 ∧
    instrWord 3 2 0 0 0xF830 = 0x0C80F830 ∧ instrWord 0x30 (2 * 0) 7 4 1 = 0xC01D0001 ∧ instrWord 7 0 6 0 20 = 0x1C180014 ∧
    instrWord 1 0 0 0 0 = 0x04000000 ∧ wordOk 0x8808C000 = true ∧ wordOk 0x14600060 = true ∧ wordOk 0xC01D0001 = true ∧
    wordOk 0x1C180014 = true := by
  decide

/-- 07_loop_engine.md R303: the word of MAC A0, V2, V3 runs MAC: 3 + 5 × (−7) = −32. -/
theorem test_mac_of_the_examples : after (.mac 1 0 2 3) (((atInstr 0x8808C000).wr (Reg.slV 2034) 5).wr (Reg.slV 2035) (-7) |>.wr (Reg.slA 508) 3) (Reg.slA 508) = some (-32) := by
  decide

/-- 07_loop_engine.md R303: LDI V2, −2000. -/
theorem test_ldi_of_the_examples : after (.ldi 1 2 0xF830) (atInstr 0x0C80F830) (Reg.slV 2034) = some (-2000) := by
  decide

/-- 07_loop_engine.md R300, R301: 0x7FFF + 1 saturates, and SAT sets. -/
theorem test_add_saturates : after (.add 1 0 1 2) (((atInstr (instrWord 0x10 0 1 2 0)).wr (Reg.slV 2033) 32767).wr (Reg.slV 2034) 1) (Reg.slV 2032) = some 32767 ∧
    after (.add 1 0 1 2) (((atInstr (instrWord 0x10 0 1 2 0)).wr (Reg.slV 2033) 32767).wr (Reg.slV 2034) 1) (Reg.slSat 127) = some 1 := by
  decide

/-- 07_loop_engine.md R304, R305: SKP EQ with equal registers skips one instruction, and takes one cycle. -/
theorem test_skp_skips : after (.skp 1 0 7 4 1) (atInstr 0xC01D0001) (Reg.slPc 127) = some 2 ∧ after (.skp 1 0 7 4 1) (atInstr 0xC01D0001) (Reg.slCyc 127) = some 1 := by
  decide

/-- 07_loop_engine.md R304: LT is signed: 1 is not below −1. -/
theorem test_skp_does_not_skip : after (.skp 1 2 7 4 9) (((atInstr (instrWord 0x30 4 7 4 9)).wr (Reg.slV 2039) 1).wr (Reg.slV 2036) (-1)) (Reg.slPc 127) = some 1 := by
  decide

/-- 07_loop_engine.md R300: rnd15 of 0x4000 × 3 is floor((49152 + 16384) / 32768) = 2. -/
theorem test_mul_rounds : after (.mul 1 0 1 2) (((atInstr (instrWord 0x13 0 1 2 0)).wr (Reg.slV 2033) 0x4000).wr (Reg.slV 2034) 3) (Reg.slV 2032) = some 2 := by
  decide

/-- 07_loop_engine.md R316: |−5| exceeds 4: the timer advances by 2 × 5120 ns, and FE_ELAPSED_US reads 10. -/
theorem test_fel_advances : after (.fel 1 1 2) (((atInstr (instrWord 0x31 0 1 2 0)).wr (Reg.slV 2033) (-5)).wr (Reg.slV 2034) 4 |>.wr (Reg.ltDiv 127) 2) (Reg.FE_ELAPSED_US 127) = some 10 := by
  decide

/-- 02_converter_core.md R55: 750 mV at SENSE_GAIN 10 000 is code 1875; 12 V at 1000 is code 3000. -/
theorem test_reference_codes : roundDiv (750 * 10000) 4000 = 1875 ∧ roundDiv (12000 * 1000) 4000 = 3000 := by
  decide

/-- 02_converter_core.md, Worked example: round(6 400 000 × 750 / (12 000 × 600)) is 667 taps. -/
theorem test_on_time_of_the_example : roundDiv (6400000 * 750) (12000 * 600) = 667 := by
  decide

/-- 00_scope.md R706: 0.5, 1.5 and −0.5. -/
theorem test_half_rounds_away : roundDiv 1 2 = 1 ∧ roundDiv 3 2 = 2 ∧ roundDiv (-1) 2 = -1 ∧ roundDiv (-3) 2 = -2 := by
  decide

/-- 00_scope.md, Example from the notation: 0x00C8 is accepted, 0x00C9 is rejected. -/
theorem test_lead_us_range : (built [(Reg.STATE, 3)] []).accepts 3 0x3000 4 200 = true ∧ (built [(Reg.STATE, 3)] []).accepts 3 0x3000 4 201 = false := by
  decide

/-- 12_dictionary.md R490: an RWS object is refused with the state abort code out of CONFIGURED. -/
theorem test_lead_us_only_in_configured : (built [(Reg.STATE, 4)] []).writeAbort 3 false 0x3000 4 4 200 = 0x0501 := by
  decide

/-- 12_dictionary.md, a bundle over CAN FD: PRIO 4, DST 4, SRC 0 is identifier 0x1040_0000. The header bytes are PRIO, DST and SRC of the model's PDU. -/
theorem test_can_identifier : 4 * 67108864 + 4 * 1048576 + 0 * 16384 = 0x10400000 ∧ 3 * 67108864 + 0 * 1048576 + 4 * 16384 = 0x0C010000 := by
  decide

/-- 10_faults_watchdog_resets.md R431, first two lines of its table: with P 16 ms a service at tick 199 999 is a violation, at 200 000 it is accepted. -/
theorem test_watchdog_opening : after (.wdtSvc 0xD1A6 199999) ({ built [(Reg.WD_PERIOD_MS, 16)] [] with timebase := 7999960 } : State) Reg.WD_VIOLATIONS = some 1 ∧
    after (.wdtSvc 0xD1A6 200000) ({ built [(Reg.WD_PERIOD_MS, 16)] [] with timebase := 8000000 } : State) Reg.WD_VIOLATIONS = some 0 := by
  decide

/-- 10_faults_watchdog_resets.md R431: a service at 400 000 is not decided; a wrong key at 250 000 is a violation. -/
theorem test_watchdog_end : after (.wdtSvc 0xD1A6 400000) ({ built [(Reg.WD_PERIOD_MS, 16)] [] with timebase := 16000000 } : State) Reg.WD_STATUS = some 0 ∧
    after (.wdtSvc 0xD1A7 250000) ({ built [(Reg.WD_PERIOD_MS, 16)] [] with timebase := 10000000 } : State) Reg.WD_VIOLATIONS = some 1 := by
  decide

/-- 10_faults_watchdog_resets.md R431, R434: the violation starts a processor reset with CAUSE 0x04 and LEVEL 0b01. -/
theorem test_violation_resets : after (.wdtSvc 0 0) State.reset Reg.LAST_RESET = some 0x401 := by
  decide

/-- 10_faults_watchdog_resets.md R423. -/
theorem test_foreign_write : after .foreignWrite State.reset Reg.WD_FOREIGN = some 1 := by
  decide

/-- 09_sequencing_and_states.md R379, R380: RUN in CONFIGURED. -/
theorem test_state_command : after (.stateCmdRun 1) (built [(Reg.STATE, 3)] []) Reg.STATE = some 4 ∧ after (.stateCmdRun 1) (built [(Reg.STATE, 3)] []) Reg.STATE_CHANGES = some 1 := by
  decide

/-- 09_sequencing_and_states.md R379: a command in STARTING is rejected and counted. -/
theorem test_state_command_in_starting : after (.stateCmdRun 1) State.reset Reg.STATE = some 2 ∧ after (.stateCmdRun 1) State.reset Reg.STATE_REJECTS = some 1 := by
  decide

/-- 10_faults_watchdog_resets.md R435: CAUSE 0x05. -/
theorem test_reset_command : after (.resetCmd 2) (built [(Reg.STATE, 3)] []) Reg.LAST_RESET = some 0x501 ∧ after (.resetCmd 1) (built [(Reg.STATE, 3)] []) Reg.LAST_RESET = some (State.reset.rd Reg.LAST_RESET) := by
  decide

/-- 01_architecture.md R24: a pulse shorter than 9.0 µs is ignored, one longer than 10.0 µs is a cold reset with CAUSE 0x02. -/
theorem test_reset_n_short : after (.resetN 8999 0) State.reset Reg.LAST_RESET = some (State.reset.rd Reg.LAST_RESET) ∧ after (.resetN 10001 0) State.reset Reg.LAST_RESET = some 0x203 := by
  decide

/-- 05_ring_and_holdup.md R204, R207: TRIPPED with CAUSE 1. -/
theorem test_ring_trip : (match exec (.directionalTrip 0 99999999) (built [] [(rpState 0, 2), (rpPilotIn 0, 1), (Bit.RP_CTRL_ENABLE 0, 1), (Bit.RP_CTRL_PILOT_EN 0, 1)]) with
    | .next u => decide (u.rpSt 0 = 3) && decide (u.fld (rpCause 0) = 1)
    | _ => false) = true := by
  decide

/-- 02_converter_core.md R79: above the reference less half of PILEIN_PERMILLE. -/
theorem test_pile_in_rearm : after (.pileInRearm 0 1000) (built [(Reg.rlDac 0, 2500), (Reg.rlPileArmed 0, 0)] []) (Reg.rlPileArmed 0) = some 1 ∧
    after (.pileInRearm 0 500) (built [(Reg.rlDac 0, 2500), (Reg.rlPileArmed 0, 0)] []) (Reg.rlPileArmed 0) = some 0 := by
  decide

/-- 10_faults_watchdog_resets.md R413, R416: a forced raise counts and is marked. -/
theorem test_force_counts : after (.sourceForce 2 1000) (built [(Reg.STATE, 3)] []) (Reg.RAISES 1000) = some 1 ∧ after (.sourceForce 1 1000) (built [(Reg.STATE, 3)] []) (Reg.RAISES 1000) = some 0 := by
  decide

/-- 13_links.md R540: source 233 is raised. -/
theorem test_beacon_loss : after .beaconLoss ({ built [(Reg.planeReady, 1), (Reg.PLCA_NODE_ID, 1)] [(flag Reg.T1S_CTRL 0, 1), (flag Reg.T1S_CTRL 1, 1)] with timebase := 1000000 } : State) (Reg.RAISES 233) = some 1 := by
  decide

/-- 01_architecture.md R32: the root is lost: ON_BACKUP, and source 224. -/
theorem test_clock_switches : after .rootClockLoss State.reset (Reg.RAISES 224) = some 1 := by
  decide

/-- FIPS 180-4: the digest of the three bytes of abc. -/
theorem test_sha256_abc : blockNat (sha256 [0x61, 0x62, 0x63]) = 0xba7816bf8f01cfea414140de5dae2223b00361a396177a9cb410ff61f20015ad := by
  decide +kernel

/-- FIPS 197, appendix C.1. -/
theorem test_aes128 : blockNat (aesEncrypt (beBytes 16 0x000102030405060708090a0b0c0d0e0f) (beBytes 16 0x00112233445566778899aabbccddeeff)) = 0x69c4e0d86a7b0430d8cdb78070b4c55a := by
  decide +kernel

/-- NIST SP 800-38B, AES-128, the empty message. -/
theorem test_cmac_empty : blockNat (cmac (beBytes 16 0x2b7e151628aed2a6abf7158809cf4f3c) []) = 0xbb1d6929e95937287fa37d129b756746 := by
  decide +kernel

/-! ### What the statements suppose can be met -/

/-- The hypotheses of EmptyQueueIsAClockEdge. -/
theorem test_met_EmptyQueueIsAClockEdge :
    State.reset.pending = [] ∧
    (∀ p : Nat, p < 16 → State.reset.rd (Reg.phDue p) = 0) := by
  refine ⟨?_, ?_⟩
  · exact rfl
  · decide

/-- The hypotheses of StepTakesTheFrontCommand. -/
theorem test_met_StepTakesTheFrontCommand :
    stepsTo State.reset State.reset.idle := by
  exact rfl

/-- The hypotheses of StepKeepsTheCanonicalForm. -/
theorem test_met_StepKeepsTheCanonicalForm :
    State.reset.wf ∧
    stepsTo State.reset State.reset.idle := by
  refine ⟨?_, ?_⟩
  · unfold State.wf; decide
  · exact rfl

/-- The hypotheses of FreeValuesNeverComeBack. -/
theorem test_met_FreeValuesNeverComeBack :
    stepsTo State.reset State.reset.idle := by
  exact rfl

/-- The hypotheses of EqualReadsMeanEqualStores. -/
theorem test_met_EqualReadsMeanEqualStores :
    (built [(Reg.STATE, 3), (Reg.planeReady, 1)] []).wf ∧
    (built [(Reg.planeReady, 1), (Reg.STATE, 4), (Reg.STATE, 3)] []).wf ∧
    (∀ k, (built [(Reg.STATE, 3), (Reg.planeReady, 1)] []).rd k = (built [(Reg.planeReady, 1), (Reg.STATE, 4), (Reg.STATE, 3)] []).rd k) := by
  refine ⟨?_, ?_, ?_⟩
  · unfold State.wf; decide
  · unfold State.wf; decide
  · have e : (built [(Reg.STATE, 3), (Reg.planeReady, 1)] []).regs = (built [(Reg.planeReady, 1), (Reg.STATE, 4), (Reg.STATE, 3)] []).regs := by decide
    intro k; unfold State.rd; rw [e]

/-- The hypotheses of SettledEffectIsTheOutcome. -/
theorem test_met_SettledEffectIsTheOutcome :
    State.reset.raiseQ = [] ∧
    State.reset.reactions = [] ∧
    State.reset.on Reg.seqDue = false ∧
    State.reset.resetDue = false ∧
    State.reset.startDue = false ∧
    State.reset.nvmIdleWork = false ∧
    State.reset.linkCalm = true := by
  refine ⟨?_, ?_, ?_, ?_, ?_, ?_, ?_⟩
  · exact rfl
  · exact rfl
  · decide
  · decide
  · decide
  · decide
  · decide

/-- The hypotheses of LoopDataResults. -/
theorem test_met_LoopDataResults :
    atWord (atInstr (instrWord 3 (15 : Fin 16) 0 0 (0x8000 : BitVec 16).toNat)) 1 127 (instrWord 3 (15 : Fin 16) 0 0 (0x8000 : BitVec 16).toNat) ∧
    atWord (atInstr (instrWord 4 (15 : Fin 16) (14 : Fin 16) 0 0)) 1 127 (instrWord 4 (15 : Fin 16) (14 : Fin 16) 0 0) ∧
    atWord (atInstr (instrWord 5 (15 : Fin 16) (if (true : Bool) then 8 else 0) 0 (1023 : Fin 1024))) 1 127 (instrWord 5 (15 : Fin 16) (if (true : Bool) then 8 else 0) 0 (1023 : Fin 1024)) ∧
    atWord (atInstr (instrWord 6 (15 : Fin 16) 0 0 (7 : Fin 8))) 1 127 (instrWord 6 (15 : Fin 16) 0 0 (7 : Fin 8)) ∧
    atWord (atInstr (instrWord 0x10 (15 : Fin 16) (14 : Fin 16) (13 : Fin 16) 0)) 1 127 (instrWord 0x10 (15 : Fin 16) (14 : Fin 16) (13 : Fin 16) 0) ∧
    atWord (atInstr (instrWord 0x11 (15 : Fin 16) (14 : Fin 16) (13 : Fin 16) 0)) 1 127 (instrWord 0x11 (15 : Fin 16) (14 : Fin 16) (13 : Fin 16) 0) ∧
    atWord (atInstr (instrWord 0x12 (15 : Fin 16) (14 : Fin 16) 0 (0xFFFF : BitVec 16).toNat)) 1 127 (instrWord 0x12 (15 : Fin 16) (14 : Fin 16) 0 (0xFFFF : BitVec 16).toNat) ∧
    atWord (atInstr (instrWord 0x13 (15 : Fin 16) (14 : Fin 16) (13 : Fin 16) 0)) 1 127 (instrWord 0x13 (15 : Fin 16) (14 : Fin 16) (13 : Fin 16) 0) ∧
    atWord (atInstr (instrWord 0x14 (15 : Fin 16) (14 : Fin 16) 0 0)) 1 127 (instrWord 0x14 (15 : Fin 16) (14 : Fin 16) 0 0) ∧
    atWord (atInstr (instrWord 0x15 (15 : Fin 16) (14 : Fin 16) 0 0)) 1 127 (instrWord 0x15 (15 : Fin 16) (14 : Fin 16) 0 0) ∧
    atWord (atInstr (instrWord 0x16 (15 : Fin 16) (14 : Fin 16) (13 : Fin 16) 0)) 1 127 (instrWord 0x16 (15 : Fin 16) (14 : Fin 16) (13 : Fin 16) 0) ∧
    atWord (atInstr (instrWord 0x17 (15 : Fin 16) (14 : Fin 16) (13 : Fin 16) 0)) 1 127 (instrWord 0x17 (15 : Fin 16) (14 : Fin 16) (13 : Fin 16) 0) ∧
    atWord (atInstr (instrWord 0x18 (15 : Fin 16) (14 : Fin 16) (13 : Fin 16) 0)) 1 127 (instrWord 0x18 (15 : Fin 16) (14 : Fin 16) (13 : Fin 16) 0) ∧
    atWord (atInstr (instrWord 0x19 (15 : Fin 16) (14 : Fin 16) 0 (15 : Fin 16))) 1 127 (instrWord 0x19 (15 : Fin 16) (14 : Fin 16) 0 (15 : Fin 16)) ∧
    atWord (atInstr (instrWord 0x1A (15 : Fin 16) (14 : Fin 16) 0 (15 : Fin 16))) 1 127 (instrWord 0x1A (15 : Fin 16) (14 : Fin 16) 0 (15 : Fin 16)) ∧
    atWord (atInstr (instrWord 0x1B (15 : Fin 16) (14 : Fin 16) (13 : Fin 16) 0)) 1 127 (instrWord 0x1B (15 : Fin 16) (14 : Fin 16) (13 : Fin 16) 0) ∧
    atWord (atInstr (instrWord 0x26 (15 : Fin 16) 0 0 (15 : Fin 16))) 1 127 (instrWord 0x26 (15 : Fin 16) 0 0 (15 : Fin 16)) := by
  refine ⟨?_, ?_, ?_, ?_, ?_, ?_, ?_, ?_, ?_, ?_, ?_, ?_, ?_, ?_, ?_, ?_, ?_⟩
  · unfold atWord; decide
  · unfold atWord; decide
  · unfold atWord; decide
  · unfold atWord; decide
  · unfold atWord; decide
  · unfold atWord; decide
  · unfold atWord; decide
  · unfold atWord; decide
  · unfold atWord; decide
  · unfold atWord; decide
  · unfold atWord; decide
  · unfold atWord; decide
  · unfold atWord; decide
  · unfold atWord; decide
  · unfold atWord; decide
  · unfold atWord; decide
  · unfold atWord; decide

/-- The hypotheses of LoopAccumulatorResults. -/
theorem test_met_LoopAccumulatorResults :
    atWord (atInstr (instrWord 0x20 (3 : Fin 4) 0 0 0)) 1 127 (instrWord 0x20 (3 : Fin 4) 0 0 0) ∧
    atWord (atInstr (instrWord 0x21 (3 : Fin 4) (15 : Fin 16) 0 0)) 1 127 (instrWord 0x21 (3 : Fin 4) (15 : Fin 16) 0 0) ∧
    atWord (atInstr (instrWord 0x22 (3 : Fin 4) (15 : Fin 16) (14 : Fin 16) 0)) 1 127 (instrWord 0x22 (3 : Fin 4) (15 : Fin 16) (14 : Fin 16) 0) ∧
    atWord (atInstr (instrWord 0x23 (3 : Fin 4) (15 : Fin 16) (14 : Fin 16) 0)) 1 127 (instrWord 0x23 (3 : Fin 4) (15 : Fin 16) (14 : Fin 16) 0) ∧
    atWord (atInstr (instrWord 0x24 (3 : Fin 4) (15 : Fin 16) 0 0)) 1 127 (instrWord 0x24 (3 : Fin 4) (15 : Fin 16) 0 0) ∧
    atWord (atInstr (instrWord 0x25 (3 : Fin 4) 0 0 (15 : Fin 16))) 1 127 (instrWord 0x25 (3 : Fin 4) 0 0 (15 : Fin 16)) ∧
    atWord (atInstr (instrWord 0x27 (3 : Fin 4) (15 : Fin 16) (14 : Fin 16) 0)) 1 127 (instrWord 0x27 (3 : Fin 4) (15 : Fin 16) (14 : Fin 16) 0) := by
  refine ⟨?_, ?_, ?_, ?_, ?_, ?_, ?_⟩
  · unfold atWord; decide
  · unfold atWord; decide
  · unfold atWord; decide
  · unfold atWord; decide
  · unfold atWord; decide
  · unfold atWord; decide
  · unfold atWord; decide

/-- The hypotheses of LoopControlResults. -/
theorem test_met_LoopControlResults :
    atWord (atInstr (instrWord 0 0 0 0 0)) 1 127 (instrWord 0 0 0 0 0) ∧
    atWord (atInstr (instrWord 1 0 0 0 0)) 1 127 (instrWord 1 0 0 0 0) ∧
    atWord (atInstr (instrWord 2 0 0 0 0)) 1 127 (instrWord 2 0 0 0 0) ∧
    atWord (atInstr (instrWord 7 0 (15 : Fin 16) 0 ((if (true : Bool) then 2 ^ 17 else 0) + (511 : Fin 512)))) 1 127 (instrWord 7 0 (15 : Fin 16) 0 ((if (true : Bool) then 2 ^ 17 else 0) + (511 : Fin 512))) ∧
    atWord (atInstr (instrWord 8 0 (15 : Fin 16) (14 : Fin 16) (31 : Fin 32))) 1 127 (instrWord 8 0 (15 : Fin 16) (14 : Fin 16) (31 : Fin 32)) := by
  refine ⟨?_, ?_, ?_, ?_, ?_⟩
  · unfold atWord; decide
  · unfold atWord; decide
  · unfold atWord; decide
  · unfold atWord; decide
  · unfold atWord; decide

/-- The hypotheses of SkipsOnItsCondition. -/
theorem test_met_SkipsOnItsCondition :
    atWord (atInstr (instrWord 0x30 (2 * 0) 15 14 255)) 1 127 (instrWord 0x30 (2 * 0) 15 14 255) ∧
    atWord (atInstr (instrWord 0x30 (2 * 5) 15 15 255)) 1 127 (instrWord 0x30 (2 * 5) 15 15 255) ∧
    atWord (atInstr (instrWord 0x30 (2 * 6) 0 0 255)) 1 127 (instrWord 0x30 (2 * 6) 0 0 255) ∧
    State.reset.ppRuns = true := by
  refine ⟨?_, ?_, ?_, ?_⟩
  · unfold atWord; decide
  · unfold atWord; decide
  · unfold atWord; decide
  · decide

/-- The hypotheses of FollowingErrorTimer. -/
theorem test_met_FollowingErrorTimer :
    atWord (atInstr (instrWord 0x31 0 15 14 0)) 1 127 (instrWord 0x31 0 15 14 0) := by
  unfold atWord; decide

/-- The hypotheses of LaterWriteReplacesEarlier. -/
theorem test_met_LaterWriteReplacesEarlier :
    31 < 32 := by
  decide

/-- The hypotheses of RoundingIsToNearest. -/
theorem test_met_RoundingIsToNearest :
    (0 : Int) < 2 := by
  decide

/-- The hypotheses of RaiseCountsAndStamps. -/
theorem test_met_RaiseCountsAndStamps :
    State.reset.ppRuns = true ∧
    (built [(Reg.ppReset, 1)] []).ppRuns = false := by
  refine ⟨?_, ?_⟩ <;> decide

/-- The hypotheses of ForeignWriteIsCountedAndRaised. -/
theorem test_met_ForeignWriteIsCountedAndRaised :
    State.reset.on Reg.corePowered = true ∧
    State.reset.on Reg.procReset = false ∧
    State.reset.on Reg.ppReset = false := by
  refine ⟨?_, ?_, ?_⟩ <;> decide

/-- The hypotheses of WatchdogServiceIsDecided. -/
theorem test_met_WatchdogServiceIsDecided :
    State.reset.on Reg.corePowered = true ∧
    State.reset.on Reg.procReset = false ∧
    State.reset.on Reg.ppReset = false ∧
    State.reset.nowMark markWdPeriod 0 = none ∧
    ceilDiv ({ State.reset with timebase := 63999999 } : State).wdAge 40 = State.reset.rd Reg.WD_PERIOD_MS * 25000 ∧
    ceilDiv ({ State.reset with timebase := 31999960 } : State).wdAge 40 * 2 < State.reset.rd Reg.WD_PERIOD_MS * 25000 ∧
    ceilDiv ({ State.reset with timebase := 32000000 } : State).wdAge 40 * 2 = State.reset.rd Reg.WD_PERIOD_MS * 25000 ∧
    ((State.reset.mark markWdPeriod 0 64).mark markWdAt 0 0).nowMark markWdPeriod 0 = some 64 ∧ ((State.reset.mark markWdPeriod 0 64).mark markWdAt 0 0).nowMark markWdAt 0 = some 0 := by
  refine ⟨?_, ?_, ?_, ?_, ?_, ?_, ?_, ?_⟩ <;> decide

/-- The hypotheses of WatchdogPeriodIsSetOnce. -/
theorem test_met_WatchdogPeriodIsSetOnce :
    State.reset.on Reg.corePowered = true ∧
    State.reset.on Reg.procReset = false ∧
    State.reset.on Reg.ppReset = false ∧
    State.reset.on Reg.wdPeriodWritten = false ∧
    State.reset.bit wdLocked = false ∧
    8 ≤ (512 : BitVec 32).toNat ∧ (512 : BitVec 32).toNat ≤ 512 ∧
    512 < (513 : BitVec 32).toNat := by
  refine ⟨?_, ?_, ?_, ?_, ?_, ?_, ?_⟩ <;> decide

/-- The hypotheses of WatchdogExpiryResets. -/
theorem test_met_WatchdogExpiryResets :
    State.reset.on Reg.corePowered = true ∧
    State.reset.on Reg.procReset = false ∧
    State.reset.on Reg.ppReset = false ∧
    State.reset.rd Reg.WD_PERIOD_MS * 25000 ≤ ({ State.reset with timebase := 64000000 } : State).wdTicks ∧
    State.reset.wdTicks < State.reset.rd Reg.WD_PERIOD_MS * 25000 ∧
    State.reset.wdSvcTick < State.reset.rd Reg.WD_PERIOD_MS * 25000 ∧ State.reset.nowMark markWdPeriod 0 = none := by
  refine ⟨?_, ?_, ?_, ?_, ?_, ?_⟩ <;> decide

/-- The hypotheses of ResetCommandIsJudged. -/
theorem test_met_ResetCommandIsJudged :
    State.reset.bit updRecovery = false ∧
    State.reset.rdN Reg.STATE = 2 ∧
    (built [(Reg.STATE, 3)] []).bit updRecovery = false ∧ (built [(Reg.STATE, 3)] []).rdN Reg.STATE ≠ 2 := by
  refine ⟨?_, ?_, ?_⟩ <;> decide

/-- The hypotheses of StateCommandIsJudged. -/
theorem test_met_StateCommandIsJudged :
    State.reset.bit updRecovery = false ∧
    State.reset.rdN Reg.STATE = 2 ∧
    (built [(Reg.STATE, 6)] []).bit updRecovery = false ∧ (built [(Reg.STATE, 6)] []).rdN Reg.STATE ≠ 2 := by
  refine ⟨?_, ?_, ?_⟩ <;> decide

/-- The hypotheses of RefusedWriteHasNoSideEffect. -/
theorem test_met_RefusedWriteHasNoSideEffect :
    State.reset.procRuns = true ∧
    State.reset.accepts 1 0x1F19 1 0x0C1D = false ∧
    State.reset.accepts 1 0x2201 2 9 = false ∧ odKey 0x2201 2 = Reg.RP_CMD 1 ∧ State.reset.markedNow markReactOpen 1 = false ∧
    odKey 0x1F19 1 ≠ Reg.RP_CMD 0 ∧ odKey 0x1F19 1 ≠ Reg.RP_CMD 1 ∧ odKey 0x1F19 1 ≠ Reg.UPD_CMD ∧
    State.reset.accepts 3 0x6000 1 9 = false ∧ odKey 0x6000 1 = Reg.UPD_CMD := by
  refine ⟨?_, ?_, ?_, ?_, ?_⟩ <;> decide

/-- The hypotheses of WriteChecksInOrder. -/
theorem test_met_WriteChecksInOrder :
    findRow 0x0FFF 0 = .error 0x0301 ∧
    findRow 0x1010 6 = .error 0x0302 ∧
    (findRow 0x1010 2).map (fun r => r.acc == .ro) = .ok true ∧
    (findRow 0x1F19 1).map (fun r => r.acc != .ro && r.acc != .const && r.ty != .domain && r.ty != .string && decide (1 < State.reset.writeLevel false 0x1F19 1 r (State.reset.rd (odKey 0x1F19 1)) 0) && decide (State.reset.writeLevel false 0x1F19 1 r (State.reset.rd (odKey 0x1F19 1)) 0 ≤ 3) && (tyBytes r.ty != 1)) = .ok true := by
  refine ⟨?_, ?_, ?_, ?_⟩
  · rfl
  · rfl
  · rfl
  · rfl

/-- The hypotheses of PileInRearms. -/
theorem test_met_PileInRearms :
    State.reset.ppRuns = true ∧
    State.reset.rd (Reg.rlDac 3) * 4000 * (2000 - State.reset.rd (Reg.PILEIN_PERMILLE 3)) < 1 * State.reset.rd (Reg.SENSE_GAIN 3) * 2000 ∧
    0 * State.reset.rd (Reg.SENSE_GAIN 3) * 2000 ≤ State.reset.rd (Reg.rlDac 3) * 4000 * (2000 - State.reset.rd (Reg.PILEIN_PERMILLE 3)) := by
  refine ⟨?_, ?_, ?_⟩ <;> decide

/-- The hypotheses of RingPortTrips. -/
theorem test_met_RingPortTrips :
    (built [(Reg.ppReset, 1)] [(rpState 1, 2), (rpPilotIn 1, 1), (Bit.RP_CTRL_ENABLE 1, 1), (Bit.RP_CTRL_PILOT_EN 1, 1), (Bit.RP_CTRL_INW_EN 1, 1)]).on Reg.corePowered = true ∧ (built [(Reg.ppReset, 1)] [(rpState 1, 2), (rpPilotIn 1, 1), (Bit.RP_CTRL_ENABLE 1, 1), (Bit.RP_CTRL_PILOT_EN 1, 1), (Bit.RP_CTRL_INW_EN 1, 1)]).rpSt 1 = 2 ∧ (built [(Reg.ppReset, 1)] [(rpState 1, 2), (rpPilotIn 1, 1), (Bit.RP_CTRL_ENABLE 1, 1), (Bit.RP_CTRL_PILOT_EN 1, 1), (Bit.RP_CTRL_INW_EN 1, 1)]).rd (Reg.ISO_DIR_MA 1) * (built [(Reg.ppReset, 1)] [(rpState 1, 2), (rpPilotIn 1, 1), (Bit.RP_CTRL_ENABLE 1, 1), (Bit.RP_CTRL_PILOT_EN 1, 1), (Bit.RP_CTRL_INW_EN 1, 1)]).rd (Reg.Ring_SHUNT_UOHM 1) < 99999999 * 1000 ∧ (built [(Reg.ppReset, 1)] [(rpState 1, 2), (rpPilotIn 1, 1), (Bit.RP_CTRL_ENABLE 1, 1), (Bit.RP_CTRL_PILOT_EN 1, 1), (Bit.RP_CTRL_INW_EN 1, 1)]).bit (Bit.RP_CTRL_ENABLE 1) = true ∧ (built [(Reg.ppReset, 1)] [(rpState 1, 2), (rpPilotIn 1, 1), (Bit.RP_CTRL_ENABLE 1, 1), (Bit.RP_CTRL_PILOT_EN 1, 1), (Bit.RP_CTRL_INW_EN 1, 1)]).bit (Bit.RP_CTRL_PILOT_EN 1) = true ∧ (built [(Reg.ppReset, 1)] [(rpState 1, 2), (rpPilotIn 1, 1), (Bit.RP_CTRL_ENABLE 1, 1), (Bit.RP_CTRL_PILOT_EN 1, 1), (Bit.RP_CTRL_INW_EN 1, 1)]).bit (rpPilotIn 1) = true ∧ (built [(Reg.ppReset, 1)] [(rpState 1, 2), (rpPilotIn 1, 1), (Bit.RP_CTRL_ENABLE 1, 1), (Bit.RP_CTRL_PILOT_EN 1, 1), (Bit.RP_CTRL_INW_EN 1, 1)]).bit (rpPilotStuck 1) = false ∧ (built [(Reg.ppReset, 1)] [(rpState 1, 2), (rpPilotIn 1, 1), (Bit.RP_CTRL_ENABLE 1, 1), (Bit.RP_CTRL_PILOT_EN 1, 1), (Bit.RP_CTRL_INW_EN 1, 1)]).rd (Reg.ISO_MAX_MA 1) * (built [(Reg.ppReset, 1)] [(rpState 1, 2), (rpPilotIn 1, 1), (Bit.RP_CTRL_ENABLE 1, 1), (Bit.RP_CTRL_PILOT_EN 1, 1), (Bit.RP_CTRL_INW_EN 1, 1)]).rd (Reg.Ring_SHUNT_UOHM 1) < 99999999 * 1000 ∧ (built [(Reg.ppReset, 1)] [(rpState 1, 2), (rpPilotIn 1, 1), (Bit.RP_CTRL_ENABLE 1, 1), (Bit.RP_CTRL_PILOT_EN 1, 1), (Bit.RP_CTRL_INW_EN 1, 1)]).bit (Bit.RP_CTRL_INW_EN 1) = true ∧ (built [(Reg.ppReset, 1)] [(rpState 1, 2), (rpPilotIn 1, 1), (Bit.RP_CTRL_ENABLE 1, 1), (Bit.RP_CTRL_PILOT_EN 1, 1), (Bit.RP_CTRL_INW_EN 1, 1)]).rd (Reg.ISO_IN_MA 1) * (built [(Reg.ppReset, 1)] [(rpState 1, 2), (rpPilotIn 1, 1), (Bit.RP_CTRL_ENABLE 1, 1), (Bit.RP_CTRL_PILOT_EN 1, 1), (Bit.RP_CTRL_INW_EN 1, 1)]).rd (Reg.Ring_SHUNT_UOHM 1) < -(-99999999) * 1000 ∧ (0 : Int) * 1000 ≤ (built [(Reg.ppReset, 1)] [(rpState 1, 2), (rpPilotIn 1, 1), (Bit.RP_CTRL_ENABLE 1, 1), (Bit.RP_CTRL_PILOT_EN 1, 1), (Bit.RP_CTRL_INW_EN 1, 1)]).rd (Reg.ISO_DIR_MA 1) * (built [(Reg.ppReset, 1)] [(rpState 1, 2), (rpPilotIn 1, 1), (Bit.RP_CTRL_ENABLE 1, 1), (Bit.RP_CTRL_PILOT_EN 1, 1), (Bit.RP_CTRL_INW_EN 1, 1)]).rd (Reg.Ring_SHUNT_UOHM 1) ∧ (0 : Int) * 1000 ≤ (built [(Reg.ppReset, 1)] [(rpState 1, 2), (rpPilotIn 1, 1), (Bit.RP_CTRL_ENABLE 1, 1), (Bit.RP_CTRL_PILOT_EN 1, 1), (Bit.RP_CTRL_INW_EN 1, 1)]).rd (Reg.ISO_MAX_MA 1) * (built [(Reg.ppReset, 1)] [(rpState 1, 2), (rpPilotIn 1, 1), (Bit.RP_CTRL_ENABLE 1, 1), (Bit.RP_CTRL_PILOT_EN 1, 1), (Bit.RP_CTRL_INW_EN 1, 1)]).rd (Reg.Ring_SHUNT_UOHM 1) ∧ -(0 : Int) * 1000 ≤ (built [(Reg.ppReset, 1)] [(rpState 1, 2), (rpPilotIn 1, 1), (Bit.RP_CTRL_ENABLE 1, 1), (Bit.RP_CTRL_PILOT_EN 1, 1), (Bit.RP_CTRL_INW_EN 1, 1)]).rd (Reg.ISO_IN_MA 1) * (built [(Reg.ppReset, 1)] [(rpState 1, 2), (rpPilotIn 1, 1), (Bit.RP_CTRL_ENABLE 1, 1), (Bit.RP_CTRL_PILOT_EN 1, 1), (Bit.RP_CTRL_INW_EN 1, 1)]).rd (Reg.Ring_SHUNT_UOHM 1) := by
  decide

/-- The hypotheses of BeaconLossFallsBack. -/
theorem test_met_BeaconLossFallsBack :
    ({ built [(Reg.planeReady, 1), (Reg.PLCA_NODE_ID, 1)] [(flag Reg.T1S_CTRL 0, 1), (flag Reg.T1S_CTRL 1, 1)] with timebase := 1000000 } : State).procRuns = true ∧ ({ built [(Reg.planeReady, 1), (Reg.PLCA_NODE_ID, 1)] [(flag Reg.T1S_CTRL 0, 1), (flag Reg.T1S_CTRL 1, 1)] with timebase := 1000000 } : State).portRuns 1 = true ∧ ({ built [(Reg.planeReady, 1), (Reg.PLCA_NODE_ID, 1)] [(flag Reg.T1S_CTRL 0, 1), (flag Reg.T1S_CTRL 1, 1)] with timebase := 1000000 } : State).bit (flag Reg.T1S_CTRL 1) = true ∧ ({ built [(Reg.planeReady, 1), (Reg.PLCA_NODE_ID, 1)] [(flag Reg.T1S_CTRL 0, 1), (flag Reg.T1S_CTRL 1, 1)] with timebase := 1000000 } : State).on Reg.PLCA_NODE_ID = true ∧ ({ built [(Reg.planeReady, 1), (Reg.PLCA_NODE_ID, 1)] [(flag Reg.T1S_CTRL 0, 1), (flag Reg.T1S_CTRL 1, 1)] with timebase := 1000000 } : State).on Reg.beaconOut = false ∧ ({ built [(Reg.planeReady, 1), (Reg.PLCA_NODE_ID, 1)] [(flag Reg.T1S_CTRL 0, 1), (flag Reg.T1S_CTRL 1, 1)] with timebase := 1000000 } : State).rd Reg.beaconNs + 1000000 ≤ ({ built [(Reg.planeReady, 1), (Reg.PLCA_NODE_ID, 1)] [(flag Reg.T1S_CTRL 0, 1), (flag Reg.T1S_CTRL 1, 1)] with timebase := 1000000 } : State).now ∧
    (built [(Reg.planeReady, 1), (Reg.PLCA_NODE_ID, 1)] [(flag Reg.T1S_CTRL 0, 1), (flag Reg.T1S_CTRL 1, 1)]).procRuns = true ∧ (built [(Reg.planeReady, 1), (Reg.PLCA_NODE_ID, 1)] [(flag Reg.T1S_CTRL 0, 1), (flag Reg.T1S_CTRL 1, 1)]).portRuns 1 = true ∧ (built [(Reg.planeReady, 1), (Reg.PLCA_NODE_ID, 1)] [(flag Reg.T1S_CTRL 0, 1), (flag Reg.T1S_CTRL 1, 1)]).bit (flag Reg.T1S_CTRL 1) = true ∧ (built [(Reg.planeReady, 1), (Reg.PLCA_NODE_ID, 1)] [(flag Reg.T1S_CTRL 0, 1), (flag Reg.T1S_CTRL 1, 1)]).now < (built [(Reg.planeReady, 1), (Reg.PLCA_NODE_ID, 1)] [(flag Reg.T1S_CTRL 0, 1), (flag Reg.T1S_CTRL 1, 1)]).rd Reg.beaconNs + 1000000 := by
  refine ⟨?_, ?_⟩ <;> decide

/-- The hypotheses of TriggerDuringAFrameIsAnOverrun. -/
theorem test_met_TriggerDuringAFrameIsAnOverrun :
    (((built [(Reg.lnFrameEnd 1, 1000)] []).wr (Reg.lnFrameNo 1) 7).wr (Reg.FRAME_NO 1) (7 % 2 ^ 32)).frameRuns 1 = true := by
  decide

/-- The hypotheses of FetchesAreChecked. -/
theorem test_met_FetchesAreChecked :
    State.reset.rd (Reg.lnEcc 1) = 0 ∧
    (built [(Reg.lnSlot 1, 128), (Reg.lnEcc 1, 7)] []).rd (Reg.lnSlot 1) = 128 ∧ (built [(Reg.lnSlot 1, 128), (Reg.lnEcc 1, 7)] []).rdN (Reg.lnEcc 1) % 3 = 1 ∧
    (built [(Reg.lnSlot 1, 128), (Reg.lnEcc 1, 2)] []).rd (Reg.lnSlot 1) = 128 ∧ (built [(Reg.lnSlot 1, 128), (Reg.lnEcc 1, 2)] []).rdN (Reg.lnEcc 1) % 3 = 2 ∧
    (built [(Reg.ltOn 1, 1), (Reg.ltEn 127, 1), (Reg.ltDiv 127, 1), (Reg.ltBud 127, 100), (Reg.lnLeft 1, 64)] []).ppRuns = true ∧ (built [(Reg.ltOn 1, 1), (Reg.ltEn 127, 1), (Reg.ltDiv 127, 1), (Reg.ltBud 127, 100), (Reg.lnLeft 1, 64)] []).slotDue 127 = true := by
  refine ⟨?_, ?_, ?_, ?_⟩ <;> decide

/-- The hypotheses of PowerPlaneHeldInReset. -/
theorem test_met_PowerPlaneHeldInReset :
    (built [(Reg.ppReset, 1)] []).ppRuns = false := by
  decide

/-- The hypotheses of ProcessorPlaneHeldInHold. -/
theorem test_met_ProcessorPlaneHeldInHold :
    (built [(Reg.holdActive, 1)] []).procRuns = false := by
  decide

/-- The hypotheses of OwnAddressIsAClash. -/
theorem test_met_OwnAddressIsAClash :
    (built [(Reg.planeReady, 1), (Reg.STATE, 3), (Reg.DOMAIN_ADDR, 9)] []).procRuns = true ∧ (built [(Reg.planeReady, 1), (Reg.STATE, 3), (Reg.DOMAIN_ADDR, 9)] []).dengonUp = true ∧ (built [(Reg.planeReady, 1), (Reg.STATE, 3), (Reg.DOMAIN_ADDR, 9)] []).ownAddr = (9 : Fin 63) ∧ (built [(Reg.planeReady, 1), (Reg.STATE, 3), (Reg.DOMAIN_ADDR, 9)] []).ownAddr ≠ 0 ∧ (9 : Fin 64).val = (9 : Fin 63) := by
  decide

/-- The hypotheses of RailTriggerCommandsComplete. -/
theorem test_met_RailTriggerCommandsComplete :
    (built [(Reg.STATUS 0, 2), (Reg.PHASE_STATUS 3, 2), (Reg.rlDac 0, 2500)] [(Bit.PHASE_CTRL_ASSIGNED 3, 1)]).ppRuns = true ∧
    ((((built [(Reg.STATUS 0, 2), (Reg.PHASE_STATUS 3, 2), (Reg.rlDac 0, 2500)] [(Bit.PHASE_CTRL_ASSIGNED 3, 1)]).remoteGates (0 : Fin 4)).wrB (Reg.rlAboveOvs (0 : Fin 4)) (((built [(Reg.STATUS 0, 2), (Reg.PHASE_STATUS 3, 2), (Reg.rlDac 0, 2500)] [(Bit.PHASE_CTRL_ASSIGNED 3, 1)]).remoteGates (0 : Fin 4)).overshoots (0 : Fin 4) (500 : Int))) : State) = ((built [(Reg.STATUS 0, 2), (Reg.PHASE_STATUS 3, 2), (Reg.rlDac 0, 2500)] [(Bit.PHASE_CTRL_ASSIGNED 3, 1)]).remoteGates (0 : Fin 4)).wrB (Reg.rlAboveOvs (0 : Fin 4)) (((built [(Reg.STATUS 0, 2), (Reg.PHASE_STATUS 3, 2), (Reg.rlDac 0, 2500)] [(Bit.PHASE_CTRL_ASSIGNED 3, 1)]).remoteGates (0 : Fin 4)).overshoots (0 : Fin 4) (500 : Int)) ∧
    ((((built [(Reg.STATUS 0, 2), (Reg.PHASE_STATUS 3, 2), (Reg.rlDac 0, 2500)] [(Bit.PHASE_CTRL_ASSIGNED 3, 1)]).remoteGates (0 : Fin 4)).wrB (Reg.rlAboveOvs (0 : Fin 4)) (((built [(Reg.STATUS 0, 2), (Reg.PHASE_STATUS 3, 2), (Reg.rlDac 0, 2500)] [(Bit.PHASE_CTRL_ASSIGNED 3, 1)]).remoteGates (0 : Fin 4)).overshoots (0 : Fin 4) (500 : Int))) : State).switching (0 : Fin 4) = true ∧
    ((((built [(Reg.STATUS 0, 2), (Reg.PHASE_STATUS 3, 2), (Reg.rlDac 0, 2500)] [(Bit.PHASE_CTRL_ASSIGNED 3, 1)]).remoteGates (0 : Fin 4)).wrB (Reg.rlAboveOvs (0 : Fin 4)) (((built [(Reg.STATUS 0, 2), (Reg.PHASE_STATUS 3, 2), (Reg.rlDac 0, 2500)] [(Bit.PHASE_CTRL_ASSIGNED 3, 1)]).remoteGates (0 : Fin 4)).overshoots (0 : Fin 4) (500 : Int))) : State).bit (rlBraking (0 : Fin 4)) = false ∧
    ((((built [(Reg.STATUS 0, 2), (Reg.PHASE_STATUS 3, 2), (Reg.rlDac 0, 2500)] [(Bit.PHASE_CTRL_ASSIGNED 3, 1)]).remoteGates (0 : Fin 4)).wrB (Reg.rlAboveOvs (0 : Fin 4)) (((built [(Reg.STATUS 0, 2), (Reg.PHASE_STATUS 3, 2), (Reg.rlDac 0, 2500)] [(Bit.PHASE_CTRL_ASSIGNED 3, 1)]).remoteGates (0 : Fin 4)).overshoots (0 : Fin 4) (500 : Int))) : State).on (Reg.rlAboveOvs (0 : Fin 4)) = false ∧
    (((((built [(Reg.STATUS 0, 2), (Reg.PHASE_STATUS 3, 2), (Reg.rlDac 0, 2500)] [(Bit.PHASE_CTRL_ASSIGNED 3, 1)]).remoteGates (0 : Fin 4)).wrB (Reg.rlAboveOvs (0 : Fin 4)) (((built [(Reg.STATUS 0, 2), (Reg.PHASE_STATUS 3, 2), (Reg.rlDac 0, 2500)] [(Bit.PHASE_CTRL_ASSIGNED 3, 1)]).remoteGates (0 : Fin 4)).overshoots (0 : Fin 4) (500 : Int))) : State).on (Reg.rlTrigNs (0 : Fin 4)) && !((((built [(Reg.STATUS 0, 2), (Reg.PHASE_STATUS 3, 2), (Reg.rlDac 0, 2500)] [(Bit.PHASE_CTRL_ASSIGNED 3, 1)]).remoteGates (0 : Fin 4)).wrB (Reg.rlAboveOvs (0 : Fin 4)) (((built [(Reg.STATUS 0, 2), (Reg.PHASE_STATUS 3, 2), (Reg.rlDac 0, 2500)] [(Bit.PHASE_CTRL_ASSIGNED 3, 1)]).remoteGates (0 : Fin 4)).overshoots (0 : Fin 4) (500 : Int))) : State).since (((((built [(Reg.STATUS 0, 2), (Reg.PHASE_STATUS 3, 2), (Reg.rlDac 0, 2500)] [(Bit.PHASE_CTRL_ASSIGNED 3, 1)]).remoteGates (0 : Fin 4)).wrB (Reg.rlAboveOvs (0 : Fin 4)) (((built [(Reg.STATUS 0, 2), (Reg.PHASE_STATUS 3, 2), (Reg.rlDac 0, 2500)] [(Bit.PHASE_CTRL_ASSIGNED 3, 1)]).remoteGates (0 : Fin 4)).overshoots (0 : Fin 4) (500 : Int))) : State).rd (Reg.rlTrigNs (0 : Fin 4)) - 1) 20) = false ∧
    (((((((built [(Reg.STATUS 0, 2), (Reg.PHASE_STATUS 3, 2), (Reg.rlDac 0, 2500)] [(Bit.PHASE_CTRL_ASSIGNED 3, 1)]).remoteGates (0 : Fin 4)).wrB (Reg.rlAboveOvs (0 : Fin 4)) (((built [(Reg.STATUS 0, 2), (Reg.PHASE_STATUS 3, 2), (Reg.rlDac 0, 2500)] [(Bit.PHASE_CTRL_ASSIGNED 3, 1)]).remoteGates (0 : Fin 4)).overshoots (0 : Fin 4) (500 : Int))) : State).wr (Reg.rlTrigNs (0 : Fin 4)) (((((built [(Reg.STATUS 0, 2), (Reg.PHASE_STATUS 3, 2), (Reg.rlDac 0, 2500)] [(Bit.PHASE_CTRL_ASSIGNED 3, 1)]).remoteGates (0 : Fin 4)).wrB (Reg.rlAboveOvs (0 : Fin 4)) (((built [(Reg.STATUS 0, 2), (Reg.PHASE_STATUS 3, 2), (Reg.rlDac 0, 2500)] [(Bit.PHASE_CTRL_ASSIGNED 3, 1)]).remoteGates (0 : Fin 4)).overshoots (0 : Fin 4) (500 : Int))) : State).now + 1)).wr (Reg.rlTrigs (0 : Fin 4)) (min 64 (((((built [(Reg.STATUS 0, 2), (Reg.PHASE_STATUS 3, 2), (Reg.rlDac 0, 2500)] [(Bit.PHASE_CTRL_ASSIGNED 3, 1)]).remoteGates (0 : Fin 4)).wrB (Reg.rlAboveOvs (0 : Fin 4)) (((built [(Reg.STATUS 0, 2), (Reg.PHASE_STATUS 3, 2), (Reg.rlDac 0, 2500)] [(Bit.PHASE_CTRL_ASSIGNED 3, 1)]).remoteGates (0 : Fin 4)).overshoots (0 : Fin 4) (500 : Int))) : State).rd (Reg.rlTrigs (0 : Fin 4)) + 1))) : State) = (((((built [(Reg.STATUS 0, 2), (Reg.PHASE_STATUS 3, 2), (Reg.rlDac 0, 2500)] [(Bit.PHASE_CTRL_ASSIGNED 3, 1)]).remoteGates (0 : Fin 4)).wrB (Reg.rlAboveOvs (0 : Fin 4)) (((built [(Reg.STATUS 0, 2), (Reg.PHASE_STATUS 3, 2), (Reg.rlDac 0, 2500)] [(Bit.PHASE_CTRL_ASSIGNED 3, 1)]).remoteGates (0 : Fin 4)).overshoots (0 : Fin 4) (500 : Int))) : State).wr (Reg.rlTrigNs (0 : Fin 4)) (((((built [(Reg.STATUS 0, 2), (Reg.PHASE_STATUS 3, 2), (Reg.rlDac 0, 2500)] [(Bit.PHASE_CTRL_ASSIGNED 3, 1)]).remoteGates (0 : Fin 4)).wrB (Reg.rlAboveOvs (0 : Fin 4)) (((built [(Reg.STATUS 0, 2), (Reg.PHASE_STATUS 3, 2), (Reg.rlDac 0, 2500)] [(Bit.PHASE_CTRL_ASSIGNED 3, 1)]).remoteGates (0 : Fin 4)).overshoots (0 : Fin 4) (500 : Int))) : State).now + 1)).wr (Reg.rlTrigs (0 : Fin 4)) (min 64 (((((built [(Reg.STATUS 0, 2), (Reg.PHASE_STATUS 3, 2), (Reg.rlDac 0, 2500)] [(Bit.PHASE_CTRL_ASSIGNED 3, 1)]).remoteGates (0 : Fin 4)).wrB (Reg.rlAboveOvs (0 : Fin 4)) (((built [(Reg.STATUS 0, 2), (Reg.PHASE_STATUS 3, 2), (Reg.rlDac 0, 2500)] [(Bit.PHASE_CTRL_ASSIGNED 3, 1)]).remoteGates (0 : Fin 4)).overshoots (0 : Fin 4) (500 : Int))) : State).rd (Reg.rlTrigs (0 : Fin 4)) + 1)) ∧
    (((((((built [(Reg.STATUS 0, 2), (Reg.PHASE_STATUS 3, 2), (Reg.rlDac 0, 2500)] [(Bit.PHASE_CTRL_ASSIGNED 3, 1)]).remoteGates (0 : Fin 4)).wrB (Reg.rlAboveOvs (0 : Fin 4)) (((built [(Reg.STATUS 0, 2), (Reg.PHASE_STATUS 3, 2), (Reg.rlDac 0, 2500)] [(Bit.PHASE_CTRL_ASSIGNED 3, 1)]).remoteGates (0 : Fin 4)).overshoots (0 : Fin 4) (500 : Int))) : State).wr (Reg.rlTrigNs (0 : Fin 4)) (((((built [(Reg.STATUS 0, 2), (Reg.PHASE_STATUS 3, 2), (Reg.rlDac 0, 2500)] [(Bit.PHASE_CTRL_ASSIGNED 3, 1)]).remoteGates (0 : Fin 4)).wrB (Reg.rlAboveOvs (0 : Fin 4)) (((built [(Reg.STATUS 0, 2), (Reg.PHASE_STATUS 3, 2), (Reg.rlDac 0, 2500)] [(Bit.PHASE_CTRL_ASSIGNED 3, 1)]).remoteGates (0 : Fin 4)).overshoots (0 : Fin 4) (500 : Int))) : State).now + 1)).wr (Reg.rlTrigs (0 : Fin 4)) (min 64 (((((built [(Reg.STATUS 0, 2), (Reg.PHASE_STATUS 3, 2), (Reg.rlDac 0, 2500)] [(Bit.PHASE_CTRL_ASSIGNED 3, 1)]).remoteGates (0 : Fin 4)).wrB (Reg.rlAboveOvs (0 : Fin 4)) (((built [(Reg.STATUS 0, 2), (Reg.PHASE_STATUS 3, 2), (Reg.rlDac 0, 2500)] [(Bit.PHASE_CTRL_ASSIGNED 3, 1)]).remoteGates (0 : Fin 4)).overshoots (0 : Fin 4) (500 : Int))) : State).rd (Reg.rlTrigs (0 : Fin 4)) + 1))) : State).nextPhase (0 : Fin 4) = some (3 : Nat) ∧
    (((((((built [(Reg.STATUS 0, 2), (Reg.PHASE_STATUS 3, 2), (Reg.rlDac 0, 2500)] [(Bit.PHASE_CTRL_ASSIGNED 3, 1)]).remoteGates (0 : Fin 4)).wrB (Reg.rlAboveOvs (0 : Fin 4)) (((built [(Reg.STATUS 0, 2), (Reg.PHASE_STATUS 3, 2), (Reg.rlDac 0, 2500)] [(Bit.PHASE_CTRL_ASSIGNED 3, 1)]).remoteGates (0 : Fin 4)).overshoots (0 : Fin 4) (500 : Int))) : State).wr (Reg.rlTrigNs (0 : Fin 4)) (((((built [(Reg.STATUS 0, 2), (Reg.PHASE_STATUS 3, 2), (Reg.rlDac 0, 2500)] [(Bit.PHASE_CTRL_ASSIGNED 3, 1)]).remoteGates (0 : Fin 4)).wrB (Reg.rlAboveOvs (0 : Fin 4)) (((built [(Reg.STATUS 0, 2), (Reg.PHASE_STATUS 3, 2), (Reg.rlDac 0, 2500)] [(Bit.PHASE_CTRL_ASSIGNED 3, 1)]).remoteGates (0 : Fin 4)).overshoots (0 : Fin 4) (500 : Int))) : State).now + 1)).wr (Reg.rlTrigs (0 : Fin 4)) (min 64 (((((built [(Reg.STATUS 0, 2), (Reg.PHASE_STATUS 3, 2), (Reg.rlDac 0, 2500)] [(Bit.PHASE_CTRL_ASSIGNED 3, 1)]).remoteGates (0 : Fin 4)).wrB (Reg.rlAboveOvs (0 : Fin 4)) (((built [(Reg.STATUS 0, 2), (Reg.PHASE_STATUS 3, 2), (Reg.rlDac 0, 2500)] [(Bit.PHASE_CTRL_ASSIGNED 3, 1)]).remoteGates (0 : Fin 4)).overshoots (0 : Fin 4) (500 : Int))) : State).rd (Reg.rlTrigs (0 : Fin 4)) + 1))) : State).railSt (0 : Fin 4) ≠ 3 ∧
    (built [(Reg.STATUS 0, 3), (Reg.PHASE_STATUS 3, 2), (Reg.rlDac 0, 2500)] [(Bit.PHASE_CTRL_ASSIGNED 3, 1)]).ppRuns = true ∧
    ((((built [(Reg.STATUS 0, 3), (Reg.PHASE_STATUS 3, 2), (Reg.rlDac 0, 2500)] [(Bit.PHASE_CTRL_ASSIGNED 3, 1)]).remoteGates (0 : Fin 4)).wrB (Reg.rlAboveOvs (0 : Fin 4)) (((built [(Reg.STATUS 0, 3), (Reg.PHASE_STATUS 3, 2), (Reg.rlDac 0, 2500)] [(Bit.PHASE_CTRL_ASSIGNED 3, 1)]).remoteGates (0 : Fin 4)).overshoots (0 : Fin 4) (500 : Int))) : State) = ((built [(Reg.STATUS 0, 3), (Reg.PHASE_STATUS 3, 2), (Reg.rlDac 0, 2500)] [(Bit.PHASE_CTRL_ASSIGNED 3, 1)]).remoteGates (0 : Fin 4)).wrB (Reg.rlAboveOvs (0 : Fin 4)) (((built [(Reg.STATUS 0, 3), (Reg.PHASE_STATUS 3, 2), (Reg.rlDac 0, 2500)] [(Bit.PHASE_CTRL_ASSIGNED 3, 1)]).remoteGates (0 : Fin 4)).overshoots (0 : Fin 4) (500 : Int)) ∧
    ((((built [(Reg.STATUS 0, 3), (Reg.PHASE_STATUS 3, 2), (Reg.rlDac 0, 2500)] [(Bit.PHASE_CTRL_ASSIGNED 3, 1)]).remoteGates (0 : Fin 4)).wrB (Reg.rlAboveOvs (0 : Fin 4)) (((built [(Reg.STATUS 0, 3), (Reg.PHASE_STATUS 3, 2), (Reg.rlDac 0, 2500)] [(Bit.PHASE_CTRL_ASSIGNED 3, 1)]).remoteGates (0 : Fin 4)).overshoots (0 : Fin 4) (500 : Int))) : State).switching (0 : Fin 4) = true ∧
    ((((built [(Reg.STATUS 0, 3), (Reg.PHASE_STATUS 3, 2), (Reg.rlDac 0, 2500)] [(Bit.PHASE_CTRL_ASSIGNED 3, 1)]).remoteGates (0 : Fin 4)).wrB (Reg.rlAboveOvs (0 : Fin 4)) (((built [(Reg.STATUS 0, 3), (Reg.PHASE_STATUS 3, 2), (Reg.rlDac 0, 2500)] [(Bit.PHASE_CTRL_ASSIGNED 3, 1)]).remoteGates (0 : Fin 4)).overshoots (0 : Fin 4) (500 : Int))) : State).bit (rlBraking (0 : Fin 4)) = false ∧
    ((((built [(Reg.STATUS 0, 3), (Reg.PHASE_STATUS 3, 2), (Reg.rlDac 0, 2500)] [(Bit.PHASE_CTRL_ASSIGNED 3, 1)]).remoteGates (0 : Fin 4)).wrB (Reg.rlAboveOvs (0 : Fin 4)) (((built [(Reg.STATUS 0, 3), (Reg.PHASE_STATUS 3, 2), (Reg.rlDac 0, 2500)] [(Bit.PHASE_CTRL_ASSIGNED 3, 1)]).remoteGates (0 : Fin 4)).overshoots (0 : Fin 4) (500 : Int))) : State).on (Reg.rlAboveOvs (0 : Fin 4)) = false ∧
    (((((built [(Reg.STATUS 0, 3), (Reg.PHASE_STATUS 3, 2), (Reg.rlDac 0, 2500)] [(Bit.PHASE_CTRL_ASSIGNED 3, 1)]).remoteGates (0 : Fin 4)).wrB (Reg.rlAboveOvs (0 : Fin 4)) (((built [(Reg.STATUS 0, 3), (Reg.PHASE_STATUS 3, 2), (Reg.rlDac 0, 2500)] [(Bit.PHASE_CTRL_ASSIGNED 3, 1)]).remoteGates (0 : Fin 4)).overshoots (0 : Fin 4) (500 : Int))) : State).on (Reg.rlTrigNs (0 : Fin 4)) && !((((built [(Reg.STATUS 0, 3), (Reg.PHASE_STATUS 3, 2), (Reg.rlDac 0, 2500)] [(Bit.PHASE_CTRL_ASSIGNED 3, 1)]).remoteGates (0 : Fin 4)).wrB (Reg.rlAboveOvs (0 : Fin 4)) (((built [(Reg.STATUS 0, 3), (Reg.PHASE_STATUS 3, 2), (Reg.rlDac 0, 2500)] [(Bit.PHASE_CTRL_ASSIGNED 3, 1)]).remoteGates (0 : Fin 4)).overshoots (0 : Fin 4) (500 : Int))) : State).since (((((built [(Reg.STATUS 0, 3), (Reg.PHASE_STATUS 3, 2), (Reg.rlDac 0, 2500)] [(Bit.PHASE_CTRL_ASSIGNED 3, 1)]).remoteGates (0 : Fin 4)).wrB (Reg.rlAboveOvs (0 : Fin 4)) (((built [(Reg.STATUS 0, 3), (Reg.PHASE_STATUS 3, 2), (Reg.rlDac 0, 2500)] [(Bit.PHASE_CTRL_ASSIGNED 3, 1)]).remoteGates (0 : Fin 4)).overshoots (0 : Fin 4) (500 : Int))) : State).rd (Reg.rlTrigNs (0 : Fin 4)) - 1) 20) = false ∧
    (((((((built [(Reg.STATUS 0, 3), (Reg.PHASE_STATUS 3, 2), (Reg.rlDac 0, 2500)] [(Bit.PHASE_CTRL_ASSIGNED 3, 1)]).remoteGates (0 : Fin 4)).wrB (Reg.rlAboveOvs (0 : Fin 4)) (((built [(Reg.STATUS 0, 3), (Reg.PHASE_STATUS 3, 2), (Reg.rlDac 0, 2500)] [(Bit.PHASE_CTRL_ASSIGNED 3, 1)]).remoteGates (0 : Fin 4)).overshoots (0 : Fin 4) (500 : Int))) : State).wr (Reg.rlTrigNs (0 : Fin 4)) (((((built [(Reg.STATUS 0, 3), (Reg.PHASE_STATUS 3, 2), (Reg.rlDac 0, 2500)] [(Bit.PHASE_CTRL_ASSIGNED 3, 1)]).remoteGates (0 : Fin 4)).wrB (Reg.rlAboveOvs (0 : Fin 4)) (((built [(Reg.STATUS 0, 3), (Reg.PHASE_STATUS 3, 2), (Reg.rlDac 0, 2500)] [(Bit.PHASE_CTRL_ASSIGNED 3, 1)]).remoteGates (0 : Fin 4)).overshoots (0 : Fin 4) (500 : Int))) : State).now + 1)).wr (Reg.rlTrigs (0 : Fin 4)) (min 64 (((((built [(Reg.STATUS 0, 3), (Reg.PHASE_STATUS 3, 2), (Reg.rlDac 0, 2500)] [(Bit.PHASE_CTRL_ASSIGNED 3, 1)]).remoteGates (0 : Fin 4)).wrB (Reg.rlAboveOvs (0 : Fin 4)) (((built [(Reg.STATUS 0, 3), (Reg.PHASE_STATUS 3, 2), (Reg.rlDac 0, 2500)] [(Bit.PHASE_CTRL_ASSIGNED 3, 1)]).remoteGates (0 : Fin 4)).overshoots (0 : Fin 4) (500 : Int))) : State).rd (Reg.rlTrigs (0 : Fin 4)) + 1))) : State) = (((((built [(Reg.STATUS 0, 3), (Reg.PHASE_STATUS 3, 2), (Reg.rlDac 0, 2500)] [(Bit.PHASE_CTRL_ASSIGNED 3, 1)]).remoteGates (0 : Fin 4)).wrB (Reg.rlAboveOvs (0 : Fin 4)) (((built [(Reg.STATUS 0, 3), (Reg.PHASE_STATUS 3, 2), (Reg.rlDac 0, 2500)] [(Bit.PHASE_CTRL_ASSIGNED 3, 1)]).remoteGates (0 : Fin 4)).overshoots (0 : Fin 4) (500 : Int))) : State).wr (Reg.rlTrigNs (0 : Fin 4)) (((((built [(Reg.STATUS 0, 3), (Reg.PHASE_STATUS 3, 2), (Reg.rlDac 0, 2500)] [(Bit.PHASE_CTRL_ASSIGNED 3, 1)]).remoteGates (0 : Fin 4)).wrB (Reg.rlAboveOvs (0 : Fin 4)) (((built [(Reg.STATUS 0, 3), (Reg.PHASE_STATUS 3, 2), (Reg.rlDac 0, 2500)] [(Bit.PHASE_CTRL_ASSIGNED 3, 1)]).remoteGates (0 : Fin 4)).overshoots (0 : Fin 4) (500 : Int))) : State).now + 1)).wr (Reg.rlTrigs (0 : Fin 4)) (min 64 (((((built [(Reg.STATUS 0, 3), (Reg.PHASE_STATUS 3, 2), (Reg.rlDac 0, 2500)] [(Bit.PHASE_CTRL_ASSIGNED 3, 1)]).remoteGates (0 : Fin 4)).wrB (Reg.rlAboveOvs (0 : Fin 4)) (((built [(Reg.STATUS 0, 3), (Reg.PHASE_STATUS 3, 2), (Reg.rlDac 0, 2500)] [(Bit.PHASE_CTRL_ASSIGNED 3, 1)]).remoteGates (0 : Fin 4)).overshoots (0 : Fin 4) (500 : Int))) : State).rd (Reg.rlTrigs (0 : Fin 4)) + 1)) ∧
    (((((((built [(Reg.STATUS 0, 3), (Reg.PHASE_STATUS 3, 2), (Reg.rlDac 0, 2500)] [(Bit.PHASE_CTRL_ASSIGNED 3, 1)]).remoteGates (0 : Fin 4)).wrB (Reg.rlAboveOvs (0 : Fin 4)) (((built [(Reg.STATUS 0, 3), (Reg.PHASE_STATUS 3, 2), (Reg.rlDac 0, 2500)] [(Bit.PHASE_CTRL_ASSIGNED 3, 1)]).remoteGates (0 : Fin 4)).overshoots (0 : Fin 4) (500 : Int))) : State).wr (Reg.rlTrigNs (0 : Fin 4)) (((((built [(Reg.STATUS 0, 3), (Reg.PHASE_STATUS 3, 2), (Reg.rlDac 0, 2500)] [(Bit.PHASE_CTRL_ASSIGNED 3, 1)]).remoteGates (0 : Fin 4)).wrB (Reg.rlAboveOvs (0 : Fin 4)) (((built [(Reg.STATUS 0, 3), (Reg.PHASE_STATUS 3, 2), (Reg.rlDac 0, 2500)] [(Bit.PHASE_CTRL_ASSIGNED 3, 1)]).remoteGates (0 : Fin 4)).overshoots (0 : Fin 4) (500 : Int))) : State).now + 1)).wr (Reg.rlTrigs (0 : Fin 4)) (min 64 (((((built [(Reg.STATUS 0, 3), (Reg.PHASE_STATUS 3, 2), (Reg.rlDac 0, 2500)] [(Bit.PHASE_CTRL_ASSIGNED 3, 1)]).remoteGates (0 : Fin 4)).wrB (Reg.rlAboveOvs (0 : Fin 4)) (((built [(Reg.STATUS 0, 3), (Reg.PHASE_STATUS 3, 2), (Reg.rlDac 0, 2500)] [(Bit.PHASE_CTRL_ASSIGNED 3, 1)]).remoteGates (0 : Fin 4)).overshoots (0 : Fin 4) (500 : Int))) : State).rd (Reg.rlTrigs (0 : Fin 4)) + 1))) : State).nextPhase (0 : Fin 4) = some (3 : Nat) ∧
    (((((((built [(Reg.STATUS 0, 3), (Reg.PHASE_STATUS 3, 2), (Reg.rlDac 0, 2500)] [(Bit.PHASE_CTRL_ASSIGNED 3, 1)]).remoteGates (0 : Fin 4)).wrB (Reg.rlAboveOvs (0 : Fin 4)) (((built [(Reg.STATUS 0, 3), (Reg.PHASE_STATUS 3, 2), (Reg.rlDac 0, 2500)] [(Bit.PHASE_CTRL_ASSIGNED 3, 1)]).remoteGates (0 : Fin 4)).overshoots (0 : Fin 4) (500 : Int))) : State).wr (Reg.rlTrigNs (0 : Fin 4)) (((((built [(Reg.STATUS 0, 3), (Reg.PHASE_STATUS 3, 2), (Reg.rlDac 0, 2500)] [(Bit.PHASE_CTRL_ASSIGNED 3, 1)]).remoteGates (0 : Fin 4)).wrB (Reg.rlAboveOvs (0 : Fin 4)) (((built [(Reg.STATUS 0, 3), (Reg.PHASE_STATUS 3, 2), (Reg.rlDac 0, 2500)] [(Bit.PHASE_CTRL_ASSIGNED 3, 1)]).remoteGates (0 : Fin 4)).overshoots (0 : Fin 4) (500 : Int))) : State).now + 1)).wr (Reg.rlTrigs (0 : Fin 4)) (min 64 (((((built [(Reg.STATUS 0, 3), (Reg.PHASE_STATUS 3, 2), (Reg.rlDac 0, 2500)] [(Bit.PHASE_CTRL_ASSIGNED 3, 1)]).remoteGates (0 : Fin 4)).wrB (Reg.rlAboveOvs (0 : Fin 4)) (((built [(Reg.STATUS 0, 3), (Reg.PHASE_STATUS 3, 2), (Reg.rlDac 0, 2500)] [(Bit.PHASE_CTRL_ASSIGNED 3, 1)]).remoteGates (0 : Fin 4)).overshoots (0 : Fin 4) (500 : Int))) : State).rd (Reg.rlTrigs (0 : Fin 4)) + 1))) : State).railSt (0 : Fin 4) = 3 ∧
    (((((((built [(Reg.STATUS 0, 3), (Reg.PHASE_STATUS 3, 2), (Reg.rlDac 0, 2500)] [(Bit.PHASE_CTRL_ASSIGNED 3, 1)]).remoteGates (0 : Fin 4)).wrB (Reg.rlAboveOvs (0 : Fin 4)) (((built [(Reg.STATUS 0, 3), (Reg.PHASE_STATUS 3, 2), (Reg.rlDac 0, 2500)] [(Bit.PHASE_CTRL_ASSIGNED 3, 1)]).remoteGates (0 : Fin 4)).overshoots (0 : Fin 4) (500 : Int))) : State).wr (Reg.rlTrigNs (0 : Fin 4)) (((((built [(Reg.STATUS 0, 3), (Reg.PHASE_STATUS 3, 2), (Reg.rlDac 0, 2500)] [(Bit.PHASE_CTRL_ASSIGNED 3, 1)]).remoteGates (0 : Fin 4)).wrB (Reg.rlAboveOvs (0 : Fin 4)) (((built [(Reg.STATUS 0, 3), (Reg.PHASE_STATUS 3, 2), (Reg.rlDac 0, 2500)] [(Bit.PHASE_CTRL_ASSIGNED 3, 1)]).remoteGates (0 : Fin 4)).overshoots (0 : Fin 4) (500 : Int))) : State).now + 1)).wr (Reg.rlTrigs (0 : Fin 4)) (min 64 (((((built [(Reg.STATUS 0, 3), (Reg.PHASE_STATUS 3, 2), (Reg.rlDac 0, 2500)] [(Bit.PHASE_CTRL_ASSIGNED 3, 1)]).remoteGates (0 : Fin 4)).wrB (Reg.rlAboveOvs (0 : Fin 4)) (((built [(Reg.STATUS 0, 3), (Reg.PHASE_STATUS 3, 2), (Reg.rlDac 0, 2500)] [(Bit.PHASE_CTRL_ASSIGNED 3, 1)]).remoteGates (0 : Fin 4)).overshoots (0 : Fin 4) (500 : Int))) : State).rd (Reg.rlTrigs (0 : Fin 4)) + 1))) : State).on (Reg.rlBurstLeft (0 : Fin 4)) = false ∧
    (((((((built [(Reg.STATUS 0, 3), (Reg.PHASE_STATUS 3, 2), (Reg.rlDac 0, 2500)] [(Bit.PHASE_CTRL_ASSIGNED 3, 1)]).remoteGates (0 : Fin 4)).wrB (Reg.rlAboveOvs (0 : Fin 4)) (((built [(Reg.STATUS 0, 3), (Reg.PHASE_STATUS 3, 2), (Reg.rlDac 0, 2500)] [(Bit.PHASE_CTRL_ASSIGNED 3, 1)]).remoteGates (0 : Fin 4)).overshoots (0 : Fin 4) (500 : Int))) : State).wr (Reg.rlTrigNs (0 : Fin 4)) (((((built [(Reg.STATUS 0, 3), (Reg.PHASE_STATUS 3, 2), (Reg.rlDac 0, 2500)] [(Bit.PHASE_CTRL_ASSIGNED 3, 1)]).remoteGates (0 : Fin 4)).wrB (Reg.rlAboveOvs (0 : Fin 4)) (((built [(Reg.STATUS 0, 3), (Reg.PHASE_STATUS 3, 2), (Reg.rlDac 0, 2500)] [(Bit.PHASE_CTRL_ASSIGNED 3, 1)]).remoteGates (0 : Fin 4)).overshoots (0 : Fin 4) (500 : Int))) : State).now + 1)).wr (Reg.rlTrigs (0 : Fin 4)) (min 64 (((((built [(Reg.STATUS 0, 3), (Reg.PHASE_STATUS 3, 2), (Reg.rlDac 0, 2500)] [(Bit.PHASE_CTRL_ASSIGNED 3, 1)]).remoteGates (0 : Fin 4)).wrB (Reg.rlAboveOvs (0 : Fin 4)) (((built [(Reg.STATUS 0, 3), (Reg.PHASE_STATUS 3, 2), (Reg.rlDac 0, 2500)] [(Bit.PHASE_CTRL_ASSIGNED 3, 1)]).remoteGates (0 : Fin 4)).overshoots (0 : Fin 4) (500 : Int))) : State).rd (Reg.rlTrigs (0 : Fin 4)) + 1))) : State).rd (Reg.phPwm (3 : Nat)) ≠ 1 ∧
    (built [(Reg.phPwm 5, 1), (Reg.PHASE_STATUS 5, 2)] []).ppRuns = true ∧
    (((built [(Reg.phPwm 5, 1), (Reg.PHASE_STATUS 5, 2)] []).fld (Bit.PHASE_CTRL_RAIL (5 : Fin 16))) : Nat) = (built [(Reg.phPwm 5, 1), (Reg.PHASE_STATUS 5, 2)] []).fld (Bit.PHASE_CTRL_RAIL (5 : Fin 16)) ∧
    (built [(Reg.phPwm 5, 1), (Reg.PHASE_STATUS 5, 2)] []).rd (Reg.phPwm (5 : Fin 16)) = 1 ∧
    (built [(Reg.phPwm 5, 1), (Reg.PHASE_STATUS 5, 2)] []).since ((built [(Reg.phPwm 5, 1), (Reg.PHASE_STATUS 5, 2)] []).rd (Reg.phOnNs (5 : Fin 16))) ((built [(Reg.phPwm 5, 1), (Reg.PHASE_STATUS 5, 2)] []).rd (Reg.phTaps (5 : Fin 16)) * 5 / 32) = true ∧
    (((built [(Reg.phPwm 5, 1), (Reg.PHASE_STATUS 5, 2)] []).compareRise (((built [(Reg.phPwm 5, 1), (Reg.PHASE_STATUS 5, 2)] []).fld (Bit.PHASE_CTRL_RAIL (5 : Fin 16))) : Nat) (5 : Fin 16) ((built [(Reg.phPwm 5, 1), (Reg.PHASE_STATUS 5, 2)] []).rd (Reg.phTaps (5 : Fin 16))) (0 : Int)) : State) = (built [(Reg.phPwm 5, 1), (Reg.PHASE_STATUS 5, 2)] []).compareRise (((built [(Reg.phPwm 5, 1), (Reg.PHASE_STATUS 5, 2)] []).fld (Bit.PHASE_CTRL_RAIL (5 : Fin 16))) : Nat) (5 : Fin 16) ((built [(Reg.phPwm 5, 1), (Reg.PHASE_STATUS 5, 2)] []).rd (Reg.phTaps (5 : Fin 16))) (0 : Int) ∧
    (((built [(Reg.phPwm 5, 1), (Reg.PHASE_STATUS 5, 2)] []).compareRise (((built [(Reg.phPwm 5, 1), (Reg.PHASE_STATUS 5, 2)] []).fld (Bit.PHASE_CTRL_RAIL (5 : Fin 16))) : Nat) (5 : Fin 16) ((built [(Reg.phPwm 5, 1), (Reg.PHASE_STATUS 5, 2)] []).rd (Reg.phTaps (5 : Fin 16))) (0 : Int)) : State).bit (phActive (5 : Fin 16)) = true ∧
    (((built [(Reg.phPwm 5, 1), (Reg.PHASE_STATUS 5, 2)] []).compareRise (((built [(Reg.phPwm 5, 1), (Reg.PHASE_STATUS 5, 2)] []).fld (Bit.PHASE_CTRL_RAIL (5 : Fin 16))) : Nat) (5 : Fin 16) ((built [(Reg.phPwm 5, 1), (Reg.PHASE_STATUS 5, 2)] []).rd (Reg.phTaps (5 : Fin 16))) (0 : Int)) : State).bit (rlBraking (((built [(Reg.phPwm 5, 1), (Reg.PHASE_STATUS 5, 2)] []).fld (Bit.PHASE_CTRL_RAIL (5 : Fin 16))) : Nat)) = false ∧
    (((built [(Reg.phPwm 5, 1), (Reg.PHASE_STATUS 5, 2)] []).compareRise (((built [(Reg.phPwm 5, 1), (Reg.PHASE_STATUS 5, 2)] []).fld (Bit.PHASE_CTRL_RAIL (5 : Fin 16))) : Nat) (5 : Fin 16) ((built [(Reg.phPwm 5, 1), (Reg.PHASE_STATUS 5, 2)] []).rd (Reg.phTaps (5 : Fin 16))) (0 : Int)) : State).railSt (((built [(Reg.phPwm 5, 1), (Reg.PHASE_STATUS 5, 2)] []).fld (Bit.PHASE_CTRL_RAIL (5 : Fin 16))) : Nat) ≠ 3 ∧
    (built [(Reg.phCmp 5, 128)] []).ppRuns = true ∧
    (built [(Reg.phCmp 5, 128)] []).rd (Reg.phPwm (5 : Fin 16)) ≠ 1 ∧
    (built [(Reg.phCmp 5, 128)] []).on (Reg.phCmp (5 : Fin 16)) = true ∧
    (built [(Reg.rlTrigs 2, 64)] []).ppRuns = true ∧
    (built [(Reg.rlTrigs 2, 64)] []).rd (Reg.rlTrigs (2 : Fin 4)) = 64 ∧
    (built [(Reg.STATUS 0, 2), (Reg.PHASE_STATUS 3, 2)] [(Bit.PHASE_CTRL_ASSIGNED 3, 1)]).ppRuns = true ∧
    (built [(Reg.STATUS 0, 2), (Reg.PHASE_STATUS 3, 2)] [(Bit.PHASE_CTRL_ASSIGNED 3, 1)]).switching (0 : Fin 4) = true ∧
    (((built [(Reg.STATUS 0, 2), (Reg.PHASE_STATUS 3, 2)] [(Bit.PHASE_CTRL_ASSIGNED 3, 1)]).active (0 : Fin 4)).any fun p => decide ((built [(Reg.STATUS 0, 2), (Reg.PHASE_STATUS 3, 2)] [(Bit.PHASE_CTRL_ASSIGNED 3, 1)]).onTaps (0 : Fin 4) p = 128) || decide ((built [(Reg.STATUS 0, 2), (Reg.PHASE_STATUS 3, 2)] [(Bit.PHASE_CTRL_ASSIGNED 3, 1)]).onTaps (0 : Fin 4) p = (built [(Reg.STATUS 0, 2), (Reg.PHASE_STATUS 3, 2)] [(Bit.PHASE_CTRL_ASSIGNED 3, 1)]).upperTaps (0 : Fin 4))) = true ∧
    (built [(Reg.STATUS 0, 2), (Reg.PHASE_STATUS 3, 2)] [(Bit.PHASE_CTRL_ASSIGNED 3, 1)]).on (Reg.rlClampRun (0 : Fin 4)) = false ∧
    (built [] []).ppRuns = true ∧
    (built [] []).bit (Bit.RAIL_CTRL_SOFT_VSEL (1 : Fin 4)) = false ∧
    ((built [] []).wr (Reg.VSEL_PINS (1 : Fin 4)) ((7 : Fin 8).val : Int)).rdN (Reg.rlSelIdx (1 : Fin 4)) ≠ (7 : Fin 8) ∧
    ((built [] []).wr (Reg.VSEL_PINS (1 : Fin 4)) ((7 : Fin 8).val : Int)).bit (Bit.RAIL_CTRL_SOFT_VSEL (1 : Fin 4)) = false ∧
    (built [(Reg.STATUS 0, 2), (Reg.SHED_MA 0, 1000)] [(Bit.LL_CTRL_SHED_EN 0, 1), (Bit.LL_CTRL_ROT_EN 0, 1), (phShed 7, 1), (Bit.PHASE_CTRL_ASSIGNED 3, 1), (Bit.PHASE_CTRL_ASSIGNED 4, 1), (Bit.PHASE_CTRL_ASSIGNED 5, 1), (Bit.PHASE_CTRL_ASSIGNED 7, 1), (flag (Reg.PHASE_STATUS 3) 1, 1), (flag (Reg.PHASE_STATUS 4) 1, 1), (flag (Reg.PHASE_STATUS 5) 1, 1)]).ppRuns = true ∧
    (built [(Reg.STATUS 0, 2), (Reg.SHED_MA 0, 1000)] [(Bit.LL_CTRL_SHED_EN 0, 1), (Bit.LL_CTRL_ROT_EN 0, 1), (phShed 7, 1), (Bit.PHASE_CTRL_ASSIGNED 3, 1), (Bit.PHASE_CTRL_ASSIGNED 4, 1), (Bit.PHASE_CTRL_ASSIGNED 5, 1), (Bit.PHASE_CTRL_ASSIGNED 7, 1), (flag (Reg.PHASE_STATUS 3) 1, 1), (flag (Reg.PHASE_STATUS 4) 1, 1), (flag (Reg.PHASE_STATUS 5) 1, 1)]).bit (Bit.LL_CTRL_SHED_EN (0 : Fin 4)) = true ∧
    (built [(Reg.STATUS 0, 2), (Reg.SHED_MA 0, 1000)] [(Bit.LL_CTRL_SHED_EN 0, 1), (Bit.LL_CTRL_ROT_EN 0, 1), (phShed 7, 1), (Bit.PHASE_CTRL_ASSIGNED 3, 1), (Bit.PHASE_CTRL_ASSIGNED 4, 1), (Bit.PHASE_CTRL_ASSIGNED 5, 1), (Bit.PHASE_CTRL_ASSIGNED 7, 1), (flag (Reg.PHASE_STATUS 3) 1, 1), (flag (Reg.PHASE_STATUS 4) 1, 1), (flag (Reg.PHASE_STATUS 5) 1, 1)]).railSt (0 : Fin 4) = 2 ∧
    (built [(Reg.STATUS 0, 2), (Reg.SHED_MA 0, 1000)] [(Bit.LL_CTRL_SHED_EN 0, 1), (Bit.LL_CTRL_ROT_EN 0, 1), (phShed 7, 1), (Bit.PHASE_CTRL_ASSIGNED 3, 1), (Bit.PHASE_CTRL_ASSIGNED 4, 1), (Bit.PHASE_CTRL_ASSIGNED 5, 1), (Bit.PHASE_CTRL_ASSIGNED 7, 1), (flag (Reg.PHASE_STATUS 3) 1, 1), (flag (Reg.PHASE_STATUS 4) 1, 1), (flag (Reg.PHASE_STATUS 5) 1, 1)]).fld (Bit.LL_CTRL_MIN_PHASES (0 : Fin 4)) + 1 < ((built [(Reg.STATUS 0, 2), (Reg.SHED_MA 0, 1000)] [(Bit.LL_CTRL_SHED_EN 0, 1), (Bit.LL_CTRL_ROT_EN 0, 1), (phShed 7, 1), (Bit.PHASE_CTRL_ASSIGNED 3, 1), (Bit.PHASE_CTRL_ASSIGNED 4, 1), (Bit.PHASE_CTRL_ASSIGNED 5, 1), (Bit.PHASE_CTRL_ASSIGNED 7, 1), (flag (Reg.PHASE_STATUS 3) 1, 1), (flag (Reg.PHASE_STATUS 4) 1, 1), (flag (Reg.PHASE_STATUS 5) 1, 1)]).active (0 : Fin 4)).length ∧
    (built [(Reg.STATUS 0, 2), (Reg.SHED_MA 0, 1000)] [(Bit.LL_CTRL_SHED_EN 0, 1), (Bit.LL_CTRL_ROT_EN 0, 1), (phShed 7, 1), (Bit.PHASE_CTRL_ASSIGNED 3, 1), (Bit.PHASE_CTRL_ASSIGNED 4, 1), (Bit.PHASE_CTRL_ASSIGNED 5, 1), (Bit.PHASE_CTRL_ASSIGNED 7, 1), (flag (Reg.PHASE_STATUS 3) 1, 1), (flag (Reg.PHASE_STATUS 4) 1, 1), (flag (Reg.PHASE_STATUS 5) 1, 1)]).perPhaseBelow (0 : Fin 4) ((built [(Reg.STATUS 0, 2), (Reg.SHED_MA 0, 1000)] [(Bit.LL_CTRL_SHED_EN 0, 1), (Bit.LL_CTRL_ROT_EN 0, 1), (phShed 7, 1), (Bit.PHASE_CTRL_ASSIGNED 3, 1), (Bit.PHASE_CTRL_ASSIGNED 4, 1), (Bit.PHASE_CTRL_ASSIGNED 5, 1), (Bit.PHASE_CTRL_ASSIGNED 7, 1), (flag (Reg.PHASE_STATUS 3) 1, 1), (flag (Reg.PHASE_STATUS 4) 1, 1), (flag (Reg.PHASE_STATUS 5) 1, 1)]).rd (Reg.SHED_MA (0 : Fin 4))) = true ∧
    (built [(Reg.STATUS 0, 2), (Reg.SHED_MA 0, 1000)] [(Bit.LL_CTRL_SHED_EN 0, 1), (Bit.LL_CTRL_ROT_EN 0, 1), (phShed 7, 1), (Bit.PHASE_CTRL_ASSIGNED 3, 1), (Bit.PHASE_CTRL_ASSIGNED 4, 1), (Bit.PHASE_CTRL_ASSIGNED 5, 1), (Bit.PHASE_CTRL_ASSIGNED 7, 1), (flag (Reg.PHASE_STATUS 3) 1, 1), (flag (Reg.PHASE_STATUS 4) 1, 1), (flag (Reg.PHASE_STATUS 5) 1, 1)]).lightHeld (0 : Fin 4) = false ∧
    (built [(Reg.STATUS 0, 2), (Reg.SHED_MA 0, 1000)] [(Bit.LL_CTRL_SHED_EN 0, 1), (Bit.LL_CTRL_ROT_EN 0, 1), (phShed 7, 1), (Bit.PHASE_CTRL_ASSIGNED 3, 1), (Bit.PHASE_CTRL_ASSIGNED 4, 1), (Bit.PHASE_CTRL_ASSIGNED 5, 1), (Bit.PHASE_CTRL_ASSIGNED 7, 1), (flag (Reg.PHASE_STATUS 3) 1, 1), (flag (Reg.PHASE_STATUS 4) 1, 1), (flag (Reg.PHASE_STATUS 5) 1, 1)]).rd (Reg.rlDwell (0 : Fin 4)) ≤ (built [(Reg.STATUS 0, 2), (Reg.SHED_MA 0, 1000)] [(Bit.LL_CTRL_SHED_EN 0, 1), (Bit.LL_CTRL_ROT_EN 0, 1), (phShed 7, 1), (Bit.PHASE_CTRL_ASSIGNED 3, 1), (Bit.PHASE_CTRL_ASSIGNED 4, 1), (Bit.PHASE_CTRL_ASSIGNED 5, 1), (Bit.PHASE_CTRL_ASSIGNED 7, 1), (flag (Reg.PHASE_STATUS 3) 1, 1), (flag (Reg.PHASE_STATUS 4) 1, 1), (flag (Reg.PHASE_STATUS 5) 1, 1)]).now ∧
    (built [(Reg.STATUS 3, 2), (Reg.IOUT_MA 3, 900000)] []).ppRuns = true ∧
    (built [(Reg.STATUS 3, 2), (Reg.IOUT_MA 3, 900000)] []).switching (3 : Fin 4) = true ∧
    (built [(Reg.STATUS 3, 2), (Reg.IOUT_MA 3, 900000)] []).rd (Reg.ADD_MA (3 : Fin 4)) * (((built [(Reg.STATUS 3, 2), (Reg.IOUT_MA 3, 900000)] []).active (3 : Fin 4)).length : Int) < (built [(Reg.STATUS 3, 2), (Reg.IOUT_MA 3, 900000)] []).rd (Reg.IOUT_MA (3 : Fin 4)) ∧
    ((built [(Reg.STATUS 3, 2), (Reg.IOUT_MA 3, 900000)] []).on (Reg.rlAddNs (3 : Fin 4)) = false ∨ (built [(Reg.STATUS 3, 2), (Reg.IOUT_MA 3, 900000)] []).since ((built [(Reg.STATUS 3, 2), (Reg.IOUT_MA 3, 900000)] []).rd (Reg.rlAddNs (3 : Fin 4)) - 1) 10000 = true) ∧
    ({ (built [(Reg.STATUS 0, 2), (Reg.SHED_MA 0, 1000)] [(Bit.LL_CTRL_SHED_EN 0, 1), (Bit.LL_CTRL_ROT_EN 0, 1), (phShed 7, 1), (Bit.PHASE_CTRL_ASSIGNED 3, 1), (Bit.PHASE_CTRL_ASSIGNED 4, 1), (Bit.PHASE_CTRL_ASSIGNED 5, 1), (Bit.PHASE_CTRL_ASSIGNED 7, 1), (flag (Reg.PHASE_STATUS 3) 1, 1), (flag (Reg.PHASE_STATUS 4) 1, 1), (flag (Reg.PHASE_STATUS 5) 1, 1)]) with timebase := 100000000 } : State).ppRuns = true ∧
    ({ (built [(Reg.STATUS 0, 2), (Reg.SHED_MA 0, 1000)] [(Bit.LL_CTRL_SHED_EN 0, 1), (Bit.LL_CTRL_ROT_EN 0, 1), (phShed 7, 1), (Bit.PHASE_CTRL_ASSIGNED 3, 1), (Bit.PHASE_CTRL_ASSIGNED 4, 1), (Bit.PHASE_CTRL_ASSIGNED 5, 1), (Bit.PHASE_CTRL_ASSIGNED 7, 1), (flag (Reg.PHASE_STATUS 3) 1, 1), (flag (Reg.PHASE_STATUS 4) 1, 1), (flag (Reg.PHASE_STATUS 5) 1, 1)]) with timebase := 100000000 } : State).bit (Bit.LL_CTRL_ROT_EN (0 : Fin 4)) = true ∧
    ({ (built [(Reg.STATUS 0, 2), (Reg.SHED_MA 0, 1000)] [(Bit.LL_CTRL_SHED_EN 0, 1), (Bit.LL_CTRL_ROT_EN 0, 1), (phShed 7, 1), (Bit.PHASE_CTRL_ASSIGNED 3, 1), (Bit.PHASE_CTRL_ASSIGNED 4, 1), (Bit.PHASE_CTRL_ASSIGNED 5, 1), (Bit.PHASE_CTRL_ASSIGNED 7, 1), (flag (Reg.PHASE_STATUS 3) 1, 1), (flag (Reg.PHASE_STATUS 4) 1, 1), (flag (Reg.PHASE_STATUS 5) 1, 1)]) with timebase := 100000000 } : State).someShed (0 : Fin 4) = true ∧
    ({ (built [(Reg.STATUS 0, 2), (Reg.SHED_MA 0, 1000)] [(Bit.LL_CTRL_SHED_EN 0, 1), (Bit.LL_CTRL_ROT_EN 0, 1), (phShed 7, 1), (Bit.PHASE_CTRL_ASSIGNED 3, 1), (Bit.PHASE_CTRL_ASSIGNED 4, 1), (Bit.PHASE_CTRL_ASSIGNED 5, 1), (Bit.PHASE_CTRL_ASSIGNED 7, 1), (flag (Reg.PHASE_STATUS 3) 1, 1), (flag (Reg.PHASE_STATUS 4) 1, 1), (flag (Reg.PHASE_STATUS 5) 1, 1)]) with timebase := 100000000 } : State).since (({ (built [(Reg.STATUS 0, 2), (Reg.SHED_MA 0, 1000)] [(Bit.LL_CTRL_SHED_EN 0, 1), (Bit.LL_CTRL_ROT_EN 0, 1), (phShed 7, 1), (Bit.PHASE_CTRL_ASSIGNED 3, 1), (Bit.PHASE_CTRL_ASSIGNED 4, 1), (Bit.PHASE_CTRL_ASSIGNED 5, 1), (Bit.PHASE_CTRL_ASSIGNED 7, 1), (flag (Reg.PHASE_STATUS 3) 1, 1), (flag (Reg.PHASE_STATUS 4) 1, 1), (flag (Reg.PHASE_STATUS 5) 1, 1)]) with timebase := 100000000 } : State).rd (Reg.rlRotNs (0 : Fin 4))) (({ (built [(Reg.STATUS 0, 2), (Reg.SHED_MA 0, 1000)] [(Bit.LL_CTRL_SHED_EN 0, 1), (Bit.LL_CTRL_ROT_EN 0, 1), (phShed 7, 1), (Bit.PHASE_CTRL_ASSIGNED 3, 1), (Bit.PHASE_CTRL_ASSIGNED 4, 1), (Bit.PHASE_CTRL_ASSIGNED 5, 1), (Bit.PHASE_CTRL_ASSIGNED 7, 1), (flag (Reg.PHASE_STATUS 3) 1, 1), (flag (Reg.PHASE_STATUS 4) 1, 1), (flag (Reg.PHASE_STATUS 5) 1, 1)]) with timebase := 100000000 } : State).rd Reg.ROT_MS * 1000000) = true ∧
    ({ (built [(Reg.STATUS 0, 2), (Reg.BURST_ENTRY_MA 0, 1000), (Reg.rlLowNs 0, 1)] [(Bit.LL_CTRL_BURST_EN 0, 1), (Bit.PHASE_CTRL_ASSIGNED 3, 1), (flag (Reg.PHASE_STATUS 3) 1, 1)]) with timebase := 1000000 } : State).ppRuns = true ∧
    ({ (built [(Reg.STATUS 0, 2), (Reg.BURST_ENTRY_MA 0, 1000), (Reg.rlLowNs 0, 1)] [(Bit.LL_CTRL_BURST_EN 0, 1), (Bit.PHASE_CTRL_ASSIGNED 3, 1), (flag (Reg.PHASE_STATUS 3) 1, 1)]) with timebase := 1000000 } : State).railSt (0 : Fin 4) = 2 ∧
    (({ (built [(Reg.STATUS 0, 2), (Reg.BURST_ENTRY_MA 0, 1000), (Reg.rlLowNs 0, 1)] [(Bit.LL_CTRL_BURST_EN 0, 1), (Bit.PHASE_CTRL_ASSIGNED 3, 1), (flag (Reg.PHASE_STATUS 3) 1, 1)]) with timebase := 1000000 } : State).active (0 : Fin 4)).length = 1 ∧
    ({ (built [(Reg.STATUS 0, 2), (Reg.BURST_ENTRY_MA 0, 1000), (Reg.rlLowNs 0, 1)] [(Bit.LL_CTRL_BURST_EN 0, 1), (Bit.PHASE_CTRL_ASSIGNED 3, 1), (flag (Reg.PHASE_STATUS 3) 1, 1)]) with timebase := 1000000 } : State).bit (Bit.LL_CTRL_BURST_EN (0 : Fin 4)) = true ∧
    ({ (built [(Reg.STATUS 0, 2), (Reg.BURST_ENTRY_MA 0, 1000), (Reg.rlLowNs 0, 1)] [(Bit.LL_CTRL_BURST_EN 0, 1), (Bit.PHASE_CTRL_ASSIGNED 3, 1), (flag (Reg.PHASE_STATUS 3) 1, 1)]) with timebase := 1000000 } : State).shared (0 : Fin 4) = false ∧
    ({ (built [(Reg.STATUS 0, 2), (Reg.BURST_ENTRY_MA 0, 1000), (Reg.rlLowNs 0, 1)] [(Bit.LL_CTRL_BURST_EN 0, 1), (Bit.PHASE_CTRL_ASSIGNED 3, 1), (flag (Reg.PHASE_STATUS 3) 1, 1)]) with timebase := 1000000 } : State).on (Reg.rlLowNs (0 : Fin 4)) = true ∧
    ({ (built [(Reg.STATUS 0, 2), (Reg.BURST_ENTRY_MA 0, 1000), (Reg.rlLowNs 0, 1)] [(Bit.LL_CTRL_BURST_EN 0, 1), (Bit.PHASE_CTRL_ASSIGNED 3, 1), (flag (Reg.PHASE_STATUS 3) 1, 1)]) with timebase := 1000000 } : State).since (({ (built [(Reg.STATUS 0, 2), (Reg.BURST_ENTRY_MA 0, 1000), (Reg.rlLowNs 0, 1)] [(Bit.LL_CTRL_BURST_EN 0, 1), (Bit.PHASE_CTRL_ASSIGNED 3, 1), (flag (Reg.PHASE_STATUS 3) 1, 1)]) with timebase := 1000000 } : State).rd (Reg.rlLowNs (0 : Fin 4)) - 1) 1000000 = true ∧
    ({ (built [(Reg.STATUS 0, 2), (Reg.BURST_ENTRY_MA 0, 1000), (Reg.rlLowNs 0, 1)] [(Bit.LL_CTRL_BURST_EN 0, 1), (Bit.PHASE_CTRL_ASSIGNED 3, 1), (flag (Reg.PHASE_STATUS 3) 1, 1)]) with timebase := 1000000 } : State).lightHeld (0 : Fin 4) = false := by
  refine ⟨?_, ?_, ?_, ?_, ?_, ?_, ?_, ?_, ?_, ?_, ?_, ?_, ?_, ?_, ?_, ?_, ?_, ?_, ?_, ?_, ?_, ?_, ?_, ?_, ?_, ?_, ?_, ?_, ?_, ?_, ?_, ?_, ?_, ?_, ?_, ?_, ?_, ?_, ?_, ?_, ?_, ?_, ?_, ?_, ?_, ?_, ?_, ?_, ?_, ?_, ?_, ?_, ?_, ?_, ?_, ?_, ?_, ?_, ?_, ?_, ?_, ?_, ?_, ?_⟩ <;> decide

/-- The hypotheses of RailProtectionCommandsComplete. -/
theorem test_met_RailProtectionCommandsComplete :
    (built [(Reg.STATUS 2, 3)] []).ppRuns = true ∧
    (built [(Reg.STATUS 2, 3)] []).railSt (2 : Fin 4) = 3 ∧
    ((built [(Reg.STATUS 2, 3)] []).on (Reg.rlTrigNs (2 : Fin 4)) = false ∨ (built [(Reg.STATUS 2, 3)] []).since ((built [(Reg.STATUS 2, 3)] []).rd (Reg.rlTrigNs (2 : Fin 4)) - 1) ((built [(Reg.STATUS 2, 3)] []).rd (Reg.SLEEP_MAX_US (2 : Fin 4)) * 1000) = true) ∧
    (built [(Reg.STATUS 3, 3), (Reg.IOUT_MA 3, 900000)] []).ppRuns = true ∧
    (built [(Reg.STATUS 3, 3), (Reg.IOUT_MA 3, 900000)] []).railSt (3 : Fin 4) = 3 ∧
    (built [(Reg.STATUS 3, 3), (Reg.IOUT_MA 3, 900000)] []).rd (Reg.BURST_EXIT_MA (3 : Fin 4)) < (built [(Reg.STATUS 3, 3), (Reg.IOUT_MA 3, 900000)] []).rd (Reg.IOUT_MA (3 : Fin 4)) ∧
    (built [(Reg.STATUS 1, 2), (Reg.rlDac 1, 2500), (Reg.rlPileArmed 1, 1)] [(Bit.RAIL_CTRL_PILEIN_EN 1, 1), (Bit.PHASE_CTRL_ASSIGNED 3, 1), (Bit.PHASE_CTRL_RAIL 3, 1)]).ppRuns = true ∧
    (built [(Reg.STATUS 1, 2), (Reg.rlDac 1, 2500), (Reg.rlPileArmed 1, 1)] [(Bit.RAIL_CTRL_PILEIN_EN 1, 1), (Bit.PHASE_CTRL_ASSIGNED 3, 1), (Bit.PHASE_CTRL_RAIL 3, 1)]).switching (1 : Fin 4) = true ∧
    (built [(Reg.STATUS 1, 2), (Reg.rlDac 1, 2500), (Reg.rlPileArmed 1, 1)] [(Bit.RAIL_CTRL_PILEIN_EN 1, 1), (Bit.PHASE_CTRL_ASSIGNED 3, 1), (Bit.PHASE_CTRL_RAIL 3, 1)]).bit (Bit.RAIL_CTRL_PILEIN_EN (1 : Fin 4)) = true ∧
    (built [(Reg.STATUS 1, 2), (Reg.rlDac 1, 2500), (Reg.rlPileArmed 1, 1)] [(Bit.RAIL_CTRL_PILEIN_EN 1, 1), (Bit.PHASE_CTRL_ASSIGNED 3, 1), (Bit.PHASE_CTRL_RAIL 3, 1)]).on (Reg.rlPileArmed (1 : Fin 4)) = true ∧
    (built [(Reg.STATUS 1, 2), (Reg.rlDac 1, 2500), (Reg.rlPileArmed 1, 1)] [(Bit.RAIL_CTRL_PILEIN_EN 1, 1), (Bit.PHASE_CTRL_ASSIGNED 3, 1), (Bit.PHASE_CTRL_RAIL 3, 1)]).belowRef (1 : Fin 4) (0 : Int) (-2 * (built [(Reg.STATUS 1, 2), (Reg.rlDac 1, 2500), (Reg.rlPileArmed 1, 1)] [(Bit.RAIL_CTRL_PILEIN_EN 1, 1), (Bit.PHASE_CTRL_ASSIGNED 3, 1), (Bit.PHASE_CTRL_RAIL 3, 1)]).rd (Reg.PILEIN_PERMILLE (1 : Fin 4))) = true ∧
    ((((built [(Reg.STATUS 1, 2), (Reg.rlDac 1, 2500), (Reg.rlPileArmed 1, 1)] [(Bit.RAIL_CTRL_PILEIN_EN 1, 1), (Bit.PHASE_CTRL_ASSIGNED 3, 1), (Bit.PHASE_CTRL_RAIL 3, 1)]).burstEnds (1 : Fin 4)).wr (Reg.rlAboveOvs (1 : Fin 4)) 0) : State) = ((built [(Reg.STATUS 1, 2), (Reg.rlDac 1, 2500), (Reg.rlPileArmed 1, 1)] [(Bit.RAIL_CTRL_PILEIN_EN 1, 1), (Bit.PHASE_CTRL_ASSIGNED 3, 1), (Bit.PHASE_CTRL_RAIL 3, 1)]).burstEnds (1 : Fin 4)).wr (Reg.rlAboveOvs (1 : Fin 4)) 0 ∧
    ((forAll (((((built [(Reg.STATUS 1, 2), (Reg.rlDac 1, 2500), (Reg.rlPileArmed 1, 1)] [(Bit.RAIL_CTRL_PILEIN_EN 1, 1), (Bit.PHASE_CTRL_ASSIGNED 3, 1), (Bit.PHASE_CTRL_RAIL 3, 1)]).burstEnds (1 : Fin 4)).wr (Reg.rlAboveOvs (1 : Fin 4)) 0) : State).usable (1 : Fin 4)) (fun p x => if ((x.activate p).wrB (Reg.phAbove p) (([] : List (Fin 16)).any fun q => q.val = p)).rd (Reg.phPwm p) = 1 then (x.activate p).wrB (Reg.phAbove p) (([] : List (Fin 16)).any fun q => q.val = p) else (((x.activate p).wrB (Reg.phAbove p) (([] : List (Fin 16)).any fun q => q.val = p)).wr (Reg.phDue p) 2).turnOn (1 : Fin 4) p) (((((((built [(Reg.STATUS 1, 2), (Reg.rlDac 1, 2500), (Reg.rlPileArmed 1, 1)] [(Bit.RAIL_CTRL_PILEIN_EN 1, 1), (Bit.PHASE_CTRL_ASSIGNED 3, 1), (Bit.PHASE_CTRL_RAIL 3, 1)]).burstEnds (1 : Fin 4)).wr (Reg.rlAboveOvs (1 : Fin 4)) 0) : State).brakeEnds (1 : Fin 4)).setFld (rlPilein (1 : Fin 4)) 1).wr (Reg.rlPileArmed (1 : Fin 4)) 0)) : State) = forAll (((((built [(Reg.STATUS 1, 2), (Reg.rlDac 1, 2500), (Reg.rlPileArmed 1, 1)] [(Bit.RAIL_CTRL_PILEIN_EN 1, 1), (Bit.PHASE_CTRL_ASSIGNED 3, 1), (Bit.PHASE_CTRL_RAIL 3, 1)]).burstEnds (1 : Fin 4)).wr (Reg.rlAboveOvs (1 : Fin 4)) 0) : State).usable (1 : Fin 4)) (fun p x => if ((x.activate p).wrB (Reg.phAbove p) (([] : List (Fin 16)).any fun q => q.val = p)).rd (Reg.phPwm p) = 1 then (x.activate p).wrB (Reg.phAbove p) (([] : List (Fin 16)).any fun q => q.val = p) else (((x.activate p).wrB (Reg.phAbove p) (([] : List (Fin 16)).any fun q => q.val = p)).wr (Reg.phDue p) 2).turnOn (1 : Fin 4) p) (((((((built [(Reg.STATUS 1, 2), (Reg.rlDac 1, 2500), (Reg.rlPileArmed 1, 1)] [(Bit.RAIL_CTRL_PILEIN_EN 1, 1), (Bit.PHASE_CTRL_ASSIGNED 3, 1), (Bit.PHASE_CTRL_RAIL 3, 1)]).burstEnds (1 : Fin 4)).wr (Reg.rlAboveOvs (1 : Fin 4)) 0) : State).brakeEnds (1 : Fin 4)).setFld (rlPilein (1 : Fin 4)) 1).wr (Reg.rlPileArmed (1 : Fin 4)) 0) ∧
    (built [] []).ppRuns = true ∧
    (built [] []).aboveRef (0 : Fin 4) (1 : Int) (-(built [] []).rd (Reg.PILEIN_PERMILLE (0 : Fin 4))) = true ∧
    (built [(Reg.STATUS 0, 2), (Reg.rlDac 0, 2500)] [(Bit.RAIL_CTRL_OVS_MODE 0, 1)]).ppRuns = true ∧
    (built [(Reg.STATUS 0, 2), (Reg.rlDac 0, 2500)] [(Bit.RAIL_CTRL_OVS_MODE 0, 1)]).switching (0 : Fin 4) = true ∧
    (built [(Reg.STATUS 0, 2), (Reg.rlDac 0, 2500)] [(Bit.RAIL_CTRL_OVS_MODE 0, 1)]).overshoots (0 : Fin 4) (9999 : Int) = true ∧
    (built [(Reg.STATUS 0, 2), (Reg.rlDac 0, 2500)] [(Bit.RAIL_CTRL_OVS_MODE 0, 1)]).fld (Bit.RAIL_CTRL_OVS_MODE (0 : Fin 4)) = 1 ∧
    (built [(Reg.STATUS 0, 2), (Reg.rlDac 0, 2500)] []).ppRuns = true ∧
    (built [(Reg.STATUS 0, 2), (Reg.rlDac 0, 2500)] []).switching (0 : Fin 4) = true ∧
    (built [(Reg.STATUS 0, 2), (Reg.rlDac 0, 2500)] []).overshoots (0 : Fin 4) (9999 : Int) = true ∧
    (built [(Reg.STATUS 0, 2), (Reg.rlDac 0, 2500)] []).fld (Bit.RAIL_CTRL_OVS_MODE (0 : Fin 4)) ≠ 1 ∧
    (built [(Reg.rlDac 1, 2500)] []).ppRuns = true ∧
    (built [(Reg.rlDac 1, 2500)] []).belowRef (1 : Fin 4) (0 : Int) ((built [(Reg.rlDac 1, 2500)] []).rd (Reg.OVS_PERMILLE (1 : Fin 4))) = true ∧
    (built [(Reg.STATUS 0, 2), (Reg.PHASE_STATUS 3, 2)] [(Bit.PHASE_CTRL_ASSIGNED 3, 1)]).ppRuns = true ∧
    (((built [(Reg.STATUS 0, 2), (Reg.PHASE_STATUS 3, 2)] [(Bit.PHASE_CTRL_ASSIGNED 3, 1)]).fld (Bit.PHASE_CTRL_RAIL (3 : Fin 16))) : Nat) = (built [(Reg.STATUS 0, 2), (Reg.PHASE_STATUS 3, 2)] [(Bit.PHASE_CTRL_ASSIGNED 3, 1)]).fld (Bit.PHASE_CTRL_RAIL (3 : Fin 16)) ∧
    (built [(Reg.STATUS 0, 2), (Reg.PHASE_STATUS 3, 2)] [(Bit.PHASE_CTRL_ASSIGNED 3, 1)]).switching (((built [(Reg.STATUS 0, 2), (Reg.PHASE_STATUS 3, 2)] [(Bit.PHASE_CTRL_ASSIGNED 3, 1)]).fld (Bit.PHASE_CTRL_RAIL (3 : Fin 16))) : Nat) = true ∧
    ((built [(Reg.STATUS 0, 2), (Reg.PHASE_STATUS 3, 2)] [(Bit.PHASE_CTRL_ASSIGNED 3, 1)]).active (((built [(Reg.STATUS 0, 2), (Reg.PHASE_STATUS 3, 2)] [(Bit.PHASE_CTRL_ASSIGNED 3, 1)]).fld (Bit.PHASE_CTRL_RAIL (3 : Fin 16))) : Nat)).contains (3 : Fin 16).val = true ∧
    (built [(Reg.STATUS 0, 2), (Reg.PHASE_STATUS 3, 2)] [(Bit.PHASE_CTRL_ASSIGNED 3, 1)]).rd (Reg.phPwm (3 : Fin 16)) ≠ 1 ∧
    (built [(Reg.STATUS 0, 2), (Reg.PHASE_STATUS 3, 2)] [(Bit.PHASE_CTRL_ASSIGNED 3, 1)]).valleyLimit (((built [(Reg.STATUS 0, 2), (Reg.PHASE_STATUS 3, 2)] [(Bit.PHASE_CTRL_ASSIGNED 3, 1)]).fld (Bit.PHASE_CTRL_RAIL (3 : Fin 16))) : Nat) (3 : Fin 16) < (999999 : Int) ∧
    (0 : Int) ≤ (built [(Reg.STATUS 0, 2), (Reg.PHASE_STATUS 3, 2)] [(Bit.PHASE_CTRL_ASSIGNED 3, 1)]).valleyLimit (((built [(Reg.STATUS 0, 2), (Reg.PHASE_STATUS 3, 2)] [(Bit.PHASE_CTRL_ASSIGNED 3, 1)]).fld (Bit.PHASE_CTRL_RAIL (3 : Fin 16))) : Nat) (3 : Fin 16) ∧
    (built [(Reg.STATUS 0, 2), (Reg.phValley 3, 127)] [(Bit.PHASE_CTRL_ASSIGNED 3, 1)]).ppRuns = true ∧
    (built [(Reg.STATUS 0, 2), (Reg.phValley 3, 127)] [(Bit.PHASE_CTRL_ASSIGNED 3, 1)]).hiccupDue (0 : Fin 4) = true ∧
    ({ (built [(Reg.STATUS 3, 5)] []) with timebase := 10000000000 } : State).ppRuns = true ∧
    ({ (built [(Reg.STATUS 3, 5)] []) with timebase := 10000000000 } : State).railSt (3 : Fin 4) = 5 ∧
    ({ (built [(Reg.STATUS 3, 5)] []) with timebase := 10000000000 } : State).since (({ (built [(Reg.STATUS 3, 5)] []) with timebase := 10000000000 } : State).rd (Reg.rlStNs (3 : Fin 4))) (({ (built [(Reg.STATUS 3, 5)] []) with timebase := 10000000000 } : State).rd (Reg.HICCUP_OFF_MS (3 : Fin 4)) * 1000000) = true ∧
    ((built [(Reg.STATUS 0, 2), (Reg.PHASE_STATUS 3, 2)] [(Bit.PHASE_CTRL_ASSIGNED 3, 1)]).usable (((built [(Reg.STATUS 0, 2), (Reg.PHASE_STATUS 3, 2)] [(Bit.PHASE_CTRL_ASSIGNED 3, 1)]).fld (Bit.PHASE_CTRL_RAIL (3 : Fin 16))) : Nat)).contains (3 : Fin 16).val = true ∧
    (built [(Reg.STATUS 0, 2), (Reg.PHASE_STATUS 3, 2)] [(Bit.PHASE_CTRL_ASSIGNED 3, 1)]).rd (Reg.Phase_ISC_MA (3 : Fin 16)) < (999999 : Int) ∧
    (built [(Reg.phZeroWait 15, 1)] []).ppRuns = true ∧
    (built [(Reg.phZeroWait 15, 1)] []).on (Reg.phZeroWait (15 : Fin 16)) = true ∧
    ((true : Bool) || (built [(Reg.phZeroWait 15, 1)] []).since ((built [(Reg.phZeroWait 15, 1)] []).rd (Reg.phOffNs (15 : Fin 16)) - 1) 2000) = true ∧
    (built [(Reg.STATUS 0, 3), (Reg.phPwm 3, 2)] [(Bit.PHASE_CTRL_ASSIGNED 3, 1)]).ppRuns = true ∧
    (built [(Reg.STATUS 0, 3), (Reg.phPwm 3, 2)] [(Bit.PHASE_CTRL_ASSIGNED 3, 1)]).on (Reg.phZeroWait (3 : Fin 16)) = false ∧
    (built [(Reg.STATUS 0, 3), (Reg.phPwm 3, 2)] [(Bit.PHASE_CTRL_ASSIGNED 3, 1)]).bit (Bit.PHASE_CTRL_ASSIGNED (3 : Fin 16)) = true ∧
    (built [(Reg.STATUS 0, 3), (Reg.phPwm 3, 2)] [(Bit.PHASE_CTRL_ASSIGNED 3, 1)]).rd (Reg.phPwm (3 : Fin 16)) = 2 ∧
    (built [(Reg.STATUS 0, 3), (Reg.phPwm 3, 2)] [(Bit.PHASE_CTRL_ASSIGNED 3, 1)]).deInForce ((built [(Reg.STATUS 0, 3), (Reg.phPwm 3, 2)] [(Bit.PHASE_CTRL_ASSIGNED 3, 1)]).fld (Bit.PHASE_CTRL_RAIL (3 : Fin 16))) = true ∧
    (built [(Reg.STATUS 0, 2), (Reg.OVL_LIMIT_MA 0, 1000), (Reg.rlAvg 0, 65536001)] []).ppRuns = true ∧
    (built [(Reg.STATUS 0, 2), (Reg.OVL_LIMIT_MA 0, 1000), (Reg.rlAvg 0, 65536001)] []).switching (0 : Fin 4) = true ∧
    (built [(Reg.STATUS 0, 2), (Reg.OVL_LIMIT_MA 0, 1000), (Reg.rlAvg 0, 65536001)] []).avgAbove (0 : Fin 4) = true ∧
    (built [(Reg.STATUS 0, 2), (Reg.OVL_LIMIT_MA 0, 1000), (Reg.rlAvg 0, 65536001)] []).on (Reg.rlOvlAbove (0 : Fin 4)) = false ∧
    ((((built [(Reg.STATUS 0, 2), (Reg.OVL_LIMIT_MA 0, 1000), (Reg.rlAvg 0, 65536001)] []).wr (Reg.rlOvlAbove (0 : Fin 4)) 1).raise (52 + (0 : Fin 4))) : State) = ((built [(Reg.STATUS 0, 2), (Reg.OVL_LIMIT_MA 0, 1000), (Reg.rlAvg 0, 65536001)] []).wr (Reg.rlOvlAbove (0 : Fin 4)) 1).raise (52 + (0 : Fin 4)) ∧
    ((((built [(Reg.STATUS 0, 2), (Reg.OVL_LIMIT_MA 0, 1000), (Reg.rlAvg 0, 65536001)] []).wr (Reg.rlOvlAbove (0 : Fin 4)) 1).raise (52 + (0 : Fin 4))) : State).railSt (0 : Fin 4) ≠ 4 ∧
    (built [(Reg.STATUS 0, 4), (Reg.OVL_LIMIT_MA 0, 1000), (Reg.rlAvg 0, 65536001)] []).ppRuns = true ∧
    (built [(Reg.STATUS 0, 4), (Reg.OVL_LIMIT_MA 0, 1000), (Reg.rlAvg 0, 65536001)] []).switching (0 : Fin 4) = true ∧
    (built [(Reg.STATUS 0, 4), (Reg.OVL_LIMIT_MA 0, 1000), (Reg.rlAvg 0, 65536001)] []).avgAbove (0 : Fin 4) = true ∧
    (built [(Reg.STATUS 0, 4), (Reg.OVL_LIMIT_MA 0, 1000), (Reg.rlAvg 0, 65536001)] []).on (Reg.rlOvlAbove (0 : Fin 4)) = false ∧
    ((((built [(Reg.STATUS 0, 4), (Reg.OVL_LIMIT_MA 0, 1000), (Reg.rlAvg 0, 65536001)] []).wr (Reg.rlOvlAbove (0 : Fin 4)) 1).raise (52 + (0 : Fin 4))) : State) = ((built [(Reg.STATUS 0, 4), (Reg.OVL_LIMIT_MA 0, 1000), (Reg.rlAvg 0, 65536001)] []).wr (Reg.rlOvlAbove (0 : Fin 4)) 1).raise (52 + (0 : Fin 4)) ∧
    ((((built [(Reg.STATUS 0, 4), (Reg.OVL_LIMIT_MA 0, 1000), (Reg.rlAvg 0, 65536001)] []).wr (Reg.rlOvlAbove (0 : Fin 4)) 1).raise (52 + (0 : Fin 4))) : State).railSt (0 : Fin 4) = 4 ∧
    ({ (built [(Reg.STATUS 2, 4)] []) with timebase := 100000000000 } : State).ppRuns = true ∧
    ({ (built [(Reg.STATUS 2, 4)] []) with timebase := 100000000000 } : State).railSt (2 : Fin 4) = 4 ∧
    ({ (built [(Reg.STATUS 2, 4)] []) with timebase := 100000000000 } : State).since (({ (built [(Reg.STATUS 2, 4)] []) with timebase := 100000000000 } : State).rd (Reg.rlStNs (2 : Fin 4))) (({ (built [(Reg.STATUS 2, 4)] []) with timebase := 100000000000 } : State).rd (Reg.DEGRADE_HOLD_MS (2 : Fin 4)) * 1000000) = true ∧
    (built [(Reg.STATUS 1, 4)] []).ppRuns = true ∧
    (built [(Reg.STATUS 1, 4)] []).railSt (1 : Fin 4) = 4 ∧
    (((built [(Reg.STATUS 1, 4)] []).on (Reg.rlOvlLim (1 : Fin 4)) && (built [(Reg.STATUS 1, 4)] []).on (Reg.OVL_LIMIT_MA (1 : Fin 4))) = false ∨ (built [(Reg.STATUS 1, 4)] []).rd (Reg.rlAvg (1 : Fin 4)) < (built [(Reg.STATUS 1, 4)] []).rd (Reg.OVL_LIMIT_MA (1 : Fin 4)) * 65536) ∧
    (built [(Reg.STATUS 1, 4)] []).rd (Reg.IOUT_MA (1 : Fin 4)) ≤ (built [(Reg.STATUS 1, 4)] []).railCap (1 : Fin 4) ∧
    (((built [(Reg.STATUS 1, 4)] []).active (1 : Fin 4)).any fun p => (built [(Reg.STATUS 1, 4)] []).on (Reg.phWait p)) = false ∧
    ((built [(Reg.STATUS 1, 4)] []).on (Reg.rlValleyNs (1 : Fin 4)) = false ∨ (built [(Reg.STATUS 1, 4)] []).since ((built [(Reg.STATUS 1, 4)] []).rd (Reg.rlValleyNs (1 : Fin 4)) - 1) 100000 = true) ∧
    (built [(Reg.phOpenRun 3, 64)] [(Bit.PHASE_CTRL_ASSIGNED 3, 1)]).ppRuns = true ∧
    (built [(Reg.phOpenRun 3, 64)] [(Bit.PHASE_CTRL_ASSIGNED 3, 1)]).bit (Bit.PHASE_CTRL_ASSIGNED (3 : Fin 16)) = true ∧
    (built [(Reg.phOpenRun 3, 64)] [(Bit.PHASE_CTRL_ASSIGNED 3, 1)]).bit (phCaged (3 : Fin 16)) = false ∧
    (built [(Reg.phOpenRun 3, 64)] [(Bit.PHASE_CTRL_ASSIGNED 3, 1)]).rd (Reg.OPEN_CNT (3 : Fin 16)) ≤ (built [(Reg.phOpenRun 3, 64)] [(Bit.PHASE_CTRL_ASSIGNED 3, 1)]).rd (Reg.phOpenRun (3 : Fin 16)) ∧
    (built [] [(Bit.PHASE_CTRL_ASSIGNED 3, 1)]).ppRuns = true ∧
    (built [] [(Bit.PHASE_CTRL_ASSIGNED 3, 1)]).bit (Bit.PHASE_CTRL_ASSIGNED (3 : Fin 16)) = true ∧
    (built [] [(Bit.PHASE_CTRL_ASSIGNED 3, 1)]).bit (phCaged (3 : Fin 16)) = false ∧
    ((1551 : Int) < 50 ∨ 1550 < (1551 : Int)) ∧
    (built [(Reg.STATE, 3)] []).procRuns = true ∧
    (built [(Reg.STATE, 3)] []).accepts (3 : Fin 4) (0x2010 + (9 : Fin 16)) (1) (withBits ((built [(Reg.STATE, 3)] []).rd (Reg.PHASE_CTRL (9 : Fin 16))) 12 1 1) = true ∧
    (State.written (built [(Reg.STATE, 3)] []) (0x2010 + (9 : Fin 16)) (1) (rawOf (0x2010 + (9 : Fin 16)) (1) (withBits ((built [(Reg.STATE, 3)] []).rd (Reg.PHASE_CTRL (9 : Fin 16))) 12 1 1)).2).bit (Bit.PHASE_CTRL_CAGE_REQ (9 : Fin 16)) = true ∧
    (State.written (built [(Reg.STATE, 3)] []) (0x2010 + (9 : Fin 16)) (1) (rawOf (0x2010 + (9 : Fin 16)) (1) (withBits ((built [(Reg.STATE, 3)] []).rd (Reg.PHASE_CTRL (9 : Fin 16))) 12 1 1)).2).bit (Bit.PHASE_CTRL_ASSIGNED (9 : Fin 16)) = (built [(Reg.STATE, 3)] []).bit (Bit.PHASE_CTRL_ASSIGNED (9 : Fin 16)) ∧
    (State.written (built [(Reg.STATE, 3)] []) (0x2010 + (9 : Fin 16)) (1) (rawOf (0x2010 + (9 : Fin 16)) (1) (withBits ((built [(Reg.STATE, 3)] []).rd (Reg.PHASE_CTRL (9 : Fin 16))) 12 1 1)).2).fld (Bit.PHASE_CTRL_RAIL (9 : Fin 16)) = (built [(Reg.STATE, 3)] []).fld (Bit.PHASE_CTRL_RAIL (9 : Fin 16)) ∧
    ((State.written (built [(Reg.STATE, 3)] []) (0x2010 + (9 : Fin 16)) (1) (rawOf (0x2010 + (9 : Fin 16)) (1) (withBits ((built [(Reg.STATE, 3)] []).rd (Reg.PHASE_CTRL (9 : Fin 16))) 12 1 1)).2).setBit (Bit.PHASE_CTRL_CAGE_REQ (9 : Fin 16)) ((built [(Reg.STATE, 3)] []).bit (Bit.PHASE_CTRL_CAGE_REQ (9 : Fin 16)))).bit (phCaged (9 : Fin 16)) = false := by
  refine ⟨?_, ?_, ?_, ?_, ?_, ?_, ?_, ?_, ?_, ?_, ?_, ?_, ?_, ?_, ?_, ?_, ?_, ?_, ?_, ?_, ?_, ?_, ?_, ?_, ?_, ?_, ?_, ?_, ?_, ?_, ?_, ?_, ?_, ?_, ?_, ?_, ?_, ?_, ?_, ?_, ?_, ?_, ?_, ?_, ?_, ?_, ?_, ?_, ?_, ?_, ?_, ?_, ?_, ?_, ?_, ?_, ?_, ?_, ?_, ?_, ?_, ?_, ?_, ?_, ?_, ?_, ?_, ?_, ?_, ?_, ?_, ?_, ?_, ?_, ?_, ?_, ?_, ?_, ?_, ?_, ?_, ?_⟩ <;> decide

/-- The hypotheses of LoadChannelCommandsComplete. -/
theorem test_met_LoadChannelCommandsComplete :
    (built [(Reg.STATE, 3)] []).procRuns = true ∧
    (built [(Reg.STATE, 3)] []).accepts (3 : Fin 4) (0x3000 + (511 : Fin 512)) (1) (withBits ((built [(Reg.STATE, 3)] []).rd (Reg.CTX_CTRL (511 : Fin 512))) 15 1 1) = true ∧
    (built [(Reg.STATE, 3)] []).cmd (511 : Fin 512) = false ∧
    (State.written (built [(Reg.STATE, 3)] []) (0x3000 + (511 : Fin 512)) (1) (rawOf (0x3000 + (511 : Fin 512)) (1) (withBits ((built [(Reg.STATE, 3)] []).rd (Reg.CTX_CTRL (511 : Fin 512))) 15 1 1)).2).cmd (511 : Fin 512) = true ∧
    (State.written (built [(Reg.STATE, 3)] []) (0x3000 + (511 : Fin 512)) (1) (rawOf (0x3000 + (511 : Fin 512)) (1) (withBits ((built [(Reg.STATE, 3)] []).rd (Reg.CTX_CTRL (511 : Fin 512))) 15 1 1)).2).bit (Bit.CTX_CTRL_CAGE_REQ (511 : Fin 512)) = false ∧
    (State.written (built [(Reg.STATE, 3)] []) (0x3000 + (511 : Fin 512)) (1) (rawOf (0x3000 + (511 : Fin 512)) (1) (withBits ((built [(Reg.STATE, 3)] []).rd (Reg.CTX_CTRL (511 : Fin 512))) 15 1 1)).2).classOf (511 : Fin 512) = (built [(Reg.STATE, 3)] []).classOf (511 : Fin 512) ∧
    (State.written (built [(Reg.STATE, 3)] []) (0x3000 + (511 : Fin 512)) (1) (rawOf (0x3000 + (511 : Fin 512)) (1) (withBits ((built [(Reg.STATE, 3)] []).rd (Reg.CTX_CTRL (511 : Fin 512))) 15 1 1)).2).fld (Bit.CTX_CTRL_INRUSH_MODE (511 : Fin 512)) = (built [(Reg.STATE, 3)] []).fld (Bit.CTX_CTRL_INRUSH_MODE (511 : Fin 512)) ∧
    (built [(Reg.STATE, 3)] [(Bit.CTX_CTRL_CMD 0, 1)]).procRuns = true ∧
    (built [(Reg.STATE, 3)] [(Bit.CTX_CTRL_CMD 0, 1)]).accepts (3 : Fin 4) (0x3000 + (0 : Fin 512)) (1) (withBits ((built [(Reg.STATE, 3)] [(Bit.CTX_CTRL_CMD 0, 1)]).rd (Reg.CTX_CTRL (0 : Fin 512))) 15 1 0) = true ∧
    (State.written (built [(Reg.STATE, 3)] [(Bit.CTX_CTRL_CMD 0, 1)]) (0x3000 + (0 : Fin 512)) (1) (rawOf (0x3000 + (0 : Fin 512)) (1) (withBits ((built [(Reg.STATE, 3)] [(Bit.CTX_CTRL_CMD 0, 1)]).rd (Reg.CTX_CTRL (0 : Fin 512))) 15 1 0)).2).cmd (0 : Fin 512) = false ∧
    (State.written (built [(Reg.STATE, 3)] [(Bit.CTX_CTRL_CMD 0, 1)]) (0x3000 + (0 : Fin 512)) (1) (rawOf (0x3000 + (0 : Fin 512)) (1) (withBits ((built [(Reg.STATE, 3)] [(Bit.CTX_CTRL_CMD 0, 1)]).rd (Reg.CTX_CTRL (0 : Fin 512))) 15 1 0)).2).bit (Bit.CTX_CTRL_CAGE_REQ (0 : Fin 512)) = false ∧
    (State.written (built [(Reg.STATE, 3)] [(Bit.CTX_CTRL_CMD 0, 1)]) (0x3000 + (0 : Fin 512)) (1) (rawOf (0x3000 + (0 : Fin 512)) (1) (withBits ((built [(Reg.STATE, 3)] [(Bit.CTX_CTRL_CMD 0, 1)]).rd (Reg.CTX_CTRL (0 : Fin 512))) 15 1 0)).2).classOf (0 : Fin 512) = (built [(Reg.STATE, 3)] [(Bit.CTX_CTRL_CMD 0, 1)]).classOf (0 : Fin 512) ∧
    (State.written (built [(Reg.STATE, 3)] [(Bit.CTX_CTRL_CMD 0, 1)]) (0x3000 + (0 : Fin 512)) (1) (rawOf (0x3000 + (0 : Fin 512)) (1) (withBits ((built [(Reg.STATE, 3)] [(Bit.CTX_CTRL_CMD 0, 1)]).rd (Reg.CTX_CTRL (0 : Fin 512))) 15 1 0)).2).fld (Bit.CTX_CTRL_INRUSH_MODE (0 : Fin 512)) = (built [(Reg.STATE, 3)] [(Bit.CTX_CTRL_CMD 0, 1)]).fld (Bit.CTX_CTRL_INRUSH_MODE (0 : Fin 512)) ∧
    (built [(Reg.STATE, 3)] [(Bit.CTX_CTRL_CMD 0, 1)]).accepts (3 : Fin 4) (0x3000 + (0 : Fin 512)) (1) (withBits ((built [(Reg.STATE, 3)] [(Bit.CTX_CTRL_CMD 0, 1)]).rd (Reg.CTX_CTRL (0 : Fin 512))) 1 1 1) = true ∧
    ((((State.written (built [(Reg.STATE, 3)] [(Bit.CTX_CTRL_CMD 0, 1)]) (0x3000 + (0 : Fin 512)) (1) (rawOf (0x3000 + (0 : Fin 512)) (1) (withBits ((built [(Reg.STATE, 3)] [(Bit.CTX_CTRL_CMD 0, 1)]).rd (Reg.CTX_CTRL (0 : Fin 512))) 1 1 1)).2).setBit (Bit.CTX_CTRL_CMD (0 : Fin 512)) ((built [(Reg.STATE, 3)] [(Bit.CTX_CTRL_CMD 0, 1)]).cmd (0 : Fin 512))).setBit (Bit.CTX_CTRL_CAGE_REQ (0 : Fin 512)) ((built [(Reg.STATE, 3)] [(Bit.CTX_CTRL_CMD 0, 1)]).bit (Bit.CTX_CTRL_CAGE_REQ (0 : Fin 512)))) : State) = ((State.written (built [(Reg.STATE, 3)] [(Bit.CTX_CTRL_CMD 0, 1)]) (0x3000 + (0 : Fin 512)) (1) (rawOf (0x3000 + (0 : Fin 512)) (1) (withBits ((built [(Reg.STATE, 3)] [(Bit.CTX_CTRL_CMD 0, 1)]).rd (Reg.CTX_CTRL (0 : Fin 512))) 1 1 1)).2).setBit (Bit.CTX_CTRL_CMD (0 : Fin 512)) ((built [(Reg.STATE, 3)] [(Bit.CTX_CTRL_CMD 0, 1)]).cmd (0 : Fin 512))).setBit (Bit.CTX_CTRL_CAGE_REQ (0 : Fin 512)) ((built [(Reg.STATE, 3)] [(Bit.CTX_CTRL_CMD 0, 1)]).bit (Bit.CTX_CTRL_CAGE_REQ (0 : Fin 512))) ∧
    (built [(Reg.STATE, 3)] [(Bit.CTX_CTRL_CMD 0, 1)]).cmd (0 : Fin 512) = true ∧
    (State.written (built [(Reg.STATE, 3)] [(Bit.CTX_CTRL_CMD 0, 1)]) (0x3000 + (0 : Fin 512)) (1) (rawOf (0x3000 + (0 : Fin 512)) (1) (withBits ((built [(Reg.STATE, 3)] [(Bit.CTX_CTRL_CMD 0, 1)]).rd (Reg.CTX_CTRL (0 : Fin 512))) 1 1 1)).2).cmd (0 : Fin 512) = true ∧
    (State.written (built [(Reg.STATE, 3)] [(Bit.CTX_CTRL_CMD 0, 1)]) (0x3000 + (0 : Fin 512)) (1) (rawOf (0x3000 + (0 : Fin 512)) (1) (withBits ((built [(Reg.STATE, 3)] [(Bit.CTX_CTRL_CMD 0, 1)]).rd (Reg.CTX_CTRL (0 : Fin 512))) 1 1 1)).2).bit (Bit.CTX_CTRL_CAGE_REQ (0 : Fin 512)) = true ∧
    (State.written (built [(Reg.STATE, 3)] [(Bit.CTX_CTRL_CMD 0, 1)]) (0x3000 + (0 : Fin 512)) (1) (rawOf (0x3000 + (0 : Fin 512)) (1) (withBits ((built [(Reg.STATE, 3)] [(Bit.CTX_CTRL_CMD 0, 1)]).rd (Reg.CTX_CTRL (0 : Fin 512))) 1 1 1)).2).classOf (0 : Fin 512) = (built [(Reg.STATE, 3)] [(Bit.CTX_CTRL_CMD 0, 1)]).classOf (0 : Fin 512) ∧
    (State.written (built [(Reg.STATE, 3)] [(Bit.CTX_CTRL_CMD 0, 1)]) (0x3000 + (0 : Fin 512)) (1) (rawOf (0x3000 + (0 : Fin 512)) (1) (withBits ((built [(Reg.STATE, 3)] [(Bit.CTX_CTRL_CMD 0, 1)]).rd (Reg.CTX_CTRL (0 : Fin 512))) 1 1 1)).2).fld (Bit.CTX_CTRL_INRUSH_MODE (0 : Fin 512)) = (built [(Reg.STATE, 3)] [(Bit.CTX_CTRL_CMD 0, 1)]).fld (Bit.CTX_CTRL_INRUSH_MODE (0 : Fin 512)) ∧
    ((((State.written (built [(Reg.STATE, 3)] [(Bit.CTX_CTRL_CMD 0, 1)]) (0x3000 + (0 : Fin 512)) (1) (rawOf (0x3000 + (0 : Fin 512)) (1) (withBits ((built [(Reg.STATE, 3)] [(Bit.CTX_CTRL_CMD 0, 1)]).rd (Reg.CTX_CTRL (0 : Fin 512))) 1 1 1)).2).setBit (Bit.CTX_CTRL_CMD (0 : Fin 512)) ((built [(Reg.STATE, 3)] [(Bit.CTX_CTRL_CMD 0, 1)]).cmd (0 : Fin 512))).setBit (Bit.CTX_CTRL_CAGE_REQ (0 : Fin 512)) ((built [(Reg.STATE, 3)] [(Bit.CTX_CTRL_CMD 0, 1)]).bit (Bit.CTX_CTRL_CAGE_REQ (0 : Fin 512)))) : State).ctxSt (0 : Fin 512) ≠ 12 ∧
    (built [(Reg.STATE, 3)] []).accepts (3 : Fin 4) (0x3000 + (3 : Fin 512)) (1) (withBits ((built [(Reg.STATE, 3)] []).rd (Reg.CTX_CTRL (3 : Fin 512))) 1 1 1) = true ∧
    (((((State.written (built [(Reg.STATE, 3)] []) (0x3000 + (3 : Fin 512)) (1) (rawOf (0x3000 + (3 : Fin 512)) (1) (withBits ((built [(Reg.STATE, 3)] []).rd (Reg.CTX_CTRL (3 : Fin 512))) 1 1 1)).2).setBit (Bit.CTX_CTRL_CMD (3 : Fin 512)) ((built [(Reg.STATE, 3)] []).cmd (3 : Fin 512))).setBit (Bit.CTX_CTRL_CAGE_REQ (3 : Fin 512)) ((built [(Reg.STATE, 3)] []).bit (Bit.CTX_CTRL_CAGE_REQ (3 : Fin 512)))).cmdOff (3 : Fin 512)) : State) = (((State.written (built [(Reg.STATE, 3)] []) (0x3000 + (3 : Fin 512)) (1) (rawOf (0x3000 + (3 : Fin 512)) (1) (withBits ((built [(Reg.STATE, 3)] []).rd (Reg.CTX_CTRL (3 : Fin 512))) 1 1 1)).2).setBit (Bit.CTX_CTRL_CMD (3 : Fin 512)) ((built [(Reg.STATE, 3)] []).cmd (3 : Fin 512))).setBit (Bit.CTX_CTRL_CAGE_REQ (3 : Fin 512)) ((built [(Reg.STATE, 3)] []).bit (Bit.CTX_CTRL_CAGE_REQ (3 : Fin 512)))).cmdOff (3 : Fin 512) ∧
    (State.written (built [(Reg.STATE, 3)] []) (0x3000 + (3 : Fin 512)) (1) (rawOf (0x3000 + (3 : Fin 512)) (1) (withBits ((built [(Reg.STATE, 3)] []).rd (Reg.CTX_CTRL (3 : Fin 512))) 1 1 1)).2).cmd (3 : Fin 512) = false ∧
    (State.written (built [(Reg.STATE, 3)] []) (0x3000 + (3 : Fin 512)) (1) (rawOf (0x3000 + (3 : Fin 512)) (1) (withBits ((built [(Reg.STATE, 3)] []).rd (Reg.CTX_CTRL (3 : Fin 512))) 1 1 1)).2).bit (Bit.CTX_CTRL_CAGE_REQ (3 : Fin 512)) = true ∧
    (State.written (built [(Reg.STATE, 3)] []) (0x3000 + (3 : Fin 512)) (1) (rawOf (0x3000 + (3 : Fin 512)) (1) (withBits ((built [(Reg.STATE, 3)] []).rd (Reg.CTX_CTRL (3 : Fin 512))) 1 1 1)).2).classOf (3 : Fin 512) = (built [(Reg.STATE, 3)] []).classOf (3 : Fin 512) ∧
    (State.written (built [(Reg.STATE, 3)] []) (0x3000 + (3 : Fin 512)) (1) (rawOf (0x3000 + (3 : Fin 512)) (1) (withBits ((built [(Reg.STATE, 3)] []).rd (Reg.CTX_CTRL (3 : Fin 512))) 1 1 1)).2).fld (Bit.CTX_CTRL_INRUSH_MODE (3 : Fin 512)) = (built [(Reg.STATE, 3)] []).fld (Bit.CTX_CTRL_INRUSH_MODE (3 : Fin 512)) ∧
    (((((State.written (built [(Reg.STATE, 3)] []) (0x3000 + (3 : Fin 512)) (1) (rawOf (0x3000 + (3 : Fin 512)) (1) (withBits ((built [(Reg.STATE, 3)] []).rd (Reg.CTX_CTRL (3 : Fin 512))) 1 1 1)).2).setBit (Bit.CTX_CTRL_CMD (3 : Fin 512)) ((built [(Reg.STATE, 3)] []).cmd (3 : Fin 512))).setBit (Bit.CTX_CTRL_CAGE_REQ (3 : Fin 512)) ((built [(Reg.STATE, 3)] []).bit (Bit.CTX_CTRL_CAGE_REQ (3 : Fin 512)))).cmdOff (3 : Fin 512)) : State).ctxSt (3 : Fin 512) ≠ 12 ∧
    (built [(Reg.STATE, 3)] []).accepts (3 : Fin 4) (0x3000 + (20 : Fin 512)) (2) (((0 : BitVec 16).toNat : Nat)) = true ∧
    (built [] [(cxState 0, 3)]).ppRuns = true ∧
    (built [] [(cxState 0, 3)]).ctxSt (0 : Fin 512) = 3 ∧
    (built [] [(cxState 0, 3)]).on (Reg.cxLeadOver (0 : Fin 512)) = false ∧
    (built [] [(cxState 0, 3)]).rd (Reg.cxLeadEnd (0 : Fin 512)) ≤ (built [] [(cxState 0, 3)]).now ∧
    (built [(Reg.RESULT 40, 100), (Reg.RESULT 56, 100)] [(Bit.BINDING_VALID 0, 1)]).ppRuns = true ∧
    (built [(Reg.RESULT 40, 100), (Reg.RESULT 56, 100)] [(Bit.BINDING_VALID 0, 1)]).valid (0 : Fin 16) = true ∧
    (built [(Reg.RESULT 40, 100), (Reg.RESULT 56, 100)] [(Bit.BINDING_VALID 0, 1)]).resultValid (40 + (0 : Fin 16)) = true ∧
    (built [(Reg.RESULT 40, 100), (Reg.RESULT 56, 100)] [(Bit.BINDING_VALID 0, 1)]).resultValid (56 + (0 : Fin 16)) = true ∧
    (((built [(Reg.RESULT 40, 100), (Reg.RESULT 56, 100)] [(Bit.BINDING_VALID 0, 1)]).wr (Reg.cxVin (0 : Fin 16)) (satU 16 (12000 : Int))) : State) = (built [(Reg.RESULT 40, 100), (Reg.RESULT 56, 100)] [(Bit.BINDING_VALID 0, 1)]).wr (Reg.cxVin (0 : Fin 16)) (satU 16 (12000 : Int)) ∧
    (built [(Reg.RESULT 40, 100), (Reg.RESULT 56, -32768)] [(Bit.BINDING_VALID 0, 1)]).ppRuns = true ∧
    (built [(Reg.RESULT 40, 100), (Reg.RESULT 56, -32768)] [(Bit.BINDING_VALID 0, 1)]).valid (0 : Fin 16) = true ∧
    ((built [(Reg.RESULT 40, 100), (Reg.RESULT 56, -32768)] [(Bit.BINDING_VALID 0, 1)]).resultValid (40 + (0 : Fin 16)) = false ∨ (built [(Reg.RESULT 40, 100), (Reg.RESULT 56, -32768)] [(Bit.BINDING_VALID 0, 1)]).resultValid (56 + (0 : Fin 16)) = false) ∧
    ({ (built [(Reg.cxDecayDone 7, 0)] []) with timebase := 10000000000 } : State).ppRuns = true ∧
    ({ (built [(Reg.cxDecayDone 7, 0)] []) with timebase := 10000000000 } : State).on (Reg.cxDecayDone (7 : Fin 512)) = false ∧
    ({ (built [(Reg.cxDecayDone 7, 0)] []) with timebase := 10000000000 } : State).conducting (7 : Fin 512) = false ∧
    ({ (built [(Reg.cxDecayDone 7, 0)] []) with timebase := 10000000000 } : State).since (({ (built [(Reg.cxDecayDone 7, 0)] []) with timebase := 10000000000 } : State).rd (Reg.cxOffNs (7 : Fin 512))) (({ (built [(Reg.cxDecayDone 7, 0)] []) with timebase := 10000000000 } : State).rd (Reg.OFF_DECAY_MS (7 : Fin 512)) * 1000000) = true ∧
    ((({ (built [(Reg.cxDecayDone 7, 0)] []) with timebase := 10000000000 } : State).wr (Reg.cxDecayDone (7 : Fin 512)) 1) : State) = ({ (built [(Reg.cxDecayDone 7, 0)] []) with timebase := 10000000000 } : State).wr (Reg.cxDecayDone (7 : Fin 512)) 1 ∧
    ((({ (built [(Reg.cxDecayDone 7, 0)] []) with timebase := 10000000000 } : State).wr (Reg.cxDecayDone (7 : Fin 512)) 1) : State).on (Reg.cxCheckWait (7 : Fin 512)) = false ∧
    ({ (built [(Reg.cxDecayDone 7, 0), (Reg.cxCheckWait 7, 1), (Reg.cxSampled 7, 1)] []) with timebase := 10000000000 } : State).ppRuns = true ∧
    ({ (built [(Reg.cxDecayDone 7, 0), (Reg.cxCheckWait 7, 1), (Reg.cxSampled 7, 1)] []) with timebase := 10000000000 } : State).on (Reg.cxDecayDone (7 : Fin 512)) = false ∧
    ({ (built [(Reg.cxDecayDone 7, 0), (Reg.cxCheckWait 7, 1), (Reg.cxSampled 7, 1)] []) with timebase := 10000000000 } : State).conducting (7 : Fin 512) = false ∧
    ({ (built [(Reg.cxDecayDone 7, 0), (Reg.cxCheckWait 7, 1), (Reg.cxSampled 7, 1)] []) with timebase := 10000000000 } : State).since (({ (built [(Reg.cxDecayDone 7, 0), (Reg.cxCheckWait 7, 1), (Reg.cxSampled 7, 1)] []) with timebase := 10000000000 } : State).rd (Reg.cxOffNs (7 : Fin 512))) (({ (built [(Reg.cxDecayDone 7, 0), (Reg.cxCheckWait 7, 1), (Reg.cxSampled 7, 1)] []) with timebase := 10000000000 } : State).rd (Reg.OFF_DECAY_MS (7 : Fin 512)) * 1000000) = true ∧
    ((({ (built [(Reg.cxDecayDone 7, 0), (Reg.cxCheckWait 7, 1), (Reg.cxSampled 7, 1)] []) with timebase := 10000000000 } : State).wr (Reg.cxDecayDone (7 : Fin 512)) 1) : State) = ({ (built [(Reg.cxDecayDone 7, 0), (Reg.cxCheckWait 7, 1), (Reg.cxSampled 7, 1)] []) with timebase := 10000000000 } : State).wr (Reg.cxDecayDone (7 : Fin 512)) 1 ∧
    ((({ (built [(Reg.cxDecayDone 7, 0), (Reg.cxCheckWait 7, 1), (Reg.cxSampled 7, 1)] []) with timebase := 10000000000 } : State).wr (Reg.cxDecayDone (7 : Fin 512)) 1) : State).on (Reg.cxCheckWait (7 : Fin 512)) = true ∧
    ((({ (built [(Reg.cxDecayDone 7, 0), (Reg.cxCheckWait 7, 1), (Reg.cxSampled 7, 1)] []) with timebase := 10000000000 } : State).wr (Reg.cxDecayDone (7 : Fin 512)) 1) : State).on (Reg.cxSampled (7 : Fin 512)) = true ∧
    ((({ (built [(Reg.cxDecayDone 7, 0), (Reg.cxCheckWait 7, 1), (Reg.cxSampled 7, 1)] []) with timebase := 10000000000 } : State).wr (Reg.cxDecayDone (7 : Fin 512)) 1) : State).rd (Reg.V_MV (7 : Fin 512)) < ((({ (built [(Reg.cxDecayDone 7, 0), (Reg.cxCheckWait 7, 1), (Reg.cxSampled 7, 1)] []) with timebase := 10000000000 } : State).wr (Reg.cxDecayDone (7 : Fin 512)) 1) : State).rd (Reg.VDAMAGE_MV (7 : Fin 512)) ∧
    ({ (built [] [(cxState 0, 4)]) with timebase := 10000000000 } : State).ppRuns = true ∧
    (({ (built [] [(cxState 0, 4)]) with timebase := 10000000000 } : State).stThen (0 : Fin 512) = 4 ∨ (({ (built [] [(cxState 0, 4)]) with timebase := 10000000000 } : State).stThen (0 : Fin 512) = 5 ∧ ({ (built [] [(cxState 0, 4)]) with timebase := 10000000000 } : State).regateThen (0 : Fin 512) = true)) ∧
    ({ (built [] [(cxState 0, 4)]) with timebase := 10000000000 } : State).since (({ (built [] [(cxState 0, 4)]) with timebase := 10000000000 } : State).rd (Reg.cxRampNs (0 : Fin 512))) (({ (built [] [(cxState 0, 4)]) with timebase := 10000000000 } : State).rd (Reg.INRUSH_MAX_MS (0 : Fin 512)) * 1000000) = true ∧
    (built [(Reg.cxGate 0, 2)] [(cxState 0, 5)]).ppRuns = true ∧
    ((built [(Reg.cxGate 0, 2)] [(cxState 0, 5)]).stThen (0 : Fin 16) = 5 ∨ (built [(Reg.cxGate 0, 2)] [(cxState 0, 5)]).stThen (0 : Fin 16) = 6) ∧
    (built [(Reg.cxGate 0, 2)] [(cxState 0, 5)]).gateThen (0 : Fin 16) = 2 ∧
    7000 ≤ (7000 : Int) ∧
    (built [(Reg.cxGate 0, 2), (Reg.cxGateUp 0, 1)] [(cxState 0, 5)]).ppRuns = true ∧
    ((built [(Reg.cxGate 0, 2), (Reg.cxGateUp 0, 1)] [(cxState 0, 5)]).stThen (0 : Fin 16) = 5 ∨ (built [(Reg.cxGate 0, 2), (Reg.cxGateUp 0, 1)] [(cxState 0, 5)]).stThen (0 : Fin 16) = 6) ∧
    (built [(Reg.cxGate 0, 2), (Reg.cxGateUp 0, 1)] [(cxState 0, 5)]).gateThen (0 : Fin 16) = 2 ∧
    (6999 : Int) < 7000 ∧
    ((built [(Reg.cxGate 0, 2), (Reg.cxGateUp 0, 1)] [(cxState 0, 5)]).on (Reg.cxGateUp (0 : Fin 16)) = true ∨ (built [(Reg.cxGate 0, 2), (Reg.cxGateUp 0, 1)] [(cxState 0, 5)]).since ((built [(Reg.cxGate 0, 2), (Reg.cxGateUp 0, 1)] [(cxState 0, 5)]).rd (Reg.cxFullNs (0 : Fin 16))) 1000000 = true) ∧
    [4, 5, 6].contains ((built [(Reg.cxGate 0, 2)] [(cxState 0, 5)]).stThen (0 : Fin 16)) = true ∧
    (built [(Reg.cxGate 0, 2)] [(cxState 0, 5)]).shuntNv (0 : Fin 16) ((built [(Reg.cxGate 0, 2)] [(cxState 0, 5)]).rd (Reg.Ctx_ISC_MA (0 : Fin 16))) < (999999999 : Int) * 1000 ∧
    (built [(Reg.cxWindow 0, 1)] [(cxState 0, 5)]).ppRuns = true ∧
    (built [(Reg.cxWindow 0, 1)] [(cxState 0, 5)]).shuntNv (0 : Fin 16) ((built [(Reg.cxWindow 0, 1)] [(cxState 0, 5)]).rd (Reg.ILIM_MA (0 : Fin 16))) ≤ (999999999 : Int) * 1000 ∧
    (built [(Reg.cxWindow 0, 1)] [(cxState 0, 5)]).ctxSt (0 : Fin 16) = 5 ∧
    (built [(Reg.cxWindow 0, 1)] [(cxState 0, 5)]).on (Reg.cxRegate (0 : Fin 16)) = false ∧
    (built [(Reg.cxWindow 0, 1)] [(cxState 0, 5)]).on (Reg.cxWindow (0 : Fin 16)) = true ∧
    (built [] [(cxState 0, 4)]).ppRuns = true ∧
    (built [] [(cxState 0, 4)]).shuntNv (0 : Fin 16) ((built [] [(cxState 0, 4)]).rd (Reg.ILIM_MA (0 : Fin 16))) ≤ (999999999 : Int) * 1000 ∧
    (built [] [(cxState 0, 4)]).ctxSt (0 : Fin 16) = 4 ∧
    (built [(Reg.cxElapsed8 0, 99999999)] [(cxState 0, 6)]).ppRuns = true ∧
    (((built [(Reg.cxElapsed8 0, 99999999)] [(cxState 0, 6)]).runTimer (0 : Fin 512)) : State) = (built [(Reg.cxElapsed8 0, 99999999)] [(cxState 0, 6)]).runTimer (0 : Fin 512) ∧
    ((((built [(Reg.cxElapsed8 0, 99999999)] [(cxState 0, 6)]).runTimer (0 : Fin 512)) : State).stThen (0 : Fin 512) = 5 ∨ (((built [(Reg.cxElapsed8 0, 99999999)] [(cxState 0, 6)]).runTimer (0 : Fin 512)) : State).stThen (0 : Fin 512) = 6) ∧
    8 * (((built [(Reg.cxElapsed8 0, 99999999)] [(cxState 0, 6)]).runTimer (0 : Fin 512)) : State).tfault (0 : Fin 512) ≤ (((built [(Reg.cxElapsed8 0, 99999999)] [(cxState 0, 6)]).runTimer (0 : Fin 512)) : State).elapsedThen (0 : Fin 512) ∧
    (built [(Reg.cxRetryRun 0, 1)] [(cxState 0, 7)]).ppRuns = true ∧
    (built [(Reg.cxRetryRun 0, 1)] [(cxState 0, 7)]).on (Reg.cxRetryRun (0 : Fin 512)) = true ∧
    (built [(Reg.cxRetryRun 0, 1)] [(cxState 0, 7)]).ctxSt (0 : Fin 512) ≠ 10 ∧
    (built [(Reg.cxRetryRun 0, 1)] [(cxState 0, 7)]).rd (Reg.cxRetryEnd (0 : Fin 512)) ≤ (built [(Reg.cxRetryRun 0, 1)] [(cxState 0, 7)]).now ∧
    ({ (built [] [(cxState 0, 6)]) with timebase := 100000000000 } : State).ppRuns = true ∧
    (({ (built [] [(cxState 0, 6)]) with timebase := 100000000000 } : State).ctxSt (0 : Fin 512) = 5 ∨ ({ (built [] [(cxState 0, 6)]) with timebase := 100000000000 } : State).ctxSt (0 : Fin 512) = 6) ∧
    ({ (built [] [(cxState 0, 6)]) with timebase := 100000000000 } : State).since (({ (built [] [(cxState 0, 6)]) with timebase := 100000000000 } : State).rd (Reg.cxOnNs (0 : Fin 512))) (({ (built [] [(cxState 0, 6)]) with timebase := 100000000000 } : State).rd (Reg.RETRY_CLEAR_MS (0 : Fin 512)) * 1000000) = true ∧
    (built [] [(cxState 0, 6)]).ppRuns = true ∧
    ((-1) : Int) * 1000 < (built [] [(cxState 0, 6)]).shuntNv (0 : Fin 16) ((built [] [(cxState 0, 6)]).rd (Reg.ILIM_MA (0 : Fin 16))) ∧
    (built [] [(cxState 0, 6)]).ctxSt (0 : Fin 16) = 6 ∧
    ((-1) : Int) * 1000 < (built [] [(cxState 0, 4)]).shuntNv (0 : Fin 16) ((built [] [(cxState 0, 4)]).rd (Reg.ILIM_MA (0 : Fin 16))) := by
  refine ⟨?_, ?_, ?_, ?_, ?_, ?_, ?_, ?_, ?_, ?_, ?_, ?_, ?_, ?_, ?_, ?_, ?_, ?_, ?_, ?_, ?_, ?_, ?_, ?_, ?_, ?_, ?_, ?_, ?_, ?_, ?_, ?_, ?_, ?_, ?_, ?_, ?_, ?_, ?_, ?_, ?_, ?_, ?_, ?_, ?_, ?_, ?_, ?_, ?_, ?_, ?_, ?_, ?_, ?_, ?_, ?_, ?_, ?_, ?_, ?_, ?_, ?_, ?_, ?_, ?_, ?_, ?_, ?_, ?_, ?_, ?_, ?_, ?_, ?_, ?_, ?_, ?_, ?_, ?_, ?_, ?_, ?_, ?_, ?_, ?_, ?_, ?_, ?_, ?_, ?_, ?_, ?_⟩ <;> decide

/-- The hypotheses of SatelliteCommandsComplete. -/
theorem test_met_SatelliteCommandsComplete :
    (built [] []).ppRuns = true ∧
    (built [(Reg.slJudge 1, 1)] [(slState 1, 1)]).ppRuns = true ∧
    (built [(Reg.slJudge 1, 1)] [(slState 1, 1)]).fld (slState (1 : Fin 4)) ≠ 0 ∧
    (built [(Reg.slJudge 1, 1)] [(slState 1, 1)]).on (Reg.slJudge (1 : Fin 4)) = true ∧
    (built [(Reg.stBadRun 9, 15)] [(stState 9, 2)]).ppRuns = true ∧
    (built [(Reg.stBadRun 9, 15)] [(stState 9, 2)]).posSt (9 : Fin 32) = 2 ∧
    (((built [(Reg.stBadRun 9, 15)] [(stState 9, 2)]).fld (Bit.PORT_CTRL_LOST_ROUNDS ((9 : Fin 32) / 8)) : Int) ≤ (built [(Reg.stBadRun 9, 15)] [(stState 9, 2)]).rd (Reg.stBadRun (9 : Fin 32)) ∨ (built [(Reg.stBadRun 9, 15)] [(stState 9, 2)]).on (Reg.stBadRep (9 : Fin 32)) = true) ∧
    (built [(Reg.slEmpty 1, 15)] [(slState 1, 2)]).ppRuns = true ∧
    ((built [(Reg.slEmpty 1, 15)] [(slState 1, 2)]).fld (slState (1 : Fin 4)) = 1 ∨ (built [(Reg.slEmpty 1, 15)] [(slState 1, 2)]).fld (slState (1 : Fin 4)) = 2) ∧
    ((built [(Reg.slEmpty 1, 15)] [(slState 1, 2)]).fld (Bit.PORT_CTRL_LOST_ROUNDS (1 : Fin 4)) : Int) ≤ (built [(Reg.slEmpty 1, 15)] [(slState 1, 2)]).rd (Reg.slEmpty (1 : Fin 4)) ∧
    (built [(Reg.stGoodRun 9, 4), (Reg.stRecSet 9, 1)] [(stState 9, 3), (slState 1, 2)]).ppRuns = true ∧
    (built [(Reg.stGoodRun 9, 4), (Reg.stRecSet 9, 1)] [(stState 9, 3), (slState 1, 2)]).posSt (9 : Fin 32) = 3 ∧
    (built [(Reg.stGoodRun 9, 4), (Reg.stRecSet 9, 1)] [(stState 9, 3), (slState 1, 2)]).fld (slState ((9 : Fin 32) / 8)) ≠ 3 ∧
    4 ≤ (built [(Reg.stGoodRun 9, 4), (Reg.stRecSet 9, 1)] [(stState 9, 3), (slState 1, 2)]).rd (Reg.stGoodRun (9 : Fin 32)) ∧
    (built [(Reg.stGoodRun 9, 4), (Reg.stRecSet 9, 1)] [(stState 9, 3), (slState 1, 2)]).on (Reg.stRecSet (9 : Fin 32)) = true ∧
    (built [(Reg.STATE, 3)] []).procRuns = true ∧
    (built [(Reg.STATE, 3)] []).accepts (3 : Fin 4) (0x3220 + (3 : Fin 4)) (1) (((4 : Fin 16) * 2 + 1 : Nat)) = true ∧
    (built [(Reg.STATE, 3)] []).bit (Bit.PORT_CTRL_ENABLE (3 : Fin 4)) = false ∧
    (State.written (built [(Reg.STATE, 3)] []) (0x3220 + (3 : Fin 4)) (1) (rawOf (0x3220 + (3 : Fin 4)) (1) (((4 : Fin 16) * 2 + 1 : Nat))).2).bit (Bit.PORT_CTRL_ENABLE (3 : Fin 4)) = true ∧
    (built [(Reg.STATE, 3), (Reg.PORT_CTRL 0, 9)] []).procRuns = true ∧
    (built [(Reg.STATE, 3), (Reg.PORT_CTRL 0, 9)] []).accepts (3 : Fin 4) (0x3220 + (0 : Fin 4)) (3) (1) = true := by
  refine ⟨?_, ?_, ?_, ?_, ?_, ?_, ?_, ?_, ?_, ?_, ?_, ?_, ?_, ?_, ?_, ?_, ?_, ?_, ?_, ?_, ?_⟩ <;> decide

/-- The hypotheses of RingPortCommandsComplete. -/
theorem test_met_RingPortCommandsComplete :
    (built [] []).on Reg.corePowered = true ∧
    (built [] [(Bit.RP_CTRL_ENABLE 0, 1), (Bit.RP_CTRL_PILOT_EN 0, 1), (rpState 0, 2), (rpPilotIn 0, 1)]).on Reg.corePowered = true ∧
    (built [] [(Bit.RP_CTRL_ENABLE 0, 1), (Bit.RP_CTRL_PILOT_EN 0, 1), (rpState 0, 2), (rpPilotIn 0, 1)]).rpBeyond (0 : Fin 2) ((built [] [(Bit.RP_CTRL_ENABLE 0, 1), (Bit.RP_CTRL_PILOT_EN 0, 1), (rpState 0, 2), (rpPilotIn 0, 1)]).rd (Reg.ISO_DIR_MA (0 : Fin 2))) (99999999 : Int) = true ∧
    (built [] [(Bit.RP_CTRL_ENABLE 0, 1), (Bit.RP_CTRL_PILOT_EN 0, 1), (rpState 0, 2), (rpPilotIn 0, 1)]).pilotOn (0 : Fin 2) = true ∧
    (built [] [(Bit.RP_CTRL_ENABLE 0, 1), (Bit.RP_CTRL_PILOT_EN 0, 1), (rpState 0, 2), (rpPilotIn 0, 1)]).bit (rpPilotIn (0 : Fin 2)) = true ∧
    (built [] [(Bit.RP_CTRL_ENABLE 0, 1), (Bit.RP_CTRL_PILOT_EN 0, 1), (rpState 0, 2), (rpPilotIn 0, 1)]).bit (rpPilotStuck (0 : Fin 2)) = false ∧
    (built [] []).rpBeyond (1 : Fin 2) ((built [] []).rd (Reg.ISO_MAX_MA (1 : Fin 2))) (99999999 : Int) = true ∧
    (built [] [(rpState 0, 2), (Bit.RP_CTRL_INW_EN 0, 1)]).on Reg.corePowered = true ∧
    (built [] [(rpState 0, 2), (Bit.RP_CTRL_INW_EN 0, 1)]).bit (Bit.RP_CTRL_INW_EN (0 : Fin 2)) = true ∧
    (built [] [(rpState 0, 2), (Bit.RP_CTRL_INW_EN 0, 1)]).rpBeyond (0 : Fin 2) ((built [] [(rpState 0, 2), (Bit.RP_CTRL_INW_EN 0, 1)]).rd (Reg.ISO_IN_MA (0 : Fin 2))) (-((-99999999) : Int)) = true ∧
    ({ (built [(Reg.rpJudge 1, 1)] []) with timebase := 20000 } : State).on Reg.corePowered = true ∧
    ({ (built [(Reg.rpJudge 1, 1)] []) with timebase := 20000 } : State).on (Reg.rpJudge (1 : Fin 2)) = true ∧
    ({ (built [(Reg.rpJudge 1, 1)] []) with timebase := 20000 } : State).since (({ (built [(Reg.rpJudge 1, 1)] []) with timebase := 20000 } : State).rd (Reg.rpJudge (1 : Fin 2)) - 1) 20000 = true ∧
    ({ (built [(Reg.rpJudge 1, 1)] []) with timebase := 20000 } : State).rpBeyond (1 : Fin 2) 5000 (absI ((-99999999) : Int)) = true ∧
    ((({ (built [(Reg.rpJudge 1, 1)] []) with timebase := 20000 } : State).wr (Reg.rpJudge (1 : Fin 2)) 0) : State) = ({ (built [(Reg.rpJudge 1, 1)] []) with timebase := 20000 } : State).wr (Reg.rpJudge (1 : Fin 2)) 0 ∧
    (built [] [(Bit.RP_CTRL_ENABLE 0, 1), (Bit.RP_CTRL_PILOT_EN 0, 1)]).ppRuns = true ∧
    (((built [] [(Bit.RP_CTRL_ENABLE 0, 1), (Bit.RP_CTRL_PILOT_EN 0, 1)]).toTick (1 + (0 : Fin 2)) 100000000) : State) = (built [] [(Bit.RP_CTRL_ENABLE 0, 1), (Bit.RP_CTRL_PILOT_EN 0, 1)]).toTick (1 + (0 : Fin 2)) 100000000 ∧
    (((built [] [(Bit.RP_CTRL_ENABLE 0, 1), (Bit.RP_CTRL_PILOT_EN 0, 1)]).toTick (1 + (0 : Fin 2)) 100000000) : State).pilotOn (0 : Fin 2) = true ∧
    100 ≤ (400 : Nat) ∧ (400 : Nat) ≤ 400 ∧
    (built [] [(Bit.RP_CTRL_ENABLE 0, 1), (Bit.RP_CTRL_PILOT_EN 0, 1)]).pilotOn (0 : Fin 2) = true ∧
    ({ (built [] [(Bit.RP_CTRL_ENABLE 0, 1), (Bit.RP_CTRL_PILOT_EN 0, 1)]) with timebase := 350000000 } : State).ppRuns = true ∧
    ({ (built [] [(Bit.RP_CTRL_ENABLE 0, 1), (Bit.RP_CTRL_PILOT_EN 0, 1)]) with timebase := 350000000 } : State).pilotOn (0 : Fin 2) = true ∧
    ({ (built [] [(Bit.RP_CTRL_ENABLE 0, 1), (Bit.RP_CTRL_PILOT_EN 0, 1)]) with timebase := 350000000 } : State).on (Reg.rpMissed (0 : Fin 2)) = false ∧
    ({ (built [] [(Bit.RP_CTRL_ENABLE 0, 1), (Bit.RP_CTRL_PILOT_EN 0, 1)]) with timebase := 350000000 } : State).since (({ (built [] [(Bit.RP_CTRL_ENABLE 0, 1), (Bit.RP_CTRL_PILOT_EN 0, 1)]) with timebase := 350000000 } : State).rd (Reg.rpSupNs (0 : Fin 2))) 350000000 = true ∧
    (built [(Reg.STATE, 3)] [(rpState 0, 2), (Bit.RP_CTRL_ENABLE 0, 1)]).on Reg.corePowered = true ∧
    (built [(Reg.STATE, 3)] [(rpState 0, 2), (Bit.RP_CTRL_ENABLE 0, 1)]).rpSt (0 : Fin 2) = 2 ∧
    (built [(Reg.STATE, 3)] [(rpState 0, 2), (Bit.RP_CTRL_ENABLE 0, 1)]).rd (Reg.VRING_UV_MV (0 : Fin 2)) ≤ (60000 : Int) ∧
    (built [(Reg.STATE, 3)] [(rpState 0, 2), (Bit.RP_CTRL_ENABLE 0, 1)]).bit (rpPilotStuck (0 : Fin 2)) = false ∧
    (built [(Reg.STATE, 3)] [(Bit.RP_CTRL_ENABLE 0, 1)]).procRuns = true ∧
    (built [(Reg.STATE, 3)] [(Bit.RP_CTRL_ENABLE 0, 1)]).accepts (3 : Fin 4) (0x2200 + (0 : Fin 2)) (2) (1) = true ∧
    (built [(Reg.STATE, 3)] [(rpState 0, 2), (Bit.RP_CTRL_ENABLE 0, 1)]).procRuns = true ∧
    (built [(Reg.STATE, 3)] [(rpState 0, 2), (Bit.RP_CTRL_ENABLE 0, 1)]).accepts (3 : Fin 4) (0x2200 + (0 : Fin 2)) (2) (2) = true ∧
    ({ (built [(Reg.rpNearNs 0, 1)] [(rpState 0, 1)]) with timebase := 100000 } : State).ppRuns = true ∧
    ({ (built [(Reg.rpNearNs 0, 1)] [(rpState 0, 1)]) with timebase := 100000 } : State).rpQualified (0 : Fin 2) = true ∧
    ({ (built [] [(rpState 0, 1)]) with timebase := 10000000000 } : State).ppRuns = true ∧
    ({ (built [] [(rpState 0, 1)]) with timebase := 10000000000 } : State).rpSt (0 : Fin 2) = 1 ∧
    ({ (built [] [(rpState 0, 1)]) with timebase := 10000000000 } : State).rpQualified (0 : Fin 2) = false ∧
    ({ (built [] [(rpState 0, 1)]) with timebase := 10000000000 } : State).since (({ (built [] [(rpState 0, 1)]) with timebase := 10000000000 } : State).rd (Reg.rpPreNs (0 : Fin 2))) (({ (built [] [(rpState 0, 1)]) with timebase := 10000000000 } : State).rd (Reg.PRECHG_MAX_MS (0 : Fin 2)) * 1000000) = true := by
  refine ⟨?_, ?_, ?_, ?_, ?_, ?_, ?_, ?_, ?_, ?_, ?_, ?_, ?_, ?_, ?_, ?_, ?_, ?_, ?_, ?_, ?_, ?_, ?_, ?_, ?_, ?_, ?_, ?_, ?_, ?_, ?_, ?_, ?_, ?_, ?_, ?_, ?_, ?_⟩ <;> decide

/-- The hypotheses of HoldUpCommandsComplete. -/
theorem test_met_HoldUpCommandsComplete :
    (built [(Reg.RESULT 0, 0)] []).ppRuns = true ∧
    (built [(Reg.RESULT 0, 0)] []).feedCause = true ∧
    (((built [(Reg.RESULT 0, 0)] []).ifwCause 0 true) : State) = (built [(Reg.RESULT 0, 0)] []).ifwCause 0 true ∧
    ((built [(Reg.RESULT 0, 0)] []).slopeHit && (((built [(Reg.RESULT 0, 0)] []).ifwCause 0 true) : State).bit Bit.PROP_CTRL_SLOPE_EN) = false ∧
    (built [(Reg.RESULT 0, 0), (Reg.IFW_SLOPE_MV_US, 1), (Reg.nodeNs 0, 2001), (Reg.nodeNs 1, 1), (Reg.nodeMv 1, 9999)] [(Bit.PROP_CTRL_SLOPE_EN, 1)]).ppRuns = true ∧
    (built [(Reg.RESULT 0, 0), (Reg.IFW_SLOPE_MV_US, 1), (Reg.nodeNs 0, 2001), (Reg.nodeNs 1, 1), (Reg.nodeMv 1, 9999)] [(Bit.PROP_CTRL_SLOPE_EN, 1)]).feedCause = true ∧
    (((built [(Reg.RESULT 0, 0), (Reg.IFW_SLOPE_MV_US, 1), (Reg.nodeNs 0, 2001), (Reg.nodeNs 1, 1), (Reg.nodeMv 1, 9999)] [(Bit.PROP_CTRL_SLOPE_EN, 1)]).ifwCause 0 true) : State) = (built [(Reg.RESULT 0, 0), (Reg.IFW_SLOPE_MV_US, 1), (Reg.nodeNs 0, 2001), (Reg.nodeNs 1, 1), (Reg.nodeMv 1, 9999)] [(Bit.PROP_CTRL_SLOPE_EN, 1)]).ifwCause 0 true ∧
    (built [(Reg.RESULT 0, 0), (Reg.IFW_SLOPE_MV_US, 1), (Reg.nodeNs 0, 2001), (Reg.nodeNs 1, 1), (Reg.nodeMv 1, 9999)] [(Bit.PROP_CTRL_SLOPE_EN, 1)]).slopeHit = true ∧
    (((built [(Reg.RESULT 0, 0), (Reg.IFW_SLOPE_MV_US, 1), (Reg.nodeNs 0, 2001), (Reg.nodeNs 1, 1), (Reg.nodeMv 1, 9999)] [(Bit.PROP_CTRL_SLOPE_EN, 1)]).ifwCause 0 true) : State).bit Bit.PROP_CTRL_SLOPE_EN = true ∧
    ({ (built [(Reg.IFW_STATUS, 17), (Reg.ifwLastNs 0, 1)] []) with timebase := 100000000000 } : State).ppRuns = true ∧
    ({ (built [(Reg.IFW_STATUS, 17), (Reg.ifwLastNs 0, 1)] []) with timebase := 100000000000 } : State).bit (flag Reg.IFW_STATUS 0) = true ∧
    ({ (built [(Reg.IFW_STATUS, 17), (Reg.ifwLastNs 0, 1)] []) with timebase := 100000000000 } : State).on (Reg.ifwLastNs 0) = true ∧
    ({ (built [(Reg.IFW_STATUS, 17), (Reg.ifwLastNs 0, 1)] []) with timebase := 100000000000 } : State).since (({ (built [(Reg.IFW_STATUS, 17), (Reg.ifwLastNs 0, 1)] []) with timebase := 100000000000 } : State).rd (Reg.ifwLastNs 0) - 1) (({ (built [(Reg.IFW_STATUS, 17), (Reg.ifwLastNs 0, 1)] []) with timebase := 100000000000 } : State).rd Reg.IFW_CLEAR_MS * 1000000) = true ∧
    ({ (built [(Reg.IFW_STATUS, 20), (Reg.ifwLastNs 2, 1)] []) with timebase := 100000000000 } : State).ppRuns = true ∧
    (2 : Fin 3) ≠ 0 ∧
    ({ (built [(Reg.IFW_STATUS, 20), (Reg.ifwLastNs 2, 1)] []) with timebase := 100000000000 } : State).bit (flag Reg.IFW_STATUS (2 : Fin 3)) = true ∧
    ({ (built [(Reg.IFW_STATUS, 20), (Reg.ifwLastNs 2, 1)] []) with timebase := 100000000000 } : State).on (Reg.ifwLastNs (2 : Fin 3)) = true ∧
    ({ (built [(Reg.IFW_STATUS, 20), (Reg.ifwLastNs 2, 1)] []) with timebase := 100000000000 } : State).since (({ (built [(Reg.IFW_STATUS, 20), (Reg.ifwLastNs 2, 1)] []) with timebase := 100000000000 } : State).rd (Reg.ifwLastNs (2 : Fin 3)) - 1) (({ (built [(Reg.IFW_STATUS, 20), (Reg.ifwLastNs 2, 1)] []) with timebase := 100000000000 } : State).rd Reg.IFW_CLEAR_MS * 1000000) = true ∧
    ({ built [(Reg.BCAST_EN, 1)] [] with ifwDue := [(17, 5)] } : State).procRuns = true ∧
    ({ built [(Reg.BCAST_EN, 1)] [] with ifwDue := [(17, 5)] } : State).ifwDue = ((17, 5) : Nat × Nat) :: ([] : List (Nat × Nat)) ∧
    ({ built [(Reg.BCAST_EN, 1)] [] with ifwDue := [(17, 5)] } : State).on Reg.BCAST_EN = true ∧
    ({ (built [(Reg.IFW_STATUS, 17), (Reg.BCAST_EN, 1)] []) with timebase := 100000000 } : State).procRuns = true ∧
    ({ (built [(Reg.IFW_STATUS, 17), (Reg.BCAST_EN, 1)] []) with timebase := 100000000 } : State).bit (flag Reg.IFW_STATUS 4) = true ∧
    ({ (built [(Reg.IFW_STATUS, 17), (Reg.BCAST_EN, 1)] []) with timebase := 100000000 } : State).on Reg.BCAST_EN = true ∧
    ({ (built [(Reg.IFW_STATUS, 17), (Reg.BCAST_EN, 1)] []) with timebase := 100000000 } : State).since (({ (built [(Reg.IFW_STATUS, 17), (Reg.BCAST_EN, 1)] []) with timebase := 100000000 } : State).rd Reg.ifwSentNs) 100000000 = true ∧
    (built [(Reg.planeReady, 1), (Reg.STATE, 3), (Reg.DOMAIN_ADDR, 9)] []).procRuns = true ∧
    (built [(Reg.planeReady, 1), (Reg.STATE, 3), (Reg.DOMAIN_ADDR, 9)] []).dengonUp = true ∧
    (((built [(Reg.planeReady, 1), (Reg.STATE, 3), (Reg.DOMAIN_ADDR, 9)] []).inc32 Reg.RX_PDUS) : State) = (built [(Reg.planeReady, 1), (Reg.STATE, 3), (Reg.DOMAIN_ADDR, 9)] []).inc32 Reg.RX_PDUS ∧
    (((built [(Reg.planeReady, 1), (Reg.STATE, 3), (Reg.DOMAIN_ADDR, 9)] []).inc32 Reg.RX_PDUS) : State).ownAddr ≠ 0 ∧
    (63 : Fin 64).val ≠ (built [(Reg.planeReady, 1), (Reg.STATE, 3), (Reg.DOMAIN_ADDR, 9)] []).ownAddr ∧
    ({ (built [(Reg.ifwPeerNs 7, 1)] []) with timebase := 350000000 } : State).ppRuns = true ∧
    ({ (built [(Reg.ifwPeerNs 7, 1)] []) with timebase := 350000000 } : State).on (Reg.ifwPeerNs (7 : Fin 64)) = true ∧
    ({ (built [(Reg.ifwPeerNs 7, 1)] []) with timebase := 350000000 } : State).since (({ (built [(Reg.ifwPeerNs 7, 1)] []) with timebase := 350000000 } : State).rd (Reg.ifwPeerNs (7 : Fin 64)) - 1) 350000000 = true ∧
    (built [(Reg.RESULT 0, 0)] []).nodeOk = true ∧
    (built [(Reg.RESULT 0, 0)] []).node < (built [(Reg.RESULT 0, 0)] []).rd Reg.HOLD_ENTRY_MV ∧
    ({ (built [(Reg.STORE_MV, 65535), (Reg.ppAboveNs, 1)] [(prMode, 3)]) with timebase := 100000000000 } : State).ppRuns = true ∧
    ({ (built [(Reg.STORE_MV, 65535), (Reg.ppAboveNs, 1)] [(prMode, 3)]) with timebase := 100000000000 } : State).propMode = 3 ∧
    ({ (built [(Reg.STORE_MV, 65535), (Reg.ppAboveNs, 1)] [(prMode, 3)]) with timebase := 100000000000 } : State).rd Reg.STORE_MIN_MV ≤ ({ (built [(Reg.STORE_MV, 65535), (Reg.ppAboveNs, 1)] [(prMode, 3)]) with timebase := 100000000000 } : State).rd Reg.STORE_MV ∧
    ({ (built [(Reg.STORE_MV, 65535), (Reg.ppAboveNs, 1)] [(prMode, 3)]) with timebase := 100000000000 } : State).on Reg.ppAboveNs = true ∧
    ({ (built [(Reg.STORE_MV, 65535), (Reg.ppAboveNs, 1)] [(prMode, 3)]) with timebase := 100000000000 } : State).since (({ (built [(Reg.STORE_MV, 65535), (Reg.ppAboveNs, 1)] [(prMode, 3)]) with timebase := 100000000000 } : State).rd Reg.ppAboveNs - 1) (({ (built [(Reg.STORE_MV, 65535), (Reg.ppAboveNs, 1)] [(prMode, 3)]) with timebase := 100000000000 } : State).rd Reg.HOLD_EXIT_US * 1000) = true ∧
    (built [] [(prMode, 3)]).ppRuns = true ∧
    (built [] [(prMode, 3)]).propMode = 3 ∧
    (built [] [(prMode, 3)]).rd Reg.STORE_MV < (built [] [(prMode, 3)]).rd Reg.STORE_MIN_MV ∧
    (built [(Reg.RESULT 0, 32767)] [(prMode, 1), (Bit.PROP_CTRL_CHG_EN, 1), (Bit.PROP_CTRL_ENABLE, 1), (rpState 0, 2), (rpState 1, 2)]).ppRuns = true ∧
    (((built [(Reg.RESULT 0, 32767)] [(prMode, 1), (Bit.PROP_CTRL_CHG_EN, 1), (Bit.PROP_CTRL_ENABLE, 1), (rpState 0, 2), (rpState 1, 2)]).inhibitEval) : State) = (built [(Reg.RESULT 0, 32767)] [(prMode, 1), (Bit.PROP_CTRL_CHG_EN, 1), (Bit.PROP_CTRL_ENABLE, 1), (rpState 0, 2), (rpState 1, 2)]).inhibitEval ∧
    (((built [(Reg.RESULT 0, 32767)] [(prMode, 1), (Bit.PROP_CTRL_CHG_EN, 1), (Bit.PROP_CTRL_ENABLE, 1), (rpState 0, 2), (rpState 1, 2)]).inhibitEval) : State).propMode = 1 ∧
    (((built [(Reg.RESULT 0, 32767)] [(prMode, 1), (Bit.PROP_CTRL_CHG_EN, 1), (Bit.PROP_CTRL_ENABLE, 1), (rpState 0, 2), (rpState 1, 2)]).inhibitEval) : State).propCaged = false ∧
    (((built [(Reg.RESULT 0, 32767)] [(prMode, 1), (Bit.PROP_CTRL_CHG_EN, 1), (Bit.PROP_CTRL_ENABLE, 1), (rpState 0, 2), (rpState 1, 2)]).inhibitEval) : State).bit Bit.PROP_CTRL_CHG_EN = true ∧
    (((built [(Reg.RESULT 0, 32767)] [(prMode, 1), (Bit.PROP_CTRL_CHG_EN, 1), (Bit.PROP_CTRL_ENABLE, 1), (rpState 0, 2), (rpState 1, 2)]).inhibitEval) : State).nodeOk = true ∧
    (((built [(Reg.RESULT 0, 32767)] [(prMode, 1), (Bit.PROP_CTRL_CHG_EN, 1), (Bit.PROP_CTRL_ENABLE, 1), (rpState 0, 2), (rpState 1, 2)]).inhibitEval) : State).rd Reg.CHG_NODE_MIN_MV < (((built [(Reg.RESULT 0, 32767)] [(prMode, 1), (Bit.PROP_CTRL_CHG_EN, 1), (Bit.PROP_CTRL_ENABLE, 1), (rpState 0, 2), (rpState 1, 2)]).inhibitEval) : State).node ∧
    ((((built [(Reg.RESULT 0, 32767)] [(prMode, 1), (Bit.PROP_CTRL_CHG_EN, 1), (Bit.PROP_CTRL_ENABLE, 1), (rpState 0, 2), (rpState 1, 2)]).inhibitEval) : State).rd Reg.STORE_MV < (((built [(Reg.RESULT 0, 32767)] [(prMode, 1), (Bit.PROP_CTRL_CHG_EN, 1), (Bit.PROP_CTRL_ENABLE, 1), (rpState 0, 2), (rpState 1, 2)]).inhibitEval) : State).rd Reg.CHG_VMAX_MV - 500 ∨ (((built [(Reg.RESULT 0, 32767)] [(prMode, 1), (Bit.PROP_CTRL_CHG_EN, 1), (Bit.PROP_CTRL_ENABLE, 1), (rpState 0, 2), (rpState 1, 2)]).inhibitEval) : State).bit prDone = false) ∧
    (((built [(Reg.RESULT 0, 32767)] [(prMode, 1), (Bit.PROP_CTRL_CHG_EN, 1), (Bit.PROP_CTRL_ENABLE, 1), (rpState 0, 2), (rpState 1, 2)]).inhibitEval) : State).bit prInhibit = false ∧
    (built [(Reg.STORE_MV, 65535)] [(prMode, 2)]).ppRuns = true ∧
    (built [(Reg.STORE_MV, 65535)] [(prMode, 2)]).propMode = 2 ∧
    (built [(Reg.STORE_MV, 65535)] [(prMode, 2)]).rd Reg.CHG_VMAX_MV ≤ (built [(Reg.STORE_MV, 65535)] [(prMode, 2)]).rd Reg.STORE_MV ∧
    ({ (built [(Reg.ppTaperNs, 1)] [(prMode, 2), (prCv, 1)]) with timebase := 10000000 } : State).ppRuns = true ∧
    ({ (built [(Reg.ppTaperNs, 1)] [(prMode, 2), (prCv, 1)]) with timebase := 10000000 } : State).propMode = 2 ∧
    ({ (built [(Reg.ppTaperNs, 1)] [(prMode, 2), (prCv, 1)]) with timebase := 10000000 } : State).bit prCv = true ∧
    ({ (built [(Reg.ppTaperNs, 1)] [(prMode, 2), (prCv, 1)]) with timebase := 10000000 } : State).on Reg.ppTaperNs = true ∧
    ({ (built [(Reg.ppTaperNs, 1)] [(prMode, 2), (prCv, 1)]) with timebase := 10000000 } : State).since (({ (built [(Reg.ppTaperNs, 1)] [(prMode, 2), (prCv, 1)]) with timebase := 10000000 } : State).rd Reg.ppTaperNs - 1) 10000000 = true ∧
    (built [(Reg.STORE_MV, 65535)] []).ppRuns = true ∧
    (built [(Reg.STORE_MV, 65535)] []).rd Reg.STORE_OVP_MV < (built [(Reg.STORE_MV, 65535)] []).rd Reg.STORE_MV ∧
    (built [(Reg.STORE_MV, 65535)] []).bit prOvp = false ∧
    (((((built [(Reg.STORE_MV, 65535)] []).setFld prOvp 1).wr Reg.ppOvpLatch 1).raise 198) : State) = (((built [(Reg.STORE_MV, 65535)] []).setFld prOvp 1).wr Reg.ppOvpLatch 1).raise 198 ∧
    (built [(Reg.RESULT 0, 0)] [(prMode, 2)]).ppRuns = true ∧
    (built [(Reg.RESULT 0, 0)] [(prMode, 2)]).propMode = 2 ∧
    (built [(Reg.RESULT 0, 0)] [(prMode, 2)]).nodeOk = true ∧
    (built [(Reg.RESULT 0, 0)] [(prMode, 2)]).node < (built [(Reg.RESULT 0, 0)] [(prMode, 2)]).rd Reg.CHG_NODE_MIN_MV ∧
    (built [] [(prMode, 2)]).ppRuns = true ∧
    ((49 : Int) < 50 ∨ 1550 < (49 : Int)) ∧
    (built [] [(prMode, 2)]).propRuns = true ∧
    (built [] [(prMode, 2)]).bit (prCaged (1 : Fin 2)) = false ∧
    (((built [] [(prMode, 2)]).propCage (1 : Fin 2)) : State) = (built [] [(prMode, 2)]).propCage (1 : Fin 2) ∧
    (built [] []).ppRuns = true ∧
    (((((built [] []).toTick 0 10000).takeMv Reg.NODE_MV 0).takeMv Reg.STORE_MV ((built [] []).rdN Reg.STORE_INPUT)) : State) = (((built [] []).toTick 0 10000).takeMv Reg.NODE_MV 0).takeMv Reg.STORE_MV ((built [] []).rdN Reg.STORE_INPUT) ∧
    ((((((((built [] []).toTick 0 10000).takeMv Reg.NODE_MV 0).takeMv Reg.STORE_MV ((built [] []).rdN Reg.STORE_INPUT)) : State).takeStoreMa.rpSample 0).rpSample 1) : State) = ((((((built [] []).toTick 0 10000).takeMv Reg.NODE_MV 0).takeMv Reg.STORE_MV ((built [] []).rdN Reg.STORE_INPUT)) : State).takeStoreMa.rpSample 0).rpSample 1 ∧
    (((((((((((built [] []).toTick 0 10000).takeMv Reg.NODE_MV 0).takeMv Reg.STORE_MV ((built [] []).rdN Reg.STORE_INPUT)) : State).takeStoreMa.rpSample 0).rpSample 1) : State).when (decide (((((((((built [] []).toTick 0 10000).takeMv Reg.NODE_MV 0).takeMv Reg.STORE_MV ((built [] []).rdN Reg.STORE_INPUT)) : State).takeStoreMa.rpSample 0).rpSample 1) : State).propMode = 3)) fun x => x.wr Reg.ppLoop 1).holdRaise) : State) = (((((((((built [] []).toTick 0 10000).takeMv Reg.NODE_MV 0).takeMv Reg.STORE_MV ((built [] []).rdN Reg.STORE_INPUT)) : State).takeStoreMa.rpSample 0).rpSample 1) : State).when (decide (((((((((built [] []).toTick 0 10000).takeMv Reg.NODE_MV 0).takeMv Reg.STORE_MV ((built [] []).rdN Reg.STORE_INPUT)) : State).takeStoreMa.rpSample 0).rpSample 1) : State).propMode = 3)) fun x => x.wr Reg.ppLoop 1).holdRaise := by
  refine ⟨?_, ?_, ?_, ?_, ?_, ?_, ?_, ?_, ?_, ?_, ?_, ?_, ?_, ?_, ?_, ?_, ?_, ?_, ?_, ?_, ?_, ?_, ?_, ?_, ?_, ?_, ?_, ?_, ?_, ?_, ?_, ?_, ?_, ?_, ?_, ?_, ?_, ?_, ?_, ?_, ?_, ?_, ?_, ?_, ?_, ?_, ?_, ?_, ?_, ?_, ?_, ?_, ?_, ?_, ?_, ?_, ?_, ?_, ?_, ?_, ?_, ?_, ?_, ?_, ?_, ?_, ?_, ?_, ?_, ?_, ?_, ?_, ?_, ?_, ?_, ?_, ?_⟩ <;> decide

/-- The hypotheses of TallyCommandsComplete. -/
theorem test_met_TallyCommandsComplete :
    (built [] []).ppRuns = true ∧
    (built [(Reg.STATE, 3), (Reg.TALLY_CTRL, 1)] []).procRuns = true ∧
    (built [(Reg.STATE, 3), (Reg.TALLY_CTRL, 1)] []).accepts (3 : Fin 4) (0x3300) (1) (((built [(Reg.STATE, 3), (Reg.TALLY_CTRL, 1)] []).rd Reg.TALLY_CTRL - (built [(Reg.STATE, 3), (Reg.TALLY_CTRL, 1)] []).fld Bit.TALLY_CTRL_ENABLE)) = true ∧
    (built [(Reg.STATE, 3), (Reg.TALLY_CTRL, 1)] []).bit Bit.TALLY_CTRL_ENABLE = true ∧
    (State.written (built [(Reg.STATE, 3), (Reg.TALLY_CTRL, 1)] []) (0x3300) (1) (rawOf (0x3300) (1) (((built [(Reg.STATE, 3), (Reg.TALLY_CTRL, 1)] []).rd Reg.TALLY_CTRL - (built [(Reg.STATE, 3), (Reg.TALLY_CTRL, 1)] []).fld Bit.TALLY_CTRL_ENABLE))).2).bit Bit.TALLY_CTRL_ENABLE = false ∧
    (built [(Reg.cxWindow 0, 0)] [(cxState 0, 5)]).ppRuns = true ∧
    (built [(Reg.cxWindow 0, 0)] [(cxState 0, 5)]).ctxSt (0 : Fin 512) = 5 ∧
    (built [(Reg.cxWindow 0, 0)] [(cxState 0, 5)]).winOn (0 : Fin 512) = true ∧
    (built [(Reg.cxWindow 0, 0)] [(cxState 0, 5)]).on (Reg.cxWindow (0 : Fin 512)) = false ∧
    ({ (built [(Reg.DUTY 7, 16384), (Reg.cxWindow 0, 1)] [(cxState 0, 5), (Bit.CTX_CTRL_CLASS 0, 7)]) with timebase := 80000000 } : State).ppRuns = true ∧
    ({ (built [(Reg.DUTY 7, 16384), (Reg.cxWindow 0, 1)] [(cxState 0, 5), (Bit.CTX_CTRL_CLASS 0, 7)]) with timebase := 80000000 } : State).ctxSt (0 : Fin 512) = 5 ∧
    ({ (built [(Reg.DUTY 7, 16384), (Reg.cxWindow 0, 1)] [(cxState 0, 5), (Bit.CTX_CTRL_CLASS 0, 7)]) with timebase := 80000000 } : State).winOn (0 : Fin 512) = false ∧
    ({ (built [(Reg.DUTY 7, 16384), (Reg.cxWindow 0, 1)] [(cxState 0, 5), (Bit.CTX_CTRL_CLASS 0, 7)]) with timebase := 80000000 } : State).on (Reg.cxWindow (0 : Fin 512)) = true ∧
    ({ (built [(Reg.tyBackoff, 1)] []) with timebase := 1000000000 } : State).ppRuns = true ∧
    ({ (built [(Reg.tyBackoff, 1)] []) with timebase := 1000000000 } : State).on Reg.tyBackoff = true ∧
    ({ (built [(Reg.tyBackoff, 1)] []) with timebase := 1000000000 } : State).since (({ (built [(Reg.tyBackoff, 1)] []) with timebase := 1000000000 } : State).rd Reg.tyBackNs) 1000000000 = true ∧
    (built [(Reg.planeReady, 1), (Reg.STATE, 3)] []).procRuns = true ∧
    (built [(Reg.planeReady, 1), (Reg.STATE, 3)] []).dengonUp = true ∧
    (built [(Reg.planeReady, 1), (Reg.STATE, 3), (Reg.DOMAIN_ADDR, 9)] []).procRuns = true ∧
    (built [(Reg.planeReady, 1), (Reg.STATE, 3), (Reg.DOMAIN_ADDR, 9)] []).dengonUp = true ∧
    (((built [(Reg.planeReady, 1), (Reg.STATE, 3), (Reg.DOMAIN_ADDR, 9)] []).inc32 Reg.RX_PDUS) : State) = (built [(Reg.planeReady, 1), (Reg.STATE, 3), (Reg.DOMAIN_ADDR, 9)] []).inc32 Reg.RX_PDUS ∧
    (built [(Reg.planeReady, 1), (Reg.STATE, 3), (Reg.DOMAIN_ADDR, 9)] []).ownAddr ≠ 0 ∧
    ((5 : Fin 63) : Nat) ≠ (built [(Reg.planeReady, 1), (Reg.STATE, 3), (Reg.DOMAIN_ADDR, 9)] []).ownAddr ∧
    ({ State.reset with timebase := 100000000000, lent := [⟨5, 1, 1000, 0, false, 0⟩] } : State).ppRuns = true ∧
    findLoan (5 : Fin 63) (1 : BitVec 16).toNat ({ State.reset with timebase := 100000000000, lent := [⟨5, 1, 1000, 0, false, 0⟩] } : State).lent = some (⟨5, 1, 1000, 0, false, 0⟩ : Loan) ∧
    ({ State.reset with timebase := 100000000000, lent := [⟨5, 1, 1000, 0, false, 0⟩] } : State).since (⟨5, 1, 1000, 0, false, 0⟩ : Loan).start ((({ State.reset with timebase := 100000000000, lent := [⟨5, 1, 1000, 0, false, 0⟩] } : State).rd Reg.LEASE_MS + ({ State.reset with timebase := 100000000000, lent := [⟨5, 1, 1000, 0, false, 0⟩] } : State).rd Reg.LEND_GUARD_MS) * 1000000) = true ∧
    (built [(Reg.planeReady, 1)] [(Bit.WS_CTRL_ENABLE, 1)]).ppRuns = true ∧
    (built [(Reg.planeReady, 1)] [(Bit.WS_CTRL_ENABLE, 1)]).wsUp = true := by
  refine ⟨?_, ?_, ?_, ?_, ?_, ?_, ?_, ?_, ?_, ?_, ?_, ?_, ?_, ?_, ?_, ?_, ?_, ?_, ?_, ?_, ?_, ?_, ?_, ?_, ?_, ?_, ?_, ?_⟩ <;> decide

/-- The hypotheses of LoopTriggerAndWinderCommandsComplete. -/
theorem test_met_LoopTriggerAndWinderCommandsComplete :
    (built [(Reg.ltOn 0, 1)] []).ppRuns = true ∧
    (built [(Reg.ltOn 0, 1)] []).on (Reg.ltOn (0 : Fin 2)) = true ∧
    (built [(Reg.ltOn 0, 1)] []).rd (Reg.ltTrig (0 : Fin 2)) = 0 ∧
    (((built [(Reg.ltOn 0, 1)] []).toTick (10 + (0 : Fin 2)) ((built [(Reg.ltOn 0, 1)] []).rdN (Reg.ltFrameNs (0 : Fin 2)))) : State) = (built [(Reg.ltOn 0, 1)] []).toTick (10 + (0 : Fin 2)) ((built [(Reg.ltOn 0, 1)] []).rdN (Reg.ltFrameNs (0 : Fin 2))) ∧
    (built [(Reg.ltOn 1, 1), (Reg.ltTrig 1, 1), (Reg.lnTrig 1, 1)] []).ppRuns = true ∧
    (built [(Reg.ltOn 1, 1), (Reg.ltTrig 1, 1), (Reg.lnTrig 1, 1)] []).on (Reg.ltOn (1 : Fin 2)) = true ∧
    (built [(Reg.ltOn 1, 1), (Reg.ltTrig 1, 1), (Reg.lnTrig 1, 1)] []).rd (Reg.ltTrig (1 : Fin 2)) ≠ 0 ∧
    (built [(Reg.ltOn 1, 1), (Reg.ltTrig 1, 1), (Reg.lnTrig 1, 1)] []).on (Reg.lnTrig (1 : Fin 2)) = true ∧
    (built [(Reg.ltOn 0, 1), (Reg.ltEn 5, 1), (Reg.ltDiv 5, 1), (Reg.ltBud 5, 100), (Reg.lnLeft 0, 64)] []).ppRuns = true ∧
    (built [(Reg.ltOn 0, 1), (Reg.ltEn 5, 1), (Reg.ltDiv 5, 1), (Reg.ltBud 5, 100), (Reg.lnLeft 0, 64)] []).slotDue (5 : Fin 128) = true ∧
    (built [(Reg.STATE, 3)] []).procRuns = true ∧
    (built [(Reg.STATE, 3)] []).accepts (3 : Fin 4) (0x3800 + (5 : Fin 128)) (1) (withBits ((built [(Reg.STATE, 3)] []).rd (Reg.SLOT_CTRL (5 : Fin 128))) 2 1 1) = true ∧
    bitsOf (decoded (0x3800 + (5 : Fin 128)) 1 (rawOf (0x3800 + (5 : Fin 128)) (1) (withBits ((built [(Reg.STATE, 3)] []).rd (Reg.SLOT_CTRL (5 : Fin 128))) 2 1 1)).2) (Bit.SLOT_CTRL_RESTART (5 : Fin 128)).lo 1 = 1 ∧
    (built [(Reg.STATE, 3), (Reg.START_SIG 4, 5)] []).procRuns = true ∧
    (built [(Reg.STATE, 3), (Reg.START_SIG 4, 5)] []).accepts (3 : Fin 4) (0x38C0 + (4 : Fin 32)) (1) (1) = true ∧
    (built [(Reg.STATE, 3)] []).accepts (3 : Fin 4) (0x38C0 + (8 : Fin 32)) (5) ((100 : BitVec 32).toInt) = true ∧
    (built [] []).ppRuns = true := by
  refine ⟨?_, ?_, ?_, ?_, ?_, ?_, ?_, ?_, ?_, ?_, ?_, ?_, ?_, ?_, ?_, ?_, ?_⟩ <;> decide

/-- The hypotheses of SensingCommandsComplete. -/
theorem test_met_SensingCommandsComplete :
    (built [] []).ppRuns = true ∧
    (built [(Reg.SCAN_CTRL, 1)] []).ppRuns = true ∧
    (built [(Reg.SCAN_CTRL, 1)] []).rdN Reg.SCAN_CTRL % 2 = 1 ∧
    (built [(Reg.SCAN_CTRL, 1)] []).on Reg.scanRound = false ∧
    (built [(Reg.scanRound, 1)] []).ppRuns = true ∧
    (built [(Reg.scanRound, 1)] []).roundDone = true ∧
    (built [] [(Bit.WM_CTRL_ENABLE 7, 1)]).ppRuns = true ∧
    ({ (built [] [(Bit.WM_CTRL_ENABLE 7, 1), (mnOut 7, 1)]) with timebase := 100000000000 } : State).ppRuns = true ∧
    ({ (built [] [(Bit.WM_CTRL_ENABLE 7, 1), (mnOut 7, 1)]) with timebase := 100000000000 } : State).mnHeld (7 : Fin 48) = true ∧
    (built [(Reg.STATE, 3)] []).procRuns = true ∧
    (built [(Reg.STATE, 3)] []).accepts (3 : Fin 4) (0x3540) (9 + (7 : Fin 8)) (withBits ((built [(Reg.STATE, 3)] []).rd (Reg.CMPO_CTRL (7 : Fin 8))) 3 1 1) = true ∧
    bitsOf (decoded 0x3540 (9 + (7 : Fin 8)) (rawOf (0x3540) (9 + (7 : Fin 8)) (withBits ((built [(Reg.STATE, 3)] []).rd (Reg.CMPO_CTRL (7 : Fin 8))) 3 1 1)).2) (Bit.CMPO_CTRL_CLEAR (7 : Fin 8)).lo 1 = 1 ∧
    (built [(Reg.STATE, 3)] [(Bit.WM_CTRL_ENABLE 7, 1)]).procRuns = true ∧
    (built [(Reg.STATE, 3)] [(Bit.WM_CTRL_ENABLE 7, 1)]).accepts (3 : Fin 4) (0x3500 + (7 : Fin 48)) (7) (1) = true ∧
    (built [(Reg.STATE, 3)] [(Bit.WM_CTRL_ENABLE 7, 1)]).accepts (3 : Fin 4) (0x3500 + (7 : Fin 48)) (7) (2) = true ∧
    ({ (built [] [(Bit.WM_CTRL_ENABLE 7, 1), (Bit.WM_CTRL_AUTO_CHECK 7, 1)]) with timebase := 100000000000 } : State).ppRuns = true ∧
    ({ (built [] [(Bit.WM_CTRL_ENABLE 7, 1), (Bit.WM_CTRL_AUTO_CHECK 7, 1)]) with timebase := 100000000000 } : State).mnAutoDue (7 : Fin 48) = true ∧
    ({ (built [] [(Bit.WM_CTRL_ENABLE 7, 1), (Bit.WM_CTRL_AUTO_CHECK 7, 1)]) with timebase := 100000000000 } : State).bit (mnChecking (7 : Fin 48)) = false ∧
    ((List.range 48).any fun k => ({ (built [] [(Bit.WM_CTRL_ENABLE 7, 1), (Bit.WM_CTRL_AUTO_CHECK 7, 1)]) with timebase := 100000000000 } : State).on (Reg.mnAuto k)) = false ∧
    ((({ State.reset with timebase := 1000 } : State).mark markPp 0 0 |>.mark markT0 0 12500 |>.wr Reg.ppReset 1) : State).t0Joins (32000 : Int) (true : Bool) = true := by
  refine ⟨?_, ?_, ?_, ?_, ?_, ?_, ?_, ?_, ?_, ?_, ?_, ?_, ?_, ?_, ?_, ?_, ?_, ?_, ?_, ?_⟩ <;> decide

/-- The hypotheses of SequencerCommandsComplete. -/
theorem test_met_SequencerCommandsComplete :
    (built [(Reg.STATE, 3)] []).procRuns = true ∧
    (built [(Reg.STATE, 3)] []).accepts (3 : Fin 4) (0x1010) (1) (0) = true ∧
    (built [(Reg.STATE, 3)] []).accepts (3 : Fin 4) (0x1010) (1) (1) = true ∧
    (built [(Reg.STATE, 3)] []).accepts (3 : Fin 4) (0x1010) (1) (3) = true ∧
    (built [(Reg.STATE, 3)] []).accepts (3 : Fin 4) (0x1010) (1) (4) = true ∧
    (built [(Reg.STATE, 3)] []).accepts (3 : Fin 4) (0x1010) (1) (5) = true ∧
    (built [(Reg.STATE, 3)] []).accepts (3 : Fin 4) (0x1010) (1) (6) = true ∧
    (built [(Reg.STATE, 3)] []).accepts (3 : Fin 4) (0x3400 + (63 : Fin 64)) (1) (withBits ((built [(Reg.STATE, 3)] []).rd (Reg.NODE_CTRL (63 : Fin 64))) 11 1 (if (true : Bool) then 1 else 0)) = true ∧
    bitsOf (decoded (0x3400 + (63 : Fin 64)) 1 (rawOf (0x3400 + (63 : Fin 64)) (1) (withBits ((built [(Reg.STATE, 3)] []).rd (Reg.NODE_CTRL (63 : Fin 64))) 11 1 (if (true : Bool) then 1 else 0))).2) 10 1 = 0 ∧
    ({ (built [] [(ndState 9, 2)]) with timebase := 100000000000 } : State).ppRuns = true ∧
    ({ (built [] [(ndState 9, 2)]) with timebase := 100000000000 } : State).nodeSt (9 : Fin 64) = 2 ∧
    ({ (built [] [(ndState 9, 2)]) with timebase := 100000000000 } : State).nodeSince (9 : Fin 64) (({ (built [] [(ndState 9, 2)]) with timebase := 100000000000 } : State).rd (Reg.ON_DELAY_US (9 : Fin 64)) * 1000) = true ∧
    (built [(Reg.PG_SRC 9, 64)] [(ndState 9, 3)]).ppRuns = true ∧
    (((built [(Reg.PG_SRC 9, 64)] [(ndState 9, 3)]).pgPin (9 : Fin 64) (true : Bool) (10000 : Nat)) : State) = (built [(Reg.PG_SRC 9, 64)] [(ndState 9, 3)]).pgPin (9 : Fin 64) (true : Bool) (10000 : Nat) ∧
    (((built [(Reg.PG_SRC 9, 64)] [(ndState 9, 3)]).pgPin (9 : Fin 64) (true : Bool) (10000 : Nat)) : State).nodeSt (9 : Fin 64) = 3 ∧
    (((built [(Reg.PG_SRC 9, 64)] [(ndState 9, 3)]).pgPin (9 : Fin 64) (true : Bool) (10000 : Nat)) : State).nodeGood (9 : Fin 64) = true ∧
    (((built [(Reg.PG_SRC 9, 64)] [(ndState 9, 3)]).pgPin (9 : Fin 64) (true : Bool) (10000 : Nat)) : State).pgOver (9 : Fin 64) = false ∧
    ({ (built [(Reg.PG_SRC 9, 0xFFFF), (Reg.BAND_MON 9, 0xFFFF)] [(ndState 9, 4)]) with timebase := 100000000000 } : State).ppRuns = true ∧
    ({ (built [(Reg.PG_SRC 9, 0xFFFF), (Reg.BAND_MON 9, 0xFFFF)] [(ndState 9, 4)]) with timebase := 100000000000 } : State).nodeSt (9 : Fin 64) = 4 ∧
    ({ (built [(Reg.PG_SRC 9, 0xFFFF), (Reg.BAND_MON 9, 0xFFFF)] [(ndState 9, 4)]) with timebase := 100000000000 } : State).nodeQualified (9 : Fin 64) = true ∧
    ({ (built [] [(ndState 9, 3)]) with timebase := 100000000000 } : State).ppRuns = true ∧
    ({ (built [] [(ndState 9, 3)]) with timebase := 100000000000 } : State).nodeSt (9 : Fin 64) = 3 ∧
    ({ (built [] [(ndState 9, 3)]) with timebase := 100000000000 } : State).pgOver (9 : Fin 64) = true ∧
    ({ (built [] [(ndState 9, 6)]) with timebase := 100000000000 } : State).ppRuns = true ∧
    ({ (built [] [(ndState 9, 6)]) with timebase := 100000000000 } : State).nodeSt (9 : Fin 64) = 6 ∧
    ({ (built [] [(ndState 9, 6)]) with timebase := 100000000000 } : State).nodeSince (9 : Fin 64) (({ (built [] [(ndState 9, 6)]) with timebase := 100000000000 } : State).rd (Reg.OFF_DELAY_US (9 : Fin 64)) * 1000) = true ∧
    (built [] [(ndState 9, 7), (Bit.NODE_CTRL_TYPE 9, 1)]).ppRuns = true ∧
    (((built [] [(ndState 9, 7), (Bit.NODE_CTRL_TYPE 9, 1)]).pgPin (9 : Fin 64) (false : Bool) (0 : Nat)) : State) = (built [] [(ndState 9, 7), (Bit.NODE_CTRL_TYPE 9, 1)]).pgPin (9 : Fin 64) (false : Bool) (0 : Nat) ∧
    (((built [] [(ndState 9, 7), (Bit.NODE_CTRL_TYPE 9, 1)]).pgPin (9 : Fin 64) (false : Bool) (0 : Nat)) : State).nodeSt (9 : Fin 64) = 7 ∧
    (((built [] [(ndState 9, 7), (Bit.NODE_CTRL_TYPE 9, 1)]).pgPin (9 : Fin 64) (false : Bool) (0 : Nat)) : State).nodeDone (9 : Fin 64) = true ∧
    ({ (built [] [(ndState 9, 7)]) with timebase := 100000000000 } : State).ppRuns = true ∧
    ({ (built [] [(ndState 9, 7)]) with timebase := 100000000000 } : State).nodeSt (9 : Fin 64) = 7 ∧
    ({ (built [] [(ndState 9, 7)]) with timebase := 100000000000 } : State).nodeSince (9 : Fin 64) (({ (built [] [(ndState 9, 7)]) with timebase := 100000000000 } : State).rd (Reg.OFF_TIMEOUT_MS (9 : Fin 64)) * 1000000) = true ∧
    (built [] [(ndState 9, 5)]).ppRuns = true ∧
    (((built [] [(ndState 9, 5)]).pgPin (9 : Fin 64) (false : Bool) (0 : Nat)) : State) = (built [] [(ndState 9, 5)]).pgPin (9 : Fin 64) (false : Bool) (0 : Nat) ∧
    ((((built [] [(ndState 9, 5)]).pgPin (9 : Fin 64) (false : Bool) (0 : Nat)) : State).nodeSt (9 : Fin 64) = 4 ∨ (((built [] [(ndState 9, 5)]).pgPin (9 : Fin 64) (false : Bool) (0 : Nat)) : State).nodeSt (9 : Fin 64) = 5) ∧
    ({ (built [(Reg.PG_SRC 9, 64)] [(ndState 9, 5), (ndFtRun 9, 1)]) with timebase := 100000000000 } : State).ppRuns = true ∧
    (({ (built [(Reg.PG_SRC 9, 64)] [(ndState 9, 5), (ndFtRun 9, 1)]) with timebase := 100000000000 } : State).nodeSt (9 : Fin 64) = 4 ∨ ({ (built [(Reg.PG_SRC 9, 64)] [(ndState 9, 5), (ndFtRun 9, 1)]) with timebase := 100000000000 } : State).nodeSt (9 : Fin 64) = 5) ∧
    ({ (built [(Reg.PG_SRC 9, 64)] [(ndState 9, 5), (ndFtRun 9, 1)]) with timebase := 100000000000 } : State).ftOver (9 : Fin 64) = true ∧
    (built [(Reg.STATE, 3)] [(ndState 9, 8)]).procRuns = true ∧
    (built [(Reg.STATE, 3)] [(ndState 9, 8)]).accepts (3 : Fin 4) (0x3400 + (9 : Fin 64)) (1) (withBits ((built [(Reg.STATE, 3)] [(ndState 9, 8)]).rd (Reg.NODE_CTRL (9 : Fin 64))) 10 1 1) = true ∧
    bitsOf (decoded (0x3400 + (9 : Fin 64)) 1 (rawOf (0x3400 + (9 : Fin 64)) (1) (withBits ((built [(Reg.STATE, 3)] [(ndState 9, 8)]).rd (Reg.NODE_CTRL (9 : Fin 64))) 10 1 1)).2) 10 1 = 1 ∧
    (built [] [(flag Reg.SEQ_CTRL 0, 1), (flag Reg.IFW_STATUS 0, 1)]).ppRuns = true ∧
    (built [] [(flag Reg.SEQ_CTRL 0, 1), (flag Reg.IFW_STATUS 0, 1)]).lossDue (2 : Fin 3) = true ∧
    (built [(Reg.STATE, 3)] [(sqLossDown, 1), (sqLossHalted, 1)]).procRuns = true ∧
    (built [(Reg.STATE, 3)] [(sqLossDown, 1), (sqLossHalted, 1)]).accepts (3 : Fin 4) (0x3441) (8) (1) = true ∧
    (built [(Reg.STATE, 4)] [(Bit.NODE_CTRL_TYPE 9, 1), (Bit.NODE_CTRL_TARGET 9, 2), (ndState 9, 5)]).procRuns = true ∧
    (built [(Reg.STATE, 4)] [(Bit.NODE_CTRL_TYPE 9, 1), (Bit.NODE_CTRL_TARGET 9, 2), (ndState 9, 5)]).accepts (3 : Fin 4) (0x3440) ((2 : Fin 4) + 1) ((5 : BitVec 16).toInt) = true := by
  refine ⟨?_, ?_, ?_, ?_, ?_, ?_, ?_, ?_, ?_, ?_, ?_, ?_, ?_, ?_, ?_, ?_, ?_, ?_, ?_, ?_, ?_, ?_, ?_, ?_, ?_, ?_, ?_, ?_, ?_, ?_, ?_, ?_, ?_, ?_, ?_, ?_, ?_, ?_, ?_, ?_, ?_, ?_, ?_, ?_, ?_, ?_, ?_, ?_⟩ <;> decide

/-- The hypotheses of CollectorCommandsComplete. -/
theorem test_met_CollectorCommandsComplete :
    ({ (built [(Reg.COUNT 1023, 1), (Reg.WINDOW_MS 1023, 10)] [(flag (Reg.SRC_STATUS 1023) 1, 1), (Bit.SRC_CTRL_COUNT_N 1023, 2)]) with timebase := 10000000 } : State).ppRuns = true ∧
    ({ (built [(Reg.COUNT 1023, 1), (Reg.WINDOW_MS 1023, 10)] [(flag (Reg.SRC_STATUS 1023) 1, 1), (Bit.SRC_CTRL_COUNT_N 1023, 2)]) with timebase := 10000000 } : State).windowOver (1023 : Fin 1024) = true ∧
    (built [(Reg.STATE, 3)] []).procRuns = true ∧
    (built [(Reg.STATE, 3)] []).accepts (3 : Fin 4) (0x4000 + (1023 : Fin 1024)) (1) (withBits ((built [(Reg.STATE, 3)] []).rd (Reg.SRC_CTRL (1023 : Fin 1024))) 2 1 1) = true ∧
    bitsOf (decoded (0x4000 + (1023 : Fin 1024)) 1 (rawOf (0x4000 + (1023 : Fin 1024)) (1) (withBits ((built [(Reg.STATE, 3)] []).rd (Reg.SRC_CTRL (1023 : Fin 1024))) 2 1 1)).2) 2 1 = 1 ∧
    bitsOf (decoded (0x4000 + (1023 : Fin 1024)) 1 (rawOf (0x4000 + (1023 : Fin 1024)) (1) (withBits ((built [(Reg.STATE, 3)] []).rd (Reg.SRC_CTRL (1023 : Fin 1024))) 2 1 1)).2) 1 1 = 0 ∧
    (built [(Reg.STATE, 3)] []).accepts (3 : Fin 4) (0x4000 + (0 : Fin 1024)) (1) (withBits ((built [(Reg.STATE, 3)] []).rd (Reg.SRC_CTRL (0 : Fin 1024))) 1 1 1) = true ∧
    bitsOf (decoded (0x4000 + (0 : Fin 1024)) 1 (rawOf (0x4000 + (0 : Fin 1024)) (1) (withBits ((built [(Reg.STATE, 3)] []).rd (Reg.SRC_CTRL (0 : Fin 1024))) 1 1 1)).2) 2 1 = 0 ∧
    bitsOf (decoded (0x4000 + (0 : Fin 1024)) 1 (rawOf (0x4000 + (0 : Fin 1024)) (1) (withBits ((built [(Reg.STATE, 3)] []).rd (Reg.SRC_CTRL (0 : Fin 1024))) 1 1 1)).2) 1 1 = 1 ∧
    (((State.written (built [(Reg.STATE, 3)] []) (0x4000 + (0 : Fin 1024)) (1) (rawOf (0x4000 + (0 : Fin 1024)) (1) (withBits ((built [(Reg.STATE, 3)] []).rd (Reg.SRC_CTRL (0 : Fin 1024))) 1 1 1)).2).mark markReaction (0 : Fin 1024) ((built [(Reg.STATE, 3)] []).fld (Bit.SRC_CTRL_REACTION (0 : Fin 1024)))) : State) = (State.written (built [(Reg.STATE, 3)] []) (0x4000 + (0 : Fin 1024)) (1) (rawOf (0x4000 + (0 : Fin 1024)) (1) (withBits ((built [(Reg.STATE, 3)] []).rd (Reg.SRC_CTRL (0 : Fin 1024))) 1 1 1)).2).mark markReaction (0 : Fin 1024) ((built [(Reg.STATE, 3)] []).fld (Bit.SRC_CTRL_REACTION (0 : Fin 1024))) := by
  refine ⟨?_, ?_, ?_, ?_, ?_, ?_, ?_, ?_, ?_, ?_⟩ <;> decide

/-- The hypotheses of WatchdogCommandsComplete. -/
theorem test_met_WatchdogCommandsComplete :
    ({ (built [] []) with timebase := 64000000 } : State).on Reg.corePowered = true ∧
    ({ (built [] []) with timebase := 64000000 } : State).on Reg.ppReset = false ∧
    ({ (built [] []) with timebase := 64000000 } : State).on Reg.procReset = false ∧
    ({ (built [] []) with timebase := 64000000 } : State).wdPeriod ≤ ({ (built [] []) with timebase := 64000000 } : State).wdTicks ∧
    (({ State.reset with timebase := 64000000 } : State).procStart 128 : State).procBegun = true ∧
    (({ State.reset with timebase := 64000000 } : State).procStart 128 : State).watchBack.wdPeriod ≤ (({ State.reset with timebase := 64000000 } : State).procStart 128 : State).watchBack.wdTicks ∧
    ({ (built [] []) with timebase := 63999960 } : State).on Reg.corePowered = true ∧
    ({ (built [] []) with timebase := 63999960 } : State).on Reg.procReset = false ∧
    ({ (built [] []) with timebase := 63999960 } : State).on Reg.ppReset = false ∧
    ({ (built [] []) with timebase := 63999960 } : State).nowMark markWdPeriod 0 = none ∧
    ({ (built [] []) with timebase := 63999960 } : State).wdPeriod ≤ 2 * ({ (built [] []) with timebase := 63999960 } : State).wdSvcTick ∧
    ({ (built [] []) with timebase := 63999960 } : State).wdSvcTick < ({ (built [] []) with timebase := 63999960 } : State).wdPeriod ∧
    ({ (built [] []) with timebase := 31999960 } : State).on Reg.corePowered = true ∧
    ({ (built [] []) with timebase := 31999960 } : State).on Reg.procReset = false ∧
    ({ (built [] []) with timebase := 31999960 } : State).on Reg.ppReset = false ∧
    ({ (built [] []) with timebase := 31999960 } : State).nowMark markWdPeriod 0 = none ∧
    ((0xD1A6 : BitVec 32) ≠ 0x0000D1A6 ∨ 2 * ({ (built [] []) with timebase := 31999960 } : State).wdSvcTick < ({ (built [] []) with timebase := 31999960 } : State).wdPeriod) ∧
    ({ (built [] []) with timebase := 31999960 } : State).wdSvcTick < ({ (built [] []) with timebase := 31999960 } : State).wdPeriod ∧
    (built [] []).on Reg.corePowered = true ∧
    (built [] []).on Reg.procReset = false ∧
    (built [] []).on Reg.ppReset = false ∧
    (built [] []).on Reg.wdPeriodWritten = false ∧
    (built [] []).bit wdLocked = false ∧
    8 ≤ (512 : BitVec 32).toNat ∧ (512 : BitVec 32).toNat ≤ 512 ∧
    ((((built [] []).mark markWdPeriod 0 ((built [] []).rd Reg.WD_PERIOD_MS)).mark markWdAt 0 ((built [] []).rd Reg.wdNs)) : State) = ((built [] []).mark markWdPeriod 0 ((built [] []).rd Reg.WD_PERIOD_MS)).mark markWdAt 0 ((built [] []).rd Reg.wdNs) ∧
    (built [(Reg.planeReady, 1), (Reg.hbMisses, 2)] []).procRuns = true ∧
    (built [(Reg.planeReady, 1), (Reg.hbMisses, 2)] []).on Reg.planeReady = true ∧
    ((false : Bool) && (built [(Reg.planeReady, 1), (Reg.hbMisses, 2)] []).authSilent) = false ∧
    (built [(Reg.planeReady, 1), (Reg.hbMisses, 2)] []).rd Reg.hbMisses = 2 ∧
    (built [(Reg.planeReady, 1)] []).procRuns = true ∧
    (built [(Reg.planeReady, 1)] []).on Reg.planeReady = true ∧
    ((false : Bool) && (built [(Reg.planeReady, 1)] []).authSilent) = false ∧
    ((built [(Reg.planeReady, 1), (Reg.hbMisses, 2)] []).procStart 128 : State).procBegun = true ∧
    (((built [(Reg.planeReady, 1), (Reg.hbMisses, 2)] []).procStart 128 : State).watchBack.heartMissed true (false : Bool)).on Reg.procReqd = true ∧
    (((built [(Reg.planeReady, 1)] []).toAfter ((built [(Reg.planeReady, 1)] []).rd Reg.cfgNs) 100000000) : State) = (built [(Reg.planeReady, 1)] []).toAfter ((built [(Reg.planeReady, 1)] []).rd Reg.cfgNs) 100000000 ∧
    ({ (built [(Reg.holdActive, 1)] []) with timebase := 200000000 } : State).ppRuns = true ∧
    ({ (built [(Reg.holdActive, 1)] []) with timebase := 200000000 } : State).on Reg.holdActive = true ∧
    ({ (built [(Reg.holdActive, 1)] []) with timebase := 200000000 } : State).on Reg.holdTimedOut = false ∧
    ({ (built [(Reg.holdActive, 1)] []) with timebase := 200000000 } : State).since (({ (built [(Reg.holdActive, 1)] []) with timebase := 200000000 } : State).rd Reg.holdNs) 200000000 = true := by
  refine ⟨?_, ?_, ?_, ?_, ?_, ?_, ?_, ?_, ?_, ?_, ?_, ?_, ?_, ?_, ?_, ?_, ?_, ?_, ?_, ?_, ?_, ?_, ?_, ?_, ?_, ?_, ?_, ?_, ?_, ?_, ?_, ?_, ?_, ?_, ?_, ?_, ?_, ?_, ?_⟩ <;> decide

/-- The hypotheses of ResetCommandsComplete. -/
theorem test_met_ResetCommandsComplete :
    (built [(Reg.STATE, 3)] []).procRuns = true ∧
    (built [(Reg.STATE, 3)] []).accepts (3 : Fin 4) (0x1F19) (1) (0x0C1D) = true ∧
    ({ (built [(Reg.procReset, 1)] []) with timebase := 10000 } : State).on Reg.procReset = true ∧
    ({ (built [(Reg.procReset, 1)] []) with timebase := 10000 } : State).on Reg.ppReset = false ∧
    ({ (built [(Reg.procReset, 1)] []) with timebase := 10000 } : State).on Reg.corePowered = true ∧
    ({ (built [(Reg.procReset, 1)] []) with timebase := 10000 } : State).since (({ (built [(Reg.procReset, 1)] []) with timebase := 10000 } : State).rd Reg.procNs) 10000 = true ∧
    (built [(Reg.STATE, 3)] []).on Reg.corePowered = true ∧
    (built [(Reg.STATE, 3)] []).on Reg.procReset = false ∧
    (built [(Reg.STATE, 3)] []).on Reg.ppReset = false ∧
    (built [(Reg.STATE, 3)] []).on Reg.planeReady = false ∧
    (built [(Reg.STATE, 3)] []).on Reg.nvmResetDue = false ∧
    (built [(Reg.STATE, 3)] []).rdN Reg.STATE ≠ 2 ∧
    (built [(Reg.ppReset, 1)] []).on Reg.ppReset = true ∧
    (built [(Reg.ppReset, 1)] []).on Reg.dieHold = false ∧
    (built [(Reg.ppReset, 1)] []).on Reg.corePowered = true ∧
    (built [] []).on Reg.corePowered = true ∧
    (((built [] []).wr Reg.wakeWithPower 0).coldReset 1 false none).bit (flag Reg.SUP_STATUS 5) = true ∧
    10000 < (10001 : Nat) ∧
    (built [(Reg.corePowered, 0), (Reg.STATE, 0)] []).on Reg.corePowered = false ∧
    ((built [(Reg.corePowered, 0), (Reg.STATE, 0)] []).wr Reg.wakeWithPower 1).on Reg.wakePend = false ∧
    ((built [(Reg.corePowered, 0), (Reg.STATE, 0)] []).wr Reg.wakeWithPower 1).on Reg.alwaysOn = true ∧
    ((built [(Reg.corePowered, 0), (Reg.STATE, 0)] []).wr Reg.wakeWithPower 1).rd Reg.STATE = 0 ∧
    (built [(Reg.STATE, 3), (Reg.CLK_STATUS, 3)] []).procRuns = true ∧
    (built [(Reg.STATE, 3), (Reg.CLK_STATUS, 3)] []).accepts (3 : Fin 4) (0x1F20) (2) (1) = true ∧
    (built [] []).on Reg.ppReset = false := by
  refine ⟨?_, ?_, ?_, ?_, ?_, ?_, ?_, ?_, ?_, ?_, ?_, ?_, ?_, ?_, ?_, ?_, ?_, ?_, ?_, ?_, ?_, ?_, ?_, ?_, ?_⟩ <;> decide

/-- The hypotheses of StartAndStandbyCommandsComplete. -/
theorem test_met_StartAndStandbyCommandsComplete :
    (built [] []).ppRuns = true ∧
    (built [] []).rd Reg.STATE = 2 ∧
    (built [] []).on Reg.startHeld = false ∧
    (built [] []).on Reg.startHalted = false ∧
    (built [] []).on Reg.procReset = false ∧
    ([] : List (Fin 27 × Fin 4096 × BitVec 32 × BitVec 16)) = [] ∧
    ({ (built [(Reg.startHalted, 1)] []) with timebase := 1000000000 } : State).ppRuns = true ∧
    ({ (built [(Reg.startHalted, 1)] []) with timebase := 1000000000 } : State).on Reg.startHalted = true ∧
    ({ (built [(Reg.startHalted, 1)] []) with timebase := 1000000000 } : State).rd Reg.haltRun < 3 ∧
    ({ (built [(Reg.startHalted, 1)] []) with timebase := 1000000000 } : State).since (({ (built [(Reg.startHalted, 1)] []) with timebase := 1000000000 } : State).rd Reg.haltNs) 1000000000 = true ∧
    ({ (built [] []) with timebase := 20000000 } : State).ppRuns = true ∧
    ({ (built [] []) with timebase := 20000000 } : State).rd Reg.STATE = 2 ∧
    ({ (built [] []) with timebase := 20000000 } : State).bit (flag Reg.CLK_STATUS 1) = false ∧
    ({ (built [] []) with timebase := 20000000 } : State).since (({ (built [] []) with timebase := 20000000 } : State).rd Reg.startNs) 20000000 = true ∧
    (built [(Reg.lampPhase, 1), (Reg.lampUnit, 25)] []).ppRuns = true ∧
    (built [(Reg.lampPhase, 1), (Reg.lampUnit, 25)] []).rd Reg.lampPhase = 1 ∧
    (built [(Reg.lampPhase, 1), (Reg.lampUnit, 25)] []).rdN Reg.lampUnit ≤ 25 ∧
    (built [(Reg.STATE, 1), (Reg.corePowered, 0)] [(Bit.WAKE_CTRL_WAKE_EN, 1)]).rd Reg.STATE = 1 ∧
    (built [(Reg.STATE, 1), (Reg.corePowered, 0)] [(Bit.WAKE_CTRL_WAKE_EN, 1)]).wakeArmed ((0 : Fin 5).val + 1) = true ∧
    (built [(Reg.STATE, 1), (Reg.corePowered, 0)] [(Bit.WAKE_CTRL_WAKE_EN, 1)]).wakeSeen ((0 : Fin 5).val + 1) ⟨(60 : Nat), (true : Bool), (true : Bool), (1000000000 : Nat), (0 : Fin 128)⟩ = true ∧
    (built [(Reg.STATE, 1), (Reg.corePowered, 0)] [(Bit.WAKE_CTRL_WAKE_EN, 1)]).on Reg.corePowered = false ∧
    (built [(Reg.STATE, 1), (Reg.corePowered, 0)] [(Bit.WAKE_CTRL_WAKE_EN, 1)]).on Reg.alwaysOn = true ∧
    (built [(Reg.STATE, 1), (Reg.corePowered, 0)] [(Bit.WAKE_CTRL_WAKE_EN, 1)]).on Reg.wakeWithPower = true ∧
    (built [(Reg.corePowered, 0), (Reg.wakePend, 2)] []).on Reg.corePowered = false ∧
    (built [(Reg.corePowered, 0), (Reg.wakePend, 2)] []).on Reg.wakePend = true ∧
    (built [] []).on Reg.corePowered = true ∧
    (((built [] []).setFld (flag Reg.SUP_STATUS (if (2 : Fin 3).val = 2 then 4 else (2 : Fin 3).val)) 0) : State) = (built [] []).setFld (flag Reg.SUP_STATUS (if (2 : Fin 3).val = 2 then 4 else (2 : Fin 3).val)) 0 ∧
    (((built [] []).setFld (flag Reg.SUP_STATUS (if (2 : Fin 3).val = 2 then 4 else (2 : Fin 3).val)) 0) : State).coldNow = false ∧
    (((built [] []).setFld (flag Reg.SUP_STATUS (if (2 : Fin 3).val = 2 then 4 else (2 : Fin 3).val)) 0) : State).on Reg.ppReset = false ∧
    (built [(Reg.startHeld, 1)] []).ppRuns = true ∧
    (built [(Reg.startHeld, 1)] []).on Reg.startHeld = true ∧
    (built [(Reg.startHeld, 1)] []).on Reg.startFromPp = false ∧
    (built [] []).on (Reg.ioStopped 1) = false ∧
    (built [(Reg.ioStopped 1, 1)] []).on Reg.corePowered = true ∧
    (built [(Reg.ioStopped 1, 1)] []).on (Reg.ioStopped 1) = true ∧
    (built [] []).on Reg.wakeWithPower = true := by
  refine ⟨?_, ?_, ?_, ?_, ?_, ?_, ?_, ?_, ?_, ?_, ?_, ?_, ?_, ?_, ?_, ?_, ?_, ?_, ?_, ?_, ?_, ?_, ?_, ?_, ?_, ?_, ?_, ?_, ?_, ?_, ?_, ?_, ?_, ?_, ?_, ?_⟩ <;> decide

/-- The hypotheses of ShaftAndPitLogCommandsComplete. -/
theorem test_met_ShaftAndPitLogCommandsComplete :
    (built [] []).procRuns = true ∧
    (16 : Fin 64) ≠ 19 ∧
    galClass (16 : Fin 64) ≠ 2 ∧
    (16 : Fin 64) ≠ 23 ∧
    (built [(Reg.USED 19, 1)] []).procRuns = true ∧
    (built [(Reg.USED 19, 1)] []).on (Reg.USED 19) = true ∧
    ({ (built [(Reg.galWaitNs 3, 5)] []) with timebase := 20000000 } : State).procRuns = true ∧
    ({ (built [(Reg.galWaitNs 3, 5)] []) with timebase := 20000000 } : State).on (Reg.galWaitNs (3 : Fin 64)) = true ∧
    ({ (built [(Reg.galWaitNs 3, 5)] []) with timebase := 20000000 } : State).on (Reg.galWaitRaised (3 : Fin 64)) = false ∧
    ({ (built [(Reg.galWaitNs 3, 5)] []) with timebase := 20000000 } : State).since (({ (built [(Reg.galWaitNs 3, 5)] []) with timebase := 20000000 } : State).rd (Reg.galWaitNs (3 : Fin 64)) - 1) 10000000 = true ∧
    ((((built [] []).toTick 5 10000).eccCorrected (0 : Nat)) : State) = ((built [] []).toTick 5 10000).eccCorrected (0 : Nat) ∧
    ((((((built [] []).toTick 5 10000).eccCorrected (0 : Nat)) : State).wr Reg.scrubAt ((((((built [] []).toTick 5 10000).eccCorrected (0 : Nat)) : State).rd Reg.scrubAt + 1) % 16384)) : State) = ((((built [] []).toTick 5 10000).eccCorrected (0 : Nat)) : State).wr Reg.scrubAt ((((((built [] []).toTick 5 10000).eccCorrected (0 : Nat)) : State).rd Reg.scrubAt + 1) % 16384) ∧
    (built [(Reg.STREAM_SIG 32, 5)] []).ppRuns = true ∧
    32 ≤ (32 : Fin 64).val ∧
    (built [(Reg.STREAM_SIG 32, 5)] []).rd (Reg.STREAM_SIG (32 : Fin 64)) ≠ 65535 ∧
    (((built [(Reg.STREAM_SIG 32, 5)] []).toTickOf (Reg.galTickNs (32 : Fin 64)) ((built [(Reg.STREAM_SIG 32, 5)] []).rdN (Reg.DEC_US (32 : Fin 64)) * 1000)) : State) = (built [(Reg.STREAM_SIG 32, 5)] []).toTickOf (Reg.galTickNs (32 : Fin 64)) ((built [(Reg.STREAM_SIG 32, 5)] []).rdN (Reg.DEC_US (32 : Fin 64)) * 1000) ∧
    (built [(Reg.CAP_STATE, 1)] []).procRuns = true ∧
    (built [(Reg.CAP_STATE, 1)] []).marked markArm 0 = none ∧
    (built [(Reg.CAP_STATE, 1)] []).marked markTrig 0 = none ∧
    (built [(Reg.CAP_STATE, 1)] []).rd Reg.CAP_STATE = 1 ∧
    (built [(Reg.CAP_STATE, 1)] []).capTrigSet (2048 : Fin 2049) = true ∧
    (((((((built [(Reg.CAP_STATE, 1)] []).wr Reg.CAP_STATE 2).wr Reg.TRIG_NS (built [(Reg.CAP_STATE, 1)] []).now).wr Reg.TRIG_CAUSE (2048 : Fin 2049)).wr Reg.capTrigAt (built [(Reg.CAP_STATE, 1)] []).capFrameHere).mark markTrig 0 0) : State) = (((((built [(Reg.CAP_STATE, 1)] []).wr Reg.CAP_STATE 2).wr Reg.TRIG_NS (built [(Reg.CAP_STATE, 1)] []).now).wr Reg.TRIG_CAUSE (2048 : Fin 2049)).wr Reg.capTrigAt (built [(Reg.CAP_STATE, 1)] []).capFrameHere).mark markTrig 0 0 ∧
    (((((((built [(Reg.CAP_STATE, 1)] []).wr Reg.CAP_STATE 2).wr Reg.TRIG_NS (built [(Reg.CAP_STATE, 1)] []).now).wr Reg.TRIG_CAUSE (2048 : Fin 2049)).wr Reg.capTrigAt (built [(Reg.CAP_STATE, 1)] []).capFrameHere).mark markTrig 0 0) : State).capDone = false ∧
    (built [(Reg.CAP_STATE, 2), (Reg.capFrameNo, 65535)] []).procRuns = true ∧
    (built [(Reg.CAP_STATE, 2), (Reg.capFrameNo, 65535)] []).capDone = true ∧
    (built [(Reg.STATE, 3)] []).procRuns = true ∧
    (built [(Reg.STATE, 3)] []).accepts (3 : Fin 4) (0x5080) (1) (withBits ((built [(Reg.STATE, 3)] []).rd Reg.CAP_CTRL) 0 2 1) = true ∧
    bitsOf (decoded 0x5080 1 (rawOf (0x5080) (1) (withBits ((built [(Reg.STATE, 3)] []).rd Reg.CAP_CTRL) 0 2 1)).2) 0 1 = 1 ∧
    bitsOf (decoded 0x5080 1 (rawOf (0x5080) (1) (withBits ((built [(Reg.STATE, 3)] []).rd Reg.CAP_CTRL) 0 2 1)).2) 1 1 = 0 ∧
    (built [(Reg.STATE, 3)] []).accepts (3 : Fin 4) (0x5080) (1) (withBits ((built [(Reg.STATE, 3)] []).rd Reg.CAP_CTRL) 0 2 2) = true ∧
    bitsOf (decoded 0x5080 1 (rawOf (0x5080) (1) (withBits ((built [(Reg.STATE, 3)] []).rd Reg.CAP_CTRL) 0 2 2)).2) 0 1 = 0 ∧
    bitsOf (decoded 0x5080 1 (rawOf (0x5080) (1) (withBits ((built [(Reg.STATE, 3)] []).rd Reg.CAP_CTRL) 0 2 2)).2) 1 1 = 1 ∧
    (built [] []).on Reg.corePowered = true ∧
    ({ (built [] []) with timebase := 100000000000000 } : State).procRuns = true ∧
    ({ (built [] []) with timebase := 100000000000000 } : State).since (({ (built [] []) with timebase := 100000000000000 } : State).rd Reg.plAtNs) (({ (built [] []) with timebase := 100000000000000 } : State).rd Reg.EPOCH_PERIOD_S * 1000000000) = true ∧
    (built [(Reg.STATE, 3)] []).accepts (3 : Fin 4) (0x5100) (1) (1) = true ∧
    (built [(Reg.PL_STATUS, 1)] []).procRuns = true ∧
    (built [(Reg.PL_STATUS, 1)] []).bit (flag Reg.PL_STATUS 0) = true := by
  refine ⟨?_, ?_, ?_, ?_, ?_, ?_, ?_, ?_, ?_, ?_, ?_, ?_, ?_, ?_, ?_, ?_, ?_, ?_, ?_, ?_, ?_, ?_, ?_, ?_, ?_, ?_, ?_, ?_, ?_, ?_, ?_, ?_, ?_, ?_, ?_, ?_, ?_, ?_⟩ <;> decide

/-- The hypotheses of DengonCommandsComplete. -/
theorem test_met_DengonCommandsComplete :
    (built [(Reg.planeReady, 1)] [(flag Reg.SPI_CTRL 0, 1)]).procRuns = true ∧
    (built [(Reg.planeReady, 1)] [(flag Reg.SPI_CTRL 0, 1)]).portRuns (5 : Fin 9) = true ∧
    (5 : Fin 9) ≠ 0 ∧
    (built [(Reg.planeReady, 1), (Reg.STATE, 3)] []).procRuns = true ∧
    (built [(Reg.planeReady, 1), (Reg.STATE, 3)] []).dengonUp = true ∧
    ((true : Bool) = true ∨ (built [(Reg.planeReady, 1), (Reg.STATE, 3)] []).wdPeriod ≤ (built [(Reg.planeReady, 1), (Reg.STATE, 3)] []).wdTicks) ∧
    ((((built [(Reg.planeReady, 1), (Reg.STATE, 3)] []).wr Reg.cutAfter (((0 : Fin 64).val + 1 : Nat) : Int)).wrB Reg.cutCause (true : Bool)) : State) = ((built [(Reg.planeReady, 1), (Reg.STATE, 3)] []).wr Reg.cutAfter (((0 : Fin 64).val + 1 : Nat) : Int)).wrB Reg.cutCause (true : Bool) ∧
    ((((built [(Reg.planeReady, 1), (Reg.STATE, 3)] []).wr Reg.cutAfter 1).wrB Reg.cutCause (true : Bool)) : State) = ((built [(Reg.planeReady, 1), (Reg.STATE, 3)] []).wr Reg.cutAfter 1).wrB Reg.cutCause (true : Bool) ∧
    ({ State.reset with timebase := 1000000000, transfers := [⟨1, 7, 0x3880, 1, 4, [], (0, []), 0, false, false⟩] } : State).procRuns = true ∧
    ({ State.reset with timebase := 1000000000, transfers := [⟨1, 7, 0x3880, 1, 4, [], (0, []), 0, false, false⟩] } : State).transfers.find? (fun y => decide (y.src = (1 : Fin 63).val) && ({ State.reset with timebase := 1000000000, transfers := [⟨1, 7, 0x3880, 1, 4, [], (0, []), 0, false, false⟩] } : State).transferStale y) = some (⟨1, 7, 0x3880, 1, 4, [], (0, []), 0, false, false⟩ : Transfer) ∧
    (((1 : Fin 63) : Nat) ≠ (built [(Reg.planeReady, 1), (Reg.STATE, 3)] []).ownAddr ∨ (built [(Reg.planeReady, 1), (Reg.STATE, 3)] []).ownAddr = 0) ∧
    ({ State.reset with timebase := 100000000000, notices := [⟨0, 1, 0, 0, 0⟩] } : State).procRuns = true ∧
    ({ State.reset with timebase := 100000000000, notices := [⟨0, 1, 0, 0, 0⟩] } : State).noticeDue = true ∧
    (built [] []).procRuns = true ∧
    (built [(Reg.STATE, 3)] []).procRuns = true ∧
    (built [(Reg.STATE, 3)] []).accepts (3 : Fin 4) (0x1011) (1) (1) = true ∧
    (built [] []).on Reg.saveLeft = false ∧
    (built [(Reg.STATE, 3)] []).accepts (3 : Fin 4) (0x1011) (1) (2) = true ∧
    ({ State.reset with timebase := 10000000, canParts := [(1, 5, 0, 1, [])] } : State).procRuns = true ∧
    ({ State.reset with timebase := 10000000, canParts := [(1, 5, 0, 1, [])] } : State).canStale (1 : Fin 2) (5 : BitVec 29).toNat = true := by
  refine ⟨?_, ?_, ?_, ?_, ?_, ?_, ?_, ?_, ?_, ?_, ?_, ?_, ?_, ?_, ?_, ?_, ?_, ?_, ?_, ?_⟩
  · decide
  · decide
  · decide
  · decide
  · decide
  · decide
  · decide
  · decide
  · exact rfl
  · exact rfl
  · decide
  · decide
  · decide
  · decide
  · decide
  · decide
  · decide
  · decide
  · decide
  · decide

/-- The hypotheses of NetworkLinkCommandsComplete. -/
theorem test_met_NetworkLinkCommandsComplete :
    (built [] []).procRuns = true ∧
    (5 : Fin 9) ≠ 0 ∧
    ({ (built [(Reg.planeReady, 1), (Reg.PLCA_NODE_ID, 1)] [(flag Reg.T1S_CTRL 0, 1), (flag Reg.T1S_CTRL 1, 1)]) with timebase := 1000000 } : State).procRuns = true ∧
    ({ (built [(Reg.planeReady, 1), (Reg.PLCA_NODE_ID, 1)] [(flag Reg.T1S_CTRL 0, 1), (flag Reg.T1S_CTRL 1, 1)]) with timebase := 1000000 } : State).portRuns 1 = true ∧
    ({ (built [(Reg.planeReady, 1), (Reg.PLCA_NODE_ID, 1)] [(flag Reg.T1S_CTRL 0, 1), (flag Reg.T1S_CTRL 1, 1)]) with timebase := 1000000 } : State).bit (flag Reg.T1S_CTRL 1) = true ∧
    ({ (built [(Reg.planeReady, 1), (Reg.PLCA_NODE_ID, 1)] [(flag Reg.T1S_CTRL 0, 1), (flag Reg.T1S_CTRL 1, 1)]) with timebase := 1000000 } : State).on Reg.PLCA_NODE_ID = true ∧
    ({ (built [(Reg.planeReady, 1), (Reg.PLCA_NODE_ID, 1)] [(flag Reg.T1S_CTRL 0, 1), (flag Reg.T1S_CTRL 1, 1)]) with timebase := 1000000 } : State).on Reg.beaconOut = false ∧
    ({ (built [(Reg.planeReady, 1), (Reg.PLCA_NODE_ID, 1)] [(flag Reg.T1S_CTRL 0, 1), (flag Reg.T1S_CTRL 1, 1)]) with timebase := 1000000 } : State).since (({ (built [(Reg.planeReady, 1), (Reg.PLCA_NODE_ID, 1)] [(flag Reg.T1S_CTRL 0, 1), (flag Reg.T1S_CTRL 1, 1)]) with timebase := 1000000 } : State).rd Reg.beaconNs) 1000000 = true ∧
    (built [(Reg.planeReady, 1), (Reg.PLCA_NODE_ID, 1)] [(flag Reg.T1S_CTRL 0, 1), (flag Reg.T1S_CTRL 1, 1)]).procRuns = true ∧
    (built [(Reg.planeReady, 1), (Reg.PLCA_NODE_ID, 1)] [(flag Reg.T1S_CTRL 0, 1), (flag Reg.T1S_CTRL 1, 1)]).portRuns 1 = true ∧
    (built [(Reg.planeReady, 1), (Reg.PLCA_NODE_ID, 1)] [(flag Reg.T1S_CTRL 0, 1), (flag Reg.T1S_CTRL 1, 1)]).bit (flag Reg.T1S_CTRL 1) = true ∧
    (built [(Reg.planeReady, 1)] [(Bit.ETH_CTRL_ENABLE, 1), (ethLink, 1), (Bit.ETH_CTRL_SPEED, 0)]).procRuns = true ∧
    (built [(Reg.planeReady, 1)] [(Bit.ETH_CTRL_ENABLE, 1), (ethLink, 1), (Bit.ETH_CTRL_SPEED, 0)]).portRuns 2 = true ∧
    (built [(Reg.planeReady, 1)] [(Bit.ETH_CTRL_ENABLE, 1), (ethLink, 1), (Bit.ETH_CTRL_SPEED, 0)]).bit ethLink = true ∧
    (built [(Reg.planeReady, 1)] [(Bit.ETH_CTRL_ENABLE, 1), (ethLink, 1), (Bit.ETH_CTRL_SPEED, 0)]).fld Bit.ETH_CTRL_SPEED = 0 ∧
    (built [(Reg.planeReady, 1)] [(Bit.ETH_CTRL_ENABLE, 1), (ethLink, 1), (Bit.ETH_CTRL_AS_EN, 1)]).procRuns = true ∧
    ({ (built [(Reg.planeReady, 1)] [(Bit.ETH_CTRL_ENABLE, 1), (ethLink, 1), (Bit.ETH_CTRL_AS_EN, 1)]) with timebase := 3000000000 } : State).procRuns = true ∧
    ({ (built [(Reg.planeReady, 1)] [(Bit.ETH_CTRL_ENABLE, 1), (ethLink, 1), (Bit.ETH_CTRL_AS_EN, 1)]) with timebase := 3000000000 } : State).portRuns 2 = true ∧
    ({ (built [(Reg.planeReady, 1)] [(Bit.ETH_CTRL_ENABLE, 1), (ethLink, 1), (Bit.ETH_CTRL_AS_EN, 1)]) with timebase := 3000000000 } : State).bit Bit.ETH_CTRL_AS_EN = true ∧
    ({ (built [(Reg.planeReady, 1)] [(Bit.ETH_CTRL_ENABLE, 1), (ethLink, 1), (Bit.ETH_CTRL_AS_EN, 1)]) with timebase := 3000000000 } : State).on Reg.asOut = false ∧
    ({ (built [(Reg.planeReady, 1)] [(Bit.ETH_CTRL_ENABLE, 1), (ethLink, 1), (Bit.ETH_CTRL_AS_EN, 1)]) with timebase := 3000000000 } : State).since (({ (built [(Reg.planeReady, 1)] [(Bit.ETH_CTRL_ENABLE, 1), (ethLink, 1), (Bit.ETH_CTRL_AS_EN, 1)]) with timebase := 3000000000 } : State).rd Reg.asNs) 3000000000 = true ∧
    (built [(Reg.planeReady, 1)] [(flag (Reg.CAN_CTRL 1) 0, 1)]).procRuns = true ∧
    (built [(Reg.planeReady, 1)] [(flag (Reg.CAN_CTRL 1) 0, 1)]).portRuns (3 + (1 : Fin 2)) = true ∧
    (built [(Reg.planeReady, 1)] [(flag (Reg.CAN_CTRL 1) 0, 1)]).fld (canState (1 : Fin 2)) ≠ 2 ∧
    (built [(Reg.planeReady, 1)] [(flag (Reg.CAN_CTRL 1) 0, 1), (flag (Reg.CAN_CTRL 1) 1, 1), (canState 1, 2)]).procRuns = true ∧
    (built [(Reg.planeReady, 1)] [(flag (Reg.CAN_CTRL 1) 0, 1), (flag (Reg.CAN_CTRL 1) 1, 1), (canState 1, 2)]).portRuns (3 + (1 : Fin 2)) = true ∧
    (built [(Reg.planeReady, 1)] [(flag (Reg.CAN_CTRL 1) 0, 1), (flag (Reg.CAN_CTRL 1) 1, 1), (canState 1, 2)]).bit (flag (Reg.CAN_CTRL (1 : Fin 2)) 1) = true ∧
    (built [(Reg.planeReady, 1)] [(flag (Reg.CAN_CTRL 1) 0, 1), (flag (Reg.CAN_CTRL 1) 1, 1), (canState 1, 2)]).fld (canState (1 : Fin 2)) = 2 := by
  refine ⟨?_, ?_, ?_, ?_, ?_, ?_, ?_, ?_, ?_, ?_, ?_, ?_, ?_, ?_, ?_, ?_, ?_, ?_, ?_, ?_, ?_, ?_, ?_, ?_, ?_, ?_, ?_, ?_⟩ <;> decide

/-- The hypotheses of LocalLinkCommandsComplete. -/
theorem test_met_LocalLinkCommandsComplete :
    (built [(Reg.planeReady, 1)] [(flag Reg.SPI_CTRL 0, 1)]).procRuns = true ∧
    (0 : BitVec 8) ≠ 0x0F ∧
    (0 : BitVec 8) ≠ 0x51 ∧
    (0 : BitVec 8) ≠ 0xA3 ∧
    (built [(Reg.planeReady, 1)] [(flag Reg.SPI_CTRL 0, 1)]).spiFall.1 = true ∧
    (built [(Reg.planeReady, 1)] [(Bit.TW_CTRL_ENABLE 0, 1)]).procRuns = true ∧
    (built [(Reg.planeReady, 1)] [(Bit.TW_CTRL_ENABLE 0, 1)]).twFree (0 : Fin 3) = true ∧
    (built [(Reg.planeReady, 1)] [(Bit.TW_CTRL_ENABLE 0, 1)]).on (Reg.twIgnore (0 : Fin 3)) = false ∧
    (built [(Reg.planeReady, 1)] [(Bit.TW_CTRL_ENABLE 1, 1), (Bit.TW_CTRL_CONTROLLER 1, 1)]).procRuns = true ∧
    (built [(Reg.planeReady, 1)] [(Bit.TW_CTRL_ENABLE 1, 1), (Bit.TW_CTRL_CONTROLLER 1, 1)]).twFree (1 : Fin 3) = false ∧
    (built [(Reg.planeReady, 1)] [(Bit.TW_CTRL_ENABLE 1, 1), (Bit.TW_CTRL_CONTROLLER 1, 1)]).twMaster (1 : Fin 3) = true ∧
    ({ (built [(Reg.planeReady, 1), (Reg.twStretch 0, 1)] [(Bit.TW_CTRL_ENABLE 0, 1), (Bit.RAIL_CTRL_SHARED 0, 1)]) with timebase := 25000000 } : State).on Reg.corePowered = true ∧
    ({ (built [(Reg.planeReady, 1), (Reg.twStretch 0, 1)] [(Bit.TW_CTRL_ENABLE 0, 1), (Bit.RAIL_CTRL_SHARED 0, 1)]) with timebase := 25000000 } : State).procRuns = true ∧
    ({ (built [(Reg.planeReady, 1), (Reg.twStretch 0, 1)] [(Bit.TW_CTRL_ENABLE 0, 1), (Bit.RAIL_CTRL_SHARED 0, 1)]) with timebase := 25000000 } : State).twStretchOver (0 : Fin 3) = true ∧
    ({ (built [(Reg.planeReady, 1), (Reg.twStretch 0, 1)] [(Bit.TW_CTRL_ENABLE 0, 1), (Bit.RAIL_CTRL_SHARED 0, 1)]) with timebase := 25000000 } : State).twWakeOver = false ∧
    ({ (built [(Reg.planeReady, 1), (Reg.twWakeNs, 1), (Reg.twWakeGrp, 1)] [(Bit.TW_CTRL_ENABLE 0, 1)]) with timebase := 25000000 } : State).on Reg.corePowered = true ∧
    ({ (built [(Reg.planeReady, 1), (Reg.twWakeNs, 1), (Reg.twWakeGrp, 1)] [(Bit.TW_CTRL_ENABLE 0, 1)]) with timebase := 25000000 } : State).twWakeOver = true ∧
    (built [(Reg.planeReady, 1)] [(Bit.TW_CTRL_ENABLE 1, 1), (Bit.TW_CTRL_CONTROLLER 1, 1), (Bit.RAIL_CTRL_SHARED 0, 1)]).procRuns = true ∧
    (built [(Reg.planeReady, 1)] [(Bit.TW_CTRL_ENABLE 1, 1), (Bit.TW_CTRL_CONTROLLER 1, 1), (Bit.RAIL_CTRL_SHARED 0, 1)]).twMaster (1 : Fin 3) = true ∧
    (built [(Reg.planeReady, 1)] [(Bit.TW_CTRL_ENABLE 1, 1), (Bit.TW_CTRL_CONTROLLER 1, 1), (Bit.RAIL_CTRL_SHARED 0, 1)]).grouped = true ∧
    (built [(Reg.planeReady, 1), (Reg.twIbrWant 0, 1)] [(Bit.TW_CTRL_ENABLE 0, 1), (Bit.TW_CTRL_IBR_EN 0, 1)]).procRuns = true ∧
    (built [(Reg.planeReady, 1), (Reg.twIbrWant 0, 1)] [(Bit.TW_CTRL_ENABLE 0, 1), (Bit.TW_CTRL_IBR_EN 0, 1)]).twTarget (0 : Fin 3) = true ∧
    (built [(Reg.planeReady, 1), (Reg.twIbrWant 0, 1)] [(Bit.TW_CTRL_ENABLE 0, 1), (Bit.TW_CTRL_IBR_EN 0, 1)]).bit (Bit.TW_CTRL_IBR_EN (0 : Fin 3)) = true ∧
    (built [(Reg.planeReady, 1), (Reg.twIbrWant 0, 1)] [(Bit.TW_CTRL_ENABLE 0, 1), (Bit.TW_CTRL_IBR_EN 0, 1)]).on (Reg.twIbr (0 : Fin 3)) = false ∧
    (built [(Reg.planeReady, 1), (Reg.twIbrWant 0, 1)] [(Bit.TW_CTRL_ENABLE 0, 1), (Bit.TW_CTRL_IBR_EN 0, 1)]).on (Reg.twIbrWant (0 : Fin 3)) = true ∧
    (built [(Reg.planeReady, 1), (Reg.twIbrWant 0, 1)] [(Bit.TW_CTRL_ENABLE 0, 1), (Bit.TW_CTRL_IBR_EN 0, 1)]).on (Reg.twBus (0 : Fin 3)) = false ∧
    (built [(Reg.planeReady, 1), (Reg.twIbrWant 0, 1)] [(Bit.TW_CTRL_ENABLE 0, 1), (Bit.TW_CTRL_IBR_EN 0, 1)]).rd (Reg.twIbrNs (0 : Fin 3)) ≤ (built [(Reg.planeReady, 1), (Reg.twIbrWant 0, 1)] [(Bit.TW_CTRL_ENABLE 0, 1), (Bit.TW_CTRL_IBR_EN 0, 1)]).now ∧
    ({ (built [(Reg.planeReady, 1), (Reg.twIbr 0, 1)] [(Bit.TW_CTRL_ENABLE 0, 1), (Bit.TW_CTRL_IBR_EN 0, 1)]) with timebase := 100000 } : State).procRuns = true ∧
    ({ (built [(Reg.planeReady, 1), (Reg.twIbr 0, 1)] [(Bit.TW_CTRL_ENABLE 0, 1), (Bit.TW_CTRL_IBR_EN 0, 1)]) with timebase := 100000 } : State).twTarget (0 : Fin 3) = true ∧
    ({ (built [(Reg.planeReady, 1), (Reg.twIbr 0, 1)] [(Bit.TW_CTRL_ENABLE 0, 1), (Bit.TW_CTRL_IBR_EN 0, 1)]) with timebase := 100000 } : State).bit (Bit.TW_CTRL_IBR_EN (0 : Fin 3)) = true ∧
    ({ (built [(Reg.planeReady, 1), (Reg.twIbr 0, 1)] [(Bit.TW_CTRL_ENABLE 0, 1), (Bit.TW_CTRL_IBR_EN 0, 1)]) with timebase := 100000 } : State).on (Reg.twIbr (0 : Fin 3)) = true ∧
    ({ (built [(Reg.planeReady, 1), (Reg.twIbr 0, 1)] [(Bit.TW_CTRL_ENABLE 0, 1), (Bit.TW_CTRL_IBR_EN 0, 1)]) with timebase := 100000 } : State).since (({ (built [(Reg.planeReady, 1), (Reg.twIbr 0, 1)] [(Bit.TW_CTRL_ENABLE 0, 1), (Bit.TW_CTRL_IBR_EN 0, 1)]) with timebase := 100000 } : State).rd (Reg.twIbrNs (0 : Fin 3))) 100000 = true ∧
    (built [(Reg.planeReady, 1), (Reg.twIbr 0, 1), (Reg.TW_ADDR 0, 100)] [(Bit.TW_CTRL_ENABLE 0, 1)]).procRuns = true ∧
    (built [(Reg.planeReady, 1), (Reg.twIbr 0, 1), (Reg.TW_ADDR 0, 100)] [(Bit.TW_CTRL_ENABLE 0, 1)]).twTarget (0 : Fin 3) = true ∧
    (built [(Reg.planeReady, 1), (Reg.twIbr 0, 1), (Reg.TW_ADDR 0, 100)] [(Bit.TW_CTRL_ENABLE 0, 1)]).on (Reg.twIbr (0 : Fin 3)) = true ∧
    (0xC8 : BitVec 8).toNat = 2 * (built [(Reg.planeReady, 1), (Reg.twIbr 0, 1), (Reg.TW_ADDR 0, 100)] [(Bit.TW_CTRL_ENABLE 0, 1)]).rdN (Reg.TW_ADDR (0 : Fin 3)) ∧
    (0x10 : BitVec 8).toNat ≠ 2 * (built [(Reg.planeReady, 1), (Reg.twIbr 0, 1), (Reg.TW_ADDR 0, 100)] [(Bit.TW_CTRL_ENABLE 0, 1)]).rdN (Reg.TW_ADDR (0 : Fin 3)) ∧
    (built [(Reg.planeReady, 1), (Reg.twClear 1, 1)] [(Bit.TW_CTRL_ENABLE 1, 1), (Bit.TW_CTRL_CONTROLLER 1, 1)]).procRuns = true ∧
    (built [(Reg.planeReady, 1), (Reg.twClear 1, 1)] [(Bit.TW_CTRL_ENABLE 1, 1), (Bit.TW_CTRL_CONTROLLER 1, 1)]).twMaster (1 : Fin 3) = true ∧
    (built [(Reg.planeReady, 1), (Reg.twClear 1, 1)] [(Bit.TW_CTRL_ENABLE 1, 1), (Bit.TW_CTRL_CONTROLLER 1, 1)]).on (Reg.twClear (1 : Fin 3)) = true := by
  refine ⟨?_, ?_, ?_, ?_, ?_, ?_, ?_, ?_, ?_, ?_, ?_, ?_, ?_, ?_, ?_, ?_, ?_, ?_, ?_, ?_, ?_, ?_, ?_, ?_, ?_, ?_, ?_, ?_, ?_, ?_, ?_, ?_, ?_, ?_, ?_, ?_, ?_, ?_, ?_, ?_⟩ <;> decide

/-- The hypotheses of ShareLinkCommandsComplete. -/
theorem test_met_ShareLinkCommandsComplete :
    (built [(Reg.planeReady, 1)] [(Bit.WS_CTRL_ENABLE, 1)]).ppRuns = true ∧
    (built [(Reg.planeReady, 1)] [(Bit.WS_CTRL_ENABLE, 1)]).wsUp = true ∧
    ({ (built [(Reg.planeReady, 1)] [(Bit.WS_CTRL_ENABLE, 1)]) with timebase := 100000000000 } : State).ppRuns = true ∧
    ({ (built [(Reg.planeReady, 1)] [(Bit.WS_CTRL_ENABLE, 1)]) with timebase := 100000000000 } : State).wsUp = true ∧
    ({ (built [(Reg.planeReady, 1)] [(Bit.WS_CTRL_ENABLE, 1)]) with timebase := 100000000000 } : State).syncSilent = true ∧
    ({ (built [(Reg.planeReady, 1)] [(Bit.WS_CTRL_ENABLE, 1)]) with timebase := 100000000000 } : State).lowSilent = true ∧
    (3 : Fin 64).val ≠ (built [(Reg.planeReady, 1)] [(Bit.WS_CTRL_ENABLE, 1)]).ownAddr ∧
    (built [(Reg.planeReady, 1)] [(Bit.WS_CTRL_ENABLE, 1)]).rd Reg.wsSymbols = ((0 : Nat) : Nat) ∧
    (built [(Reg.planeReady, 1)] [(Bit.WS_CTRL_ENABLE, 1)]).on Reg.wsInLost = false := by
  refine ⟨?_, ?_, ?_, ?_, ?_, ?_, ?_, ?_, ?_⟩ <;> decide

/-- The hypotheses of ImageCommandsComplete. -/
theorem test_met_ImageCommandsComplete :
    (built [] []).procRuns = true ∧
    (cardInstalled : State).procRuns = true ∧
    (cardInstalled : State).accepts (3 : Fin 4) (0x6000) (1) (1) = true ∧
    (built [(Reg.STATE, 3)] [(bankState 1, 2)]).procRuns = true ∧
    (built [(Reg.STATE, 3)] [(bankState 1, 2)]).accepts (3 : Fin 4) (0x6000) (1) (2) = true ∧
    (built [(Reg.STATE, 3)] [(bankState 0, 3)]).procRuns = true ∧
    (built [(Reg.STATE, 3)] [(bankState 0, 3)]).accepts (3 : Fin 4) (0x6000) (1) (3) = true ∧
    (State.written (built [(Reg.STATE, 3)] [(bankState 0, 3)]) (0x6000) (1) (rawOf (0x6000) (1) (3)).2).trialBank = some (0 : Nat) ∧
    (built [(Reg.STATE, 3)] []).procRuns = true ∧
    (built [(Reg.STATE, 3)] []).accepts (3 : Fin 4) (0x6000) (1) (4) = true ∧
    (built [(Reg.STATE, 3)] [(flag Reg.CARD_STATUS 1, 1)]).procRuns = true ∧
    (built [(Reg.STATE, 3)] [(flag Reg.CARD_STATUS 1, 1)]).accepts (3 : Fin 4) (0x6000) (1) (5) = true ∧
    (built [(Reg.planeReady, 1), (Reg.STATE, 3)] []).procRuns = true ∧
    (built [(Reg.planeReady, 1), (Reg.STATE, 3)] []).dengonUp = true ∧
    ({ (built [(Reg.instSrc, 2)] []) with timebase := 100000000000 } : State).procRuns = true ∧
    ({ (built [(Reg.instSrc, 2)] []) with timebase := 100000000000 } : State).offerLapsed = true ∧
    (built [] []).on Reg.corePowered = true ∧
    ({ (built [(Reg.planeReady, 1), (Reg.HOST_CHECK, 0)] [(bankState 0, 3), (flag Reg.CFG_STATUS 0, 1)]) with timebase := 100000000000 } : State).procRuns = true ∧
    ({ (built [(Reg.planeReady, 1), (Reg.HOST_CHECK, 0)] [(bankState 0, 3), (flag Reg.CFG_STATUS 0, 1)]) with timebase := 100000000000 } : State).confirmOk = true ∧
    ({ (built [(Reg.planeReady, 1), (Reg.HOST_CHECK, 0)] [(bankState 0, 3), (flag Reg.CFG_STATUS 0, 1)]) with timebase := 100000000000 } : State).bootWaits 2 = false ∧
    (({ (built [(Reg.planeReady, 1), (Reg.HOST_CHECK, 0)] [(bankState 0, 3), (flag Reg.CFG_STATUS 0, 1)]) with timebase := 100000000000 } : State).bootWaits 3 && ({ (built [(Reg.planeReady, 1), (Reg.HOST_CHECK, 0)] [(bankState 0, 3), (flag Reg.CFG_STATUS 0, 1)]) with timebase := 100000000000 } : State).markedNow markTrialOut 0) = false ∧
    ({ (built [(Reg.planeReady, 1), (Reg.trialNs, 1)] [(bankState 0, 3)]) with timebase := 300000000000 } : State).procRuns = true ∧
    ({ (built [(Reg.planeReady, 1), (Reg.trialNs, 1)] [(bankState 0, 3)]) with timebase := 300000000000 } : State).trialBank = some (0 : Nat) ∧
    300 ≤ ({ (built [(Reg.planeReady, 1), (Reg.trialNs, 1)] [(bankState 0, 3)]) with timebase := 300000000000 } : State).trialS ∧
    ({ (built [(Reg.planeReady, 1), (Reg.trialNs, 1)] [(bankState 0, 3)]) with timebase := 300000000000 } : State).bootWaits 2 = false ∧
    ({ (built [(Reg.planeReady, 1), (Reg.trialNs, 1)] [(bankState 0, 3)]) with timebase := 300000000000 } : State).bootWaits 3 = false ∧
    (built [(Reg.STATE, 3)] []).accepts (3 : Fin 4) (0x6000) (9) (((0 : BitVec 16).toNat : Nat)) = true ∧
    ({ built [(Reg.planeReady, 1), (Reg.rlyStep, 1), (Reg.RELAY_TARGET, 7), (Reg.rlyTid, 3)] [] with asks := [⟨3, 7, 64, 0⟩] } : State).procRuns = true ∧
    ({ built [(Reg.planeReady, 1), (Reg.rlyStep, 1), (Reg.RELAY_TARGET, 7), (Reg.rlyTid, 3)] [] with asks := [⟨3, 7, 64, 0⟩] } : State).relaying = true ∧
    ({ built [(Reg.planeReady, 1), (Reg.rlyStep, 1), (Reg.RELAY_TARGET, 7), (Reg.rlyTid, 3)] [] with asks := [⟨3, 7, 64, 0⟩] } : State).asks.any ({ built [(Reg.planeReady, 1), (Reg.rlyStep, 1), (Reg.RELAY_TARGET, 7), (Reg.rlyTid, 3)] [] with asks := [⟨3, 7, 64, 0⟩] } : State).relayAwaits = true := by
  refine ⟨?_, ?_, ?_, ?_, ?_, ?_, ?_, ?_, ?_, ?_, ?_, ?_, ?_, ?_, ?_, ?_, ?_, ?_, ?_, ?_, ?_, ?_, ?_, ?_, ?_, ?_, ?_, ?_, ?_, ?_⟩
  · decide
  · decide
  · decide +kernel
  · decide
  · decide
  · decide
  · decide
  · decide
  · decide
  · decide
  · decide
  · decide
  · decide
  · decide
  · decide
  · decide
  · decide
  · decide
  · decide
  · decide
  · decide
  · decide
  · decide
  · decide
  · decide
  · decide
  · decide
  · decide
  · decide
  · decide

/-- The hypotheses of SecurityCommandsComplete. -/
theorem test_met_SecurityCommandsComplete :
    (built [(Reg.planeReady, 1), (Reg.STATE, 3)] []).procRuns = true ∧
    (built [(Reg.planeReady, 1), (Reg.STATE, 3)] []).dengonUp = true ∧
    (built [(Reg.planeReady, 1), (Reg.STATE, 3), (Reg.DOMAIN_ADDR, 9)] []).procRuns = true ∧
    (built [(Reg.planeReady, 1), (Reg.STATE, 3), (Reg.DOMAIN_ADDR, 9)] []).dengonUp = true ∧
    (built [(Reg.planeReady, 1), (Reg.STATE, 3), (Reg.DOMAIN_ADDR, 9)] []).authSilent = false ∧
    (built [] []).procRuns = true ∧
    (built [(Reg.STATE, 3)] []).procRuns = true ∧
    (built [(Reg.STATE, 3)] []).accepts (3 : Fin 4) (0x6100) (8) (((3 : Fin 4).val : Nat)) = true ∧
    (built [(Reg.STATE, 3)] [(flag Reg.KEY_MAP 0, 1), (flag Reg.KEY_MAP 1, 1), (flag Reg.KEY_MAP 2, 1), (flag Reg.KEY_MAP 3, 1), (flag Reg.KEY_MAP 8, 1)]).procRuns = true ∧
    (built [(Reg.STATE, 3)] [(flag Reg.KEY_MAP 0, 1), (flag Reg.KEY_MAP 1, 1), (flag Reg.KEY_MAP 2, 1), (flag Reg.KEY_MAP 3, 1), (flag Reg.KEY_MAP 8, 1)]).writeAbort (3 : Fin 4) (true : Bool) 0x6100 12 (rawOf 0x6100 12 3).1 (rawOf 0x6100 12 3).2 = 0 ∧
    (built [(Reg.STATE, 3), (Reg.DEBUG_STATE, 1)] []).procRuns = true ∧
    (built [(Reg.STATE, 3), (Reg.DEBUG_STATE, 1)] []).writeAbort (3 : Fin 4) false 0x6100 12 (rawOf 0x6100 12 4).1 (rawOf 0x6100 12 4).2 = 0 ∧
    (built [(Reg.STATE, 3)] []).writeAbort (3 : Fin 4) (true : Bool) 0x6100 12 (rawOf 0x6100 12 1).1 (rawOf 0x6100 12 1).2 = 0 ∧
    (built [(Reg.STATE, 3)] []).writeAbort (3 : Fin 4) (true : Bool) 0x6100 12 (rawOf 0x6100 12 2).1 (rawOf 0x6100 12 2).2 = 0 ∧
    (built [] []).windowOpen = false := by
  refine ⟨?_, ?_, ?_, ?_, ?_, ?_, ?_, ?_, ?_, ?_, ?_, ?_, ?_, ?_, ?_⟩ <;> decide

end Sys2Proof.Machine
end

/-!
Rounding to the nearest integer (00_scope.md R706) and numbers as byte strings, least significant byte first (R8).
-/
namespace Sys2Proof.Machine

/-! ### round(a / b) -/

theorem roundDiv_of_nonneg {a : Int} (b : Int) (ha : 0 ≤ a) : roundDiv a b = (2 * a + b) / (2 * b) := if_pos ha

theorem roundDiv_of_neg {a : Int} (b : Int) (ha : a < 0) : roundDiv a b = -roundDiv (-a) b := by
  rw [roundDiv_of_nonneg b (by omega : 0 ≤ -a)]
  exact if_neg (by omega)

/-- What is left of `a ≥ 0` after rounding: a half goes up, so the upper bound is strict. -/
theorem roundDiv_remainder_of_nonneg {a b : Int} (ha : 0 ≤ a) (hb : 0 < b) :
    -b ≤ 2 * (a - b * roundDiv a b) ∧ 2 * (a - b * roundDiv a b) < b := by
  rw [roundDiv_of_nonneg b ha]
  have hle : 2 * b * ((2 * a + b) / (2 * b)) ≤ 2 * a + b := Int.mul_ediv_self_le (by omega)
  have hlt : 2 * a + b < 2 * b * ((2 * a + b) / (2 * b)) + 2 * b := Int.lt_mul_ediv_self_add (by omega)
  rw [Int.mul_assoc] at hle hlt
  omega

/-- What is left of `a < 0` after rounding: a half goes down, the mirror image of the case `0 ≤ a`. -/
theorem roundDiv_remainder_of_neg {a b : Int} (ha : a < 0) (hb : 0 < b) :
    -b < 2 * (a - b * roundDiv a b) ∧ 2 * (a - b * roundDiv a b) ≤ b := by
  obtain ⟨hlo, hhi⟩ := roundDiv_remainder_of_nonneg (by omega : 0 ≤ -a) hb
  rw [roundDiv_of_neg b ha, Int.mul_neg]
  omega

theorem roundDiv_within_half (a : Int) {b : Int} (hb : 0 < b) : 2 * (a - b * roundDiv a b).natAbs ≤ b := by
  rcases Int.lt_or_le a 0 with ha | ha
  · have hrem := roundDiv_remainder_of_neg ha hb
    omega
  · have hrem := roundDiv_remainder_of_nonneg ha hb
    omega

theorem roundDiv_half_away_from_zero {a b : Int} (hb : 0 < b)
    (hhalf : 2 * ((a - b * roundDiv a b).natAbs : Int) = b) : a.natAbs < (b * roundDiv a b).natAbs := by
  rcases Int.lt_or_le a 0 with ha | ha
  · have hrem := roundDiv_remainder_of_neg ha hb
    omega
  · have hrem := roundDiv_remainder_of_nonneg ha hb
    omega

/-- Settles O19: the remainder lies between −b / 2 and b / 2, and the sign of `a` decides which of the two ends it can reach. -/
theorem roundingIsToNearest : Obligations.RoundingIsToNearest := by
  intro a b hb
  refine ⟨roundDiv_within_half a hb, roundDiv_half_away_from_zero hb, Int.mul_ediv_self_le (Int.ne_of_gt hb), ?_⟩
  intro n hn
  exact (Int.le_ediv_iff_mul_le hb).2 (Int.mul_comm b n ▸ hn)

/-! ### Bytes of a number -/

@[simp] theorem leBytes_length (n v : Nat) : (leBytes n v).length = n := by
  induction n generalizing v with
  | zero => rfl
  | succ n ih => simp [leBytes, ih]

theorem ofLe_leBytes (n v : Nat) : ofLe (leBytes n v) = v % 256 ^ n := by
  induction n generalizing v with
  | zero => simp [leBytes, ofLe, Nat.mod_one]
  | succ n ih =>
    calc ofLe (leBytes (n + 1) v) = v % 256 + 256 * ofLe (leBytes n (v / 256)) := by
          simp [leBytes, ofLe]
      _ = v % 256 + 256 * (v / 256 % 256 ^ n) := by rw [ih]
      _ = v % 256 ^ (n + 1) := by rw [Nat.pow_succ', Nat.mod_mul]

/-- Settles O20, by induction on the number of bytes: each takes the lowest base-256 digit off the number. -/
theorem bytesLeastSignificantFirst : Obligations.BytesLeastSignificantFirst :=
  fun n v => ⟨leBytes_length n v, ofLe_leBytes n v⟩

end Sys2Proof.Machine

/-!
What each command keeps (01_architecture.md R34; 11_shaft_and_pit_log.md R476; 12_dictionary.md R489): its outcome came from the state it
found by operations that keep the canonical form and the queue and take no free value back. A command is a plane's gate around an effect;
the gate keeps what the effect keeps.
-/
namespace Sys2Proof.Machine

/-- Where the outcome `r` is a next state, that state came from `a` by operations that keep what `Kept` says. -/
def Keeps (a : State) (r : Result) : Prop := ∀ t, r = .next t → Kept a t

namespace Keeps

variable {a s : State} {f g : State → State} {r r' : Result}

theorem next (h : Kept a s) : Keeps a (.next s) := by
  rintro _ ⟨⟩
  exact h

theorem done (h : Kept a s) : Keeps a s.done := fun _ e => State.done_kept h e

theorem ite {c : Prop} [Decidable c] (h : Keeps a r) (h' : Keeps a r') : Keeps a (if c then r else r') := by
  split <;> assumption

theorem ppDo (h : ∀ t, Kept s t → Kept s (f t)) : Keeps s (s.ppDo f) := fun _ e => State.ppDo_kept (.refl s) h e

theorem procDo (h : ∀ t, Kept s t → Kept s (f t)) : Keeps s (s.procDo f) := fun _ e => State.procDo_kept (.refl s) h e

theorem wdDo (h : ∀ t, Kept s t → Kept s (f t)) : Keeps s (s.wdDo f) := fun _ e => State.wdDo_kept (.refl s) h e

theorem coreDo (h : ∀ t, Kept s t → Kept s (f t)) : Keeps s (s.coreDo f) := fun _ e => State.coreDo_kept (.refl s) h e

theorem causeDo (h : ∀ t, Kept s t → Kept s (f t)) : Keeps s (s.causeDo f) := fun _ e => State.causeDo_kept (.refl s) h e

theorem orJoins (h : ∀ t, Kept s t → Kept s (g t)) (h' : Keeps s r) : Keeps s (s.orJoins f g r) :=
  .ite (.done (h s (.refl s))) h'

theorem hostWrite {level idx sub : Nat} {v : Int} : Keeps s (s.hostWrite level idx sub v) :=
  fun _ e => State.hostWrite_kept (.refl s) level idx sub v e

theorem request {src port level tid svc : Nat} {body : List Byte} :
    Keeps s (s.procDo fun t => t.request src port level tid svc body) := .procDo fun _ h => State.request_kept h _ _ _ _ _ _

theorem loop {l w mask cyc : Nat} {f : Nat → State → State} (h : ∀ j t, Kept s t → Kept s (f j t)) :
    Keeps s (s.ppDo fun t => t.loopDo l w mask cyc f) := .ppDo fun _ k => State.loopDo_kept k l w mask cyc h

end Keeps

section
open State
variable {s : State}

/-! ### The breaker engine -/

theorem execLeadExpiry_keeps {n} : Keeps s (execLeadExpiry n s) :=
  .ppDo fun _ h => .ite (leadEnds_kept h _) h

theorem execChannelSample_keeps {n iMa vMv vinMv} : Keeps s (execChannelSample n iMa vMv vinMv s) :=
  .ppDo fun _ h => .ite h (.ite (ctxSample_kept (toTickOf_kept (wr_kept h _ _) _ _) _ _ _ _) (wr_kept h _ _))

theorem execOffDecayExpiry_keeps {n} : Keeps s (execOffDecayExpiry n s) :=
  .ppDo fun _ h => .ite h (.ite (.ite (enablePasses_kept (wr_kept h _ _) _) (enableFails_kept (wr_kept h _ _) _)) (wr_kept h _ _))

theorem execInrushTimeout_keeps {n} : Keeps s (execInrushTimeout n s) :=
  .ppDo fun _ h => .ite (trip_kept h _ _) h

theorem execGateDriveFault_keeps {x} : Keeps s (execGateDriveFault x s) :=
  .ppDo fun _ h => .ite (.ite (wr_kept h _ _) (.ite (raise_kept (trip_kept h _ _) _) h)) h

theorem execDirectShort_keeps {x} : Keeps s (execDirectShort x s) :=
  .ppDo fun _ h => .ite (trip_kept h _ _) h

theorem execCurrentLimitReached_keeps {x} : Keeps s (execCurrentLimitReached x s) :=
  .ppDo fun _ h => .ite h (.ite (limitOn_kept h _) (.ite (setFld_kept h _ _) h))

theorem execFaultTimerExpiry_keeps {n} : Keeps s (execFaultTimerExpiry n s) :=
  .ppDo fun _ h => .ite (trip_kept (runTimer_kept h _) _ _) (runTimer_kept h _)

theorem execRetryTimerExpiry_keeps {n} : Keeps s (execRetryTimerExpiry n s) :=
  .ppDo fun _ h => .ite (retryEnds_kept h _) h

theorem execRetryClear_keeps {n} : Keeps s (execRetryClear n s) :=
  .ppDo fun _ h => .ite (wr_kept h _ _) h

theorem execCurrentLimitRelease_keeps {x} : Keeps s (execCurrentLimitRelease x s) :=
  .ppDo fun _ h => .ite h (.ite (limitOff_kept h _) (.ite (setFld_kept h _ _) h))

/-! ### The dictionary and the Dengon protocol -/

theorem execPduReceive_keeps {port bytes} : Keeps s (execPduReceive port bytes s) :=
  .procDo fun _ h => .ite (pduReceive_kept h _ _) h

theorem execBundle_keeps {src port level tid entries} : Keeps s (execBundle src port level tid entries s) :=
  .procDo fun _ h => cutting_kept h _ fun _ h => request_kept h _ _ _ _ _ _

theorem execDomainEnd_keeps {src port level tid fin} : Keeps s (execDomainEnd src port level tid fin s) :=
  .procDo fun _ h => cutting_kept h _ fun _ h => request_kept h _ _ _ _ _ _

theorem execDomainTransferTimeout_keeps {src} : Keeps s (execDomainTransferTimeout src s) :=
  .procDo fun t h => by
    cases t.transfers.find? fun x => decide (x.src = src.val) && t.transferStale x with
    | none => exact h
    | some x => exact transferEnds_kept h x

theorem execAssign_keeps {src port tid unit addr} : Keeps s (execAssign src port tid unit addr s) :=
  .procDo fun _ h => .ite (heardFrom_kept h _ _ (fun _ h => serve_kept h _ _ _)) h

theorem execNotice_keeps : Keeps s (execNotice s) :=
  .procDo fun _ h => .ite (sendNotice_kept h) h

theorem execStreamSend_keeps : Keeps s (execStreamSend s) :=
  .procDo fun _ h => streamAll_kept h

theorem execCanFrameReceive_keeps {k id data} : Keeps s (execCanFrameReceive k id data s) :=
  .procDo fun _ h => canFrame_kept h _ _ _

theorem execCanReassemblyTimeout_keeps {k id} : Keeps s (execCanReassemblyTimeout k id s) :=
  .procDo fun _ h => .ite (canDiscard_kept h _ _) h

/-! ### Flash, images, update and security -/

theorem execSaveComplete_keeps : Keeps s (execSaveComplete s) :=
  .procDo fun _ h => .ite h (saveDone_kept h)

theorem execCardDetect_keeps {signature table content} : Keeps s (execCardDetect signature table content s) :=
  .procDo fun _ h => cardRead_kept h _ _

theorem execCardRemoval_keeps : Keeps s (execCardRemoval s) :=
  .procDo fun _ h => cardGone_kept h

theorem execImgOfferTimeout_keeps : Keeps s (execImgOfferTimeout s) :=
  .procDo fun _ h => .ite (instEnd_kept h) h

theorem execNvmOperationDone_keeps {ok owner} : Keeps s (execNvmOperationDone ok owner s) :=
  .ite (.done (nvmDone_kept (.refl s) _ _)) (.next (.refl s))

theorem execTrialConfirm_keeps : Keeps s (execTrialConfirm s) :=
  .procDo fun _ h => .ite h (.ite (.with_bootQ h _) (bootEntry_kept h _ _ _))

theorem execTrialTimeout_keeps : Keeps s (execTrialTimeout s) :=
  .procDo fun t h => by
    split
    · exact .ite h (bootEntry_kept (wr_kept (wr_kept (mark_kept h _ _ _) _ _) _ _) _ _ _)
    · exact h

theorem execSessionProve_keeps {src port tid pass} : Keeps s (execSessionProve src port tid pass s) :=
  .procDo fun _ h => .ite h
    (heardFrom_kept h _ _ fun _ h => .ite h (.ite (serve_kept h _ _ _) (proveFails_kept h)))

theorem execSessionClose_keeps {src port tid} : Keeps s (execSessionClose src port tid s) :=
  .procDo fun _ h => request_kept h _ _ _ _ _ _

theorem execSessionOpenLapse_keeps {src} : Keeps s (execSessionOpenLapse src s) :=
  .procDo fun _ h => .with_opens h _

theorem execSessionIdle_keeps {src} : Keeps s (execSessionIdle src s) :=
  .procDo fun _ h => .with_sessions h _

theorem execLock_keeps {level near} : Keeps s (execLock level near s) :=
  .procDo fun _ h => debugWrite_kept h _ _ _ _

theorem execRma_keeps {level} : Keeps s (execRma level s) :=
  .procDo fun _ h => debugWrite_kept h _ _ _ _

theorem execDebugEnter_keeps {level near ok} : Keeps s (execDebugEnter level near ok s) :=
  .procDo fun _ h => debugWrite_kept h _ _ _ _

theorem execScanEnter_keeps {level near ok} : Keeps s (execScanEnter level near ok s) :=
  .procDo fun _ h => debugWrite_kept h _ _ _ _

theorem execDebugPortRequest_keeps {ok} : Keeps s (execDebugPortRequest ok s) :=
  .procDo fun _ h => debugPort_kept h _

theorem execDebugWindowExpiry_keeps : Keeps s (execDebugWindowExpiry s) :=
  .procDo fun _ h => .ite h (wr_kept h _ _)

theorem execRelayResponseReceived_keeps {abort body} : Keeps s (execRelayResponseReceived abort body s) :=
  .procDo fun _ h => .ite (relayResponse_kept (.with_asks h _) _ _) h

/-! ### The network and local links -/

theorem execFrameReceive_keeps {c id bytes fcsOk} : Keeps s (execFrameReceive c id bytes fcsOk s) :=
  .procDo fun _ h => frameReceive_kept h _ _ _ _

theorem execBufferToGallery_keeps {c} : Keeps s (execBufferToGallery c s) :=
  .procDo fun _ h => .ite h (bufferOut_kept h _)

theorem execBeaconLoss_keeps : Keeps s (execBeaconLoss s) :=
  .procDo fun _ h => .ite (raise_kept (wr_kept (setFld_kept h _ _) _ _) _) h

theorem execBeaconReceived_keeps : Keeps s (execBeaconReceived s) :=
  .procDo fun _ h => .ite (wr_kept (wr_kept (setFld_kept h _ _) _ _) _ _) h

theorem execEthLinkLoss_keeps : Keeps s (execEthLinkLoss s) :=
  .procDo fun _ h => .ite (raise_kept (setFld_kept h _ _) _) h

theorem execEthLinkUp_keeps {speed} : Keeps s (execEthLinkUp speed s) :=
  .procDo fun _ h => .ite (setFld_kept (setFld_kept h _ _) _ _) h

theorem execAsSyncReceive_keeps {times} : Keeps s (execAsSyncReceive times s) :=
  .procDo fun _ h => asSync_kept h _

theorem execAsSyncLoss_keeps : Keeps s (execAsSyncLoss s) :=
  .procDo fun _ h => .ite (raise_kept (wr_kept (wr_kept (setFld_kept h _ _) _ _) _ _) _) h

theorem execCanBusOff_keeps {k} : Keeps s (execCanBusOff k s) :=
  .procDo fun _ h => .ite (raise_kept (inc32_kept (setFld_kept h _ _) _) _) h

theorem execCanRecover_keeps {k} : Keeps s (execCanRecover k s) :=
  .procDo fun _ h => .ite (wr_kept (wr_kept (setFld_kept h _ _) _ _) _ _) h

theorem execCanBusError_keeps {k tec rec} : Keeps s (execCanBusError k tec rec s) :=
  .procDo fun _ h => .ite (setFld_kept (wr_kept (wr_kept h _ _) _ _) _ _) h

theorem execReadStatus_keeps {n} : Keeps s (execReadStatus n s) :=
  .procDo fun _ h => spiStatus_kept h _

theorem execWritePdu_keeps {bytes} : Keeps s (execWritePdu bytes s) :=
  .procDo fun _ h => spiWrite_kept h _

theorem execReadPdu_keeps {n} : Keeps s (execReadPdu n s) :=
  .procDo fun _ h => spiRead_kept h _

theorem execSpiUnknownCmd_keeps {cmd n} : Keeps s (execSpiUnknownCmd cmd n s) :=
  .procDo fun _ h => .ite h (.ite (inc32_kept (drive_kept (spiFall_kept h) _ _) _) (spiFall_kept h))

theorem execSpiCsRise_keeps : Keeps s (execSpiCsRise s) :=
  .procDo fun _ h => spiRise_kept h

theorem execTwPointerWrite_keeps {k v} : Keeps s (execTwPointerWrite k v s) :=
  .procDo fun _ h => .ite (twPoint_kept h _ _) h

theorem execInFifo_keeps {k bytes} : Keeps s (execInFifo k bytes s) :=
  .procDo fun _ h => .ite (twWrite_kept h _ _) h

theorem execOutFifo_keeps {k n} : Keeps s (execOutFifo k n s) :=
  .procDo fun _ h => .ite (twRead_kept (twStart_kept h _) _ _) h

theorem execTwStatusRead_keeps {k n} : Keeps s (execTwStatusRead k n s) :=
  .procDo fun _ h => .ite (twStatus_kept (twStart_kept h _) _ _) h

theorem execTwStop_keeps {k} : Keeps s (execTwStop k s) :=
  .procDo fun _ h => .ite (twSees_kept h _ _) (.ite (twMasterSees_kept h _ _) h)

theorem execTwStretchTimeout_keeps {k} : Keeps s (execTwStretchTimeout k s) :=
  .coreDo fun _ h => .ite (twTimeout_kept (wr_kept h _ _) _) (.ite (twTimeout_kept h _) h)

theorem execTwControllerTimeout_keeps {k} : Keeps s (execTwControllerTimeout k s) :=
  .procDo fun _ h => .ite (raise_kept (inc32_kept (wr_kept (wr_kept (wr_kept h _ _) _ _) _ _) _) _) h

theorem execInBandRequest_keeps {k} : Keeps s (execInBandRequest k s) :=
  .procDo fun _ h => .ite h
    (.ite (.ite (wr_kept (wr_kept (wr_kept h _ _) _ _) _ _) h) (.ite (wr_kept (wr_kept (wr_kept h _ _) _ _) _ _) h))

theorem execInBandAnswer_keeps {k answer status pdu} : Keeps s (execInBandAnswer k answer status pdu s) :=
  .procDo fun _ h => ibrAnswer_kept h _ _ _ _

theorem execArbitrationLoss_keeps {k own} : Keeps s (execArbitrationLoss k own s) :=
  .procDo fun _ h => .ite (when_kept (twLoss_kept (inc32_kept h _) _) _ (fun _ h => wr_kept h _ _)) h

theorem execBusClear_keeps {k freed} : Keeps s (execBusClear k freed s) :=
  .procDo fun _ h => .ite h (.ite (busClear_kept h _ _) (.ite (busClear_kept (toAfter_kept h _ _) _ _) h))

theorem execWihanReceive_keeps {bytes bad} : Keeps s (execWihanReceive bytes bad s) :=
  .ppDo fun _ h => wsReceive_kept h _ _

theorem execSyncSend_keeps : Keeps s (execSyncSend s) :=
  .ppDo fun _ h => syncSend_kept (toTick_kept h _ _)

theorem execSyncReceive_keeps {addr hops tMaster corr} : Keeps s (execSyncReceive addr hops tMaster corr s) :=
  .ppDo fun _ h => .ite (syncReceive_kept (wsCount_kept h _) _ _ _ _) h

theorem execSyncLoss_keeps : Keeps s (execSyncLoss s) :=
  .ppDo fun _ h => .ite (syncLost_kept h) h

theorem execElectionTimeout_keeps : Keeps s (execElectionTimeout s) :=
  .ppDo fun _ h => .ite (wr_kept h _ _) h

theorem execShareSend_keeps : Keeps s (execShareSend s) :=
  .ppDo fun _ h => shareSend_kept (toShare_kept h)

theorem execAnnounceReceive_keeps {addr group ann stepMa tGate} : Keeps s (execAnnounceReceive addr group ann stepMa tGate s) :=
  .ppDo fun _ h => .ite (announceReceive_kept (wsCount_kept h _) _ _ _ _ _) h

theorem execWithdrawReceive_keeps {addr group ann} : Keeps s (execWithdrawReceive addr group ann s) :=
  .ppDo fun _ h => .ite (withdrawReceive_kept (wsCount_kept h _) _ _ _) h

theorem execFaultReceive_keeps {addr group kind} : Keeps s (execFaultReceive addr group kind s) :=
  .ppDo fun _ h => .ite (faultReceive_kept (wsCount_kept h _) _ _ _) h

theorem execShareLoadWindow_keeps {symbols} : Keeps s (execShareLoadWindow symbols s) :=
  .ppDo fun _ h => .ite (loadWindow_kept (toTick_kept h _ _)) h

theorem execWihanInLoss_keeps : Keeps s (execWihanInLoss s) :=
  .ppDo fun _ h => .ite (raise_kept (wr_kept (setFld_kept h _ _) _ _) _) h

theorem execWihanInReturn_keeps : Keeps s (execWihanInReturn s) :=
  .ppDo fun _ h => .ite (wr_kept (setFld_kept h _ _) _ _) h

/-! ### The loop engine and the winder -/

theorem execLaneTrigger_keeps {l} : Keeps s (execLaneTrigger l s) :=
  .ppDo fun _ h => .ite h (.ite (laneTrigger_kept (toTick_kept h _ _) _ _) (.ite (laneTrigger_kept (wr_kept h _ _) _ _) h))

theorem execSlotStart_keeps {j ecc} : Keeps s (execSlotStart j ecc s) :=
  .ppDo fun _ h => .ite (fetch_kept (wr_kept (slotBegin_kept h _) _ _) _) h

theorem execSkp_keeps {l cond a b cnt} : Keeps s (execSkp l cond a b cnt s) :=
  .ppDo fun _ h => .ite h (loopDo_kept h _ _ _ _ (fun _ _ h => .ite (wr_kept h _ _) h))

theorem execWinderStep_keeps : Keeps s (execWinderStep s) :=
  .ppDo fun _ h =>
    forUnits_kept (forUnits_kept (forUnits_kept (toTick_kept h _ _) _ fun _ _ h => windShow_kept (windOne_kept h _) _) _
      fun _ _ h => softStep_kept h _) _ fun _ _ h => refresh_kept h _

/-! ### The Shaft, the capture and the pit log -/

theorem execCreditRequest_keeps {g data} : Keeps s (execCreditRequest g data s) :=
  .ite (.done (askCredit_kept (.refl s) _ _)) (.ppDo fun _ h => .ite (dropBlock_kept h _) h)

theorem execBlockRelease_keeps {g} : Keeps s (execBlockRelease g s) :=
  .procDo fun _ h => .ite (.with_notices (freeBlock_kept h _) _) (.ite h (txRetry_kept (freeBlock_kept h _)))

theorem execProducerWaitTimeout_keeps {g} : Keeps s (execProducerWaitTimeout g s) :=
  .procDo fun _ h => .ite (raise_kept (wr_kept h _ _) _) h

theorem execScrub_keeps {corrected bad g place} : Keeps s (execScrub corrected bad g place s) :=
  .procDo fun _ h => .ite
    (raise_kept (poison_kept (inc16_kept (inc32_kept (wr_kept (eccCorrected_kept (toTick_kept h _ _) _) _ _) _) _) _ _) _)
    (wr_kept (eccCorrected_kept (toTick_kept h _ _) _) _ _)

theorem execStreamSample_keeps {g} : Keeps s (execStreamSample g s) :=
  .ppDo fun _ h => .ite (streamSample_kept h _) h

theorem execCaptureFrame_keeps {node scan} : Keeps s (execCaptureFrame node scan s) :=
  .ite (.done (captureFrame_kept (.refl s) _ _)) (.ite
    (.done (dropRecord_kept (toTick_kept (.refl s) _ _) _ _)) (.next (.refl s)))

theorem execCaptureTrigger_keeps {cause} : Keeps s (execCaptureTrigger cause s) :=
  .procDo fun _ h => .ite (capTrigger_kept h _) h

theorem execCaptureFreeze_keeps : Keeps s (execCaptureFreeze s) :=
  .procDo fun _ h => .ite (capFreeze_kept h) h

theorem execPitLogTick_keeps : Keeps s (execPitLogTick s) :=
  .coreDo fun _ h => pitTick_kept (toTick_kept h _ _)

theorem execLiveRefresh_keeps : Keeps s (execLiveRefresh s) :=
  .procDo fun _ h => liveRefresh_kept (toAfter_kept h _ _)

theorem execEpochPeriod_keeps : Keeps s (execEpochPeriod s) :=
  .procDo fun _ h => .ite (epochStart_kept h _) h

theorem execEpochCommit_keeps : Keeps s (execEpochCommit s) :=
  .procDo fun _ h => .ite (epochCommit_kept (plOpEnds_kept h _)) h

theorem execEpochFail_keeps {retired} : Keeps s (execEpochFail retired s) :=
  .procDo fun _ h => .ite (epochFail_kept (plOpEnds_kept h _) _) h

/-! ### The converter core -/

theorem execRailTrigger_keeps {r vMv iMa} : Keeps s (execRailTrigger r vMv iMa s) :=
  .ppDo fun _ h => trigger_kept (remoteGates_kept h _) _ _ _

theorem execOnTimeEnd_keeps {p riseMa} : Keeps s (execOnTimeEnd p riseMa s) :=
  .ppDo fun _ h => .ite
    (.ite (.ite (toMid_kept (compareRise_kept h _ _ _ _) _)
      (when_kept (toLow_kept (compareRise_kept h _ _ _ _) _) _ fun _ h => wr_kept h _ _)) h)
    (.ite (wr_kept (compareRise_kept h _ _ _ _) _ _) h)

theorem execFrequencyLockTrim_keeps {r} : Keeps s (execFrequencyLockTrim r s) :=
  .ppDo fun _ h => .ite (used_kept (wr_kept (wr_kept h _ _) _ _)) h

theorem execOnTimeClamp_keeps {r} : Keeps s (execOnTimeClamp r s) :=
  .ppDo fun _ h => .ite (raise_kept (wr_kept h _ _) _) h

theorem execVselCodeTaken_keeps {r code} : Keeps s (execVselCodeTaken r code s) :=
  .ppDo fun _ h => .ite (selectPoint_kept (wr_kept h _ _) _ _) (wr_kept h _ _)

theorem execPhaseShed_keeps {r} : Keeps s (execPhaseShed r s) :=
  .ppDo fun _ h => .ite (shedPhase_kept h _) h

theorem execPhaseAdd_keeps {r} : Keeps s (execPhaseAdd r s) :=
  .ppDo fun _ h => .ite (wr_kept (addPhase_kept (shedUndo_kept h _) _) _ _) h

theorem execShedRotation_keeps {r} : Keeps s (execShedRotation r s) :=
  .ppDo fun _ h => .ite (wr_kept h _ _) (.ite (wr_kept (wr_kept h _ _) _ _) h)

theorem execBurstEntry_keeps {r} : Keeps s (execBurstEntry r s) :=
  .ppDo fun _ h => .ite
    (forAll_kept (wr_kept (railTo_kept h _ _) _ _) _ fun _ _ h => when_kept (wr_kept h _ _) _ fun _ h => toMid_kept h _) h

theorem execBurstRefresh_keeps {r vMv iMa} : Keeps s (execBurstRefresh r vMv iMa s) :=
  .ppDo fun _ h => .ite (trigger_kept h _ _ _) h

theorem execBurstExit_keeps {r} : Keeps s (execBurstExit r s) :=
  .ppDo fun _ h => .ite (burstEnds_kept h _) h

theorem execPileIn_keeps {r vMv above} : Keeps s (execPileIn r vMv above s) :=
  .ppDo fun _ h => by
    have braked := brakeEnds_kept (wr_kept (burstEnds_kept h r) (Reg.rlAboveOvs r) 0) r
    have armed := wr_kept (setFld_kept braked (rlPilein r) 1) (Reg.rlPileArmed r) 0
    exact .ite (wr_kept (wr_kept (forAll_kept armed _ fun _ _ h =>
      .ite (wrB_kept (activate_kept h _) _ _) (turnOn_kept (wr_kept (wrB_kept (activate_kept h _) _ _) _ _) _ _)) _ _) _ _) h

theorem execPileInRearm_keeps {r vMv} : Keeps s (execPileInRearm r vMv s) :=
  .ppDo fun _ h => .ite (wr_kept (setFld_kept h _ _) _ _) h

theorem execOvershootTruncation_keeps {r vMv} : Keeps s (execOvershootTruncation r vMv s) :=
  .ppDo fun _ h => .ite
    (.ite (setFld_kept (forAll_kept (wr_kept h _ _) _ fun _ _ h => truncate_kept h _ _) _ _)
      (forAll_kept (wr_kept h _ _) _ fun _ _ h => truncate_kept h _ _)) h

theorem execBrakingEnd_keeps {r vMv} : Keeps s (execBrakingEnd r vMv s) :=
  .ppDo fun _ h => .ite (turnOns_kept (wr_kept (brakeEnds_kept h _) _ _) _) h

theorem execOffsetDecayEnd_keeps {r} : Keeps s (execOffsetDecayEnd r s) :=
  .ppDo fun _ h => ffActive_kept (removeAnns_kept (remoteGates_kept h _) _) _

theorem execValleyLimit_keeps {p iMa} : Keeps s (execValleyLimit p iMa s) :=
  .ppDo fun _ h => .ite
    (.ite (valleyWait_kept (when_kept (wr_kept h _ _) _ fun _ h => wr_kept h _ _) _ _) (turnOn_kept (wr_kept h _ _) _ _)) h

theorem execHiccupEntry_keeps {r} : Keeps s (execHiccupEntry r s) :=
  .ppDo fun _ h => .ite (railHiccup_kept h _ _) h

theorem execSoftRetry_keeps {r} : Keeps s (execSoftRetry r s) :=
  .ppDo fun _ h => .ite (softRetry_kept h _) h

theorem execFastShortCircuit_keeps {p iMa} : Keeps s (execFastShortCircuit p iMa s) :=
  .ppDo fun _ h => .ite
    (.ite (shortLow_kept (railHiccup_kept (raise_kept h _) _ _) _)
      (.ite (shortLow_kept (raise_kept h _) _) (.ite (raise_kept h _) h))) h

theorem execPhaseZeroCrossing_keeps {x} : Keeps s (execPhaseZeroCrossing x s) :=
  .ppDo fun _ h => .ite (.ite (toMid_kept h _) h) (.ite (toMid_kept h _) h)

theorem execSlowOverload_keeps {r avgMa} : Keeps s (execSlowOverload r avgMa s) :=
  .ppDo fun _ h => .ite
    (.ite (.ite (overloaded_kept (raise_kept (wr_kept h _ _) _) _) (enterLimit_kept (raise_kept (wr_kept h _ _) _) _)) h) h

theorem execDegradeHoldExpiry_keeps {r} : Keeps s (execDegradeHoldExpiry r s) :=
  .ppDo fun _ h => .ite (wr_kept h _ _) h

theorem execLimitExit_keeps {r avgMa} : Keeps s (execLimitExit r avgMa s) :=
  .ppDo fun _ h => .ite (.ite (wr_kept (wr_kept (wr_kept (railTo_kept h _ _) _ _) _ _) _ _) h) h

theorem execPhaseOpenDetect_keeps {p} : Keeps s (execPhaseOpenDetect p s) :=
  .ppDo fun _ h => .ite (raise_kept (cagePhase_kept h _ _) _) h

theorem execPhaseSenseRange_keeps {p mv} : Keeps s (execPhaseSenseRange p mv s) :=
  .ppDo fun _ h => .ite (raise_kept (cagePhase_kept h _ _) _) h

/-! ### The collector, the watchdog, the deputy and the resets -/

theorem execWindowExpiry_keeps {f} : Keeps s (execWindowExpiry f s) :=
  .ppDo fun _ h => .ite (setFld_kept (wr_kept h _ _) _ _) h

theorem execWatchdogExpiry_keeps : Keeps s (execWatchdogExpiry s) :=
  .causeDo fun _ h => .ite (wdExpires_kept h) h

theorem execWdtSvc_keeps {key e} : Keeps s (execWdtSvc key e s) :=
  .orJoins (fun _ h => wdViolation_kept h) (.wdDo fun _ h => wdService_kept h _ _)

theorem execWdtPeriod_keeps {v} : Keeps s (execWdtPeriod v s) :=
  .orJoins (fun _ h => wdViolation_kept h) (.wdDo fun _ h => wdNewPeriod_kept h _)

theorem execLockstepMismatch_keeps : Keeps s (execLockstepMismatch s) :=
  .causeDo fun _ h => wantReset_kept (raise_kept h _) _

theorem execForeignWrite_keeps : Keeps s (execForeignWrite s) :=
  .wdDo fun _ h => raise_kept (inc16_kept h _) _

theorem execHeartbeatMissed_keeps {again halted} : Keeps s (execHeartbeatMissed again halted s) :=
  .orJoins (fun _ h => heartLost_kept h) (.procDo fun _ h => heartMissed_kept h _ _)

theorem execConfigCheck_keeps {mismatch} : Keeps s (execConfigCheck mismatch s) :=
  .procDo fun _ h => .ite (cfgCheck_kept (wr_kept (toAfter_kept h _ _) _ _) _) h

theorem execResetCmd_keeps {level} : Keeps s (execResetCmd level s) :=
  .orJoins (fun _ h => wantReset_kept h _) .hostWrite

theorem execProcResetEnd_keeps {zeroOk} : Keeps s (execProcResetEnd zeroOk s) :=
  .ite
    (.done (.ite (procEnd_kept (.refl s)) (raise_kept (setFld_kept (procEnd_kept (.refl s)) _ _) _))) (.next (.refl s))

theorem execPlaneReady_keeps {okA okB mismatch} : Keeps s (execPlaneReady okA okB mismatch s) :=
  .ite (.done (becomeReady_kept (.refl s) _ _)) (.next (.refl s))

theorem execPpResetEnd_keeps : Keeps s (execPpResetEnd s) :=
  .ite (.done (ppEnd_kept (.refl s))) (.next (.refl s))

theorem execHoldTimeout_keeps : Keeps s (execHoldTimeout s) :=
  .ppDo fun _ h => .ite (advance_kept (raise_kept (wr_kept h _ _) _) _) h

theorem execResetN_keeps {lowNs seconds} : Keeps s (execResetN lowNs seconds s) :=
  .ite (.next (.refl s)) (.ite
    (.done (.ite (resetPin_kept (used_kept (.refl s)) _) (used_kept (.refl s)))) (.done (resetPin_kept (.refl s) _)))

theorem execRootClockLoss_keeps : Keeps s (execRootClockLoss s) :=
  .coreDo fun _ h => raise_kept (setFld_kept (setFld_kept h _ _) _ _) _

theorem execRootClockReturn_keeps : Keeps s (execRootClockReturn s) :=
  .coreDo fun _ h => setFld_kept h _ _

theorem execPowerOnReset_keeps : Keeps s (execPowerOnReset s) :=
  have h : Kept s (if s.on Reg.corePowered then (s.wr Reg.wakeWithPower 0).coldReset 1 false none else s.wr Reg.wakeWithPower 0) :=
    .ite (coldReset_kept (wr_kept (.refl s) _ _) _ _ _) (wr_kept (.refl s) _ _)
  .done (.ite h (wr_kept h _ _))

theorem execCoreSupplyUndervoltage_keeps : Keeps s (execCoreSupplyUndervoltage s) :=
  .ite (.done (coldReset_kept (.refl s) _ _ _)) (.next (.refl s))

theorem execVsupPowerOn_keeps {seconds} : Keeps s (execVsupPowerOn seconds s) :=
  .ite (.done (wr_kept (.refl s) _ _)) (.ite (.next (.refl s))
    (.ite (.done (wr_kept (.refl s) _ _)) (.done (coldReset_kept (wr_kept (.refl s) _ _) _ _ _))))

/-! ### The ring ports and the hold-up -/

theorem execPilotOutChange_keeps {p shuntUv vrMv} : Keeps s (execPilotOutChange p shuntUv vrMv s) :=
  .coreDo fun _ h => setBit_kept h _ _

theorem execPilotQualified_keeps {p high} : Keeps s (execPilotQualified p high s) :=
  .coreDo fun _ h => setBit_kept h _ _

theorem execDirectionalTrip_keeps {p shuntUv} : Keeps s (execDirectionalTrip p shuntUv s) :=
  .coreDo fun _ h => .ite (rpTrip_kept h _ _) h

theorem execBackupOutwardTrip_keeps {p shuntUv} : Keeps s (execBackupOutwardTrip p shuntUv s) :=
  .coreDo fun _ h => .ite (rpTrip_kept h _ _) h

theorem execInwardTrip_keeps {p shuntUv} : Keeps s (execInwardTrip p shuntUv s) :=
  .coreDo fun _ h => .ite (rpTrip_kept h _ _) h

theorem execSwitchFailed_keeps {p shuntUv} : Keeps s (execSwitchFailed p shuntUv s) :=
  .coreDo fun _ h => .ite
    (.ite (rpRaise_kept (wr_kept (setFld_kept (setFld_kept (wr_kept h _ _) _ _) _ _) _ _) _ _) (wr_kept h _ _)) h

theorem execTestPulseSend_keeps {p} : Keeps s (execTestPulseSend p s) :=
  .ppDo fun _ h => .ite (.with_outbox (toTick_kept h _ _) _) (toTick_kept h _ _)

theorem execTestPulseReceived_keeps {p ns} : Keeps s (execTestPulseReceived p ns s) :=
  .ppDo fun _ h => .ite (rpSupervise_kept (setFld_kept h _ _) _) h

theorem execPilotMiss_keeps {p} : Keeps s (execPilotMiss p s) :=
  .ppDo fun _ h => .ite (rpRaise_kept (inc32_kept (wr_kept (setFld_kept h _ _) _ _) _) _ _) h

theorem execPilotStuck_keeps {p vrMv} : Keeps s (execPilotStuck p vrMv s) :=
  .coreDo fun _ h => .ite (rpRaise_kept (setFld_kept h _ _) _ _) h

theorem execPilotStuckClear_keeps {p} : Keeps s (execPilotStuckClear p s) :=
  .coreDo fun _ h => setFld_kept (setFld_kept h _ _) _ _

theorem execPrechargeQualified_keeps {p vlMv vrMv} : Keeps s (execPrechargeQualified p vlMv vrMv s) :=
  .ppDo fun _ h => .ite (.ite (rpClosed_kept h _) h) h

theorem execPrechargeTimeout_keeps {p} : Keeps s (execPrechargeTimeout p s) :=
  .ppDo fun _ h => .ite (rpClosed_kept h _) (.ite (rpRaise_kept (inc16_kept (rpOpens_kept h _ _ _) _) _ _) h)

theorem execFeedSet_keeps {nodeMv fallMv} : Keeps s (execFeedSet nodeMv fallMv s) :=
  .ppDo fun _ h => .ite (.ite (holdEnter_kept (.ite (ifwCause_kept h _ _) h) _) (.ite (ifwCause_kept h _ _) h)) h

theorem execIfwConditionClear_keeps {c} : Keeps s (execIfwConditionClear c s) :=
  .ppDo fun _ h => .ite (.ite (feedByWarning_kept (ifwSet_kept h _ _)) (ifwSet_kept h _ _)) h

theorem execIfwBroadcast_keeps : Keeps s (execIfwBroadcast s) :=
  .procDo fun t h => by
    split
    · exact h
    · exact .ite (ifwSend_kept (.with_ifwDue h _) _ _) (.with_ifwDue h _)

theorem execIfwBroadcastRepeat_keeps : Keeps s (execIfwBroadcastRepeat s) :=
  .procDo fun _ h => .ite (ifwSend_kept h _ _) h

theorem execIfwBroadcastReceive_keeps {src status timeNs} : Keeps s (execIfwBroadcastReceive src status timeNs s) :=
  .procDo fun _ h => .ite (heardFrom_kept h _ _ (fun _ h => .ite h (ifwReceive_kept h _ _ _))) h

theorem execPeerForget_keeps {src} : Keeps s (execPeerForget src s) :=
  .ppDo fun _ h => .ite (peerEval_kept (wr_kept h _ _)) h

theorem execHoldEntry_keeps {nodeMv fallMv} : Keeps s (execHoldEntry nodeMv fallMv s) :=
  .ppDo fun _ h => .ite (.ite (holdEnter_kept h _) (.ite (holdEnter_kept h _) h)) h

theorem execHoldExit_keeps {nodeMv} : Keeps s (execHoldExit nodeMv s) :=
  .ppDo fun _ h => .ite (.ite h (.ite (holdUnable_kept (storeExhausted_kept h)) (.ite (feedByHold_kept (holdLeave_kept h)) h))) h

theorem execStorageExhausted_keeps {storeMv} : Keeps s (execStorageExhausted storeMv s) :=
  .ppDo fun _ h => .ite (.ite (holdUnable_kept (storeExhausted_kept h)) h) h

theorem execChargeEntry_keeps {nodeMv} : Keeps s (execChargeEntry nodeMv s) :=
  .ppDo fun _ h => .ite (.ite (propDrive_kept (setFld_kept (setFld_kept (inhibitEval_kept h) _ _) _ _)) (inhibitEval_kept h)) h

theorem execCvEntry_keeps {storeMv} : Keeps s (execCvEntry storeMv s) :=
  .ppDo fun _ h => .ite (.ite (propDrive_kept (setFld_kept h _ _)) h) h

theorem execChargeDone_keeps {storeMa} : Keeps s (execChargeDone storeMa s) :=
  .ppDo fun _ h => .ite (.ite (chargeLeave_kept (setFld_kept h _ _)) h) h

theorem execStoreOvp_keeps {storeMv} : Keeps s (execStoreOvp storeMv s) :=
  .ppDo fun _ h => .ite
    (.ite (inhibitEval_kept (when_kept (raise_kept (wr_kept (setFld_kept h _ _) _ _) _) _ fun _ h => chargeLeave_kept h)) h) h

theorem execChargeNodeLow_keeps {nodeMv} : Keeps s (execChargeNodeLow nodeMv s) :=
  .ppDo fun _ h => .ite (.ite (inhibitEval_kept (chargeLeave_kept (propInterrupt_kept h))) h) h

theorem execPropPhaseCage_keeps {k mv} : Keeps s (execPropPhaseCage k mv s) :=
  .ppDo fun _ h => .ite (when_kept (propCage_kept h _) _ (fun _ h => holdUnable_kept h)) h

theorem execStorageSample_keeps {nodeMv storeMv storeMa eMa eVl eVr wMa wVl wVr} :
    Keeps s (execStorageSample nodeMv storeMv storeMa eMa eVl eVr wMa wVl wVr s) :=
  .ppDo fun _ h => by
    have taken := takeMv_kept (takeMv_kept (toTick_kept h 0 10000) Reg.NODE_MV 0) Reg.STORE_MV
    exact .ite (pitStorage_kept (samplePower_kept (storeEval_kept (storeCount_kept (holdRaise_kept
      (when_kept (rpSample_kept (rpSample_kept (takeStoreMa_kept (taken _)) _) _) _ fun _ h => wr_kept h _ _)) _ _)))) h

/-! ### The satellite link -/

theorem execRoundStart_keeps {p} : Keeps s (execRoundStart p s) :=
  .ppDo fun _ h => roundStart_kept (toRound_kept h _) _

theorem execRoundJudge_keeps {p frame rttNs errs} : Keeps s (execRoundJudge p frame rttNs errs s) :=
  .ppDo fun _ h => .ite h (roundJudge_kept (wr_kept h _ _) _ _ _ _)

theorem execPositionLost_keeps {q} : Keeps s (execPositionLost q s) :=
  .ppDo fun _ h => .ite (posLost_kept h _) h

theorem execPortDown_keeps {p} : Keeps s (execPortDown p s) :=
  .ppDo fun _ h => .ite (portDown_kept h _) h

theorem execPositionReturn_keeps {q} : Keeps s (execPositionReturn q s) :=
  .ppDo fun _ h => .ite (posConfig_kept h _) h

/-! ### Conversions, monitors and the thermal manager -/

theorem execConversionResult_keeps {x input code} : Keeps s (execConversionResult x input code s) :=
  .ppDo fun _ h => convert_kept h _ _ _ _

theorem execScanRoundStart_keeps : Keeps s (execScanRoundStart s) :=
  .ppDo fun _ h => .ite (roundBegins_kept h) h

theorem execScanRoundEnd_keeps : Keeps s (execScanRoundEnd s) :=
  .ppDo fun _ h => .ite (laneScan_kept (inc32_kept (wr_kept h _ _) _)) h

theorem execMonitorCrossing_keeps {m uv} : Keeps s (execMonitorCrossing m uv s) :=
  .ppDo fun _ h => mnCross_kept h _ _

theorem execMonitorFilter_keeps {m} : Keeps s (execMonitorFilter m s) :=
  .ppDo fun _ h => .ite (mnFilter_kept h _) h

theorem execAutoCheck_keeps {m known} : Keeps s (execAutoCheck m known s) :=
  .ppDo fun _ h => mnAutoCheck_kept h _ _

theorem execCheckEnd_keeps {m result} : Keeps s (execCheckEnd m result s) :=
  .ppDo fun _ h => mnCheckEnd_kept h _ _

theorem execThermalSample_keeps {x v good} : Keeps s (execThermalSample x v good s) :=
  .ite (.done (dieJoins_kept (.refl s) _)) (.ppDo fun _ h => thermSample_kept h _ _ _)

theorem execDieComparator_keeps : Keeps s (execDieComparator s) :=
  .ite (.next (.refl s)) (.ite
    (.next (dieJoins_kept (wr_kept (.refl s) _ _) _)) (.done (wantPpReset_kept (wr_kept (raise_kept (.refl s) _) _ _) _ _)))

theorem execDieComparatorRelease_keeps : Keeps s (execDieComparatorRelease s) :=
  .next (wr_kept (.refl s) _ _)

/-! ### The sequencer -/

theorem execNodeOnDelayExpiry_keeps {k} : Keeps s (execNodeOnDelayExpiry k s) :=
  .ppDo fun _ h => .ite (nodeAssert_kept h _) h

theorem execNodePowerGood_keeps {k pin} : Keeps s (execNodePowerGood k pin s) :=
  .ppDo fun _ h => .ite (nodeRise_kept (pgPin_kept h _ _ _) _) (pgPin_kept h _ _ _)

theorem execNodeQualified_keeps {k} : Keeps s (execNodeQualified k s) :=
  .ppDo fun _ h => .ite (nodeEnter_kept h _ _) h

theorem execPgTimeout_keeps {k} : Keeps s (execPgTimeout k s) :=
  .ppDo fun _ h => .ite (nodeFault_kept h _ _) h

theorem execNodeOffDelayExpiry_keeps {k} : Keeps s (execNodeOffDelayExpiry k s) :=
  .ppDo fun _ h => .ite (nodeRampDown_kept h _) h

theorem execNodeRampDownDone_keeps {k pin} : Keeps s (execNodeRampDownDone k pin s) :=
  .ppDo fun _ h => .ite (nodeEnter_kept (pgPin_kept h _ _ _) _ _) (pgPin_kept h _ _ _)

theorem execOffTimeout_keeps {k} : Keeps s (execOffTimeout k s) :=
  .ppDo fun _ h => .ite (nodeFault_kept h _ _) h

theorem execNodeFaultCondition_keeps {k pin} : Keeps s (execNodeFaultCondition k pin s) :=
  .ppDo fun _ h => .ite (ftFollow_kept (pgPin_kept h _ _ _) _) (pgPin_kept h _ _ _)

theorem execNodeFaultTimerExpiry_keeps {k} : Keeps s (execNodeFaultTimerExpiry k s) :=
  .ppDo fun _ h => .ite (nodeFault_kept h _ _) h

theorem execLossShutdown_keeps {trigger} : Keeps s (execLossShutdown trigger s) :=
  .ppDo fun _ h => .ite (lossStart_kept h _) h

/-! ### The start, the lamp check, the wake and the supplies -/

theorem execConfiguredEntry_keeps {fails} : Keeps s (execConfiguredEntry fails s) :=
  .ppDo fun _ h => .ite h (.ite (configure_kept h _ _) (startHalts_kept h _ _))

theorem execStartHaltRetry_keeps : Keeps s (execStartHaltRetry s) :=
  .ppDo fun _ h => .ite (wr_kept (wr_kept h _ _) _ _) h

theorem execCrystalTimeout_keeps : Keeps s (execCrystalTimeout s) :=
  .ppDo fun _ h => .ite (raise_kept (setFld_kept (setFld_kept h _ _) _ _) _) h

theorem execLampUnitDone_keeps {coverage durUs fails} : Keeps s (execLampUnitDone coverage durUs fails s) :=
  .ppDo fun _ h => .ite h <| lampBudget_kept <|
    .ite (lampEntry_kept (setFld_kept h _ _) _ _ _ _) <|
    lampEntry_kept (raise_kept (foldl_kept (setFld_kept h _ _) _ fun _ _ h => logFailure_kept h _ _ _) _) _ _ _ _

theorem execLampTimeout_keeps : Keeps s (execLampTimeout s) :=
  .ppDo fun _ h => lampBudget_kept h

theorem execWake_keeps {k x} : Keeps s (execWake k x s) :=
  .ite (.next (.refl s)) (.ite
    (.ite (.done (wr_kept (wr_kept (.refl s) _ _) _ _)) (.next (.refl s)))
    (.ite (.next (.refl s)) (.ite (.done (coldReset_kept (.refl s) _ _ _))
      (.done (setFld_kept (wr_kept (wr_kept (.refl s) _ _) _ _) _ _)))))

theorem execWakePendingStart_keeps {seconds} : Keeps s (execWakePendingStart seconds s) :=
  .ite (.next (.refl s)) (.done (wr_kept (wr_kept (.refl s) _ _) _ _))

theorem execSupplyDip_keeps {k} : Keeps s (execSupplyDip k s) :=
  .ite
    (.done (.ite (when_kept (setFld_kept (.refl s) _ _) _ fun _ h => wr_kept h _ _)
      (.ite (when_kept (setFld_kept (.refl s) _ _) _ fun _ h => wr_kept h _ _)
        (wr_kept (inc16_kept (wr_kept (mark_kept (noteBefore_kept (setFld_kept (.refl s) _ _) _) _ _ _) _ _) _) _ _))))
    (.next (.refl s))

theorem execSupplyHoldRelease_keeps : Keeps s (execSupplyHoldRelease s) :=
  .ppDo fun _ h => .ite
    (.ite (setFld_kept (wr_kept (setFld_kept (setFld_kept h _ _) _ _) _ _) _ _) (wr_kept (setFld_kept (setFld_kept h _ _) _ _) _ _)) h

theorem execIoSupplyLoss_keeps {k} : Keeps s (execIoSupplyLoss k s) :=
  have stopped (l : List Nat) := forAll_kept (f := fun c v => v.portReset c)
    (inc16_kept (wr_kept (setFld_kept (.refl s) (flag Reg.SUP_STATUS (2 + k)) 0) (Reg.ioStopped k) 1) Reg.IO_LOSSES) l
    fun _ _ h => portReset_kept h _
  .ite (.done (.ite (cardGone_kept (stopped _)) (stopped _))) (.next (.refl s))

theorem execIoSupplyReturn_keeps {k} : Keeps s (execIoSupplyReturn k s) :=
  .ite
    (.done (.ite (forUnits_kept (wr_kept (setFld_kept (.refl s) _ _) _ _) _ fun _ _ h => wr_kept (wr_kept (wr_kept h _ _) _ _) _ _)
      (wr_kept (setFld_kept (.refl s) _ _) _ _)))
    (.next (.refl s))

theorem execVkeepLow_keeps : Keeps s (execVkeepLow s) :=
  .done (.ite (setFld_kept (.refl s) _ _) (wr_kept (setFld_kept (.refl s) _ _) _ _))

theorem execVkeepReturn_keeps : Keeps s (execVkeepReturn s) :=
  .done (setFld_kept (.refl s) _ _)

/-! ### The tally, the loans and the share groups -/

theorem execTallyEvaluation_keeps : Keeps s (execTallyEvaluation s) :=
  .ppDo fun _ h => tallyTick_kept (toTick_kept h _ _)

theorem execLimitWindowEdge_keeps {n on_} : Keeps s (execLimitWindowEdge n on_ s) :=
  .ppDo fun _ h => .ite h (.ite (winClose_kept h _) (winOpen_kept h _))

theorem execBorrowNoAnswer_keeps : Keeps s (execBorrowNoAnswer s) :=
  .ppDo fun _ h => loanSilent_kept h

theorem execBorrowBackoffEnd_keeps : Keeps s (execBorrowBackoffEnd s) :=
  .ppDo fun _ h => .ite (waitAfresh_kept (wr_kept h _ _)) h

theorem execLoanRequestReceived_keeps {src tid id mw} : Keeps s (execLoanRequestReceived src tid id mw s) :=
  .procDo fun _ h => .ite (heardFrom_kept h _ _ (fun _ h => svcLoan_kept h _ _)) h

theorem execLoanRenewReceived_keeps {src tid id mw} : Keeps s (execLoanRenewReceived src tid id mw s) :=
  .procDo fun _ h => .ite (heardFrom_kept h _ _ (fun _ h => svcLoan_kept h _ _)) h

theorem execLoanReturnReceived_keeps {src tid id mw} : Keeps s (execLoanReturnReceived src tid id mw s) :=
  .procDo fun _ h => .ite (heardFrom_kept h _ _ (fun _ h => svcLoan_kept h _ _)) h

theorem execLoanResponseReceived_keeps {peer op id mw} : Keeps s (execLoanResponseReceived peer op id mw s) :=
  .procDo fun _ h => .ite (heardFrom_kept h _ _ (fun _ h => loanHeard_kept h _ _ _ _)) h

theorem execLeaseHalf_keeps {peer id} : Keeps s (execLeaseHalf peer id s) :=
  .ppDo fun _ h => loanHalf_kept h _ _

theorem execLeaseEnd_keeps {peer id} : Keeps s (execLeaseEnd peer id s) :=
  .ppDo fun _ h => leaseEnd_kept h _ _

theorem execLoanReturnDue_keeps {peer id} : Keeps s (execLoanReturnDue peer id s) :=
  .ppDo fun _ h => loanGiveBack_kept h _ _

theorem execReservationEnd_keeps {peer id} : Keeps s (execReservationEnd peer id s) :=
  .ppDo fun _ h => reservationEnd_kept h _ _

theorem execShareReceive_keeps {pos addr payload} : Keeps s (execShareReceive pos addr payload s) :=
  .ppDo fun _ h => .ite (wsAct_kept (wsCount_kept h _) _ _ _ _) h

theorem execShareTrimUpdate_keeps {g} : Keeps s (execShareTrimUpdate g s) :=
  .ppDo fun _ h => groupPeriod_kept (toTick_kept h _ _) _

theorem execMemberLoss_keeps {g addr} : Keeps s (execMemberLoss g addr s) :=
  .ppDo fun _ h => memberLoss_kept h _ _

theorem execMemberRejoin_keeps {g addr} : Keeps s (execMemberRejoin g addr s) :=
  .ppDo fun _ h => memberRejoin_kept h _ _

/-! ### Every command

A write by the host, an instruction of the loop engine and a request of Dengon each go through one operation; the others have a lemma above. -/

theorem exec_keeps (i : Instr) : Keeps s (exec i s) :=
  match i with
  | .watchdogExpiry => execWatchdogExpiry_keeps
  | .wdtSvc .. => execWdtSvc_keeps
  | .wdtPeriod .. => execWdtPeriod_keeps
  | .lockstepMismatch => execLockstepMismatch_keeps
  | .foreignWrite => execForeignWrite_keeps
  | .heartbeatMissed .. => execHeartbeatMissed_keeps
  | .configCheck .. => execConfigCheck_keeps
  | .resetCmd .. => execResetCmd_keeps
  | .procResetEnd .. => execProcResetEnd_keeps
  | .planeReady .. => execPlaneReady_keeps
  | .holdTimeout => execHoldTimeout_keeps
  | .powerOnReset => execPowerOnReset_keeps
  | .resetN .. => execResetN_keeps
  | .coreSupplyUndervoltage => execCoreSupplyUndervoltage_keeps
  | .ppResetEnd => execPpResetEnd_keeps
  | .rootClockLoss => execRootClockLoss_keeps
  | .clkReturn .. => .hostWrite
  | .railTrigger .. => execRailTrigger_keeps
  | .onTimeEnd .. => execOnTimeEnd_keeps
  | .frequencyLockTrim .. => execFrequencyLockTrim_keeps
  | .onTimeClamp .. => execOnTimeClamp_keeps
  | .vselCodeTaken .. => execVselCodeTaken_keeps
  | .phaseShed .. => execPhaseShed_keeps
  | .phaseAdd .. => execPhaseAdd_keeps
  | .shedRotation .. => execShedRotation_keeps
  | .burstEntry .. => execBurstEntry_keeps
  | .burstRefresh .. => execBurstRefresh_keeps
  | .burstExit .. => execBurstExit_keeps
  | .pileIn .. => execPileIn_keeps
  | .pileInRearm .. => execPileInRearm_keeps
  | .overshootTruncation .. => execOvershootTruncation_keeps
  | .brakingEnd .. => execBrakingEnd_keeps
  | .offsetDecayEnd .. => execOffsetDecayEnd_keeps
  | .valleyLimit .. => execValleyLimit_keeps
  | .hiccupEntry .. => execHiccupEntry_keeps
  | .softRetry .. => execSoftRetry_keeps
  | .fastShortCircuit .. => execFastShortCircuit_keeps
  | .phaseZeroCrossing .. => execPhaseZeroCrossing_keeps
  | .slowOverload .. => execSlowOverload_keeps
  | .degradeHoldExpiry .. => execDegradeHoldExpiry_keeps
  | .limitExit .. => execLimitExit_keeps
  | .phaseOpenDetect .. => execPhaseOpenDetect_keeps
  | .phaseSenseRange .. => execPhaseSenseRange_keeps
  | .phaseCageReq .. => .hostWrite
  | .cmdOn .. => .hostWrite
  | .cmdOff .. => .hostWrite
  | .ctxCageReq .. => .hostWrite
  | .bindingCommit .. => .hostWrite
  | .leadExpiry .. => execLeadExpiry_keeps
  | .channelSample .. => execChannelSample_keeps
  | .offDecayExpiry .. => execOffDecayExpiry_keeps
  | .inrushTimeout .. => execInrushTimeout_keeps
  | .gateDriveFault .. => execGateDriveFault_keeps
  | .directShort .. => execDirectShort_keeps
  | .currentLimitReached .. => execCurrentLimitReached_keeps
  | .faultTimerExpiry .. => execFaultTimerExpiry_keeps
  | .retryTimerExpiry .. => execRetryTimerExpiry_keeps
  | .retryClear .. => execRetryClear_keeps
  | .tallyEvaluation => execTallyEvaluation_keeps
  | .tallyDisable .. => .hostWrite
  | .limitWindowEdge .. => execLimitWindowEdge_keeps
  | .borrowNoAnswer => execBorrowNoAnswer_keeps
  | .borrowBackoffEnd => execBorrowBackoffEnd_keeps
  | .loanRequestReceived .. => execLoanRequestReceived_keeps
  | .loanRenewReceived .. => execLoanRenewReceived_keeps
  | .loanReturnReceived .. => execLoanReturnReceived_keeps
  | .loanResponseReceived .. => execLoanResponseReceived_keeps
  | .leaseHalf .. => execLeaseHalf_keeps
  | .leaseEnd .. => execLeaseEnd_keeps
  | .loanReturnDue .. => execLoanReturnDue_keeps
  | .reservationEnd .. => execReservationEnd_keeps
  | .roundStart .. => execRoundStart_keeps
  | .roundJudge .. => execRoundJudge_keeps
  | .positionLost .. => execPositionLost_keeps
  | .portDown .. => execPortDown_keeps
  | .positionReturn .. => execPositionReturn_keeps
  | .portEnable .. => .hostWrite
  | .rescan .. => .hostWrite
  | .pilotOutChange .. => execPilotOutChange_keeps
  | .pilotQualified .. => execPilotQualified_keeps
  | .directionalTrip .. => execDirectionalTrip_keeps
  | .backupOutwardTrip .. => execBackupOutwardTrip_keeps
  | .inwardTrip .. => execInwardTrip_keeps
  | .switchFailed .. => execSwitchFailed_keeps
  | .testPulseSend .. => execTestPulseSend_keeps
  | .testPulseReceived .. => execTestPulseReceived_keeps
  | .pilotMiss .. => execPilotMiss_keeps
  | .pilotStuck .. => execPilotStuck_keeps
  | .pilotStuckClear .. => execPilotStuckClear_keeps
  | .rpCmdClose .. => .hostWrite
  | .rpCmdOpen .. => .hostWrite
  | .prechargeQualified .. => execPrechargeQualified_keeps
  | .prechargeTimeout .. => execPrechargeTimeout_keeps
  | .feedSet .. => execFeedSet_keeps
  | .ifwConditionClear .. => execIfwConditionClear_keeps
  | .ifwBroadcast => execIfwBroadcast_keeps
  | .ifwBroadcastRepeat => execIfwBroadcastRepeat_keeps
  | .ifwBroadcastReceive .. => execIfwBroadcastReceive_keeps
  | .peerForget .. => execPeerForget_keeps
  | .holdEntry .. => execHoldEntry_keeps
  | .holdExit .. => execHoldExit_keeps
  | .storageExhausted .. => execStorageExhausted_keeps
  | .chargeEntry .. => execChargeEntry_keeps
  | .cvEntry .. => execCvEntry_keeps
  | .chargeDone .. => execChargeDone_keeps
  | .storeOvp .. => execStoreOvp_keeps
  | .chargeNodeLow .. => execChargeNodeLow_keeps
  | .propPhaseCage .. => execPropPhaseCage_keeps
  | .storageSample .. => execStorageSample_keeps
  | .laneTrigger .. => execLaneTrigger_keeps
  | .slotStart .. => execSlotStart_keeps
  | .nop .. => .loop fun _ _ h => h
  | .endRun .. => .loop fun _ _ h => slotEnd_kept h _
  | .raise .. => .loop fun _ _ h => wr_kept h _ _
  | .ldi .. => .loop fun _ _ h => setV_kept h _ _ _
  | .mov .. => .loop fun _ _ h => setV_kept h _ _ _
  | .rds .. => .loop fun _ _ h => setV_kept h _ _ _
  | .rdp .. => .loop fun _ _ h => setV_kept h _ _ _
  | .wra .. => .loop fun _ _ h => loopBuffer_kept h _ _ _
  | .wtg .. => .loop fun _ _ h => loopBuffer_kept h _ _ _
  | .add .. => .loop fun _ _ h => satV_kept h _ _ _
  | .sub .. => .loop fun _ _ h => satV_kept h _ _ _
  | .addi .. => .loop fun _ _ h => satV_kept h _ _ _
  | .mul .. => .loop fun _ _ h => satV_kept h _ _ _
  | .neg .. => .loop fun _ _ h => satV_kept h _ _ _
  | .abs .. => .loop fun _ _ h => satV_kept h _ _ _
  | .min .. => .loop fun _ _ h => setV_kept h _ _ _
  | .max .. => .loop fun _ _ h => setV_kept h _ _ _
  | .clmp .. => .loop fun _ _ h => setV_kept h _ _ _
  | .shl .. => .loop fun _ _ h => satV_kept h _ _ _
  | .shr .. => .loop fun _ _ h => setV_kept h _ _ _
  | .lpf .. => .loop fun _ _ h => satV_kept h _ _ _
  | .clra .. => .loop fun _ _ h => setA_kept h _ _ _
  | .lda .. => .loop fun _ _ h => setA_kept h _ _ _
  | .mac .. => .loop fun _ _ h => satA_kept h _ _ _
  | .msu .. => .loop fun _ _ h => satA_kept h _ _ _
  | .acca .. => .loop fun _ _ h => satA_kept h _ _ _
  | .shra .. => .loop fun _ _ h => setA_kept h _ _ _
  | .sata .. => .loop fun _ _ h => satV_kept h _ _ _
  | .aclp .. => .loop fun _ _ h => wrB_kept (setA_kept h _ _ _) _ _
  | .skp .. => execSkp_keeps
  | .fel .. => .loop fun _ _ h => fel_kept h _ _ _
  | .slotRestart .. => .hostWrite
  | .preset .. => .hostWrite
  | .profileTargetWrite .. => .hostWrite
  | .winderStep => execWinderStep_keeps
  | .conversionResult .. => execConversionResult_keeps
  | .scanRoundStart => execScanRoundStart_keeps
  | .scanRoundEnd => execScanRoundEnd_keeps
  | .monitorCrossing .. => execMonitorCrossing_keeps
  | .monitorFilter .. => execMonitorFilter_keeps
  | .cmpoClear .. => .hostWrite
  | .checkSwap .. => .hostWrite
  | .checkKnownLevel .. => .hostWrite
  | .autoCheck .. => execAutoCheck_keeps
  | .checkEnd .. => execCheckEnd_keeps
  | .thermalSample .. => execThermalSample_keeps
  | .dieComparator => execDieComparator_keeps
  | .stateCmdOff .. => .hostWrite
  | .stateCmdStandby .. => .hostWrite
  | .stateCmdConfigured .. => .hostWrite
  | .stateCmdRun .. => .hostWrite
  | .stateCmdEconomy .. => .hostWrite
  | .stateCmdPark .. => .hostWrite
  | .nodeHostOff .. => .hostWrite
  | .nodeOnDelayExpiry .. => execNodeOnDelayExpiry_keeps
  | .nodePowerGood .. => execNodePowerGood_keeps
  | .nodeQualified .. => execNodeQualified_keeps
  | .pgTimeout .. => execPgTimeout_keeps
  | .nodeOffDelayExpiry .. => execNodeOffDelayExpiry_keeps
  | .nodeRampDownDone .. => execNodeRampDownDone_keeps
  | .offTimeout .. => execOffTimeout_keeps
  | .nodeFaultCondition .. => execNodeFaultCondition_keeps
  | .nodeFaultTimerExpiry .. => execNodeFaultTimerExpiry_keeps
  | .nodeClear .. => .hostWrite
  | .lossShutdown .. => execLossShutdown_keeps
  | .resume .. => .hostWrite
  | .marginWrite .. => .hostWrite
  | .windowExpiry .. => execWindowExpiry_keeps
  | .sourceClear .. => .hostWrite
  | .sourceForce .. => .hostWrite
  | .creditRequest .. => execCreditRequest_keeps
  | .blockRelease .. => execBlockRelease_keeps
  | .producerWaitTimeout .. => execProducerWaitTimeout_keeps
  | .scrub .. => execScrub_keeps
  | .streamSample .. => execStreamSample_keeps
  | .captureFrame .. => execCaptureFrame_keeps
  | .captureTrigger .. => execCaptureTrigger_keeps
  | .captureFreeze => execCaptureFreeze_keeps
  | .arm .. => .hostWrite
  | .trigHost .. => .hostWrite
  | .pitLogTick => execPitLogTick_keeps
  | .liveRefresh => execLiveRefresh_keeps
  | .epochPeriod => execEpochPeriod_keeps
  | .plCmd .. => .hostWrite
  | .epochCommit => execEpochCommit_keeps
  | .epochFail .. => execEpochFail_keeps
  | .pduReceive .. => execPduReceive_keeps
  | .read .. => .request
  | .write .. => .request
  | .bundle .. => execBundle_keeps
  | .describe .. => .request
  | .domainRead .. => .request
  | .domainStart .. => .request
  | .domainData .. => .request
  | .domainEnd .. => execDomainEnd_keeps
  | .domainTransferTimeout .. => execDomainTransferTimeout_keeps
  | .assign .. => execAssign_keeps
  | .notice => execNotice_keeps
  | .streamSend => execStreamSend_keeps
  | .cfgSave .. => .hostWrite
  | .saveComplete => execSaveComplete_keeps
  | .cfgDefaults .. => .hostWrite
  | .frameReceive .. => execFrameReceive_keeps
  | .bufferToGallery .. => execBufferToGallery_keeps
  | .beaconLoss => execBeaconLoss_keeps
  | .beaconReceived => execBeaconReceived_keeps
  | .ethLinkLoss => execEthLinkLoss_keeps
  | .asSyncReceive .. => execAsSyncReceive_keeps
  | .asSyncLoss => execAsSyncLoss_keeps
  | .canFrameReceive .. => execCanFrameReceive_keeps
  | .canReassemblyTimeout .. => execCanReassemblyTimeout_keeps
  | .canBusOff .. => execCanBusOff_keeps
  | .canRecover .. => execCanRecover_keeps
  | .readStatus .. => execReadStatus_keeps
  | .writePdu .. => execWritePdu_keeps
  | .readPdu .. => execReadPdu_keeps
  | .spiUnknownCmd .. => execSpiUnknownCmd_keeps
  | .spiCsRise => execSpiCsRise_keeps
  | .twPointerWrite .. => execTwPointerWrite_keeps
  | .inFifo .. => execInFifo_keeps
  | .outFifo .. => execOutFifo_keeps
  | .twStretchTimeout .. => execTwStretchTimeout_keeps
  | .twControllerTimeout .. => execTwControllerTimeout_keeps
  | .inBandRequest .. => execInBandRequest_keeps
  | .inBandAnswer .. => execInBandAnswer_keeps
  | .arbitrationLoss .. => execArbitrationLoss_keeps
  | .busClear .. => execBusClear_keeps
  | .wihanReceive .. => execWihanReceive_keeps
  | .syncSend => execSyncSend_keeps
  | .syncReceive .. => execSyncReceive_keeps
  | .syncLoss => execSyncLoss_keeps
  | .electionTimeout => execElectionTimeout_keeps
  | .shareSend => execShareSend_keeps
  | .shareReceive .. => execShareReceive_keeps
  | .shareTrimUpdate .. => execShareTrimUpdate_keeps
  | .memberLoss .. => execMemberLoss_keeps
  | .memberRejoin .. => execMemberRejoin_keeps
  | .announceReceive .. => execAnnounceReceive_keeps
  | .withdrawReceive .. => execWithdrawReceive_keeps
  | .faultReceive .. => execFaultReceive_keeps
  | .shareLoadWindow .. => execShareLoadWindow_keeps
  | .wihanInLoss => execWihanInLoss_keeps
  | .cardDetect .. => execCardDetect_keeps
  | .cardRemoval => execCardRemoval_keeps
  | .updCmdInstall .. => .hostWrite
  | .updCmdActivate .. => .hostWrite
  | .updCmdAbortTrial .. => .hostWrite
  | .updCmdEraseInactive .. => .hostWrite
  | .updCmdRelay .. => .hostWrite
  | .imgOffer .. => .request
  | .imgData .. => .request
  | .imgEnd .. => .request
  | .imgQuery .. => .request
  | .imgOfferTimeout => execImgOfferTimeout_keeps
  | .nvmOperationDone .. => execNvmOperationDone_keeps
  | .trialConfirm => execTrialConfirm_keeps
  | .trialTimeout => execTrialTimeout_keeps
  | .domainEpochWrite .. => .hostWrite
  | .sessionOpen .. => .request
  | .sessionProve .. => execSessionProve_keeps
  | .sessionClose .. => execSessionClose_keeps
  | .sessionOpenLapse .. => execSessionOpenLapse_keeps
  | .sessionIdle .. => execSessionIdle_keeps
  | .revoke .. => .hostWrite
  | .lock .. => execLock_keeps
  | .rma .. => execRma_keeps
  | .debugEnter .. => execDebugEnter_keeps
  | .scanEnter .. => execScanEnter_keeps
  | .debugPortRequest .. => execDebugPortRequest_keeps
  | .debugWindowExpiry => execDebugWindowExpiry_keeps
  | .crystalTimeout => execCrystalTimeout_keeps
  | .startHaltRetry => execStartHaltRetry_keeps
  | .configuredEntry .. => execConfiguredEntry_keeps
  | .lampUnitDone .. => execLampUnitDone_keeps
  | .lampTimeout => execLampTimeout_keeps
  | .wake .. => execWake_keeps
  | .wakePendingStart .. => execWakePendingStart_keeps
  | .supplyDip .. => execSupplyDip_keeps
  | .supplyHoldRelease => execSupplyHoldRelease_keeps
  | .ioSupplyLoss .. => execIoSupplyLoss_keeps
  | .ioSupplyReturn .. => execIoSupplyReturn_keeps
  | .vkeepLow => execVkeepLow_keeps
  | .vsupPowerOn .. => execVsupPowerOn_keeps
  | .rootClockReturn => execRootClockReturn_keeps
  | .dieComparatorRelease => execDieComparatorRelease_keeps
  | .currentLimitRelease .. => execCurrentLimitRelease_keeps
  | .ethLinkUp .. => execEthLinkUp_keeps
  | .canBusError .. => execCanBusError_keeps
  | .twStop .. => execTwStop_keeps
  | .twStatusRead .. => execTwStatusRead_keeps
  | .wihanInReturn => execWihanInReturn_keeps
  | .vkeepReturn => execVkeepReturn_keeps
  | .relayResponseReceived .. => execRelayResponseReceived_keeps

end

/-! ### A step -/

theorem State.idle_kept {a s : State} (h : Kept a s) : Kept a s.idle := .ite (railTime_kept (advance_kept h 5)) h

/-- A step keeps the canonical form, takes the front command off the queue, and takes no free value back. -/
theorem step_kept {s t : State} (e : stepsTo s t) : Kept { s with pending := s.pending.tail } t := by
  unfold stepsTo step at e
  split at e
  next empty =>
    cases e
    exact State.idle_kept ⟨id, by rw [empty]; rfl, Nat.le_refl _⟩
  next c rest waiting =>
    rw [waiting]
    exact exec_keeps c t e

/-- Settles O5: a step keeps what its operations keep, and the canonical form does not look at the queue. -/
theorem stepKeepsTheCanonicalForm : Obligations.StepKeepsTheCanonicalForm :=
  fun _ _ w e => (step_kept e).wf w

end Sys2Proof.Machine

/-!
The edge of CLK_SYS (01_architecture.md R31, R34; 02_converter_core.md R50): where no phase's turn-on waits, the passing of time alone changes
nothing in the converter core.
-/
namespace Sys2Proof.Machine

theorem forAll_eq_self {α : Type} {f : α → State → State} {l : List α} {s : State} (h : ∀ x ∈ l, f x s = s) : forAll l f s = s := by
  unfold forAll
  induction l with
  | nil => rfl
  | cons x l ih =>
    rw [List.foldl_cons, h x List.mem_cons_self]
    exact ih fun y m => h y (List.mem_cons_of_mem x m)

theorem forUnits_eq_self {n : Nat} {f : Nat → State → State} {s : State} (h : ∀ i < n, f i s = s) : forUnits n f s = s :=
  forAll_eq_self fun i m => h i (List.mem_range.1 m)

/-- A rail has the sixteen phases of the part and no other. -/
theorem State.lt_of_mem_active {s : State} {r p : Nat} (h : p ∈ s.active r) : p < 16 := by
  unfold State.active State.usable State.phasesOf at h
  simp only [List.mem_filter, List.mem_range] at h
  obtain ⟨⟨⟨below, -⟩, -⟩, -⟩ := h
  exact below

theorem State.turnOn_of_none_due {s : State} (r : Nat) {p : Nat} (h : s.rd (Reg.phDue p) = 0) : s.turnOn r p = s := if_pos (.inl h)

/-- Where no phase's turn-on waits, time alone brings about nothing in the converter core. -/
theorem State.railTime_of_none_due {s : State} (h : ∀ p < 16, s.rd (Reg.phDue p) = 0) : s.railTime = s := by
  have still : forUnits 4 (fun r t => t.turnOns r) s = s :=
    forUnits_eq_self fun r _ => forAll_eq_self fun p m => turnOn_of_none_due r (h p (lt_of_mem_active m))
  unfold State.railTime
  rw [still, ite_self]

theorem step_of_empty {s : State} (h : s.pending = []) : step s = .next s.idle := by
  unfold step
  rw [h]

/-- Settles O2: a step on an empty queue is `State.idle`, which advances the timebase before the turn-ons that wait. -/
theorem emptyQueueIsAClockEdge : Obligations.EmptyQueueIsAClockEdge := by
  intro s empty
  refine ⟨step_of_empty empty, fun none_due => ?_⟩
  have still : (s.advance 5).railTime = s.advance 5 := State.railTime_of_none_due none_due
  rw [step_of_empty empty, State.idle, still]
  rfl

end Sys2Proof.Machine

/-!
The cold reset (10_faults_watchdog_resets.md R440): what it ends.
-/
namespace Sys2Proof.Machine

/-- The timebase and what a cold reset ends: reactions, sessions, transfers, outstanding requests and announced load steps. -/
def State.underWay (s : State) : Nat × List Reaction × List Session × List Transfer × List Ask × List Announcement :=
  (s.timebase, s.reactions, s.sessions, s.transfers, s.asks, s.anns)

section
open State
variable (s : State)

@[simp] theorem State.underWay_wr (k : Nat) (x : Int) : (s.wr k x).underWay = s.underWay := rfl
@[simp] theorem State.underWay_wrB (k : Nat) (b : Bool) : (s.wrB k b).underWay = s.underWay := rfl
@[simp] theorem State.underWay_inc32 (k : Nat) : (s.inc32 k).underWay = s.underWay := rfl
@[simp] theorem State.underWay_setBit (b : Bits) (x : Bool) : (s.setBit b x).underWay = s.underWay := rfl
@[simp] theorem State.underWay_mark (k u : Nat) (v : Int) : (s.mark k u v).underWay = s.underWay := rfl
@[simp] theorem State.underWay_recordReset (level cause : Nat) : (s.recordReset level cause).underWay = s.underWay := rfl
@[simp] theorem State.underWay_dropPdus : s.dropPdus.underWay = s.underWay := rfl
@[simp] theorem State.underWay_forget (keep : Nat → Bool) : (s.forget keep).underWay = s.underWay := rfl
@[simp] theorem State.underWay_startBegins (fromPp : Bool) : (s.startBegins fromPp).underWay = s.underWay := rfl

@[simp] theorem State.underWay_stage (off bits : Nat) (d : Int) : (s.stage off bits d).underWay = s.underWay := by
  unfold State.stage
  extract_lets v t
  split
  · rfl
  · split <;> rfl

theorem State.underWay_forUnits {f : Nat → State → State} (h : ∀ i t, (f i t).underWay = t.underWay) (n : Nat) :
    (forUnits n f s).underWay = s.underWay := by
  unfold forUnits
  induction List.range n generalizing s with
  | nil => rfl
  | cons i l ih => exact (ih (f i s)).trans (h i s)

theorem State.underWay_coldReset (cause : Nat) (powered : Bool) (wake : Option (Nat × Nat)) :
    (s.coldReset cause powered wake).underWay = State.reset.underWay := by
  unfold State.coldReset
  extract_lets s held sent age trial runs base t u v w x y z
  have hu : u.underWay = State.reset.underWay := by simp only [u, underWay_wr, underWay_forget, underWay_dropPdus]; rfl
  have hv : v.underWay = State.reset.underWay := by
    unfold v
    split
    · simpa using hu
    · rw [underWay_wrB, underWay_forUnits _ (fun _ _ => underWay_wr _ _ _), hu]
  have hw : w.underWay = State.reset.underWay := by
    unfold w
    split
    · extract_lets c
      have hc : c.underWay = State.reset.underWay := by simpa [c] using hv
      split
      · simpa using hc
      · exact hc
    · exact hv
  have hz : z.underWay = State.reset.underWay :=
    calc z.underWay = y.underWay := by simp only [z, underWay_wr, underWay_wrB]
      _ = x.underWay := rfl
      _ = w.underWay := by simp only [x, underWay_setBit, underWay_wr, underWay_recordReset]
      _ = State.reset.underWay := hw
  split <;> simpa using hz

end

/-- Settles O31: what ends is as it is right after a power-on, and every operation of the reset keeps the queue. -/
theorem coldResetRestartsTheTimebase : Obligations.ColdResetRestartsTheTimebase := by
  intro s cause powered wake
  have ended := s.underWay_coldReset cause powered wake
  simp only [State.underWay, Prod.mk.injEq] at ended
  obtain ⟨timebase, reactions, sessions, transfers, asks, anns⟩ := ended
  exact ⟨timebase, reactions, sessions, transfers, asks, anns, (State.coldReset_kept (.refl s) cause powered wake).queue⟩

end Sys2Proof.Machine

/-!
The commands of the Shaft, the capture and the pit log (11_shaft_and_pit_log.md R450–R488): what each does at a plane that runs.
-/
namespace Sys2Proof.Machine

/-! ### A command whose block runs: its effect, settled -/

theorem State.procDo_of_runs {s u : State} {f : State → State} (runs : s.procRuns = true) (e : f s = u) : s.procDo f = .next u.settle := by
  rw [State.procDo_eq, if_pos runs, e]

theorem State.ppDo_of_runs {s u : State} {f : State → State} (runs : s.ppRuns = true) (e : f s = u) : s.ppDo f = .next u.settle := by
  rw [State.ppDo_eq, if_pos runs, e]

theorem State.coreDo_of_powered {s : State} (f : State → State) (powered : s.on Reg.corePowered = true) :
    s.coreDo f = .next (f s).settle := by
  rw [State.coreDo_eq, if_pos powered]

/-- An accepted write, with what its hook does given. -/
theorem State.hostWrite_effect {s u : State} {level idx sub : Nat} {v : Int} (runs : s.procRuns = true)
    (ok : s.accepts level idx sub v = true)
    (e : s.hook (s.written idx sub (rawOf idx sub v).2) idx sub (decoded idx sub (rawOf idx sub v).2) = u) :
    s.hostWrite level idx sub v = .next (u.served idx).settle := by
  rw [State.hostWrite_accepted runs ok, e]

/-! ### The hooks of CAP_CTRL and PL_CMD -/

theorem State.hook_capCtrl (s t : State) (new : Int) : s.hook t 0x5080 1 new =
    if bitsOf new 0 1 = 1 then t.capArm else if bitsOf new 1 1 = 1 then t.capTrigger 0x800 else t := rfl

theorem State.hook_arm (s t : State) {new : Int} (arm : bitsOf new 0 1 = 1) : s.hook t 0x5080 1 new = t.capArm := by
  rw [State.hook_capCtrl, if_pos arm]

theorem State.hook_trigHost (s t : State) {new : Int} (notArm : bitsOf new 0 1 = 0) (trig : bitsOf new 1 1 = 1) :
    s.hook t 0x5080 1 new = t.capTrigger 0x800 := by
  rw [State.hook_capCtrl, if_neg (by omega), if_pos trig]

theorem State.hook_plCmd (s t : State) (new : Int) : s.hook t 0x5100 1 new = t.epochStart 2 := rfl

/-- A trigger that ends no capture: POST with its stamp and cause. -/
theorem State.capTrigger_of_armed {s u : State} {cause : Nat} (arm : s.marked markArm 0 = none) (trig : s.marked markTrig 0 = none)
    (armed : s.rd Reg.CAP_STATE = 1)
    (e : u = ((((s.wr Reg.CAP_STATE 2).wr Reg.TRIG_NS s.now).wr Reg.TRIG_CAUSE cause).wr Reg.capTrigAt s.capFrameHere).mark markTrig 0 0)
    (more : u.capDone = false) : s.capTrigger cause = u := by
  subst e
  simp [State.capTrigger, arm, trig, armed, more]

section
variable {t : State} (runs : t.procRuns = true)
include runs

theorem execCreditRequest_running (g : Fin 64) (data : List (BitVec 8)) : execCreditRequest g data t = .next (t.askCredit g data).settle :=
  if_pos runs

theorem execBlockRelease_running {g : Fin 64} (not19 : g ≠ 19) (notCapture : galClass g ≠ 2) (notLive : g ≠ 23) :
    execBlockRelease g t = .next ((t.freeBlock g).txRetry).settle := by
  refine State.procDo_of_runs runs ?_
  rw [if_neg fun h => not19 h.1, if_neg fun h => h.elim notCapture notLive]

theorem execBlockRelease_notices (used : t.on (Reg.USED 19) = true) :
    execBlockRelease 19 t = .next ({ t.freeBlock 19 with notices := t.notices.drop 16 } : State).settle :=
  State.procDo_of_runs runs (if_pos ⟨rfl, used⟩)

theorem execProducerWaitTimeout_running {g : Fin 64} (waits : t.on (Reg.galWaitNs g) = true) (once : t.on (Reg.galWaitRaised g) = false)
    (lapsed : t.since (t.rd (Reg.galWaitNs g) - 1) 10000000 = true) :
    execProducerWaitTimeout g t = .next ((t.wr (Reg.galWaitRaised g) 1).raise 71).settle :=
  State.procDo_of_runs runs (if_pos (by simp [waits, once, lapsed]))

theorem execScrub_good (corrected : Nat) (g : Fin 64) (place : Nat) {u : State} (e : u = (t.toTick 5 10000).eccCorrected corrected) :
    execScrub corrected false g place t = .next (u.wr Reg.scrubAt ((u.rd Reg.scrubAt + 1) % 16384)).settle := by
  subst e
  exact State.procDo_of_runs runs rfl

theorem execScrub_bad (corrected : Nat) (g : Fin 64) (place : Nat) {u v : State} (e : u = (t.toTick 5 10000).eccCorrected corrected)
    (e' : v = u.wr Reg.scrubAt ((u.rd Reg.scrubAt + 1) % 16384)) :
    execScrub corrected true g place t = .next ((((v.inc32 Reg.UNCORRECTED).inc16 Reg.BAD_BLOCKS).poison g place).raise 68).settle := by
  subst e e'
  exact State.procDo_of_runs runs rfl

omit runs in
theorem execStreamSample_running {g : Fin 64} {u : State} (running : t.ppRuns = true) (stream : 32 ≤ g.val)
    (assigned : t.rd (Reg.STREAM_SIG g) ≠ 65535) (e : u = t.toTickOf (Reg.galTickNs g) (t.rdN (Reg.DEC_US g) * 1000)) :
    execStreamSample g t =
      .next (u.record g (leBytes 6 u.timebase ++ leBytes 2 (twos 16 (u.sigValue (u.rdN (Reg.STREAM_SIG g)))))).settle := by
  subst e
  exact State.ppDo_of_runs running ((if_pos stream).trans (if_neg assigned))

theorem execCaptureFrame_running (node scan : List Int) : execCaptureFrame node scan t = .next (t.captureFrame node scan).settle :=
  if_pos runs

theorem execCaptureTrigger_running {u : State} {cause : Fin 2049} (arm : t.marked markArm 0 = none) (trig : t.marked markTrig 0 = none)
    (armed : t.rd Reg.CAP_STATE = 1) (set : t.capTrigSet cause = true)
    (e : u = ((((t.wr Reg.CAP_STATE 2).wr Reg.TRIG_NS t.now).wr Reg.TRIG_CAUSE cause).wr Reg.capTrigAt t.capFrameHere).mark markTrig 0 0)
    (more : u.capDone = false) : execCaptureTrigger cause t = .next u.settle :=
  State.procDo_of_runs runs ((if_pos set).trans (State.capTrigger_of_armed arm trig armed e more))

theorem execCaptureFreeze_running (full : t.capDone = true) : execCaptureFreeze t = .next t.capFreeze.settle :=
  State.procDo_of_runs runs (if_pos full)

theorem execArm_accepted {level : Fin 4} {raw : Nat} (ok : t.accepts level 0x5080 1 (withBits (t.rd Reg.CAP_CTRL) 0 2 1) = true)
    (e : raw = (rawOf 0x5080 1 (withBits (t.rd Reg.CAP_CTRL) 0 2 1)).2) (arm : bitsOf (decoded 0x5080 1 raw) 0 1 = 1) :
    execArm level t = .next ((t.written 0x5080 1 raw).capArm.served 0x5080).settle := by
  subst e
  exact State.hostWrite_effect runs ok (State.hook_arm _ _ arm)

theorem execTrigHost_accepted {level : Fin 4} {raw : Nat} (ok : t.accepts level 0x5080 1 (withBits (t.rd Reg.CAP_CTRL) 0 2 2) = true)
    (e : raw = (rawOf 0x5080 1 (withBits (t.rd Reg.CAP_CTRL) 0 2 2)).2) (notArm : bitsOf (decoded 0x5080 1 raw) 0 1 = 0)
    (trig : bitsOf (decoded 0x5080 1 raw) 1 1 = 1) :
    execTrigHost level t = .next (((t.written 0x5080 1 raw).capTrigger 0x800).served 0x5080).settle := by
  subst e
  exact State.hostWrite_effect runs ok (State.hook_trigHost _ _ notArm trig)

omit runs in
theorem execPitLogTick_powered (powered : t.on Reg.corePowered = true) : execPitLogTick t = .next (t.toTick 7 1000000000).pitTick.settle :=
  State.coreDo_of_powered _ powered

theorem execLiveRefresh_running :
    execLiveRefresh t = .next (t.toAfter (t.rd Reg.liveNs) (t.rd Reg.REFRESH_MS * 1000000)).liveRefresh.settle :=
  State.procDo_of_runs runs rfl

theorem execEpochPeriod_running (due : t.since (t.rd Reg.plAtNs) (t.rd Reg.EPOCH_PERIOD_S * 1000000000) = true) :
    execEpochPeriod t = .next (t.epochStart 1).settle :=
  State.procDo_of_runs runs (if_pos due)

theorem execPlCmd_accepted {level : Fin 4} {raw : Nat} (ok : t.accepts level 0x5100 1 1 = true) (e : raw = (rawOf 0x5100 1 1).2) :
    execPlCmd level t = .next (((t.written 0x5100 1 raw).epochStart 2).served 0x5100).settle := by
  subst e
  exact State.hostWrite_effect runs ok (State.hook_plCmd _ _ _)

theorem execEpochCommit_running (writes : t.bit (flag Reg.PL_STATUS 0) = true) :
    execEpochCommit t = .next ((t.plOpEnds 2).epochCommit).settle :=
  State.procDo_of_runs runs (if_pos writes)

theorem execEpochFail_running (retired : Bool) (writes : t.bit (flag Reg.PL_STATUS 0) = true) :
    execEpochFail retired t = .next ((t.plOpEnds 3).epochFail retired).settle :=
  State.procDo_of_runs runs (if_pos writes)

end

/-- Settles O54: each command, at a plane that runs, is its effect, settled; the conditions pick the branch of the effect. -/
theorem shaftAndPitLogCommandsComplete : Obligations.ShaftAndPitLogCommandsComplete := by
  unfold Obligations.ShaftAndPitLogCommandsComplete
  refine ⟨?creditRequest, ?blockRelease, ?blockReleaseNotices, ?producerWaitTimeout, ?scrubGood, ?scrubBad, ?streamSample, ?captureFrame,
    ?captureTrigger, ?captureFreeze, ?arm, ?trigHost, ?pitLogTick, ?liveRefresh, ?epochPeriod, ?plCmd, ?epochCommit, ?epochFail⟩
  case creditRequest => exact fun g data _ runs => execCreditRequest_running runs g data
  case blockRelease => exact fun _ _ runs => execBlockRelease_running runs
  case blockReleaseNotices => exact fun _ runs => execBlockRelease_notices runs
  case producerWaitTimeout => exact fun _ _ runs => execProducerWaitTimeout_running runs
  case scrubGood => exact fun corrected g place _ _ runs => execScrub_good runs corrected g place
  case scrubBad => exact fun corrected g place _ _ _ runs => execScrub_bad runs corrected g place
  case streamSample => exact fun _ _ _ => execStreamSample_running
  case captureFrame => exact fun node scan _ runs => execCaptureFrame_running runs node scan
  case captureTrigger => exact fun _ _ _ runs => execCaptureTrigger_running runs
  case captureFreeze => exact fun _ runs => execCaptureFreeze_running runs
  case arm =>
    rintro level t _ raw runs ok e rfl arm -
    exact execArm_accepted runs ok e arm
  case trigHost =>
    rintro level t _ raw runs ok e rfl
    exact execTrigHost_accepted runs ok e
  case pitLogTick => exact fun _ => execPitLogTick_powered
  case liveRefresh => exact fun _ runs => execLiveRefresh_running runs
  case epochPeriod => exact fun _ runs => execEpochPeriod_running runs
  case plCmd =>
    rintro level t _ raw runs ok e rfl
    exact execPlCmd_accepted runs ok e
  case epochCommit => exact fun _ runs => execEpochCommit_running runs
  case epochFail => exact fun retired _ runs => execEpochFail_running runs retired

end Sys2Proof.Machine

/-!
The commands of the rails (02_converter_core.md R48–R103): what each does at a power plane that runs. A rail's trigger and the write of a
phase's control are read once for what they come to; every other command is its effect on the branch that its conditions pick.
-/
namespace Sys2Proof.Machine

theorem State.when_false (s : State) {c : Bool} (f : State → State) (h : c = false) : s.when c f = s := if_neg (by simp [h])

/-! ### A trigger that counts (R48–R50, R75, R80) -/

/-- A trigger that no rule turns away asks for the turn-on of the phase next in order; in BURST it does so only between two bursts. -/
theorem State.trigger_counted {s v u : State} {r p : Nat} {vMv : Int} (iMa : Int)
    (sensed : v = s.wrB (Reg.rlAboveOvs r) (s.overshoots r vMv)) (switches : v.switching r = true) (noBrake : v.bit (rlBraking r) = false)
    (below : v.on (Reg.rlAboveOvs r) = false) (apart : (v.on (Reg.rlTrigNs r) && !v.since (v.rd (Reg.rlTrigNs r) - 1) 20) = false)
    (counted : u = (v.wr (Reg.rlTrigNs r) (v.now + 1)).wr (Reg.rlTrigs r) (min 64 (v.rd (Reg.rlTrigs r) + 1)))
    (next : u.nextPhase r = some p) :
    s.trigger r vMv iMa =
      if u.railSt r ≠ 3 then u.askTurnOn r p 1 iMa
      else if u.on (Reg.rlBurstLeft r) ∨ u.rd (Reg.phPwm p) = 1 then u
      else (u.wr (Reg.rlBurstLeft r) (u.fld (Bit.LL_CTRL_BURST_PULSES r) + 1 : Nat)).askTurnOn r p 1 iMa := by
  unfold State.trigger
  rw [← sensed]
  dsimp only
  rw [if_neg (by simp [switches, noBrake, below]), if_neg (by simp [apart]), ← counted, next]

/-! ### A write of CAGE_REQ (R40, R103) -/

theorem odKey_ne_of_lt {i j a b : Nat} (lt : j < i) (hb : b < 256) : odKey i a ≠ odKey j b := by
  unfold odKey
  omega

theorem State.hook_phaseCtrl (s t : State) {p : Nat} (h : p < 16) (new : Int) : s.hook t (0x2010 + p) 1 new = s.phaseHook t p 1 := by
  have other : ∀ {i b : Nat}, i < 0x2010 → b < 256 → odKey (0x2010 + p) 1 ≠ odKey i b := fun hi => odKey_ne_of_lt (by omega)
  unfold State.hook
  rw [if_pos (by omega)]
  unfold State.hookLow
  dsimp only
  rw [if_neg (by omega), if_neg (other (by decide) (by decide)), if_neg (other (by decide) (by decide)), if_neg (other (by decide) (by decide)),
    if_neg (other (by decide) (by decide)), if_neg (other (by decide) (by decide)), if_neg (by omega), if_pos (by omega),
    Nat.add_sub_cancel_left]

/-- A write that sets CAGE_REQ of an uncaged phase and leaves it with its rail cages it. -/
theorem State.phaseHook_cageReq {s t : State} {p : Nat} (req : t.bit (Bit.PHASE_CTRL_CAGE_REQ p) = true)
    (assigned : t.bit (Bit.PHASE_CTRL_ASSIGNED p) = s.bit (Bit.PHASE_CTRL_ASSIGNED p))
    (rail : t.fld (Bit.PHASE_CTRL_RAIL p) = s.fld (Bit.PHASE_CTRL_RAIL p))
    (uncaged : (t.setBit (Bit.PHASE_CTRL_CAGE_REQ p) (s.bit (Bit.PHASE_CTRL_CAGE_REQ p))).bit (phCaged p) = false) :
    s.phaseHook t p 1 = ((t.setBit (Bit.PHASE_CTRL_CAGE_REQ p) (s.bit (Bit.PHASE_CTRL_CAGE_REQ p))).setBit
      (Bit.PHASE_CTRL_CAGE_REQ p) true).cagePhase p 3 := by
  have stays : (s.bit (Bit.PHASE_CTRL_ASSIGNED p) && (!t.bit (Bit.PHASE_CTRL_ASSIGNED p) ||
      decide (s.fld (Bit.PHASE_CTRL_RAIL p) ≠ t.fld (Bit.PHASE_CTRL_RAIL p)))) = false := by simp [assigned, rail]
  unfold State.phaseHook
  rw [if_pos rfl]
  dsimp only
  rw [stays, if_neg Bool.false_ne_true, if_pos (by simp [req, uncaged])]

/-! ### A phase of a pile-in (R77, R78) -/

/-- What a pile-in does with one phase: it takes part, and its turn-on is asked for unless it is in its on-time. -/
def State.pileInPhase (x : State) (r p : Nat) (above : List (Fin 16)) : State :=
  let y := (x.activate p).wrB (Reg.phAbove p) (above.any fun q => q.val = p)
  if y.rd (Reg.phPwm p) = 1 then y else (y.wr (Reg.phDue p) 2).turnOn r p

section
variable {t : State} (runs : t.ppRuns = true)
include runs

/-! ### Triggers and on-times (R48–R61, R75, R100) -/

theorem execRailTrigger_fires {r : Fin 4} {vMv : Int} (iMa : Int) {p : Nat} {v u : State}
    (sensed : v = (t.remoteGates r).wrB (Reg.rlAboveOvs r) ((t.remoteGates r).overshoots r vMv)) (switches : v.switching r = true)
    (noBrake : v.bit (rlBraking r) = false) (below : v.on (Reg.rlAboveOvs r) = false)
    (apart : (v.on (Reg.rlTrigNs r) && !v.since (v.rd (Reg.rlTrigNs r) - 1) 20) = false)
    (counted : u = (v.wr (Reg.rlTrigNs r) (v.now + 1)).wr (Reg.rlTrigs r) (min 64 (v.rd (Reg.rlTrigs r) + 1)))
    (next : u.nextPhase r = some p) (noBurst : u.railSt r ≠ 3) :
    execRailTrigger r vMv iMa t = .next (u.askTurnOn r p 1 iMa).settle :=
  State.ppDo_of_runs runs ((State.trigger_counted iMa sensed switches noBrake below apart counted next).trans (if_pos noBurst))

theorem execRailTrigger_begins_burst {r : Fin 4} {vMv : Int} (iMa : Int) {p : Nat} {v u : State}
    (sensed : v = (t.remoteGates r).wrB (Reg.rlAboveOvs r) ((t.remoteGates r).overshoots r vMv)) (switches : v.switching r = true)
    (noBrake : v.bit (rlBraking r) = false) (below : v.on (Reg.rlAboveOvs r) = false)
    (apart : (v.on (Reg.rlTrigNs r) && !v.since (v.rd (Reg.rlTrigNs r) - 1) 20) = false)
    (counted : u = (v.wr (Reg.rlTrigNs r) (v.now + 1)).wr (Reg.rlTrigs r) (min 64 (v.rd (Reg.rlTrigs r) + 1)))
    (next : u.nextPhase r = some p) (burst : u.railSt r = 3) (noneLeft : u.on (Reg.rlBurstLeft r) = false) (off : u.rd (Reg.phPwm p) ≠ 1) :
    execRailTrigger r vMv iMa t =
      .next ((u.wr (Reg.rlBurstLeft r) (u.fld (Bit.LL_CTRL_BURST_PULSES r) + 1 : Nat)).askTurnOn r p 1 iMa).settle := by
  refine State.ppDo_of_runs runs ((State.trigger_counted iMa sensed switches noBrake below apart counted next).trans ?_)
  rw [if_neg (not_not_intro burst), if_neg (by simp [noneLeft, off])]

theorem execOnTimeEnd_low {p : Fin 16} {riseMa : Int} {r : Nat} {u : State} (rail : r = t.fld (Bit.PHASE_CTRL_RAIL p))
    (high : t.rd (Reg.phPwm p) = 1) (lapsed : t.since (t.rd (Reg.phOnNs p)) (t.rd (Reg.phTaps p) * 5 / 32) = true)
    (compared : u = t.compareRise r p (t.rd (Reg.phTaps p)) riseMa) (active : u.bit (phActive p) = true)
    (noBrake : u.bit (rlBraking r) = false) (noBurst : u.railSt r ≠ 3) : execOnTimeEnd p riseMa t = .next (u.toLow p).settle := by
  subst rail compared
  refine State.ppDo_of_runs runs ((if_pos high).trans ((if_pos lapsed).trans ?_))
  exact (if_neg (by simp [active, noBrake, noBurst])).trans (State.when_false _ _ (decide_eq_false noBurst))

theorem execOnTimeEnd_compares {p : Fin 16} (riseMa : Int) (notHigh : t.rd (Reg.phPwm p) ≠ 1) (waits : t.on (Reg.phCmp p) = true) :
    execOnTimeEnd p riseMa t =
      .next ((t.compareRise (t.fld (Bit.PHASE_CTRL_RAIL p)) p (t.rd (Reg.phCmp p)) riseMa).wr (Reg.phCmp p) 0).settle :=
  State.ppDo_of_runs runs ((if_neg notHigh).trans (if_pos waits))

theorem execFrequencyLockTrim_full {r : Fin 4} (full : t.rd (Reg.rlTrigs r) = 64) :
    execFrequencyLockTrim r t = .next (((t.wr (Reg.rlLock r) (750000 + t.free % 500001)).wr (Reg.rlTrigs r) 0).used).settle :=
  State.ppDo_of_runs runs (if_pos full)

theorem execOnTimeClamp_held {r : Fin 4} (switches : t.switching r = true)
    (held : ((t.active r).any fun p => decide (t.onTaps r p = 128) || decide (t.onTaps r p = t.upperTaps r)) = true)
    (once : t.on (Reg.rlClampRun r) = false) :
    execOnTimeClamp r t = .next ((t.wr (Reg.rlClampRun r) 1).raise (64 + r)).settle := by
  refine State.ppDo_of_runs runs ?_
  dsimp only
  rw [switches, held, once]
  rfl

theorem execVselCodeTaken_other {r : Fin 4} {code : Fin 8}
    (other : (t.wr (Reg.VSEL_PINS r) (code.val : Int)).rdN (Reg.rlSelIdx r) ≠ code)
    (pins : (t.wr (Reg.VSEL_PINS r) (code.val : Int)).bit (Bit.RAIL_CTRL_SOFT_VSEL r) = false) :
    execVselCodeTaken r code t = .next ((t.wr (Reg.VSEL_PINS r) (code.val : Int)).selectPoint r code).settle :=
  State.ppDo_of_runs runs (if_pos ⟨pins, other⟩)

/-! ### Light load (R71–R76, R85) -/

theorem execPhaseShed_sheds {r : Fin 4} (enabled : t.bit (Bit.LL_CTRL_SHED_EN r) = true) (reg : t.railSt r = 2)
    (enough : t.fld (Bit.LL_CTRL_MIN_PHASES r) + 1 < (t.active r).length) (light : t.perPhaseBelow r (t.rd (Reg.SHED_MA r)) = true)
    (free : t.lightHeld r = false) (dwelt : t.rd (Reg.rlDwell r) ≤ t.now) : execPhaseShed r t = .next (t.shedPhase r).settle :=
  State.ppDo_of_runs runs (if_pos (by simp [enabled, reg, enough, light, free, dwelt]))

theorem execPhaseAdd_adds {r : Fin 4} (switches : t.switching r = true)
    (heavy : t.rd (Reg.ADD_MA r) * ((t.active r).length : Int) < t.rd (Reg.IOUT_MA r))
    (spaced : t.on (Reg.rlAddNs r) = false ∨ t.since (t.rd (Reg.rlAddNs r) - 1) 10000 = true) :
    execPhaseAdd r t = .next (((t.shedUndo r).addPhase r).wr (Reg.rlAddNs r) (t.now + 1)).settle :=
  State.ppDo_of_runs runs (if_pos (by simpa [switches, heavy] using spaced))

theorem execShedRotation_rotates {r : Fin 4} (enabled : t.bit (Bit.LL_CTRL_ROT_EN r) = true) (shed : t.someShed r = true)
    (passed : t.since (t.rd (Reg.rlRotNs r)) (t.rd Reg.ROT_MS * 1000000) = true) :
    execShedRotation r t = .next ((t.wr (Reg.rlShedOfs r) ((t.rd (Reg.rlShedOfs r) + 1) % 16)).wr (Reg.rlRotNs r) t.now).settle :=
  State.ppDo_of_runs runs ((if_neg (by simp [enabled, shed])).trans (if_pos passed))

theorem execBurstEntry_enters {r : Fin 4} (reg : t.railSt r = 2) (one : (t.active r).length = 1) (enabled : t.bit (Bit.LL_CTRL_BURST_EN r) = true)
    (alone : t.shared r = false) (low : t.on (Reg.rlLowNs r) = true) (passed : t.since (t.rd (Reg.rlLowNs r) - 1) 1000000 = true)
    (free : t.lightHeld r = false) :
    execBurstEntry r t = .next (forAll (t.active r) (fun p u => (u.wr (Reg.phDue p) 0).when (decide (u.rd (Reg.phPwm p) ≠ 1)) fun v => v.toMid p)
      ((t.railTo r 3).wr (Reg.rlBurstLeft r) 0)).settle :=
  State.ppDo_of_runs runs (if_pos ⟨reg, one, enabled, alone, low, passed, free⟩)

theorem execBurstRefresh_triggers {r : Fin 4} (vMv iMa : Int) (burst : t.railSt r = 3)
    (asleep : t.on (Reg.rlTrigNs r) = false ∨ t.since (t.rd (Reg.rlTrigNs r) - 1) (t.rd (Reg.SLEEP_MAX_US r) * 1000) = true) :
    execBurstRefresh r vMv iMa t = .next (t.trigger r vMv iMa).settle :=
  State.ppDo_of_runs runs (if_pos ⟨burst, asleep⟩)

theorem execBurstExit_above {r : Fin 4} (heavy : t.rd (Reg.BURST_EXIT_MA r) < t.rd (Reg.IOUT_MA r)) :
    execBurstExit r t = .next (t.burstEnds r).settle :=
  State.ppDo_of_runs runs (if_pos heavy)

/-! ### Large transients (R76–R83) -/

theorem execPileIn_piles {r : Fin 4} {vMv : Int} {above : List (Fin 16)} {u v : State} (switches : t.switching r = true)
    (enabled : t.bit (Bit.RAIL_CTRL_PILEIN_EN r) = true) (armed : t.on (Reg.rlPileArmed r) = true)
    (under : t.belowRef r vMv (-2 * t.rd (Reg.PILEIN_PERMILLE r)) = true) (ended : u = (t.burstEnds r).wr (Reg.rlAboveOvs r) 0)
    (piled : v = forAll (u.usable r) (fun p x => x.pileInPhase r p above)
      (((u.brakeEnds r).setFld (rlPilein r) 1).wr (Reg.rlPileArmed r) 0)) :
    execPileIn r vMv above t = .next ((v.wr (Reg.rlLastOrder r)
      ((((mostBy (fun p => t.fld (Bit.PHASE_CTRL_ORDER p)) (u.usable r)).map fun p => t.fld (Bit.PHASE_CTRL_ORDER p)).getD 0 + 1 : Nat) : Int)).wr
        (Reg.rlDwell r) (t.now + t.rd Reg.SHED_DWELL_US * 1000)).settle := by
  subst ended piled
  exact State.ppDo_of_runs runs (if_pos (by simp only [switches, enabled, armed, under, Bool.and_self]))

theorem execPileInRearm_above {r : Fin 4} {vMv : Int} (above : t.aboveRef r vMv (-t.rd (Reg.PILEIN_PERMILLE r)) = true) :
    execPileInRearm r vMv t = .next ((t.setFld (rlPilein r) 0).wr (Reg.rlPileArmed r) 1).settle :=
  State.ppDo_of_runs runs (if_pos above)

theorem execPileInRearm_notAbove {r : Fin 4} {vMv : Int} (notAbove : t.aboveRef r vMv (-t.rd (Reg.PILEIN_PERMILLE r)) = false) :
    execPileInRearm r vMv t = .next t.settle :=
  State.ppDo_of_runs runs (if_neg (by simp [notAbove]))

theorem execOvershootTruncation_brakes {r : Fin 4} {vMv : Int} (switches : t.switching r = true) (overshoot : t.overshoots r vMv = true)
    (mode : t.fld (Bit.RAIL_CTRL_OVS_MODE r) = 1) :
    execOvershootTruncation r vMv t =
      .next ((forAll (t.phasesOf r) (fun p v => v.truncate p true) (t.wr (Reg.rlAboveOvs r) 1)).setFld (rlBraking r) 1).settle :=
  State.ppDo_of_runs runs ((if_pos (by simp [switches, overshoot])).trans (if_pos mode))

theorem execOvershootTruncation_truncates {r : Fin 4} {vMv : Int} (switches : t.switching r = true) (overshoot : t.overshoots r vMv = true)
    (mode : t.fld (Bit.RAIL_CTRL_OVS_MODE r) ≠ 1) :
    execOvershootTruncation r vMv t = .next (forAll (t.phasesOf r) (fun p v => v.truncate p false) (t.wr (Reg.rlAboveOvs r) 1)).settle :=
  State.ppDo_of_runs runs ((if_pos (by simp [switches, overshoot])).trans (if_neg mode))

theorem execBrakingEnd_below {r : Fin 4} {vMv : Int} (below : t.belowRef r vMv (t.rd (Reg.OVS_PERMILLE r)) = true) :
    execBrakingEnd r vMv t = .next (((t.brakeEnds r).wr (Reg.rlAboveOvs r) 0).turnOns r).settle :=
  State.ppDo_of_runs runs (if_pos below)

theorem execOffsetDecayEnd_running (r : Fin 4) : execOffsetDecayEnd r t =
    .next (((t.remoteGates r).removeAnns fun a => a.rail = r && a.opened && decide (a.start + a.spanNs ≤ t.timebase)).ffActive r).settle :=
  State.ppDo_of_runs runs rfl

/-! ### Protection (R64–R66, R75, R88–R99) -/

theorem execValleyLimit_waits {p : Fin 16} {iMa : Int} {r : Nat} (rail : r = t.fld (Bit.PHASE_CTRL_RAIL p)) (switches : t.switching r = true)
    (active : (t.active r).contains p.val = true) (notHigh : t.rd (Reg.phPwm p) ≠ 1) (above : t.valleyLimit r p < iMa) :
    execValleyLimit p iMa t =
      .next (((t.wr (Reg.phAbove p) 1).when (decide (t.rd (Reg.phDue p) = 0)) fun u => u.wr (Reg.phDue p) 1).valleyWait r p).settle := by
  subst rail
  refine State.ppDo_of_runs runs ((if_pos ?_).trans (if_pos above))
  rw [switches, active, decide_eq_true notHigh]
  rfl

theorem execValleyLimit_fires {p : Fin 16} {iMa : Int} {r : Nat} (rail : r = t.fld (Bit.PHASE_CTRL_RAIL p)) (switches : t.switching r = true)
    (active : (t.active r).contains p.val = true) (notHigh : t.rd (Reg.phPwm p) ≠ 1) (below : iMa ≤ t.valleyLimit r p) :
    execValleyLimit p iMa t = .next ((t.wr (Reg.phAbove p) 0).turnOn r p).settle := by
  subst rail
  refine State.ppDo_of_runs runs ((if_pos ?_).trans (if_neg (Int.not_lt.2 below)))
  rw [switches, active, decide_eq_true notHigh]
  rfl

theorem execHiccupEntry_due {r : Fin 4} (due : t.hiccupDue r = true) : execHiccupEntry r t = .next (t.railHiccup r false).settle :=
  State.ppDo_of_runs runs (if_pos (by rw [due, Bool.true_or]))

theorem execSoftRetry_lapsed {r : Fin 4} (hiccup : t.railSt r = 5)
    (lapsed : t.since (t.rd (Reg.rlStNs r)) (t.rd (Reg.HICCUP_OFF_MS r) * 1000000) = true) : execSoftRetry r t = .next (t.softRetry r).settle :=
  State.ppDo_of_runs runs (if_pos ⟨hiccup, lapsed⟩)

theorem execFastShortCircuit_hiccups {p : Fin 16} {iMa : Int} {r : Nat} (rail : r = t.fld (Bit.PHASE_CTRL_RAIL p))
    (usable : (t.usable r).contains p.val = true) (short : t.rd (Reg.Phase_ISC_MA p) < iMa) (switches : t.switching r = true) :
    execFastShortCircuit p iMa t = .next (((t.raise (32 + p)).railHiccup r false).shortLow r).settle := by
  subst rail
  refine State.ppDo_of_runs runs ((if_pos ?_).trans (if_pos switches))
  rw [usable, decide_eq_true short]
  rfl

theorem execPhaseZeroCrossing_afterShort {p : Fin 16} {crossed : Bool} (waits : t.on (Reg.phZeroWait p) = true)
    (due : (crossed || t.since (t.rd (Reg.phOffNs p) - 1) 2000) = true) :
    execPhaseZeroCrossing ⟨p, crossed⟩ t = .next (t.toMid p).settle :=
  State.ppDo_of_runs runs ((if_pos waits).trans (if_pos due))

theorem execPhaseZeroCrossing_emulated {p : Fin 16} (noWait : t.on (Reg.phZeroWait p) = false)
    (assigned : t.bit (Bit.PHASE_CTRL_ASSIGNED p) = true) (low : t.rd (Reg.phPwm p) = 2)
    (diode : t.deInForce (t.fld (Bit.PHASE_CTRL_RAIL p)) = true) : execPhaseZeroCrossing ⟨p, true⟩ t = .next (t.toMid p).settle :=
  State.ppDo_of_runs runs ((if_neg (by simp [noWait])).trans (if_pos (by simp [assigned, low, diode])))

/-- An average above the limit that has not been taken yet raises its source, and LIMIT is entered or becomes one of slow overload. -/
theorem execSlowOverload_taken {r : Fin 4} {u : State} (switches : t.switching r = true) (above : t.avgAbove r = true)
    (once : t.on (Reg.rlOvlAbove r) = false) (raised : u = (t.wr (Reg.rlOvlAbove r) 1).raise (52 + r)) :
    execSlowOverload r (t.avgMa r) t = .next (if u.railSt r = 4 then u.overloaded r else u.enterLimit r).settle := by
  subst raised
  exact State.ppDo_of_runs runs ((if_pos rfl).trans (if_pos (by rw [switches, above, once]; rfl)))

theorem execDegradeHoldExpiry_lapsed {r : Fin 4} (limit : t.railSt r = 4)
    (lapsed : t.since (t.rd (Reg.rlStNs r)) (t.rd (Reg.DEGRADE_HOLD_MS r) * 1000000) = true) :
    execDegradeHoldExpiry r t = .next (t.wr (Reg.rlLimitHold r) 0).settle :=
  State.ppDo_of_runs runs (if_pos ⟨limit, lapsed⟩)

theorem execLimitExit_leaves {r : Fin 4} (limit : t.railSt r = 4)
    (below : (t.on (Reg.rlOvlLim r) && t.on (Reg.OVL_LIMIT_MA r)) = false ∨ t.rd (Reg.rlAvg r) < t.rd (Reg.OVL_LIMIT_MA r) * 65536)
    (within : t.rd (Reg.IOUT_MA r) ≤ t.railCap r) (noWait : ((t.active r).any fun p => t.on (Reg.phWait p)) = false)
    (quiet : t.on (Reg.rlValleyNs r) = false ∨ t.since (t.rd (Reg.rlValleyNs r) - 1) 100000 = true) :
    execLimitExit r (t.avgMa r) t =
      .next ((((t.railTo r 2).wr (Reg.rlOvlLim r) 0).wr (Reg.rlLimitHold r) 0).wr (Reg.rlCageLim r) 0).settle := by
  have average : (!(t.on (Reg.rlOvlLim r) && t.on (Reg.OVL_LIMIT_MA r)) ||
      decide (t.rd (Reg.rlAvg r) < t.rd (Reg.OVL_LIMIT_MA r) * 65536)) = true := by
    rw [Bool.or_eq_true, Bool.not_eq_true', decide_eq_true_iff]
    exact below
  have valley : (!t.on (Reg.rlValleyNs r) || t.since (t.rd (Reg.rlValleyNs r) - 1) 100000) = true := by
    rw [Bool.or_eq_true, Bool.not_eq_true']
    exact quiet
  refine State.ppDo_of_runs runs ((if_pos rfl).trans (if_pos ?_))
  rw [average, valley, noWait, decide_eq_true limit, decide_eq_true within]
  rfl

/-! ### Cages (R101–R103) -/

theorem execPhaseOpenDetect_cages {p : Fin 16} (assigned : t.bit (Bit.PHASE_CTRL_ASSIGNED p) = true) (uncaged : t.bit (phCaged p) = false)
    (counted : t.rd (Reg.OPEN_CNT p) ≤ t.rd (Reg.phOpenRun p)) : execPhaseOpenDetect p t = .next ((t.cagePhase p 1).raise p).settle :=
  State.ppDo_of_runs runs (if_pos (by simp [assigned, uncaged, counted]))

theorem execPhaseSenseRange_cages {p : Fin 16} {mv : Int} (assigned : t.bit (Bit.PHASE_CTRL_ASSIGNED p) = true)
    (uncaged : t.bit (phCaged p) = false) (outside : mv < 50 ∨ 1550 < mv) :
    execPhaseSenseRange p mv t = .next ((t.cagePhase p 2).raise (16 + p)).settle :=
  State.ppDo_of_runs runs (if_pos (by simpa [assigned, uncaged] using outside))

omit runs in
theorem execPhaseCageReq_accepted {level : Fin 4} {p : Fin 16} {u : State} {raw : Nat} (running : t.procRuns = true)
    (ok : t.accepts level (0x2010 + p) 1 (withBits (t.rd (Reg.PHASE_CTRL p)) 12 1 1) = true)
    (e : raw = (rawOf (0x2010 + p) 1 (withBits (t.rd (Reg.PHASE_CTRL p)) 12 1 1)).2) (written : u = t.written (0x2010 + p) 1 raw)
    (req : u.bit (Bit.PHASE_CTRL_CAGE_REQ p) = true) (assigned : u.bit (Bit.PHASE_CTRL_ASSIGNED p) = t.bit (Bit.PHASE_CTRL_ASSIGNED p))
    (rail : u.fld (Bit.PHASE_CTRL_RAIL p) = t.fld (Bit.PHASE_CTRL_RAIL p))
    (uncaged : (u.setBit (Bit.PHASE_CTRL_CAGE_REQ p) (t.bit (Bit.PHASE_CTRL_CAGE_REQ p))).bit (phCaged p) = false) :
    execPhaseCageReq level p t =
      .next ((((u.setBit (Bit.PHASE_CTRL_CAGE_REQ p) (t.bit (Bit.PHASE_CTRL_CAGE_REQ p))).setBit (Bit.PHASE_CTRL_CAGE_REQ p) true).cagePhase p
        3).served (0x2010 + p)).settle := by
  subst e written
  exact State.hostWrite_effect running ok ((State.hook_phaseCtrl _ _ p.isLt _).trans (State.phaseHook_cageReq req assigned rail uncaged))

end

/-- Settles O32: the comparison with the reference, in the units of `State.aboveRef`, decides the command's one branch. -/
theorem pileInRearms : Obligations.PileInRearms := by
  intro r vMv t runs
  exact ⟨fun above => execPileInRearm_above runs (decide_eq_true above),
    fun notAbove => execPileInRearm_notAbove runs (decide_eq_false (Int.not_lt.2 notAbove))⟩

/-- Settles O40: each command, at a plane that runs, is its effect, settled; the conditions pick the branch of the effect. -/
theorem railTriggerCommandsComplete : Obligations.RailTriggerCommandsComplete := by
  unfold Obligations.RailTriggerCommandsComplete
  refine ⟨?railTrigger, ?railTriggerInBurst, ?onTimeEnd, ?onTimeEndCompares, ?frequencyLockTrim, ?onTimeClamp, ?vselCodeTaken, ?phaseShed,
    ?phaseAdd, ?shedRotation, ?burstEntry⟩
  case railTrigger => exact fun _ _ iMa _ _ _ _ runs => execRailTrigger_fires runs iMa
  case railTriggerInBurst => exact fun _ _ iMa _ _ _ _ runs => execRailTrigger_begins_burst runs iMa
  case onTimeEnd => exact fun _ _ _ _ _ runs => execOnTimeEnd_low runs
  case onTimeEndCompares => exact fun _ riseMa _ runs => execOnTimeEnd_compares runs riseMa
  case frequencyLockTrim => exact fun _ _ runs => execFrequencyLockTrim_full runs
  case onTimeClamp => exact fun _ _ runs => execOnTimeClamp_held runs
  case vselCodeTaken => exact fun _ _ _ runs _ other pins => execVselCodeTaken_other runs other pins
  case phaseShed => exact fun _ _ runs => execPhaseShed_sheds runs
  case phaseAdd => exact fun _ _ runs => execPhaseAdd_adds runs
  case shedRotation => exact fun _ _ runs => execShedRotation_rotates runs
  case burstEntry => exact fun _ _ runs => execBurstEntry_enters runs

/-- Settles O41: each command, at a plane that runs, is its effect, settled; the conditions pick the branch of the effect. -/
theorem railProtectionCommandsComplete : Obligations.RailProtectionCommandsComplete := by
  unfold Obligations.RailProtectionCommandsComplete
  refine ⟨?burstRefresh, ?burstExit, ?pileIn, ?pileInRearm, ?overshootBrakes, ?overshootTruncates, ?brakingEnd, ?offsetDecayEnd,
    ?valleyLimitWaits, ?valleyLimitFires, ?hiccupEntry, ?softRetry, ?fastShortCircuit, ?zeroCrossingAfterShort, ?zeroCrossingEmulated,
    ?slowOverload, ?slowOverloadInLimit, ?degradeHoldExpiry, ?limitExit, ?phaseOpenDetect, ?phaseSenseRange, ?phaseCageReq⟩
  case burstRefresh => exact fun _ vMv iMa _ runs => execBurstRefresh_triggers runs vMv iMa
  case burstExit => exact fun _ _ runs _ => execBurstExit_above runs
  case pileIn => exact fun _ _ _ _ _ _ runs => execPileIn_piles runs
  case pileInRearm => exact fun _ _ _ runs => execPileInRearm_above runs
  case overshootBrakes => exact fun _ _ _ runs => execOvershootTruncation_brakes runs
  case overshootTruncates => exact fun _ _ _ runs => execOvershootTruncation_truncates runs
  case brakingEnd => exact fun _ _ _ runs => execBrakingEnd_below runs
  case offsetDecayEnd => exact fun r _ runs => execOffsetDecayEnd_running runs r
  case valleyLimitWaits => exact fun _ _ _ _ runs => execValleyLimit_waits runs
  case valleyLimitFires => exact fun _ _ _ _ runs => execValleyLimit_fires runs
  case hiccupEntry => exact fun _ _ runs => execHiccupEntry_due runs
  case softRetry => exact fun _ _ runs => execSoftRetry_lapsed runs
  case fastShortCircuit => exact fun _ _ _ _ runs => execFastShortCircuit_hiccups runs
  case zeroCrossingAfterShort => exact fun _ _ _ runs => execPhaseZeroCrossing_afterShort runs
  case zeroCrossingEmulated => exact fun _ _ runs => execPhaseZeroCrossing_emulated runs
  case slowOverload =>
    intro r u t runs switches above once raised notLimit
    rw [← if_neg (t := u.overloaded r) (e := u.enterLimit r) notLimit]
    exact execSlowOverload_taken runs switches above once raised
  case slowOverloadInLimit =>
    intro r u t runs switches above once raised limit
    rw [← if_pos (t := u.overloaded r) (e := u.enterLimit r) limit]
    exact execSlowOverload_taken runs switches above once raised
  case degradeHoldExpiry => exact fun _ _ runs => execDegradeHoldExpiry_lapsed runs
  case limitExit => exact fun _ _ runs => execLimitExit_leaves runs
  case phaseOpenDetect => exact fun _ _ runs => execPhaseOpenDetect_cages runs
  case phaseSenseRange => exact fun _ _ _ runs => execPhaseSenseRange_cages runs
  case phaseCageReq => exact fun _ _ _ _ _ running => execPhaseCageReq_accepted running

end Sys2Proof.Machine

/-!
The commands of the load channels (03_load_channels.md R109–R153): what each does at a plane that runs. A write of a context's control or of
its binding is read once for what its hook comes to; every other command is its effect on the branch that its conditions pick.
-/
namespace Sys2Proof.Machine

/-! ### A write of CTX_CTRL or of BINDING (R109, R114, R117, R140, R147) -/

theorem State.hook_ctx (s t : State) {n : Nat} (h : n < 512) (sub : Nat) (new : Int) :
    s.hook t (0x3000 + n) sub new = s.ctxHook t n sub new := by
  unfold State.hook
  rw [if_neg (by omega)]
  unfold State.hookHigh
  dsimp only
  rw [if_pos (by omega), Nat.add_sub_cancel_left]

/-- The part `t` after a write of CTX_CTRL, with CMD and CAGE_REQ of context `n` as they were in `s` before it: both change only by what
the write brings about. -/
def State.ctxRestored (s t : State) (n : Nat) : State :=
  (t.setBit (Bit.CTX_CTRL_CMD n) (s.cmd n)).setBit (Bit.CTX_CTRL_CAGE_REQ n) (s.bit (Bit.CTX_CTRL_CAGE_REQ n))

/-- What the written CMD brings about in context `n` (R117, R140). -/
def State.ctxCommanded (s t : State) (n : Nat) : State :=
  if !t.cmd n then (s.ctxRestored t n).cmdOff n else if s.cmd n then s.ctxRestored t n else (s.ctxRestored t n).cmdOn n

section
variable {s t : State} {n : Nat}

theorem State.ctxCommanded_off (off : t.cmd n = false) : s.ctxCommanded t n = (s.ctxRestored t n).cmdOff n := if_pos (by simp [off])

theorem State.ctxCommanded_stays_on (was : s.cmd n = true) (on : t.cmd n = true) : s.ctxCommanded t n = s.ctxRestored t n :=
  (if_neg (by simp [on])).trans (if_pos was)

theorem State.ctxCommanded_on (was : s.cmd n = false) (on : t.cmd n = true) : s.ctxCommanded t n = (s.ctxRestored t n).cmdOn n :=
  (if_neg (by simp [on])).trans (if_neg (by simp [was]))

/-- A write of CTX_CTRL that keeps CLASS and INRUSH_MODE: CMD takes effect, then CAGE_REQ cages a context that is not caged. -/
theorem State.ctxHook_ctrl (new : Int) (sameClass : t.classOf n = s.classOf n)
    (sameMode : t.fld (Bit.CTX_CTRL_INRUSH_MODE n) = s.fld (Bit.CTX_CTRL_INRUSH_MODE n)) :
    s.ctxHook t n 1 new =
      (if t.bit (Bit.CTX_CTRL_CAGE_REQ n) && decide ((s.ctxCommanded t n).ctxSt n ≠ 12) then
        ((s.ctxCommanded t n).setBit (Bit.CTX_CTRL_CAGE_REQ n) true).cageCtx n 0xA else s.ctxCommanded t n).redrive n := by
  unfold State.ctxHook
  extract_lets k b u v w y
  rw [if_pos rfl]
  have classKept : y = w := State.when_false _ _ (by simp [sameClass])
  rw [State.when_false _ _ (by simp [sameMode]), classKept]
  rfl

theorem State.ctxHook_ctrl_noCage (new : Int) (noReq : t.bit (Bit.CTX_CTRL_CAGE_REQ n) = false) (sameClass : t.classOf n = s.classOf n)
    (sameMode : t.fld (Bit.CTX_CTRL_INRUSH_MODE n) = s.fld (Bit.CTX_CTRL_INRUSH_MODE n)) :
    s.ctxHook t n 1 new = (s.ctxCommanded t n).redrive n := by
  rw [State.ctxHook_ctrl new sameClass sameMode, if_neg (by simp [noReq])]

theorem State.ctxHook_ctrl_cages (new : Int) (req : t.bit (Bit.CTX_CTRL_CAGE_REQ n) = true) (sameClass : t.classOf n = s.classOf n)
    (sameMode : t.fld (Bit.CTX_CTRL_INRUSH_MODE n) = s.fld (Bit.CTX_CTRL_INRUSH_MODE n)) (uncaged : (s.ctxCommanded t n).ctxSt n ≠ 12) :
    s.ctxHook t n 1 new = (((s.ctxCommanded t n).setBit (Bit.CTX_CTRL_CAGE_REQ n) true).cageCtx n 0xA).redrive n := by
  rw [State.ctxHook_ctrl new sameClass sameMode, if_pos (by simp [req, uncaged])]

theorem State.ctxHook_binding (s t : State) (n : Nat) (new : Int) : s.ctxHook t n 2 new =
    (t.when (decide (16 ≤ n) && s.valid n) fun u => u.mbxDrop (s.position n) (s.channel n)).bindCtx n := by
  have notCtrl : odKey (0x3000 + n) 2 ≠ odKey (0x3000 + n) 1 := by
    unfold odKey
    omega
  unfold State.ctxHook
  dsimp only
  rw [if_neg notCtrl, if_pos rfl]

end

section
variable {t : State} (running : t.procRuns = true)
include running

theorem execCmdOn_accepted {level : Fin 4} {n : Fin 512} {u : State} {raw : Nat}
    (ok : t.accepts level (0x3000 + n) 1 (withBits (t.rd (Reg.CTX_CTRL n)) 15 1 1) = true)
    (e : raw = (rawOf (0x3000 + n) 1 (withBits (t.rd (Reg.CTX_CTRL n)) 15 1 1)).2) (written : u = t.written (0x3000 + n) 1 raw)
    (was : t.cmd n = false) (on : u.cmd n = true) (noReq : u.bit (Bit.CTX_CTRL_CAGE_REQ n) = false) (sameClass : u.classOf n = t.classOf n)
    (sameMode : u.fld (Bit.CTX_CTRL_INRUSH_MODE n) = t.fld (Bit.CTX_CTRL_INRUSH_MODE n)) :
    execCmdOn level n t = .next ((((t.ctxRestored u n).cmdOn n).redrive n).served (0x3000 + n)).settle := by
  rw [← State.ctxCommanded_on was on]
  subst e written
  exact State.hostWrite_effect running ok ((State.hook_ctx _ _ n.isLt _ _).trans (State.ctxHook_ctrl_noCage _ noReq sameClass sameMode))

theorem execCmdOff_accepted {level : Fin 4} {n : Fin 512} {u : State} {raw : Nat}
    (ok : t.accepts level (0x3000 + n) 1 (withBits (t.rd (Reg.CTX_CTRL n)) 15 1 0) = true)
    (e : raw = (rawOf (0x3000 + n) 1 (withBits (t.rd (Reg.CTX_CTRL n)) 15 1 0)).2) (written : u = t.written (0x3000 + n) 1 raw)
    (off : u.cmd n = false) (noReq : u.bit (Bit.CTX_CTRL_CAGE_REQ n) = false) (sameClass : u.classOf n = t.classOf n)
    (sameMode : u.fld (Bit.CTX_CTRL_INRUSH_MODE n) = t.fld (Bit.CTX_CTRL_INRUSH_MODE n)) :
    execCmdOff level n t = .next ((((t.ctxRestored u n).cmdOff n).redrive n).served (0x3000 + n)).settle := by
  rw [← State.ctxCommanded_off off]
  subst e written
  exact State.hostWrite_effect running ok ((State.hook_ctx _ _ n.isLt _ _).trans (State.ctxHook_ctrl_noCage _ noReq sameClass sameMode))

/-- A write that sets CAGE_REQ cages the context after the written CMD has taken effect. -/
theorem execCtxCageReq_accepted {level : Fin 4} {n : Fin 512} {u v : State} {raw : Nat}
    (ok : t.accepts level (0x3000 + n) 1 (withBits (t.rd (Reg.CTX_CTRL n)) 1 1 1) = true)
    (e : raw = (rawOf (0x3000 + n) 1 (withBits (t.rd (Reg.CTX_CTRL n)) 1 1 1)).2) (written : u = t.written (0x3000 + n) 1 raw)
    (commanded : v = t.ctxCommanded u n) (req : u.bit (Bit.CTX_CTRL_CAGE_REQ n) = true) (sameClass : u.classOf n = t.classOf n)
    (sameMode : u.fld (Bit.CTX_CTRL_INRUSH_MODE n) = t.fld (Bit.CTX_CTRL_INRUSH_MODE n)) (uncaged : v.ctxSt n ≠ 12) :
    execCtxCageReq level n t = .next ((((v.setBit (Bit.CTX_CTRL_CAGE_REQ n) true).cageCtx n 0xA).redrive n).served (0x3000 + n)).settle := by
  subst commanded e written
  exact State.hostWrite_effect running ok ((State.hook_ctx _ _ n.isLt _ _).trans (State.ctxHook_ctrl_cages _ req sameClass sameMode uncaged))

theorem execBindingCommit_accepted {level : Fin 4} {n : Fin 512} {value : BitVec 16} {u : State} {raw : Nat}
    (ok : t.accepts level (0x3000 + n) 2 value.toNat = true) (e : raw = (rawOf (0x3000 + n) 2 value.toNat).2)
    (written : u = t.written (0x3000 + n) 2 raw) :
    execBindingCommit level n value t =
      .next (((u.when (decide (16 ≤ n.val) && t.valid n) fun v => v.mbxDrop (t.position n) (t.channel n)).bindCtx n).served
        (0x3000 + n)).settle := by
  subst e written
  exact State.hostWrite_effect running ok ((State.hook_ctx _ _ n.isLt _ _).trans (State.ctxHook_binding _ _ _ _))

end

section
variable {t : State} (runs : t.ppRuns = true)
include runs

/-! ### Turning on and off (R118–R127, R143) -/

theorem execLeadExpiry_ends {n : Fin 512} (lead : t.ctxSt n = 3) (notOver : t.on (Reg.cxLeadOver n) = false)
    (passed : t.rd (Reg.cxLeadEnd n) ≤ t.now) : execLeadExpiry n t = .next (t.leadEnds n).settle :=
  State.ppDo_of_runs runs (if_pos ⟨lead, notOver, passed⟩)

theorem execOffDecayExpiry_noCheck {n : Fin 512} {u : State} (once : t.on (Reg.cxDecayDone n) = false) (off : t.conducting n = false)
    (passed : t.since (t.rd (Reg.cxOffNs n)) (t.rd (Reg.OFF_DECAY_MS n) * 1000000) = true) (decayed : u = t.wr (Reg.cxDecayDone n) 1)
    (noCheck : u.on (Reg.cxCheckWait n) = false) : execOffDecayExpiry n t = .next u.settle := by
  subst decayed
  exact State.ppDo_of_runs runs ((if_neg (by simp [once, off, passed])).trans (if_neg (by simp [noCheck])))

theorem execOffDecayExpiry_passes {n : Fin 512} {u : State} (once : t.on (Reg.cxDecayDone n) = false) (off : t.conducting n = false)
    (passed : t.since (t.rd (Reg.cxOffNs n)) (t.rd (Reg.OFF_DECAY_MS n) * 1000000) = true) (decayed : u = t.wr (Reg.cxDecayDone n) 1)
    (waits : u.on (Reg.cxCheckWait n) = true) (sampled : u.on (Reg.cxSampled n) = true) (below : u.rd (Reg.V_MV n) < u.rd (Reg.VDAMAGE_MV n)) :
    execOffDecayExpiry n t = .next (u.enablePasses n).settle := by
  subst decayed
  exact State.ppDo_of_runs runs
    ((if_neg (by simp [once, off, passed])).trans ((if_pos (by simp [waits, sampled])).trans (if_pos below)))

theorem execInrushTimeout_trips {n : Fin 512} (ramps : t.stThen n = 4 ∨ (t.stThen n = 5 ∧ t.regateThen n = true))
    (lasted : t.since (t.rd (Reg.cxRampNs n)) (t.rd (Reg.INRUSH_MAX_MS n) * 1000000) = true) :
    execInrushTimeout n t = .next (t.trip n 4).settle :=
  State.ppDo_of_runs runs (if_pos ⟨ramps, lasted⟩)

/-! ### Samples (R129, R135, R152, R153) -/

theorem execChannelSample_good {n : Fin 16} {vinMv : Int} {u : State} (valid : t.valid n = true)
    (current : t.resultValid (40 + n) = true) (voltage : t.resultValid (56 + n) = true) (taken : u = t.wr (Reg.cxVin n) (satU 16 vinMv)) :
    execChannelSample n (satI32 (t.shuntMa (40 + n) (t.rd (Reg.Ctx_SHUNT_UOHM n)))) (satU 16 (t.quantityMv (56 + n))) vinMv t =
      .next ((u.toTickOf (Reg.cxSampleNs n) 10000).ctxSample n (satI32 (t.shuntMa (40 + n) (t.rd (Reg.Ctx_SHUNT_UOHM n))))
        (satU 16 (t.quantityMv (56 + n))) (u.sampleUs n)).settle := by
  subst taken
  exact State.ppDo_of_runs runs ((if_neg (by simp [valid])).trans (if_pos (by simp [current, voltage])))

theorem execChannelSample_noResult {n : Fin 16} (iMa vMv vinMv : Int) (valid : t.valid n = true)
    (bad : t.resultValid (40 + n) = false ∨ t.resultValid (56 + n) = false) :
    execChannelSample n iMa vMv vinMv t = .next (t.wr (Reg.cxVin n) (satU 16 vinMv)).settle := by
  have notGood : (t.resultValid (40 + n) && t.resultValid (56 + n)) = false := Bool.and_eq_false_iff.2 bad
  exact State.ppDo_of_runs runs ((if_neg (by simp [valid, notGood])).trans (if_neg (by simp [notGood])))

/-! ### Protection (R129–R134) -/

theorem execGateDriveFault_up {n : Fin 16} {mv : Int} (on : t.stThen n = 5 ∨ t.stThen n = 6) (gate : t.gateThen n = 2) (high : 7000 ≤ mv) :
    execGateDriveFault ⟨n, mv⟩ t = .next (t.wr (Reg.cxGateUp n) 1).settle :=
  State.ppDo_of_runs runs ((if_pos ⟨on, gate⟩).trans (if_pos high))

theorem execGateDriveFault_trips {n : Fin 16} {mv : Int} (on : t.stThen n = 5 ∨ t.stThen n = 6) (gate : t.gateThen n = 2) (low : mv < 7000)
    (due : t.on (Reg.cxGateUp n) = true ∨ t.since (t.rd (Reg.cxFullNs n)) 1000000 = true) :
    execGateDriveFault ⟨n, mv⟩ t = .next ((t.trip n 0xB).raise (96 + n)).settle :=
  State.ppDo_of_runs runs ((if_pos ⟨on, gate⟩).trans ((if_neg (Int.not_le.2 low)).trans (if_pos (Bool.or_eq_true_iff.2 due))))

theorem execDirectShort_trips {n : Fin 16} {shuntUv : Int} (conducts : [4, 5, 6].contains (t.stThen n) = true)
    (above : t.shuntNv n (t.rd (Reg.Ctx_ISC_MA n)) < shuntUv * 1000) : execDirectShort ⟨n, shuntUv⟩ t = .next (t.trip n 1).settle :=
  State.ppDo_of_runs runs (if_pos (by rw [conducts, decide_eq_true above]; rfl))

theorem execCurrentLimitReached_limits {n : Fin 16} {shuntUv : Int} (reached : t.shuntNv n (t.rd (Reg.ILIM_MA n)) ≤ shuntUv * 1000)
    (on : t.ctxSt n = 5) (noRamp : t.on (Reg.cxRegate n) = false) (window : t.on (Reg.cxWindow n) = true) :
    execCurrentLimitReached ⟨n, shuntUv⟩ t = .next (t.limitOn n).settle :=
  State.ppDo_of_runs runs ((if_neg (Int.not_lt.2 reached)).trans (if_pos ⟨on, noRamp, window⟩))

theorem execCurrentLimitReached_inrush {n : Fin 16} {shuntUv : Int} (reached : t.shuntNv n (t.rd (Reg.ILIM_MA n)) ≤ shuntUv * 1000)
    (inrush : t.ctxSt n = 4) : execCurrentLimitReached ⟨n, shuntUv⟩ t = .next (t.setFld (cxAtLimit n) 1).settle :=
  State.ppDo_of_runs runs ((if_neg (Int.not_lt.2 reached)).trans ((if_neg (by simp [inrush])).trans (if_pos inrush)))

theorem execCurrentLimitRelease_leaves {n : Fin 16} {shuntUv : Int} (below : shuntUv * 1000 < t.shuntNv n (t.rd (Reg.ILIM_MA n)))
    (limit : t.ctxSt n = 6) : execCurrentLimitRelease ⟨n, shuntUv⟩ t = .next (t.limitOff n).settle :=
  State.ppDo_of_runs runs ((if_neg (Int.not_le.2 below)).trans (if_pos limit))

theorem execCurrentLimitRelease_inrush {n : Fin 16} {shuntUv : Int} (below : shuntUv * 1000 < t.shuntNv n (t.rd (Reg.ILIM_MA n)))
    (inrush : t.ctxSt n = 4) : execCurrentLimitRelease ⟨n, shuntUv⟩ t = .next (t.setFld (cxAtLimit n) 0).settle :=
  State.ppDo_of_runs runs ((if_neg (Int.not_le.2 below)).trans ((if_neg (by simp [inrush])).trans (if_pos inrush)))

theorem execFaultTimerExpiry_trips {n : Fin 512} {u : State} (timed : u = t.runTimer n) (on : u.stThen n = 5 ∨ u.stThen n = 6)
    (reached : 8 * u.tfault n ≤ u.elapsedThen n) : execFaultTimerExpiry n t = .next (u.trip n 2).settle := by
  subst timed
  exact State.ppDo_of_runs runs (if_pos ⟨on, reached⟩)

/-! ### Retries (R138–R142, R150) -/

theorem execRetryTimerExpiry_ends {n : Fin 512} (timer : t.on (Reg.cxRetryRun n) = true) (linked : t.ctxSt n ≠ 10)
    (passed : t.rd (Reg.cxRetryEnd n) ≤ t.now) : execRetryTimerExpiry n t = .next (t.retryEnds n).settle :=
  State.ppDo_of_runs runs (if_pos ⟨timer, linked, passed⟩)

theorem execRetryClear_clears {n : Fin 512} (on : t.ctxSt n = 5 ∨ t.ctxSt n = 6)
    (lasted : t.since (t.rd (Reg.cxOnNs n)) (t.rd (Reg.RETRY_CLEAR_MS n) * 1000000) = true) :
    execRetryClear n t = .next (t.wr (Reg.RETRIES n) 0).settle :=
  State.ppDo_of_runs runs (if_pos ⟨on, lasted⟩)

end

/-- Settles O42: each command, at a plane that runs, is its effect, settled; the conditions pick the branch of the effect. -/
theorem loadChannelCommandsComplete : Obligations.LoadChannelCommandsComplete := by
  unfold Obligations.LoadChannelCommandsComplete
  refine ⟨?cmdOn, ?cmdOff, ?ctxCageReqStaysOn, ?ctxCageReqOff, ?bindingCommit, ?leadExpiry, ?channelSample, ?channelSampleNoResult,
    ?offDecayExpiry, ?offDecayExpiryPasses, ?inrushTimeout, ?gateUp, ?gateDriveFault, ?directShort, ?limitReached, ?limitReachedInrush,
    ?faultTimerExpiry, ?retryTimerExpiry, ?retryClear, ?limitRelease, ?limitReleaseInrush⟩
  case cmdOn => exact fun _ _ _ _ _ running => execCmdOn_accepted running
  case cmdOff => exact fun _ _ _ _ _ running => execCmdOff_accepted running
  case ctxCageReqStaysOn =>
    intro level n v t u raw running ok e written commanded was on
    exact execCtxCageReq_accepted running ok e written (commanded.trans (State.ctxCommanded_stays_on was on).symm)
  case ctxCageReqOff =>
    intro level n v t u raw running ok e written commanded off
    exact execCtxCageReq_accepted running ok e written (commanded.trans (State.ctxCommanded_off off).symm)
  case bindingCommit => exact fun _ _ _ _ _ _ running => execBindingCommit_accepted running
  case leadExpiry => exact fun _ _ runs => execLeadExpiry_ends runs
  case channelSample => exact fun _ _ _ _ runs => execChannelSample_good runs
  case channelSampleNoResult => exact fun _ vinMv _ runs => execChannelSample_noResult runs _ _ vinMv
  case offDecayExpiry => exact fun _ _ _ runs => execOffDecayExpiry_noCheck runs
  case offDecayExpiryPasses => exact fun _ _ _ runs => execOffDecayExpiry_passes runs
  case inrushTimeout => exact fun _ _ runs => execInrushTimeout_trips runs
  case gateUp => exact fun _ _ _ runs => execGateDriveFault_up runs
  case gateDriveFault => exact fun _ _ _ runs => execGateDriveFault_trips runs
  case directShort => exact fun _ _ _ runs => execDirectShort_trips runs
  case limitReached => exact fun _ _ _ runs => execCurrentLimitReached_limits runs
  case limitReachedInrush => exact fun _ _ _ runs => execCurrentLimitReached_inrush runs
  case faultTimerExpiry => exact fun _ _ _ runs => execFaultTimerExpiry_trips runs
  case retryTimerExpiry => exact fun _ _ runs => execRetryTimerExpiry_ends runs
  case retryClear => exact fun _ _ runs => execRetryClear_clears runs
  case limitRelease => exact fun _ _ _ runs => execCurrentLimitRelease_leaves runs
  case limitReleaseInrush => exact fun _ _ _ runs => execCurrentLimitRelease_inrush runs

end Sys2Proof.Machine

/-!
The satellite ports (04_satellite_link.md R162–R196): the check sequence of their frames, and what each of their commands does at a plane
that runs. A write of a port's control or of RESCAN is read once for what its hook comes to; every other command is its effect on the branch
that its conditions pick.
-/
namespace Sys2Proof.Machine

/-! ### The check sequence (R162) -/

theorem crc16_append (l m : List Byte) : crc16 (l ++ m) = m.foldl crc16Byte (crc16 l) := List.foldl_append

/-- Settles O21: the register after each three of the nine bytes. -/
theorem crcCheckValue : Obligations.CrcCheckValue := by
  have afterThree : crc16 [0x31, 0x32, 0x33] = 0x5BCE := by decide
  have afterSix : [0x34, 0x35, 0x36].foldl crc16Byte 0x5BCE = 0x2EF4 := by decide
  have afterNine : [0x37, 0x38, 0x39].foldl crc16Byte 0x2EF4 = 0x29B1 := by decide
  have inThrees : ([0x31, 0x32, 0x33, 0x34, 0x35, 0x36, 0x37, 0x38, 0x39] : List Byte) =
      [0x31, 0x32, 0x33] ++ [0x34, 0x35, 0x36] ++ [0x37, 0x38, 0x39] := rfl
  rw [Obligations.CrcCheckValue, inThrees, crc16_append, crc16_append, afterThree, afterSix, afterNine]

/-! ### A write of PORT_CTRL or of RESCAN (R183, R196) -/

/-- A write to a port: RESCAN enumerates it, and a change of ENABLE starts or stops it. -/
theorem State.hook_port (s t : State) {p : Nat} (h : p < 4) (sub : Nat) (new : Int) :
    s.hook t (0x3220 + p) sub new =
      if odKey (0x3220 + p) sub = Reg.RESCAN p then t.portRescan p
      else if t.bit (Bit.PORT_CTRL_ENABLE p) && !s.bit (Bit.PORT_CTRL_ENABLE p) then t.portStart p
      else if s.bit (Bit.PORT_CTRL_ENABLE p) && !t.bit (Bit.PORT_CTRL_ENABLE p) then t.portStop p else t := by
  unfold State.hook
  rw [if_neg (by omega)]
  unfold State.hookHigh
  dsimp only
  rw [if_neg (by omega), if_pos (by omega), Nat.add_sub_cancel_left]

theorem State.hook_rescan (s t : State) {p : Nat} (h : p < 4) (new : Int) : s.hook t (0x3220 + p) 3 new = t.portRescan p :=
  (State.hook_port s t h 3 new).trans (if_pos rfl)

theorem State.hook_portCtrl_enables {s t : State} {p : Nat} (h : p < 4) (new : Int) (was : s.bit (Bit.PORT_CTRL_ENABLE p) = false)
    (enabled : t.bit (Bit.PORT_CTRL_ENABLE p) = true) : s.hook t (0x3220 + p) 1 new = t.portStart p := by
  have notRescan : odKey (0x3220 + p) 1 ≠ Reg.RESCAN p := by
    unfold Reg.RESCAN odKey
    omega
  rw [State.hook_port s t h, if_neg notRescan, if_pos (by simp [was, enabled])]

section
variable {t : State} (running : t.procRuns = true)
include running

theorem execPortEnable_accepted {level p : Fin 4} {lostRounds : Fin 16} {u : State} {raw : Nat}
    (ok : t.accepts level (0x3220 + p) 1 (lostRounds * 2 + 1 : Nat) = true) (e : raw = (rawOf (0x3220 + p) 1 (lostRounds * 2 + 1 : Nat)).2)
    (written : u = t.written (0x3220 + p) 1 raw) (was : t.bit (Bit.PORT_CTRL_ENABLE p) = false)
    (enabled : u.bit (Bit.PORT_CTRL_ENABLE p) = true) :
    execPortEnable level p lostRounds t = .next ((u.portStart p).served (0x3220 + p)).settle := by
  subst e written
  exact State.hostWrite_effect running ok (State.hook_portCtrl_enables p.isLt _ was enabled)

theorem execRescan_accepted {level p : Fin 4} {u : State} {raw : Nat} (ok : t.accepts level (0x3220 + p) 3 1 = true)
    (e : raw = (rawOf (0x3220 + p) 3 1).2) (written : u = t.written (0x3220 + p) 3 raw) :
    execRescan level p t = .next ((u.portRescan p).served (0x3220 + p)).settle := by
  subst e written
  exact State.hostWrite_effect running ok (State.hook_rescan _ _ p.isLt _)

end

section
variable {t : State} (runs : t.ppRuns = true)
include runs

/-! ### Rounds (R180) -/

theorem execRoundStart_running (p : Fin 4) : execRoundStart p t = .next ((t.toRound p).roundStart p).settle :=
  State.ppDo_of_runs runs rfl

theorem execRoundJudge_judges {p : Fin 4} (frame : List (Option (BitVec 8))) (rttNs errs : Nat) (enabled : t.fld (slState p) ≠ 0)
    (due : t.on (Reg.slJudge p) = true) :
    execRoundJudge p frame rttNs errs t =
      .next ((t.wr (Reg.slJudge p) (t.rd (Reg.slJudge p) - 1)).roundJudge p frame rttNs errs).settle :=
  State.ppDo_of_runs runs (if_neg (by simp [enabled, due]))

/-! ### Loss and return of a position or a port (R189–R191) -/

theorem execPositionLost_loses {q : Fin 32} (linked : t.posSt q = 2)
    (bad : (t.fld (Bit.PORT_CTRL_LOST_ROUNDS (q / 8)) : Int) ≤ t.rd (Reg.stBadRun q) ∨ t.on (Reg.stBadRep q) = true) :
    execPositionLost q t = .next (t.posLost q).settle :=
  State.ppDo_of_runs runs (if_pos ⟨linked, bad⟩)

theorem execPortDown_downs {p : Fin 4} (live : t.fld (slState p) = 1 ∨ t.fld (slState p) = 2)
    (empty : (t.fld (Bit.PORT_CTRL_LOST_ROUNDS p) : Int) ≤ t.rd (Reg.slEmpty p)) : execPortDown p t = .next (t.portDown p).settle :=
  State.ppDo_of_runs runs (if_pos ⟨live, empty⟩)

theorem execPositionReturn_configures {q : Fin 32} (lost : t.posSt q = 3) (portNotDown : t.fld (slState (q / 8)) ≠ 3)
    (good : 4 ≤ t.rd (Reg.stGoodRun q)) (recorded : t.on (Reg.stRecSet q) = true) :
    execPositionReturn q t = .next (t.posConfig q).settle :=
  State.ppDo_of_runs runs (if_pos ⟨lost, portNotDown, good, recorded⟩)

end

/-- Settles O43: each command, at a plane that runs, is its effect, settled; the conditions pick the branch of the effect. -/
theorem satelliteCommandsComplete : Obligations.SatelliteCommandsComplete := by
  unfold Obligations.SatelliteCommandsComplete
  refine ⟨?roundStart, ?roundJudge, ?positionLost, ?portDown, ?positionReturn, ?portEnable, ?rescan⟩
  case roundStart => exact fun p _ runs => execRoundStart_running runs p
  case roundJudge => exact fun _ frame rttNs errs _ runs => execRoundJudge_judges runs frame rttNs errs
  case positionLost => exact fun _ _ runs => execPositionLost_loses runs
  case portDown => exact fun _ _ runs => execPortDown_downs runs
  case positionReturn => exact fun _ _ runs => execPositionReturn_configures runs
  case portEnable => exact fun _ _ _ _ _ _ running => execPortEnable_accepted running
  case rescan => exact fun _ _ _ _ _ running => execRescan_accepted running

end Sys2Proof.Machine

/-!
The ring ports (05_ring_and_holdup.md R199–R223): what each of their commands does. The isolation logic acts while the core has power, in a
power-plane reset too (01_architecture.md R25); the other commands act while their plane runs. A write of RP_CMD is read once for what its
hook comes to; every other command is its effect on the branch that its conditions pick.
-/
namespace Sys2Proof.Machine

/-- The effect of an event that the core sees, given what it comes to. -/
theorem State.coreDo_effect {s u : State} {f : State → State} (powered : s.on Reg.corePowered = true) (e : f s = u) :
    s.coreDo f = .next u.settle := e ▸ State.coreDo_of_powered f powered

/-! ### A current beyond its limit, and the trip of a CLOSED port (R199, R204–R207, R221) -/

theorem State.rpBeyond_eq_true_iff {s : State} {p : Nat} {ma uv : Int} :
    s.rpBeyond p ma uv = true ↔ ma * s.rd (Reg.Ring_SHUNT_UOHM p) < uv * 1000 := decide_eq_true_iff

theorem State.rpBeyond_eq_false_iff {s : State} {p : Nat} {ma uv : Int} :
    s.rpBeyond p ma uv = false ↔ uv * 1000 ≤ ma * s.rd (Reg.Ring_SHUNT_UOHM p) := decide_eq_false_iff_not.trans Int.not_lt

theorem State.rpTrip_of_closed {s : State} {p : Nat} (closed : s.rpSt p = 2) (cause : Nat) : s.rpTrip p cause = s.rpTripNow p cause :=
  if_pos closed

theorem State.pilotOn_iff {s : State} {p : Nat} :
    s.pilotOn p = true ↔ s.bit (Bit.RP_CTRL_ENABLE p) = true ∧ s.bit (Bit.RP_CTRL_PILOT_EN p) = true := Bool.and_eq_true_iff

/-! ### A write of RP_CMD (R212, R214) -/

theorem State.hook_ringPort (s t : State) {p : Nat} (h : p < 2) (sub : Nat) (new : Int) :
    s.hook t (0x2200 + p) sub new = s.ringHook t p sub new := by
  have other : ∀ {i b : Nat}, i < 0x2200 → b < 256 → odKey (0x2200 + p) sub ≠ odKey i b := fun hi => odKey_ne_of_lt (by omega)
  unfold State.hook
  rw [if_pos (by omega)]
  unfold State.hookLow
  dsimp only
  rw [if_neg (by omega), if_neg (other (by decide) (by decide)), if_neg (other (by decide) (by decide)), if_neg (other (by decide) (by decide)),
    if_neg (other (by decide) (by decide)), if_neg (other (by decide) (by decide)), if_neg (by omega), if_neg (by omega), if_neg (by omega),
    if_neg (by omega), if_pos (by omega), Nat.add_sub_cancel_left]

theorem State.ringHook_rpCmd (s t : State) (p : Nat) (new : Int) :
    s.ringHook t p 2 new = if new = 1 then (t.mark markHostClose p 0).rpClose p
      else (t.when (decide (t.rpSt p = 2)) fun u => u.mark markHostOpen p 0).rpOpens p 0 5 := if_pos rfl

/-- A command value is written to RP_CMD as it is. -/
theorem decoded_rpCmd : ∀ (p : Fin 2) (cmd : Fin 3), decoded (0x2200 + p) 2 (rawOf (0x2200 + p) 2 (cmd : Nat)).2 = (cmd : Nat) := by decide

section
variable {t : State} {p : Fin 2} {level : Fin 4} {u : State} {raw : Nat} (running : t.procRuns = true)
include running

theorem execRpCmdClose_accepted (ok : t.accepts level (0x2200 + p) 2 1 = true) (e : raw = (rawOf (0x2200 + p) 2 1).2)
    (written : u = t.written (0x2200 + p) 2 raw) :
    execRpCmdClose level p t = .next (((u.mark markHostClose p 0).rpClose p).served (0x2200 + p)).settle := by
  subst e written
  refine State.hostWrite_effect running ok ((State.hook_ringPort _ _ p.isLt _ _).trans ?_)
  rw [State.ringHook_rpCmd]
  exact if_pos (decoded_rpCmd p 1)

theorem execRpCmdOpen_accepted (ok : t.accepts level (0x2200 + p) 2 2 = true) (e : raw = (rawOf (0x2200 + p) 2 2).2)
    (written : u = t.written (0x2200 + p) 2 raw) :
    execRpCmdOpen level p t =
      .next (((u.when (decide (u.rpSt p = 2)) fun v => v.mark markHostOpen p 0).rpOpens p 0 5).served (0x2200 + p)).settle := by
  subst e written
  refine State.hostWrite_effect running ok ((State.hook_ringPort _ _ p.isLt _ _).trans ?_)
  have notClose : decoded (0x2200 + p) 2 (rawOf (0x2200 + p) 2 2).2 ≠ 1 := fun close => absurd ((decoded_rpCmd p 2).symm.trans close) (by decide)
  rw [State.ringHook_rpCmd, if_neg notClose]

end

section
variable {t : State} {p : Fin 2} (powered : t.on Reg.corePowered = true)
include powered

/-! ### The isolation logic (R202–R206, R211, R213) -/

theorem execPilotOutChange_powered (p : Fin 2) (shuntUv vrMv : Int) :
    execPilotOutChange p shuntUv vrMv t = .next (t.setBit (rpPilotOut p) (t.pilotDrive p shuntUv vrMv)).settle :=
  State.coreDo_of_powered _ powered

theorem execPilotQualified_powered (p : Fin 2) (high : Bool) : execPilotQualified p high t = .next (t.setBit (rpPilotIn p) high).settle :=
  State.coreDo_of_powered _ powered

theorem execDirectionalTrip_trips {shuntUv : Int} (beyond : t.rpBeyond p (t.rd (Reg.ISO_DIR_MA p)) shuntUv = true)
    (wired : t.pilotOn p = true) (qualified : t.bit (rpPilotIn p) = true) (notStuck : t.bit (rpPilotStuck p) = false) :
    execDirectionalTrip p shuntUv t = .next (t.rpTrip p 1).settle :=
  State.coreDo_effect powered (if_pos ⟨beyond, wired, qualified, notStuck⟩)

theorem execDirectionalTrip_within {shuntUv : Int} (within : t.rpBeyond p (t.rd (Reg.ISO_DIR_MA p)) shuntUv = false) :
    execDirectionalTrip p shuntUv t = .next t.settle :=
  State.coreDo_effect powered (if_neg fun h => Bool.false_ne_true (within.symm.trans h.1))

theorem execBackupOutwardTrip_trips {shuntUv : Int} (beyond : t.rpBeyond p (t.rd (Reg.ISO_MAX_MA p)) shuntUv = true) :
    execBackupOutwardTrip p shuntUv t = .next (t.rpTrip p 2).settle :=
  State.coreDo_effect powered (if_pos beyond)

theorem execBackupOutwardTrip_within {shuntUv : Int} (within : t.rpBeyond p (t.rd (Reg.ISO_MAX_MA p)) shuntUv = false) :
    execBackupOutwardTrip p shuntUv t = .next t.settle :=
  State.coreDo_effect powered (if_neg (by simp [within]))

theorem execInwardTrip_trips {shuntUv : Int} (enabled : t.bit (Bit.RP_CTRL_INW_EN p) = true)
    (beyond : t.rpBeyond p (t.rd (Reg.ISO_IN_MA p)) (-shuntUv) = true) : execInwardTrip p shuntUv t = .next (t.rpTrip p 3).settle :=
  State.coreDo_effect powered (if_pos (by rw [enabled, beyond]; rfl))

theorem execInwardTrip_within {shuntUv : Int} (within : t.rpBeyond p (t.rd (Reg.ISO_IN_MA p)) (-shuntUv) = false) :
    execInwardTrip p shuntUv t = .next t.settle :=
  State.coreDo_effect powered (if_neg (by simp [within]))

theorem execSwitchFailed_fails {shuntUv : Int} {u : State} (judged : t.on (Reg.rpJudge p) = true)
    (due : t.since (t.rd (Reg.rpJudge p) - 1) 20000 = true) (carries : t.rpBeyond p 5000 (absI shuntUv) = true)
    (e : u = t.wr (Reg.rpJudge p) 0) :
    execSwitchFailed p shuntUv t = .next ((((u.setFld (rpState p) 4).setFld (rpCause p) 8).wr (Reg.rpGate p) 0).rpRaise p 192).settle := by
  subst e
  exact State.coreDo_effect powered ((if_pos (by rw [judged, due]; rfl)).trans (if_pos carries))

theorem execPilotStuck_sticks {vrMv : Int} (closed : t.rpSt p = 2) (healthy : t.rd (Reg.VRING_UV_MV p) ≤ vrMv)
    (once : t.bit (rpPilotStuck p) = false) : execPilotStuck p vrMv t = .next ((t.setFld (rpPilotStuck p) 1).rpRaise p 194).settle :=
  State.coreDo_effect powered (if_pos ⟨closed, healthy, once⟩)

theorem execPilotStuckClear_powered (p : Fin 2) :
    execPilotStuckClear p t = .next ((t.setFld (rpPilotStuck p) 0).setFld (rpPilotIn p) 0).settle :=
  State.coreDo_of_powered _ powered

end

section
variable {t : State} {p : Fin 2} (runs : t.ppRuns = true)
include runs

/-! ### The supervision of the pilot (R209, R210) -/

theorem execTestPulseSend_sends {u : State} (e : u = t.toTick (1 + p) 100000000) (wired : u.pilotOn p = true) :
    execTestPulseSend p t = .next ({ u with outbox := u.outbox ++ [Out.pulse p] } : State).settle := by
  subst e
  exact State.ppDo_of_runs runs (if_pos wired)

theorem execTestPulseReceived_good {ns : Nat} (width : 100 ≤ ns ∧ ns ≤ 400) (wired : t.pilotOn p = true) :
    execTestPulseReceived p ns t = .next ((t.setFld (rpPilotOk p) 1).rpSupervise p).settle :=
  State.ppDo_of_runs runs (if_pos ⟨width.1, width.2, wired⟩)

theorem execPilotMiss_misses (wired : t.pilotOn p = true) (once : t.on (Reg.rpMissed p) = false)
    (lapsed : t.since (t.rd (Reg.rpSupNs p)) 350000000 = true) :
    execPilotMiss p t = .next ((((t.setFld (rpPilotOk p) 0).wr (Reg.rpMissed p) 1).inc32 (Reg.TEST_MISSES p)).rpRaise p 194).settle :=
  State.ppDo_of_runs runs (if_pos (by simp only [wired, once, lapsed, Bool.not_false, Bool.and_self]))

/-! ### Pre-charge (R216, R217) -/

theorem execPrechargeQualified_closes (qualified : t.rpQualified p = true) :
    execPrechargeQualified p (t.rd (Reg.VL_MV p)) (t.rd (Reg.VR_MV p)) t = .next (t.rpClosed p).settle :=
  State.ppDo_of_runs runs ((if_pos ⟨rfl, rfl⟩).trans (if_pos qualified))

theorem execPrechargeTimeout_trips (precharges : t.rpSt p = 1) (notQualified : t.rpQualified p = false)
    (lapsed : t.since (t.rd (Reg.rpPreNs p)) (t.rd (Reg.PRECHG_MAX_MS p) * 1000000) = true) :
    execPrechargeTimeout p t = .next (((t.rpOpens p 3 6).inc16 (Reg.PRECHG_FAILS p)).rpRaise p 190).settle :=
  State.ppDo_of_runs runs ((if_neg (by simp [notQualified])).trans (if_pos ⟨precharges, lapsed⟩))

end

/-- Settles O33: the shunt voltage, compared with that of the limit, decides between a trip and no change, and a CLOSED port trips at once. -/
theorem ringPortTrips : Obligations.RingPortTrips := by
  intro p uv t powered closed
  refine ⟨?directional, ?backup, ?inward, ?directionalWithin, ?backupWithin, ?inwardWithin⟩
  case directional =>
    intro beyond enabled pilot qualified notStuck
    rw [← State.rpTrip_of_closed closed]
    exact execDirectionalTrip_trips powered (State.rpBeyond_eq_true_iff.2 beyond) (State.pilotOn_iff.2 ⟨enabled, pilot⟩) qualified notStuck
  case backup =>
    intro beyond
    rw [← State.rpTrip_of_closed closed]
    exact execBackupOutwardTrip_trips powered (State.rpBeyond_eq_true_iff.2 beyond)
  case inward =>
    intro enabled beyond
    rw [← State.rpTrip_of_closed closed]
    exact execInwardTrip_trips powered enabled (State.rpBeyond_eq_true_iff.2 beyond)
  case directionalWithin => exact fun within => execDirectionalTrip_within powered (State.rpBeyond_eq_false_iff.2 within)
  case backupWithin => exact fun within => execBackupOutwardTrip_within powered (State.rpBeyond_eq_false_iff.2 within)
  case inwardWithin => exact fun within => execInwardTrip_within powered (State.rpBeyond_eq_false_iff.2 within)

/-- Settles O44: each command, with core power or at a plane that runs, is its effect, settled; the conditions pick the branch of the
effect. -/
theorem ringPortCommandsComplete : Obligations.RingPortCommandsComplete := by
  unfold Obligations.RingPortCommandsComplete
  refine ⟨?pilotOutChange, ?pilotQualified, ?directionalTrip, ?backupOutwardTrip, ?inwardTrip, ?switchFailed, ?testPulseSend,
    ?testPulseReceived, ?pilotMiss, ?pilotStuck, ?pilotStuckClear, ?rpCmdClose, ?rpCmdOpen, ?prechargeQualified, ?prechargeTimeout⟩
  case pilotOutChange => exact fun p shuntUv vrMv _ powered => execPilotOutChange_powered powered p shuntUv vrMv
  case pilotQualified => exact fun p high _ powered => execPilotQualified_powered powered p high
  case directionalTrip => exact fun _ _ _ powered => execDirectionalTrip_trips powered
  case backupOutwardTrip => exact fun _ _ _ powered => execBackupOutwardTrip_trips powered
  case inwardTrip => exact fun _ _ _ powered => execInwardTrip_trips powered
  case switchFailed => exact fun _ _ _ _ powered => execSwitchFailed_fails powered
  case testPulseSend => exact fun _ _ _ runs => execTestPulseSend_sends runs
  case testPulseReceived => exact fun _ _ _ runs => execTestPulseReceived_good runs
  case pilotMiss => exact fun _ _ runs => execPilotMiss_misses runs
  case pilotStuck => exact fun _ _ _ powered => execPilotStuck_sticks powered
  case pilotStuckClear => exact fun p _ powered => execPilotStuckClear_powered powered p
  case rpCmdClose => exact fun _ _ _ _ _ running => execRpCmdClose_accepted running
  case rpCmdOpen => exact fun _ _ _ _ _ running => execRpCmdOpen_accepted running
  case prechargeQualified => exact fun _ _ runs => execPrechargeQualified_closes runs
  case prechargeTimeout => exact fun _ _ runs => execPrechargeTimeout_trips runs

end Sys2Proof.Machine

/-!
The input-fail warning and the hold-up (05_ring_and_holdup.md R224–R252, 12_dictionary.md R530): what each command of the feed warning, the
prop converter and the storage does at a plane that runs, on the branch that its conditions pick. A command that carries a sample carries the
one that the state has.
-/
namespace Sys2Proof.Machine

/-- What is sent to all is heard from any other device, by one without an address of its own too. -/
theorem State.heardFrom_other {s : State} {src : Nat} (f : State → State) (other : src ≠ s.ownAddr) :
    s.heardFrom src true f = f (s.inc32 Reg.RX_PDUS) := by
  unfold State.heardFrom
  rw [if_neg fun h => other h.1, if_neg fun h => Bool.false_ne_true h.2.symm]

section
variable {t : State} (running : t.procRuns = true)
include running

/-! ### The broadcasts of the warning (R226, R227) -/

theorem execIfwBroadcast_sends {d : Nat × Nat} {rest : List (Nat × Nat)} (due : t.ifwDue = d :: rest) (enabled : t.on Reg.BCAST_EN = true) :
    execIfwBroadcast t = .next (({ t with ifwDue := rest } : State).ifwSend d.1 d.2).settle := by
  refine State.procDo_of_runs running ?_
  rw [due]
  exact if_pos enabled

theorem execIfwBroadcastRepeat_sends (any : t.bit (flag Reg.IFW_STATUS 4) = true) (enabled : t.on Reg.BCAST_EN = true)
    (due : t.since (t.rd Reg.ifwSentNs) 100000000 = true) :
    execIfwBroadcastRepeat t = .next (t.ifwSend (t.rdN Reg.IFW_STATUS) (t.rd Reg.ifwSetNs)).settle :=
  State.procDo_of_runs running (if_pos (by rw [any, enabled, due]; rfl))

theorem execIfwBroadcastReceive_up (src : Fin 64) (status : Fin 256) (timeNs : BitVec 64) (up : t.dengonUp = true) :
    execIfwBroadcastReceive src status timeNs t =
      .next (t.heardFrom src true fun u => if u.ownAddr = 0 then u else u.ifwReceive src status timeNs.toNat).settle :=
  State.procDo_of_runs running (if_pos up)

theorem execIfwBroadcastReceive_other {src : Fin 64} (status : Fin 256) (timeNs : BitVec 64) {u : State} (up : t.dengonUp = true)
    (counted : u = t.inc32 Reg.RX_PDUS) (assigned : u.ownAddr ≠ 0) (other : src.val ≠ t.ownAddr) :
    execIfwBroadcastReceive src status timeNs t = .next (u.ifwReceive src status timeNs.toNat).settle := by
  subst counted
  rw [execIfwBroadcastReceive_up running src status timeNs up, State.heardFrom_other _ other, if_neg assigned]

end

section
variable {t : State} (runs : t.ppRuns = true)
include runs

/-! ### The conditions of the warning (R224, R227) -/

/-- A cause of FEED sets it; HOLD is entered as well where the slope is that cause and SLOPE_EN is 1. -/
theorem execFeedSet_sets {u : State} (cause : t.feedCause = true) (set : u = t.ifwCause 0 true) :
    execFeedSet t.node t.nodeFall t =
      .next (if t.slopeHit && u.bit Bit.PROP_CTRL_SLOPE_EN then u.holdEnter 2 else u).settle := by
  subst set
  refine State.ppDo_of_runs runs ((if_pos ⟨rfl, rfl⟩).trans ?_)
  rw [if_pos cause]

/-- A condition that has not held for IFW_CLEAR_MS clears; the feed may return to a loss shut-down. -/
theorem execIfwConditionClear_clears {c : Fin 3} (set : t.bit (flag Reg.IFW_STATUS c) = true) (ceased : t.on (Reg.ifwLastNs c) = true)
    (lapsed : t.since (t.rd (Reg.ifwLastNs c) - 1) (t.rd Reg.IFW_CLEAR_MS * 1000000) = true) :
    execIfwConditionClear c t = .next (if c = 0 then (t.ifwSet 0 false).feedByWarning else t.ifwSet c false).settle :=
  State.ppDo_of_runs runs (if_pos (by rw [set, ceased, lapsed]; rfl))

theorem execPeerForget_forgets {src : Fin 64} (warned : t.on (Reg.ifwPeerNs src) = true)
    (silent : t.since (t.rd (Reg.ifwPeerNs src) - 1) 350000000 = true) :
    execPeerForget src t = .next ((t.wr (Reg.ifwPeerNs src) 0).peerEval).settle :=
  State.ppDo_of_runs runs (if_pos (by rw [warned, silent]; rfl))

/-! ### HOLD (R230, R233, R234, R241) -/

theorem execHoldEntry_level (result : t.nodeOk = true) (low : t.node < t.rd Reg.HOLD_ENTRY_MV) :
    execHoldEntry t.node t.nodeFall t = .next (t.holdEnter 1).settle :=
  State.ppDo_of_runs runs ((if_pos ⟨rfl, rfl⟩).trans (if_pos (by rw [result, decide_eq_true low]; rfl)))

theorem execHoldExit_leaves (hold : t.propMode = 3) (stored : t.rd Reg.STORE_MIN_MV ≤ t.rd Reg.STORE_MV) (above : t.on Reg.ppAboveNs = true)
    (lapsed : t.since (t.rd Reg.ppAboveNs - 1) (t.rd Reg.HOLD_EXIT_US * 1000) = true) :
    execHoldExit t.node t = .next t.holdLeave.feedByHold.settle := by
  refine State.ppDo_of_runs runs ((if_pos rfl).trans ?_)
  rw [if_neg (not_not_intro hold), if_neg (Int.not_lt.2 stored), if_pos (by rw [above, lapsed]; rfl)]

theorem execStorageExhausted_exhausts (hold : t.propMode = 3) (empty : t.rd Reg.STORE_MV < t.rd Reg.STORE_MIN_MV) :
    execStorageExhausted (t.rd Reg.STORE_MV) t = .next t.storeExhausted.holdUnable.settle :=
  State.ppDo_of_runs runs ((if_pos rfl).trans (if_pos ⟨hold, empty⟩))

theorem execPropPhaseCage_cages {k : Fin 2} {mv : Int} {u : State} (outside : mv < 50 ∨ 1550 < mv) (switches : t.propRuns = true)
    (uncaged : t.bit (prCaged k) = false) (caged : u = t.propCage k) :
    execPropPhaseCage k mv t = .next (u.when u.propCaged State.holdUnable).settle := by
  subst caged
  exact State.ppDo_of_runs runs (if_pos ⟨outside, switches, uncaged⟩)

/-! ### CHARGE (R235, R236, R239, R240) -/

theorem execChargeEntry_charges {u : State} (judged : u = t.inhibitEval) (standby : u.propMode = 1) (uncaged : u.propCaged = false)
    (enabled : u.bit Bit.PROP_CTRL_CHG_EN = true) (result : u.nodeOk = true) (node : u.rd Reg.CHG_NODE_MIN_MV < u.node)
    (notFull : u.rd Reg.STORE_MV < u.rd Reg.CHG_VMAX_MV - 500 ∨ u.bit prDone = false) (notInhibited : u.bit prInhibit = false) :
    execChargeEntry t.node t = .next ((u.setFld prMode 2).setFld prCv 0).propDrive.settle := by
  subst judged
  exact State.ppDo_of_runs runs ((if_pos rfl).trans (if_pos ⟨standby, uncaged, enabled, result, node, notFull, notInhibited⟩))

theorem execCvEntry_enters (charge : t.propMode = 2) (reached : t.rd Reg.CHG_VMAX_MV ≤ t.rd Reg.STORE_MV) :
    execCvEntry (t.rd Reg.STORE_MV) t = .next (t.setFld prCv 1).propDrive.settle :=
  State.ppDo_of_runs runs ((if_pos rfl).trans (if_pos ⟨charge, reached⟩))

theorem execChargeDone_ends (charge : t.propMode = 2) (cv : t.bit prCv = true) (below : t.on Reg.ppTaperNs = true)
    (lapsed : t.since (t.rd Reg.ppTaperNs - 1) 10000000 = true) :
    execChargeDone (t.rd Reg.STORE_MA) t = .next (t.setFld prDone 1).chargeLeave.settle :=
  State.ppDo_of_runs runs ((if_pos rfl).trans (if_pos (by rw [decide_eq_true charge, cv, below, lapsed]; rfl)))

theorem execStoreOvp_latches {u : State} (above : t.rd Reg.STORE_OVP_MV < t.rd Reg.STORE_MV) (once : t.bit prOvp = false)
    (raised : u = ((t.setFld prOvp 1).wr Reg.ppOvpLatch 1).raise 198) :
    execStoreOvp (t.rd Reg.STORE_MV) t = .next (u.when (decide (u.propMode = 2)) State.chargeLeave).inhibitEval.settle := by
  subst raised
  exact State.ppDo_of_runs runs ((if_pos rfl).trans (if_pos ⟨above, once⟩))

theorem execChargeNodeLow_interrupts (charge : t.propMode = 2) (result : t.nodeOk = true) (low : t.node < t.rd Reg.CHG_NODE_MIN_MV) :
    execChargeNodeLow t.node t = .next t.propInterrupt.chargeLeave.inhibitEval.settle :=
  State.ppDo_of_runs runs ((if_pos rfl).trans (if_pos ⟨charge, result, low⟩))

/-! ### The samples (R221, R242, R252) -/

theorem execStorageSample_samples {u v w : State}
    (taken : u = ((t.toTick 0 10000).takeMv Reg.NODE_MV 0).takeMv Reg.STORE_MV (t.rdN Reg.STORE_INPUT))
    (sampled : v = (u.takeStoreMa.rpSample 0).rpSample 1)
    (raised : w = (v.when (decide (v.propMode = 3)) fun x => x.wr Reg.ppLoop 1).holdRaise) :
    execStorageSample (v.rd Reg.NODE_MV) (v.rd Reg.STORE_MV) (v.rd Reg.STORE_MA) (v.rd (Reg.Ring_I_MA 0)) (v.rd (Reg.VL_MV 0))
        (v.rd (Reg.VR_MV 0)) (v.rd (Reg.Ring_I_MA 1)) (v.rd (Reg.VL_MV 1)) (v.rd (Reg.VR_MV 1)) t =
      .next (((w.storeCount (w.rd Reg.STORE_MV) (w.rd Reg.STORE_MA)).storeEval).samplePower).pitStorage.settle := by
  subst taken sampled raised
  exact State.ppDo_of_runs runs (if_pos rfl)

end

/-- Settles O45: each command, at a plane that runs, is its effect, settled; the conditions pick the branch of the effect. -/
theorem holdUpCommandsComplete : Obligations.HoldUpCommandsComplete := by
  unfold Obligations.HoldUpCommandsComplete
  refine ⟨?feedSet, ?feedSetHolds, ?feedClear, ?conditionClear, ?ifwBroadcast, ?ifwBroadcastRepeat, ?ifwBroadcastReceive,
    ?ifwBroadcastOfOther, ?peerForget, ?holdEntry, ?holdExit, ?storageExhausted, ?chargeEntry, ?cvEntry, ?chargeDone, ?storeOvp,
    ?chargeNodeLow, ?propPhaseCage, ?storageSample⟩
  case feedSet =>
    intro u t runs cause set noHold
    rw [← if_neg (t := u.holdEnter 2) (e := u) (Bool.eq_false_iff.1 noHold)]
    exact execFeedSet_sets runs cause set
  case feedSetHolds =>
    intro u t runs cause set slope enabled
    rw [← if_pos (t := u.holdEnter 2) (e := u) (Bool.and_eq_true_iff.2 ⟨slope, enabled⟩)]
    exact execFeedSet_sets runs cause set
  case feedClear => exact fun _ runs => execIfwConditionClear_clears (c := 0) runs
  case conditionClear =>
    intro c t runs notFeed set ceased lapsed
    rw [← if_neg (t := (t.ifwSet 0 false).feedByWarning) (e := t.ifwSet c false) notFeed]
    exact execIfwConditionClear_clears runs set ceased lapsed
  case ifwBroadcast => exact fun _ _ _ running => execIfwBroadcast_sends running
  case ifwBroadcastRepeat => exact fun _ running => execIfwBroadcastRepeat_sends running
  case ifwBroadcastReceive => exact fun src status timeNs _ running => execIfwBroadcastReceive_up running src status timeNs
  case ifwBroadcastOfOther => exact fun _ status timeNs _ _ running => execIfwBroadcastReceive_other running status timeNs
  case peerForget => exact fun _ _ runs => execPeerForget_forgets runs
  case holdEntry => exact fun _ runs => execHoldEntry_level runs
  case holdExit => exact fun _ runs => execHoldExit_leaves runs
  case storageExhausted => exact fun _ runs => execStorageExhausted_exhausts runs
  case chargeEntry => exact fun _ _ runs => execChargeEntry_charges runs
  case cvEntry => exact fun _ runs => execCvEntry_enters runs
  case chargeDone => exact fun _ runs => execChargeDone_ends runs
  case storeOvp => exact fun _ _ runs => execStoreOvp_latches runs
  case chargeNodeLow => exact fun _ runs => execChargeNodeLow_interrupts runs
  case propPhaseCage => exact fun _ _ _ _ runs => execPropPhaseCage_cages runs
  case storageSample => exact fun _ _ _ _ runs => execStorageSample_samples runs

end Sys2Proof.Machine

/-!
The tally, the loans and current sharing (06_tally_and_sharing.md R255–R289): what each of their commands does at a plane that runs. A write of
TALLY_CTRL and a PDU of a peer are read once for what they come to; every other command is its effect on the branch that its conditions pick.
-/
namespace Sys2Proof.Machine

/-! ### A write of TALLY_CTRL (R256) -/

theorem State.hook_tallyCtrl (s t : State) (new : Int) : s.hook t 0x3300 1 new =
    (if s.bit Bit.TALLY_CTRL_ENABLE && !t.bit Bit.TALLY_CTRL_ENABLE then t.tallyUndo else t).dropLost := rfl

theorem State.hook_tallyCtrl_disables {s t : State} (new : Int) (was : s.bit Bit.TALLY_CTRL_ENABLE = true)
    (disabled : t.bit Bit.TALLY_CTRL_ENABLE = false) : s.hook t 0x3300 1 new = t.tallyUndo.dropLost := by
  rw [State.hook_tallyCtrl, if_pos (by simp [was, disabled])]

/-! ### A PDU of a peer (R272–R277, R521, R525) -/

/-- A part with an address hears what another device sends to it. -/
theorem State.heardFrom_peer {s : State} {src : Nat} (f : State → State) (assigned : s.ownAddr ≠ 0) (other : src ≠ s.ownAddr) :
    s.heardFrom src false f = f (s.inc32 Reg.RX_PDUS) := by
  unfold State.heardFrom
  rw [if_neg fun h => other h.1, if_neg fun h => assigned h.1]

section
variable {t : State} (running : t.procRuns = true)
include running

theorem execTallyDisable_accepted {level : Fin 4} {u : State} {raw : Nat}
    (ok : t.accepts level 0x3300 1 (t.rd Reg.TALLY_CTRL - t.fld Bit.TALLY_CTRL_ENABLE) = true)
    (e : raw = (rawOf 0x3300 1 (t.rd Reg.TALLY_CTRL - t.fld Bit.TALLY_CTRL_ENABLE)).2) (written : u = t.written 0x3300 1 raw)
    (was : t.bit Bit.TALLY_CTRL_ENABLE = true) (disabled : u.bit Bit.TALLY_CTRL_ENABLE = false) :
    execTallyDisable level t = .next (u.tallyUndo.dropLost.served 0x3300).settle := by
  subst e written
  exact State.hostWrite_effect running ok (State.hook_tallyCtrl_disables _ was disabled)

/-- A PDU of a device, at a part that takes PDUs. -/
theorem State.procDo_heard (up : t.dengonUp = true) (src : Nat) (f : State → State) :
    t.procDo (fun s => if s.dengonUp then s.heardFrom src false f else s) = .next (t.heardFrom src false f).settle :=
  State.procDo_of_runs running (if_pos up)

/-- A PDU of another device, at a part that takes PDUs and has an address. -/
theorem State.procDo_heard_peer {src : Nat} {u : State} (f : State → State) (up : t.dengonUp = true) (counted : u = t.inc32 Reg.RX_PDUS)
    (assigned : t.ownAddr ≠ 0) (other : src ≠ t.ownAddr) :
    t.procDo (fun s => if s.dengonUp then s.heardFrom src false f else s) = .next (f u).settle := by
  rw [State.procDo_heard running up, State.heardFrom_peer f assigned other, counted]

end

section
variable {t : State} (runs : t.ppRuns = true)
include runs

/-! ### Evaluations and the windows of a duty limit (R255, R265, R266) -/

theorem execTallyEvaluation_running : execTallyEvaluation t = .next (t.toTick 9 100000).tallyTick.settle :=
  State.ppDo_of_runs runs rfl

theorem execLimitWindowEdge_opens {n : Fin 512} (on : t.ctxSt n = 5) (due : t.winOn n = true) (closed : t.on (Reg.cxWindow n) = false) :
    execLimitWindowEdge n true t = .next (t.winOpen n).settle :=
  State.ppDo_of_runs runs ((if_neg (by simp [on, due, closed])).trans (if_neg (by simp [closed])))

theorem execLimitWindowEdge_closes {n : Fin 512} (on : t.ctxSt n = 5) (ended : t.winOn n = false) (opened : t.on (Reg.cxWindow n) = true) :
    execLimitWindowEdge n false t = .next (t.winClose n).settle :=
  State.ppDo_of_runs runs ((if_neg (by simp [on, ended, opened])).trans (if_pos opened))

/-! ### Loans (R270–R276) -/

theorem execBorrowNoAnswer_running : execBorrowNoAnswer t = .next t.loanSilent.settle :=
  State.ppDo_of_runs runs rfl

theorem execBorrowBackoffEnd_ends (paused : t.on Reg.tyBackoff = true) (lapsed : t.since (t.rd Reg.tyBackNs) 1000000000 = true) :
    execBorrowBackoffEnd t = .next (t.wr Reg.tyBackoff 0).waitAfresh.settle :=
  State.ppDo_of_runs runs (if_pos (Bool.and_eq_true_iff.2 ⟨paused, lapsed⟩))

theorem execLeaseHalf_running (peer : Fin 63) (id : BitVec 16) : execLeaseHalf peer id t = .next (t.loanHalf peer id.toNat).settle :=
  State.ppDo_of_runs runs rfl

theorem execLeaseEnd_running (peer : Fin 63) (id : BitVec 16) : execLeaseEnd peer id t = .next (t.leaseEnd peer id.toNat).settle :=
  State.ppDo_of_runs runs rfl

theorem execLoanReturnDue_running (peer : Fin 63) (id : BitVec 16) : execLoanReturnDue peer id t = .next (t.loanGiveBack peer id.toNat).settle :=
  State.ppDo_of_runs runs rfl

omit runs in
/-- A reservation that has lasted for the lease and its guard time is given up. -/
theorem State.reservationEnd_ends {peer id : Nat} {x : Loan} (lent : findLoan peer id t.lent = some x)
    (lapsed : t.since x.start ((t.rd Reg.LEASE_MS + t.rd Reg.LEND_GUARD_MS) * 1000000) = true) :
    t.reservationEnd peer id = t.unlend peer id := by
  unfold State.reservationEnd
  rw [lent]
  exact if_pos lapsed

theorem execReservationEnd_ends {peer : Fin 63} {id : BitVec 16} {x : Loan} (lent : findLoan peer id.toNat t.lent = some x)
    (lapsed : t.since x.start ((t.rd Reg.LEASE_MS + t.rd Reg.LEND_GUARD_MS) * 1000000) = true) :
    execReservationEnd peer id t = .next (t.unlend peer id.toNat).settle :=
  State.ppDo_of_runs runs (State.reservationEnd_ends lent lapsed)

/-! ### Sharing (R283–R289) -/

theorem execShareReceive_up (pos : Fin 8) (addr : Fin 64) (payload : List (BitVec 8)) (up : t.wsUp = true) :
    execShareReceive pos addr payload t = .next ((t.wsCount payload.length).wsAct 0x22 pos addr payload).settle :=
  State.ppDo_of_runs runs (if_pos up)

theorem execShareTrimUpdate_running (g : Fin 4) : execShareTrimUpdate g t = .next ((t.toTick (12 + g) 10000).groupPeriod g).settle :=
  State.ppDo_of_runs runs rfl

theorem execMemberLoss_running (g : Fin 4) (addr : Fin 64) : execMemberLoss g addr t = .next (t.memberLoss g addr).settle :=
  State.ppDo_of_runs runs rfl

theorem execMemberRejoin_running (g : Fin 4) (addr : Fin 64) : execMemberRejoin g addr t = .next (t.memberRejoin g addr).settle :=
  State.ppDo_of_runs runs rfl

end

/-- Settles O46: each command, at a plane that runs, is its effect, settled; the conditions pick the branch of the effect. -/
theorem tallyCommandsComplete : Obligations.TallyCommandsComplete := by
  unfold Obligations.TallyCommandsComplete
  refine ⟨?tallyEvaluation, ?tallyDisable, ?windowOpens, ?windowCloses, ?borrowNoAnswer, ?borrowBackoffEnd, ?loanRequest,
    ?loanRequestOfPeer, ?loanRenew, ?loanRenewOfPeer, ?loanReturn, ?loanReturnOfPeer, ?loanResponse, ?leaseHalf, ?leaseEnd,
    ?loanReturnDue, ?reservationEnd, ?shareReceive, ?shareTrimUpdate, ?memberLoss, ?memberRejoin⟩
  case tallyEvaluation => exact fun _ runs => execTallyEvaluation_running runs
  case tallyDisable => exact fun _ _ _ _ running => execTallyDisable_accepted running
  case windowOpens => exact fun _ _ runs => execLimitWindowEdge_opens runs
  case windowCloses => exact fun _ _ runs => execLimitWindowEdge_closes runs
  case borrowNoAnswer => exact fun _ runs => execBorrowNoAnswer_running runs
  case borrowBackoffEnd => exact fun _ runs => execBorrowBackoffEnd_ends runs
  case loanRequest => exact fun _ _ _ _ _ running up => State.procDo_heard running up _ _
  case loanRequestOfPeer => exact fun _ _ _ _ _ _ running => State.procDo_heard_peer running _
  case loanRenew => exact fun _ _ _ _ _ running up => State.procDo_heard running up _ _
  case loanRenewOfPeer => exact fun _ _ _ _ _ _ running => State.procDo_heard_peer running _
  case loanReturn => exact fun _ _ _ _ _ running up => State.procDo_heard running up _ _
  case loanReturnOfPeer => exact fun _ _ _ _ _ _ running => State.procDo_heard_peer running _
  case loanResponse => exact fun _ _ _ _ _ running up => State.procDo_heard running up _ _
  case leaseHalf => exact fun peer id _ runs => execLeaseHalf_running runs peer id
  case leaseEnd => exact fun peer id _ runs => execLeaseEnd_running runs peer id
  case loanReturnDue => exact fun peer id _ runs => execLoanReturnDue_running runs peer id
  case reservationEnd => exact fun _ _ _ _ runs => execReservationEnd_ends runs
  case shareReceive => exact fun pos addr payload _ runs => execShareReceive_up runs pos addr payload
  case shareTrimUpdate => exact fun g _ runs => execShareTrimUpdate_running runs g
  case memberLoss => exact fun g addr _ runs => execMemberLoss_running runs g addr
  case memberRejoin => exact fun g addr _ runs => execMemberRejoin_running runs g addr

end Sys2Proof.Machine

/-!
What a read sees of a write of a neighbour: registers of different kinds lie apart in the store, and a write of a field leaves the other bits
of its register (12_dictionary.md R489).
-/
namespace Sys2Proof.Machine

/-! ### Keys -/

theorem intKey_ne {i k u v : Nat} (kinds : i ≠ k) (hu : u < 4096) (hv : v < 4096) : intKey i u ≠ intKey k v := by
  unfold intKey
  omega

theorem intKey_ne_sameUnit {i k : Nat} (kinds : i ≠ k) (u : Nat) : intKey i u ≠ intKey k u := by
  unfold intKey
  omega

theorem odKey_ne_intKey {idx sub i u : Nat} (hi : idx < 0xFFFF) (hs : sub < 256) : odKey idx sub ≠ intKey i u := by
  unfold odKey intKey
  omega

theorem odKey_ne_sameObject {sub sub' : Nat} (h : sub ≠ sub') (idx : Nat) : odKey idx sub ≠ odKey idx sub' := by
  unfold odKey
  omega

/-! ### Fields -/

/-- Replacing bits leaves what lies below them and what lies above them. -/
theorem withBits_parts (v : Int) (lo w x : Nat) :
    (withBits v lo w x).toNat % 2 ^ lo = v.toNat % 2 ^ lo ∧ (withBits v lo w x).toNat / 2 ^ (lo + w) = v.toNat / 2 ^ (lo + w) := by
  unfold withBits bitsOf
  rw [Int.toNat_natCast]
  generalize v.toNat = n
  have parts : n - n / 2 ^ lo % 2 ^ w * 2 ^ lo + x % 2 ^ w * 2 ^ lo =
      n % 2 ^ lo + 2 ^ lo * (x % 2 ^ w + 2 ^ w * (n / 2 ^ lo / 2 ^ w)) := by
    have low := Nat.mod_add_div n (2 ^ lo)
    have high := congrArg (2 ^ lo * ·) (Nat.mod_add_div (n / 2 ^ lo) (2 ^ w))
    simp only [Nat.mul_add, Nat.mul_comm (2 ^ lo) (n / 2 ^ lo % 2 ^ w), Nat.mul_comm (2 ^ lo) (x % 2 ^ w)] at high ⊢
    omega
  have below : n % 2 ^ lo < 2 ^ lo := Nat.mod_lt n (Nat.two_pow_pos lo)
  have within : x % 2 ^ w < 2 ^ w := Nat.mod_lt x (Nat.two_pow_pos w)
  rw [parts]
  constructor
  · rw [Nat.add_mul_mod_self_left, Nat.mod_mod]
  · rw [Nat.pow_add, ← Nat.div_div_eq_div_mul, Nat.add_mul_div_left _ _ (Nat.two_pow_pos lo), Nat.div_eq_of_lt below, Nat.zero_add,
      Nat.add_mul_div_left _ _ (Nat.two_pow_pos w), Nat.div_eq_of_lt within, Nat.zero_add, Nat.div_div_eq_div_mul]

/-- Bits are determined by the part of the value below a place that lies above them. -/
theorem bitsOf_of_mod {v v' : Int} {n lo w : Nat} (e : v.toNat % 2 ^ n = v'.toNat % 2 ^ n) (h : lo + w ≤ n) :
    bitsOf v lo w = bitsOf v' lo w := by
  have low (m : Nat) : m / 2 ^ lo % 2 ^ w = m % 2 ^ n % 2 ^ (lo + w) / 2 ^ lo := by
    rw [Nat.mod_mod_of_dvd m (Nat.pow_dvd_pow 2 h), Nat.pow_add, Nat.mod_mul_right_div_self]
  unfold bitsOf
  rw [low, low, e]

/-- Bits are determined by the part of the value above a place that lies below them. -/
theorem bitsOf_of_div {v v' : Int} {n lo : Nat} (e : v.toNat / 2 ^ n = v'.toNat / 2 ^ n) (h : n ≤ lo) (w : Nat) :
    bitsOf v lo w = bitsOf v' lo w := by
  have high (m : Nat) : m / 2 ^ lo = m / 2 ^ n / 2 ^ (lo - n) := by
    rw [Nat.div_div_eq_div_mul, ← Nat.pow_add, Nat.add_sub_cancel' h]
  unfold bitsOf
  rw [high, high v'.toNat, e]

theorem bitsOf_withBits_apart (v : Int) {lo w lo' w' : Nat} (x : Nat) (apart : lo' + w' ≤ lo ∨ lo + w ≤ lo') :
    bitsOf (withBits v lo w x) lo' w' = bitsOf v lo' w' := by
  obtain ⟨below, above⟩ := withBits_parts v lo w x
  cases apart with
  | inl h => exact bitsOf_of_mod below h
  | inr h => exact bitsOf_of_div above h w'

theorem State.bit_setFld_flag_self (s : State) (k i x : Nat) : (s.setFld (flag k i) x).bit (flag k i) = decide (x % 2 ≠ 0) := by
  unfold State.bit
  rw [State.fld_setFld_self]
  rfl

theorem State.bit_setFld_flag_other (s : State) (k x : Nat) {i j : Nat} (h : i ≠ j) :
    (s.setFld (flag k j) x).bit (flag k i) = s.bit (flag k i) := by
  unfold State.bit State.fld State.setFld flag
  dsimp only
  rw [State.rd_wr_self, bitsOf_withBits_apart _ _ (by omega)]

theorem State.bit_wr_other (s : State) {b : Bits} {k : Nat} (x : Int) (h : b.key ≠ k) : (s.wr k x).bit b = s.bit b := by
  unfold State.bit
  rw [State.fld_wr_other s b k x h]

theorem State.rd_when_wr_other {j k : Nat} (h : j ≠ k) (s : State) (c : Bool) (x : Int) : (s.when c fun u => u.wr k x).rd j = s.rd j := by
  cases c
  · rfl
  · exact State.rd_wr_other h s x

theorem State.bit_when_wr_other {b : Bits} {k : Nat} (h : b.key ≠ k) (s : State) (c : Bool) (x : Int) :
    (s.when c fun u => u.wr k x).bit b = s.bit b := by
  cases c
  · rfl
  · exact State.bit_wr_other s x h

/-! ### What changes -/

section
variable {s u : State} {ks : List Nat} {k : Nat}

theorem onlyChanges_refl (s : State) (ks : List Nat) : onlyChanges s s ks := ⟨fun _ _ => rfl, rfl⟩

theorem onlyChanges_wr (x : Int) (listed : k ∈ ks) (h : onlyChanges s u ks) : onlyChanges s (u.wr k x) ks := by
  obtain ⟨regs, rest⟩ := h
  exact ⟨fun i unlisted => (State.rd_wr_other (fun e : i = k => unlisted (e ▸ listed)) u x).trans (regs i unlisted), rest⟩

theorem onlyChanges_setFld {b : Bits} (x : Nat) (listed : b.key ∈ ks) (h : onlyChanges s u ks) : onlyChanges s (u.setFld b x) ks :=
  onlyChanges_wr _ listed h

theorem onlyChanges_when {c : Bool} {f : State → State} (h : onlyChanges s u ks) (hf : onlyChanges s (f u) ks) :
    onlyChanges s (u.when c f) ks := by
  cases c
  · exact h
  · exact hf

end

end Sys2Proof.Machine

/-!
The arithmetic of the loop engine's operation table and the signals it reads (07_loop_engine.md R300, R310).
-/
namespace Sys2Proof.Machine

/-! ### Arithmetic (R300) -/

theorem clampI_eq {lo hi : Int} (ordered : lo ≤ hi) (x : Int) : clampI lo hi x = max lo (min hi x) := by
  unfold clampI
  split
  · omega
  · split <;> omega

theorem satI16_eq (x : Int) : satI16 x = sat16 x := clampI_eq (by decide) x

theorem sat40_eq (x : Int) : sat40 x = max (-2 ^ 39) (min (2 ^ 39 - 1) x) := clampI_eq (by decide) x

theorem rnd15_eq (x : Int) : rnd15 x = (x + 2 ^ 14) / 2 ^ 15 := rfl

theorem natCast_two_pow (n : Nat) : ((2 ^ n : Nat) : Int) = 2 ^ n := Int.natCast_pow 2 n

theorem scale15 : (2 : Int) ^ 15 = 32768 := rfl

theorem absI_eq (x : Int) : absI x = (x.natAbs : Int) := by
  unfold absI
  split <;> omega

/-- Settles O17: both clamps are a maximum of a minimum, and by a positive divisor the quotients of the three divisions are one. -/
theorem loopArithmeticIsExact : Obligations.LoopArithmeticIsExact := by
  intro x n
  refine ⟨satI16_eq x, sat40_eq x, (Int.fdiv_eq_ediv_of_nonneg _ (by decide)).symm, (Int.shiftRight_eq_div_pow x n).symm, ?_⟩
  rw [Int.fdiv_eq_ediv_of_nonneg x (Int.pow_nonneg (by decide)), Int.shiftRight_eq_div_pow]
  norm_cast

/-! ### Signals (R310) -/

theorem State.sigRaw_of_reserved (s : State) {i : Nat} (h : (669 ≤ i ∧ i ≤ 671) ∨ (848 ≤ i ∧ i ≤ 1023)) : s.sigRaw i = 0 := by
  unfold State.sigRaw
  rcases h with between | above
  · repeat rw [if_neg (by omega)]
    rw [if_pos (by omega)]
  · repeat rw [if_neg (by omega)]

/-- Settles O18: a read is a clamped value, and the value of a reserved signal is 0 before the clamp. -/
theorem signalsReadSaturated : Obligations.SignalsReadSaturated := by
  intro s i
  have clamped : s.sigValue i = max (-32768) (min 32767 (s.sigRaw i)) := satI16_eq _
  refine ⟨by omega, by omega, fun reserved => ?_⟩
  rw [clamped, State.sigRaw_of_reserved s reserved]
  rfl

end Sys2Proof.Machine

/-!
What each instruction of the loop engine does at the word of a run in progress (07_loop_engine.md R296, R300–R307, R316): it counts its cycles,
gives its result, and the next instruction is fetched.
-/
namespace Sys2Proof.Machine

/-! ### Words (R302, R303) -/

theorem ofLe_lt (l : List Byte) : ofLe l < 256 ^ l.length := by
  induction l with
  | nil => exact Nat.one_pos
  | cons b l ih =>
    have byte : b.toNat < 256 := b.isLt
    rw [ofLe, List.length_cons, Nat.pow_succ']
    omega

theorem progWord_lt (img : List Byte) (a : Nat) : progWord img a < 2 ^ 32 :=
  calc ofLe (slice (4 * a) 4 img) < 256 ^ (slice (4 * a) 4 img).length := ofLe_lt _
    _ ≤ 256 ^ 4 := Nat.pow_le_pow_right (by decide) (List.length_take_le 4 _)

/-! A word by the fields that its row uses, the others being 0. -/

theorem word_dab (op d a b : Nat) : instrWord op d a b 0 = wOp op + wD d + wA a + wB b := by
  unfold instrWord wOp wD wA wB
  omega

theorem word_da (op d a : Nat) : instrWord op d a 0 0 = wOp op + wD d + wA a := by
  unfold instrWord wOp wD wA
  omega

theorem word_d (op d : Nat) : instrWord op d 0 0 0 = wOp op + wD d := by
  unfold instrWord wOp wD
  omega

theorem word_dLow (op d low : Nat) : instrWord op d 0 0 low = wOp op + wD d + low := by
  unfold instrWord wOp wD
  omega

theorem word_daLow (op d a low : Nat) : instrWord op d a 0 low = wOp op + wD d + wA a + low := by
  unfold instrWord wOp wD wA
  omega

theorem word_ab (op a b : Nat) : instrWord op 0 a b 0 = wOp op + wA a + wB b := by
  unfold instrWord wOp wA wB
  omega

theorem word_abLow (op a b low : Nat) : instrWord op 0 a b low = wOp op + wA a + wB b + low := by
  unfold instrWord wOp wA wB
  omega

/-- A value of a field lies within the mask of its width. -/
theorem land_ones {x n : Nat} (h : x < 2 ^ n) : Nat.land x (2 ^ n - 1) = x := Nat.and_two_pow_sub_one_of_lt_two_pow h

/-- All bits of a word are the word. -/
theorem land_wAll {w : Nat} (h : w < 2 ^ 32) : Nat.land w wAll = w := land_ones h

/-! ### One instruction (R296, R305) -/

section
variable {s : State} {l : Fin 2} {j : Fin 128} {w w' : Nat}

/-- At the word of an instruction its effect follows the count of its cycles, and the next fetch follows the effect. -/
theorem State.ppDo_loopDo_of_atWord {cyc : Nat} {c : Int} {f : Nat → State → State} (here : atWord s l j w)
    (cycles : (cyc : Int) = c := by rfl) : s.ppDo (fun t => t.loopDo l w wAll cyc f) = .next ((f j (s.counted j c)).fetch l).settle := by
  subst cycles
  obtain ⟨runs, running, word⟩ := here
  have slot : s.rdN (Reg.lnSlot l) - 1 = j := by unfold State.rdN; omega
  refine State.ppDo_of_runs runs ?_
  unfold State.loopDo
  rw [if_neg (by omega)]
  dsimp only
  rw [slot, word, land_wAll (word ▸ progWord_lt _ _), if_pos rfl]
  rfl

/-! ### The count of cycles -/

theorem State.rd_counted_other {cyc : Int} {k : Nat} (notPc : k ≠ Reg.slPc j) (notCyc : k ≠ Reg.slCyc j) :
    (s.counted j cyc).rd k = s.rd k := by
  unfold State.counted
  rw [State.rd_wr_other notCyc, State.rd_wr_other notPc]

theorem State.rd_counted_pc (cyc : Int) : (s.counted j cyc).rd (Reg.slPc j) = (s.rdN (Reg.slPc j) : Int) + 1 := by
  unfold State.counted
  rw [State.rd_wr_other (intKey_ne_sameUnit (by decide) j), State.rd_wr_self, Int.natCast_succ]

theorem State.rd_counted_cyc (cyc : Int) : (s.counted j cyc).rd (Reg.slCyc j) = s.rd (Reg.slCyc j) + cyc := by
  unfold State.counted
  rw [State.rd_wr_self]

theorem State.rd_counted_kind {cyc : Int} {i : Nat} (notPc : i ≠ 101) (notCyc : i ≠ 110) {u : Nat} (hu : u < 4096) :
    (s.counted j cyc).rd (intKey i u) = s.rd (intKey i u) :=
  State.rd_counted_other (intKey_ne notPc hu (by omega)) (intKey_ne notCyc hu (by omega))

@[simp] theorem State.vreg_counted (cyc : Int) (a : Fin 16) : (s.counted j cyc).vreg j a = s.rd (Reg.slV (16 * j + a)) :=
  State.rd_counted_kind (by decide) (by decide) (by omega)

@[simp] theorem State.areg_counted (cyc : Int) (n : Fin 4) : (s.counted j cyc).areg j n = s.rd (Reg.slA (4 * j + n)) :=
  State.rd_counted_kind (by decide) (by decide) (by omega)

@[simp] theorem State.rdN_ltSig_counted (cyc : Int) : (s.counted j cyc).rdN (Reg.ltSig j) = s.rdN (Reg.ltSig j) :=
  congrArg Int.toNat (State.rd_counted_kind (by decide) (by decide) (by omega))

@[simp] theorem State.rdN_ltAct_counted (cyc : Int) : (s.counted j cyc).rdN (Reg.ltAct j) = s.rdN (Reg.ltAct j) :=
  congrArg Int.toNat (State.rd_counted_kind (by decide) (by decide) (by omega))

theorem onlyChanges_counted {ks : List Nat} (cyc : Int) (pc : Reg.slPc j ∈ ks) (cycles : Reg.slCyc j ∈ ks) :
    onlyChanges s (s.counted j cyc) ks :=
  onlyChanges_wr _ cycles (onlyChanges_wr _ pc (onlyChanges_refl s ks))

/-! ### A result -/

/-- The cycles counted, `x` put in the register `key`, and SAT set where `sat` says so: what an instruction with one result does. -/
def State.withResult (s : State) (j : Nat) (cyc : Int) (key : Nat) (x : Int) (sat : Bool) : State :=
  ((s.counted j cyc).wr key x).when sat fun u => u.wr (Reg.slSat j) 1

/-- A register that takes the result of an instruction of slot `j`: one apart from its address, its cycles and SAT. -/
def takesResult (j key : Nat) : Prop := key ≠ Reg.slPc j ∧ key ≠ Reg.slCyc j ∧ key ≠ Reg.slSat j

theorem takesResult_kind {i u : Nat} (j : Fin 128) (hi : i ∉ [101, 110, 105]) (hu : u < 4096) : takesResult j (intKey i u) := by
  simp only [List.mem_cons, List.not_mem_nil, or_false, not_or] at hi
  obtain ⟨notPc, notCyc, notSat⟩ := hi
  exact ⟨intKey_ne notPc hu (by omega), intKey_ne notCyc hu (by omega), intKey_ne notSat hu (by omega)⟩

theorem State.rd_withResult_other {cyc x : Int} {key k : Nat} {sat : Bool} (notKey : k ≠ key) (notSat : k ≠ Reg.slSat j) :
    (s.withResult j cyc key x sat).rd k = (s.counted j cyc).rd k :=
  (State.rd_when_wr_other notSat _ sat 1).trans (State.rd_wr_other notKey _ x)

theorem State.rd_withResult_key {cyc x : Int} {key : Nat} {sat : Bool} (notSat : key ≠ Reg.slSat j) :
    (s.withResult j cyc key x sat).rd key = x :=
  (State.rd_when_wr_other notSat _ sat 1).trans (State.rd_wr_self _ key x)

theorem State.rd_withResult_sat {cyc x : Int} {key : Nat} {sat : Bool} (notSat : key ≠ Reg.slSat j) :
    (s.withResult j cyc key x sat).rd (Reg.slSat j) = if sat then 1 else s.rd (Reg.slSat j) := by
  cases sat
  · exact (State.rd_wr_other notSat.symm _ x).trans
      (State.rd_counted_other (intKey_ne_sameUnit (by decide) j) (intKey_ne_sameUnit (by decide) j))
  · exact State.rd_wr_self _ _ 1

theorem onlyChanges_withResult (cyc x : Int) (key : Nat) (sat : Bool) :
    onlyChanges s (s.withResult j cyc key x sat) [key, Reg.slSat j, Reg.slPc j, Reg.slCyc j] := by
  have result := onlyChanges_wr (k := key) x (by simp)
    (onlyChanges_counted (s := s) (j := j) (ks := [key, Reg.slSat j, Reg.slPc j, Reg.slCyc j]) cyc (by simp) (by simp))
  exact onlyChanges_when result (onlyChanges_wr 1 (by simp) result)

theorem givesValue_of_withResult {i : Instr} {cyc x : Int} {key : Nat} {sat : Bool} (takes : takesResult j key)
    (e : exec i s = .next ((s.withResult j cyc key x sat).fetch l).settle) : givesValue i s l j cyc key x sat := by
  obtain ⟨notPc, notCyc, notSat⟩ := takes
  refine ⟨_, e, State.rd_withResult_key notSat, State.rd_withResult_sat notSat, ?_, ?_, onlyChanges_withResult cyc x key sat⟩
  · rw [State.rd_withResult_other notPc.symm (intKey_ne_sameUnit (by decide) j), State.rd_counted_pc]
  · rw [State.rd_withResult_other notCyc.symm (intKey_ne_sameUnit (by decide) j), State.rd_counted_cyc]

theorem State.ite_eq_when (u : State) (f : State → State) (x y : Int) : (if y = x then u else f u) = u.when (decide (y ≠ x)) f := by
  unfold State.when
  by_cases kept : y = x <;> simp [kept]

theorem State.satV_counted (cyc : Int) (d : Nat) (x : Int) :
    (s.counted j cyc).satV j d x = s.withResult j cyc (Reg.slV (16 * j + d)) (sat16 x) (decide (sat16 x ≠ x)) := by
  unfold State.satV
  rw [satI16_eq]
  exact State.ite_eq_when _ (fun u => u.wr (Reg.slSat j) 1) x _

theorem State.satA_counted (cyc : Int) (n : Nat) (x : Int) :
    (s.counted j cyc).satA j n x = s.withResult j cyc (Reg.slA (4 * j + n)) (max (-2 ^ 39) (min (2 ^ 39 - 1) x))
      (decide (max (-2 ^ 39) (min (2 ^ 39 - 1) x) ≠ x)) := by
  unfold State.satA
  rw [sat40_eq]
  exact State.ite_eq_when _ (fun u => u.wr (Reg.slSat j) 1) x _

/-! An instruction `i` whose effect `f` puts a value in Vd or in An. -/

variable {i : Instr} {cyc : Nat} {c : Int} {f : Nat → State → State} {x : Int}

theorem givesValue_of_setV {d : Fin 16} (here : atWord s l j w') (word : w' = w)
    (e : exec i s = s.ppDo fun t => t.loopDo l w wAll cyc f)
    (effect : f j (s.counted j c) = (s.counted j c).setV j d x)
    (cycles : (cyc : Int) = c := by rfl) : givesValue i s l j c (Reg.slV (16 * j + d)) x false :=
  givesValue_of_withResult (takesResult_kind j (by decide) (by omega)) <| by
    rw [e, State.ppDo_loopDo_of_atWord (word ▸ here) cycles, effect]
    rfl

theorem givesSat16_of_satV {d : Fin 16} (here : atWord s l j w') (word : w' = w)
    (e : exec i s = s.ppDo fun t => t.loopDo l w wAll cyc f)
    (effect : f j (s.counted j c) = (s.counted j c).satV j d x)
    (cycles : (cyc : Int) = c := by rfl) : givesSat16 i s l j c (Reg.slV (16 * j + d)) x :=
  givesValue_of_withResult (takesResult_kind j (by decide) (by omega)) <| by
    rw [e, State.ppDo_loopDo_of_atWord (word ▸ here) cycles, effect, State.satV_counted]

theorem givesValue_of_setA {n : Fin 4} (here : atWord s l j w') (word : w' = w)
    (e : exec i s = s.ppDo fun t => t.loopDo l w wAll cyc f)
    (effect : f j (s.counted j c) = (s.counted j c).setA j n x)
    (cycles : (cyc : Int) = c := by rfl) : givesValue i s l j c (Reg.slA (4 * j + n)) x false :=
  givesValue_of_withResult (takesResult_kind j (by decide) (by omega)) <| by
    rw [e, State.ppDo_loopDo_of_atWord (word ▸ here) cycles, effect]
    rfl

theorem givesSat40_of_satA {n : Fin 4} (here : atWord s l j w') (word : w' = w)
    (e : exec i s = s.ppDo fun t => t.loopDo l w wAll cyc f)
    (effect : f j (s.counted j c) = (s.counted j c).satA j n x)
    (cycles : (cyc : Int) = c := by rfl) : givesSat40 i s l j c (Reg.slA (4 * j + n)) x :=
  givesValue_of_withResult (takesResult_kind j (by decide) (by omega)) <| by
    rw [e, State.ppDo_loopDo_of_atWord (word ▸ here) cycles, effect, State.satA_counted]

end

/-! ### The instructions with a result (R303) -/

/-- The word of an RDS, by whether its index is relative. -/
theorem word_rds (d : Nat) (rel : Bool) (sig : Nat) :
    instrWord 5 d (if rel then 8 else 0) 0 sig = wOp 5 + wD d + (if rel then 2097152 else 0) + sig := by
  have relative : wA (if rel then 8 else 0) = if rel then 2097152 else 0 := by cases rel <;> rfl
  rw [word_daLow, relative]

/-- The word of a WRA, by whether its point is relative. -/
theorem word_wra (a : Nat) (rel : Bool) (act : Nat) :
    instrWord 7 0 a 0 ((if rel then 2 ^ 17 else 0) + act) = wOp 7 + wA a + (if rel then 131072 else 0) + act := by
  have place : (2 : Nat) ^ 17 = 131072 := rfl
  unfold instrWord wOp wA
  rw [place]
  omega

/-- Settles O11: each instruction is, at its word, its cycles counted and one value put in Vd, saturated where its row says so. -/
theorem loopDataResults : Obligations.LoopDataResults := by
  intro l j s
  refine ⟨?ldi, ?mov, ?rds, ?rdp, ?add, ?sub, ?addi, ?mul, ?neg, ?abs, ?min, ?max, ?clmp, ?shl, ?shr, ?lpf, ?sata⟩
  case ldi => exact fun d imm here => givesValue_of_setV here (word_dLow ..) rfl rfl
  case mov => exact fun d a here => givesValue_of_setV here (word_da ..) rfl (by rw [State.vreg_counted])
  case rds => exact fun d rel sig here => givesValue_of_setV here (word_rds ..) rfl (by rw [State.rdN_ltSig_counted])
  case rdp =>
    intro d k here
    have param : (s.counted j 1).rd (Reg.slParam (8 * j + k)) = s.rd (Reg.slParam (8 * j + k)) :=
      State.rd_counted_kind (by decide) (by decide) (by omega)
    exact givesValue_of_setV here (word_dLow ..) rfl (congrArg _ param)
  case add => exact fun d a b here => givesSat16_of_satV here (word_dab ..) rfl (by simp only [State.vreg_counted])
  case sub => exact fun d a b here => givesSat16_of_satV here (word_dab ..) rfl (by simp only [State.vreg_counted])
  case addi => exact fun d a imm here => givesSat16_of_satV here (word_daLow ..) rfl (by rw [State.vreg_counted])
  case mul => exact fun d a b here => givesSat16_of_satV here (word_dab ..) rfl (by simp only [State.vreg_counted, rnd15_eq])
  case neg => exact fun d a here => givesSat16_of_satV here (word_da ..) rfl (by rw [State.vreg_counted])
  case abs => exact fun d a here => givesSat16_of_satV here (word_da ..) rfl (by rw [State.vreg_counted, absI_eq])
  case min => exact fun d a b here => givesValue_of_setV here (word_dab ..) rfl (by simp only [State.vreg_counted])
  case max => exact fun d a b here => givesValue_of_setV here (word_dab ..) rfl (by simp only [State.vreg_counted])
  case clmp => exact fun d a b here => givesValue_of_setV here (word_dab ..) rfl (by simp only [State.vreg_counted])
  case shl => exact fun d a sh here => givesSat16_of_satV here (word_daLow ..) rfl (by rw [State.vreg_counted, natCast_two_pow])
  case shr => exact fun d a sh here => givesValue_of_setV here (word_daLow ..) rfl (by rw [State.vreg_counted, natCast_two_pow])
  case lpf => exact fun d a b here => givesSat16_of_satV here (word_dab ..) rfl (by simp only [State.vreg_counted, rnd15_eq])
  case sata => exact fun d n sh here => givesSat16_of_satV here (word_dLow ..) rfl (by rw [State.areg_counted, natCast_two_pow, rnd15_eq])

/-- What ACLP leaves: An within Va and Vb, and CLP set exactly where that moved it (R303). -/
theorem execAclp_clamps {s : State} {l : Fin 2} {j : Fin 128} {n : Fin 4} {a b : Fin 16} {x : Int}
    (here : atWord s l j (instrWord 0x27 n a b 0))
    (clamped : x = min (max (s.rd (Reg.slA (4 * j + n))) (s.rd (Reg.slV (16 * j + a)) * 2 ^ 15)) (s.rd (Reg.slV (16 * j + b)) * 2 ^ 15)) :
    execAclp l n a b s = .next ((((s.counted j 1).wr (Reg.slA (4 * j + n)) x).wrB (Reg.slClp j)
      (decide (x ≠ s.rd (Reg.slA (4 * j + n))))).fetch l).settle := by
  subst clamped
  unfold execAclp
  rw [State.ppDo_loopDo_of_atWord (c := 1) (word_dab .. ▸ here), State.vreg_counted, State.vreg_counted, State.areg_counted]
  rfl

/-- Settles O12: each instruction is, at its word, its cycle counted and one value put in An, saturated where its row says so; ACLP writes
CLP besides. -/
theorem loopAccumulatorResults : Obligations.LoopAccumulatorResults := by
  intro l j s
  refine ⟨?clra, ?lda, ?mac, ?msu, ?acca, ?shra, ?aclp⟩
  case clra => exact fun n here => givesValue_of_setA here (word_d ..) rfl rfl
  case lda => exact fun n a here => givesValue_of_setA here (word_da ..) rfl (by rw [State.vreg_counted, scale15])
  case mac => exact fun n a b here => givesSat40_of_satA here (word_dab ..) rfl (by simp only [State.areg_counted, State.vreg_counted])
  case msu => exact fun n a b here => givesSat40_of_satA here (word_dab ..) rfl (by simp only [State.areg_counted, State.vreg_counted])
  case acca => exact fun n a here => givesSat40_of_satA here (word_da ..) rfl (by rw [State.areg_counted, State.vreg_counted, scale15])
  case shra => exact fun n sh here => givesValue_of_setA here (word_dLow ..) rfl (by rw [State.areg_counted, natCast_two_pow])
  case aclp =>
    intro n a b here
    have apart (i : Nat) (hi : i ≠ 103) : Reg.slA (4 * j + n) ≠ intKey i j := intKey_ne (Ne.symm hi) (by omega) (by omega)
    have value : ∀ y z, (((s.counted j 1).wr (Reg.slA (4 * j + n)) y).wr (Reg.slClp j) z).rd (Reg.slA (4 * j + n)) = y := fun y z => by
      rw [State.rd_wr_other (apart 104 (by decide)), State.rd_wr_self]
    refine ⟨_, execAclp_clamps here rfl, value _ _, ?_, ?_, ?_, ?_⟩
    · rw [State.wrB, State.rd_wr_self, value]
      simp only [decide_eq_true_eq]
    · rw [State.wrB, State.rd_wr_other (intKey_ne_sameUnit (by decide) j), State.rd_wr_other (apart 101 (by decide)).symm,
        State.rd_counted_pc]
    · rw [State.wrB, State.rd_wr_other (intKey_ne_sameUnit (by decide) j), State.rd_wr_other (apart 110 (by decide)).symm,
        State.rd_counted_cyc]
    · exact onlyChanges_wr _ (by simp) (onlyChanges_wr _ (by simp) (onlyChanges_counted 1 (by simp) (by simp)))

/-! ### Control (R303, R306, R311) -/

/-- Settles O13: at its word NOP only counts its cycle, RAISE sets RAISED, END ends the run, and WRA and WTG buffer one write. -/
theorem loopControlResults : Obligations.LoopControlResults := by
  intro l j s
  refine ⟨?nop, ?endRun, ?raise, ?wra, ?wtg⟩
  case nop =>
    intro here
    have sat : (s.counted j 1).rd (Reg.slSat j) = s.rd (Reg.slSat j) :=
      State.rd_counted_other (intKey_ne_sameUnit (by decide) j) (intKey_ne_sameUnit (by decide) j)
    exact ⟨s.counted j 1, State.ppDo_loopDo_of_atWord here, State.rd_counted_pc 1, sat, State.rd_counted_pc 1, State.rd_counted_cyc 1,
      onlyChanges_counted 1 (by simp) (by simp)⟩
  case endRun => exact fun here => State.ppDo_loopDo_of_atWord here
  case raise =>
    exact fun here => givesValue_of_withResult (takesResult_kind j (by decide) (by omega)) (State.ppDo_loopDo_of_atWord here)
  case wra =>
    intro rel act a here
    refine (State.ppDo_loopDo_of_atWord (c := 1) (word_wra a rel act ▸ here)).trans ?_
    rw [State.vreg_counted, State.rdN_ltAct_counted]
  case wtg =>
    intro prof a b here
    refine (State.ppDo_loopDo_of_atWord (c := 2) (word_abLow .. ▸ here)).trans ?_
    rw [State.vreg_counted, State.vreg_counted]
    rfl

end Sys2Proof.Machine

/-!
The skip and the following-error step of the loop engine (07_loop_engine.md R304, R316).
-/
namespace Sys2Proof.Machine

/-! ### The words of SKP (R302, R304) -/

/-- A word whose upper and lower part lie within the two parts of a mask lies within the mask. -/
theorem land_parts {x m y r k : Nat} (upper : Nat.land x m = x) (lower : Nat.land y r = y) (hy : y < 2 ^ k) (hr : r < 2 ^ k) :
    Nat.land (2 ^ k * x + y) (2 ^ k * m + r) = 2 ^ k * x + y := by
  refine Nat.eq_of_testBit_eq fun i => ?_
  have bits := congrArg (Nat.testBit · i) lower
  have bits' := congrArg (Nat.testBit · (i - k)) upper
  have land (n n' i : Nat) : (Nat.land n n').testBit i = (n.testBit i && n'.testBit i) := Nat.testBit_and n n' i
  simp only [land] at bits bits' ⊢
  rw [Nat.testBit_two_pow_mul_add x hy, Nat.testBit_two_pow_mul_add m hr]
  split
  · exact bits
  · exact bits'

/-- Every field of a SKP lies in a place that its row gives to it. -/
theorem skpWord_land (cond : Fin 8) (a b : Fin 16) (cnt : Fin 256) :
    Nat.land (wCond cond + wA a + wB b + cnt) (wCond 7 + wA 15 + wB 15 + 255) = wCond cond + wA a + wB b + cnt := by
  have nested (c a b n : Nat) : wCond c + wA a + wB b + n = 2 ^ 14 * (2 ^ 4 * (2 ^ 5 * c + a) + b) + n := by
    unfold wCond wA wB
    omega
  rw [nested, nested]
  have fields : Nat.land (2 ^ 5 * cond.val + a) (2 ^ 5 * 7 + 15) = 2 ^ 5 * cond.val + a :=
    land_parts (land_ones (n := 3) cond.isLt) (land_ones (n := 4) a.isLt) (by omega) (by omega)
  exact land_parts (land_parts fields (land_ones (n := 4) b.isLt) (by omega) (by omega)) (land_ones (n := 8) cnt.isLt) (by omega) (by omega)

/-- When a word with the opcode of SKP and nothing in a reserved place is an instruction. -/
theorem wordOk_of_skp {w : Nat} (op : opOf w = 0x30)
    (inPlace : Nat.land (w % 67108864) (wCond 7 + wA 15 + wB 15 + 255) = w % 67108864) :
    wordOk w = (decide (wField w 23 3 ≠ 7) && (decide (wField w 23 3 ≠ 6) || decide (wField w 14 8 = 0)) && decide (wField w 0 8 ≠ 0)) := by
  have shape : opShape 0x30 = some (wCond 7 + wA 15 + wB 15 + 255, 1) := rfl
  unfold wordOk
  rw [op, shape]
  simp only [inPlace, decide_true, Bool.true_and, ne_eq, not_true_eq_false, decide_false, Bool.false_or]

/-- A SKP is an instruction where its condition is defined, CLP comes with A and B at 0, and the count is at least 1. -/
theorem wordOk_skp_iff (cond : Fin 8) (a b : Fin 16) (cnt : Fin 256) :
    wordOk (wOp 0x30 + wCond cond + wA a + wB b + cnt) = true ↔ cond ≠ 7 ∧ cnt ≠ 0 ∧ (cond = 6 → a = 0 ∧ b = 0) := by
  have fields : opOf (wOp 0x30 + wCond cond + wA a + wB b + cnt) = 0x30 ∧
      (wOp 0x30 + wCond cond + wA a + wB b + cnt) % 67108864 = wCond cond + wA a + wB b + cnt ∧
      wField (wOp 0x30 + wCond cond + wA a + wB b + cnt) 23 3 = cond ∧
      wField (wOp 0x30 + wCond cond + wA a + wB b + cnt) 14 8 = 16 * a + b ∧
      wField (wOp 0x30 + wCond cond + wA a + wB b + cnt) 0 8 = cnt := by
    unfold opOf wField wOp wCond wA wB
    omega
  obtain ⟨op, low, condField, abField, cntField⟩ := fields
  have inPlace := skpWord_land cond a b cnt
  rw [← low] at inPlace
  rw [wordOk_of_skp op inPlace, condField, abField, cntField]
  simp only [Bool.and_eq_true, Bool.or_eq_true, decide_eq_true_eq]
  omega

/-! ### SKP (R304, R305) -/

/-- The conditions of SKP as a list, COND 0 first; no other condition ever holds. -/
theorem skpHolds_eq (cond : Nat) (x y : Int) (clp : Bool) : skpHolds cond x y clp =
    [decide (x = y), decide (x ≠ y), decide (x < y), decide (y ≤ x), decide (y < x), decide (x ≤ y), clp].getD cond false :=
  match cond with
  | 0 | 1 | 2 | 3 | 4 | 5 | 6 => rfl
  | _ + 7 => rfl

section
variable {s : State} {l : Fin 2} {j : Fin 128} {cond : Fin 8} {a b : Fin 16} {cnt : Fin 256}

theorem execSkp_reserved (runs : s.ppRuns = true) (reserved : ¬wordOk (wOp 0x30 + wCond cond + wA a + wB b + cnt) = true) :
    execSkp l cond a b cnt s = .next s.settle :=
  State.ppDo_of_runs runs (if_pos (by simp [reserved]))

theorem execSkp_defined (ok : wordOk (wOp 0x30 + wCond cond + wA a + wB b + cnt) = true)
    (here : atWord s l j (wOp 0x30 + wCond cond + wA a + wB b + cnt)) :
    execSkp l cond a b cnt s = .next (((if skpHolds cond (s.rd (Reg.slV (16 * j + a))) (s.rd (Reg.slV (16 * j + b))) (s.on (Reg.slClp j))
      then (s.counted j 1).wr (Reg.slPc j) ((s.counted j 1).rd (Reg.slPc j) + (cnt : Nat)) else s.counted j 1).fetch l).settle) := by
  have clp : (s.counted j 1).on (Reg.slClp j) = s.on (Reg.slClp j) := by
    unfold State.on
    rw [State.rd_counted_kind (by decide) (by decide) (by omega)]
  unfold execSkp
  simp only [ok, Bool.not_true, Bool.false_eq_true, if_false]
  rw [State.ppDo_loopDo_of_atWord (c := 1) here, State.vreg_counted, State.vreg_counted, clp]

end

/-- Settles O14: a defined SKP counts its cycle and adds its count to the address where its condition holds; a reserved one is no
instruction. -/
theorem skipsOnItsCondition : Obligations.SkipsOnItsCondition := by
  intro l j s
  refine ⟨?defined, ?reserved⟩
  case defined =>
    intro cond a b cnt notReserved counts clp here
    have word : instrWord 0x30 (2 * cond.val) a b cnt = wOp 0x30 + wCond cond + wA a + wB b + cnt := by
      unfold instrWord wOp wCond wA wB
      omega
    have ok := (wordOk_skp_iff cond a b cnt).2 ⟨notReserved, counts, clp⟩
    refine ⟨_, execSkp_defined ok (word ▸ here), ?_⟩
    rw [← skpHolds_eq]
    split
    · refine ⟨?_, ?_, onlyChanges_wr _ (by simp) (onlyChanges_counted 1 (by simp) (by simp))⟩
      · rw [State.rd_wr_self, State.rd_counted_pc]
      · rw [State.rd_wr_other (intKey_ne_sameUnit (by decide) j), State.rd_counted_cyc]
    · refine ⟨?_, State.rd_counted_cyc 1, onlyChanges_counted 1 (by simp) (by simp)⟩
      rw [State.rd_counted_pc, Int.add_zero]
  case reserved =>
    intro cond a b cnt runs reserved
    refine execSkp_reserved runs fun ok => ?_
    obtain ⟨notReserved, -, clp⟩ := (wordOk_skp_iff cond a b cnt).1 ok
    rcases reserved with isReserved | ⟨isClp, notZero⟩
    · exact notReserved isReserved
    · obtain ⟨aZero, bZero⟩ := clp isClp
      exact notZero.elim (· aZero) (· bZero)

/-! ### FEL (R316) -/

/-- The following-error timer of slot `j` at `ns`, with FE_ELAPSED_US and FE_ACTIVE to match. -/
def State.withFeTimer (s : State) (j : Nat) (ns : Int) (active : Bool) : State :=
  ((s.wr (Reg.slFeNs j) ns).wr (Reg.FE_ELAPSED_US j) (satU 32 (ns / 1000))).setBit (flag (Reg.SLOT_STATUS j) 5) active

/-- Above its limit the error moves the timer on; the due mark is set where this brings the timer to FE_TIME_US. -/
theorem State.fel_above {s : State} {j : Nat} {err lim ns limit : Int} (above : lim < err.natAbs)
    (advanced : ns = s.rd (Reg.slFeNs j) + s.rd (Reg.ltDiv j) * s.rd (Reg.ltFrameNs (j / 64))) (time : limit = s.rd (Reg.FE_TIME_US j) * 1000) :
    s.fel j err lim =
      (s.withFeTimer j ns true).when (decide (s.rd (Reg.slFeNs j) < limit ∧ limit ≤ ns)) fun u => u.wr (Reg.slFeDue j) 1 := by
  subst advanced time
  unfold State.fel State.when
  rw [absI_eq, if_pos above]
  simp only [decide_eq_true_eq]
  rfl

theorem State.fel_notAbove {s : State} {j : Nat} {err lim : Int} (notAbove : err.natAbs ≤ lim) :
    s.fel j err lim = s.withFeTimer j 0 false := by
  unfold State.fel
  rw [absI_eq, if_neg (Int.not_lt.2 notAbove)]
  rfl

section
variable {s : State} {j : Fin 128} {ns : Int} {active : Bool}

theorem slotStatus_ne_intKey (i u : Nat) : Reg.SLOT_STATUS j ≠ intKey i u := odKey_ne_intKey (by omega) (by decide)

theorem feElapsed_ne_intKey (i u : Nat) : Reg.FE_ELAPSED_US j ≠ intKey i u := odKey_ne_intKey (by omega) (by decide)

theorem State.rd_withFeTimer_ns : (s.withFeTimer j ns active).rd (Reg.slFeNs j) = ns := by
  unfold State.withFeTimer State.setBit
  rw [State.rd_setFld_other _ _ _ _ (slotStatus_ne_intKey _ _).symm, State.rd_wr_other (feElapsed_ne_intKey _ _).symm, State.rd_wr_self]

theorem State.rd_withFeTimer_elapsed : (s.withFeTimer j ns active).rd (Reg.FE_ELAPSED_US j) = satU 32 (ns / 1000) := by
  unfold State.withFeTimer State.setBit
  rw [State.rd_setFld_other _ _ _ _ (odKey_ne_sameObject (by decide) _), State.rd_wr_self]

theorem State.bit_withFeTimer_active : (s.withFeTimer j ns active).bit (flag (Reg.SLOT_STATUS j) 5) = active := by
  unfold State.withFeTimer State.setBit
  rw [State.bit_setFld_flag_self]
  cases active <;> rfl

theorem State.bit_withFeTimer_other {i : Nat} (h : i ≠ 5) :
    (s.withFeTimer j ns active).bit (flag (Reg.SLOT_STATUS j) i) = s.bit (flag (Reg.SLOT_STATUS j) i) := by
  unfold State.withFeTimer State.setBit
  rw [State.bit_setFld_flag_other _ _ _ h, State.bit_wr_other _ _ (odKey_ne_sameObject (by decide) _),
    State.bit_wr_other _ _ (slotStatus_ne_intKey _ _)]

theorem State.rd_withFeTimer_kind {i : Nat} (h : i ≠ 108) :
    (s.withFeTimer j ns active).rd (intKey i j) = s.rd (intKey i j) := by
  unfold State.withFeTimer State.setBit
  rw [State.rd_setFld_other _ _ _ _ (slotStatus_ne_intKey _ _).symm, State.rd_wr_other (feElapsed_ne_intKey _ _).symm,
    State.rd_wr_other (intKey_ne_sameUnit h j)]

/-- What the step that sets the timer to `ns` leaves behind, whether or not it sets the due mark. -/
theorem felStep_leaves {due : Bool} {u : State}
    (e : u = ((s.counted j 1).withFeTimer j ns active).when due fun v => v.wr (Reg.slFeDue j) 1) :
    u.rd (Reg.slFeNs j) = ns ∧ u.bit (flag (Reg.SLOT_STATUS j) 5) = active ∧ u.rd (Reg.FE_ELAPSED_US j) = satU 32 (ns / 1000) ∧
      (∀ i, i ≠ 5 → u.bit (flag (Reg.SLOT_STATUS j) i) = s.bit (flag (Reg.SLOT_STATUS j) i)) ∧
      u.rd (Reg.slPc j) = (s.rdN (Reg.slPc j) : Int) + 1 ∧ u.rd (Reg.slCyc j) = s.rd (Reg.slCyc j) + 1 ∧
      onlyChanges s u [Reg.slFeNs j, Reg.FE_ELAPSED_US j, Reg.SLOT_STATUS j, Reg.slFeDue j, Reg.slPc j, Reg.slCyc j] := by
  subst e
  refine ⟨?ns, ?active, ?elapsed, ?others, ?pc, ?cyc, ?rest⟩
  case ns => rw [State.rd_when_wr_other (intKey_ne_sameUnit (by decide) j), State.rd_withFeTimer_ns]
  case active => rw [State.bit_when_wr_other (slotStatus_ne_intKey _ _), State.bit_withFeTimer_active]
  case elapsed => rw [State.rd_when_wr_other (feElapsed_ne_intKey _ _), State.rd_withFeTimer_elapsed]
  case others =>
    intro i h
    rw [State.bit_when_wr_other (slotStatus_ne_intKey _ _), State.bit_withFeTimer_other h, State.counted,
      State.bit_wr_other _ _ (slotStatus_ne_intKey _ _), State.bit_wr_other _ _ (slotStatus_ne_intKey _ _)]
  case pc =>
    rw [State.rd_when_wr_other (intKey_ne_sameUnit (by decide) j), State.rd_withFeTimer_kind (by decide), State.rd_counted_pc]
  case cyc =>
    rw [State.rd_when_wr_other (intKey_ne_sameUnit (by decide) j), State.rd_withFeTimer_kind (by decide), State.rd_counted_cyc]
  case rest =>
    have timer := onlyChanges_setFld (b := flag (Reg.SLOT_STATUS j) 5) (if active then 1 else 0) (by simp [flag])
      (onlyChanges_wr (k := Reg.FE_ELAPSED_US j) (satU 32 (ns / 1000)) (by simp) (onlyChanges_wr (k := Reg.slFeNs j) ns (by simp)
        (onlyChanges_counted (s := s) (j := j)
          (ks := [Reg.slFeNs j, Reg.FE_ELAPSED_US j, Reg.SLOT_STATUS j, Reg.slFeDue j, Reg.slPc j, Reg.slCyc j]) 1 (by simp) (by simp))))
    exact onlyChanges_when timer (onlyChanges_wr 1 (by simp) timer)

end

theorem execFel_steps {s : State} {l : Fin 2} {j : Fin 128} {a b : Fin 16} (here : atWord s l j (instrWord 0x31 0 a b 0)) :
    execFel l a b s =
      .next (((s.counted j 1).fel j (s.rd (Reg.slV (16 * j + a))) (s.rd (Reg.slV (16 * j + b)))).fetch l).settle := by
  refine (State.ppDo_loopDo_of_atWord (c := 1) (word_ab .. ▸ here)).trans ?_
  rw [State.vreg_counted, State.vreg_counted]

/-- Settles O15: the error is above its limit, and the timer moves on by the slot period, or it is not, and the timer is cleared; what is
reported follows the timer in both. -/
theorem followingErrorTimer : Obligations.FollowingErrorTimer := by
  intro l j s a b here
  rcases Int.lt_or_le (s.rd (Reg.slV (16 * j + b))) ((s.rd (Reg.slV (16 * j + a))).natAbs : Int) with above | notAbove
  · have advanced : s.rd (Reg.slFeNs j) + s.rd (Reg.ltDiv j) * s.rd (Reg.ltFrameNs (j / 64)) =
        (s.counted j 1).rd (Reg.slFeNs j) + (s.counted j 1).rd (Reg.ltDiv j) * (s.counted j 1).rd (Reg.ltFrameNs (j / 64)) := by
      rw [State.rd_counted_kind (by decide) (by decide) (by omega), State.rd_counted_kind (by decide) (by decide) (by omega),
        State.rd_counted_kind (by decide) (by decide) (by omega)]
    obtain ⟨ns, active, elapsed, rest⟩ := felStep_leaves (State.fel_above above advanced rfl)
    exact ⟨_, execFel_steps here, fun _ => ⟨ns, active⟩, fun h => absurd above (Int.not_lt.2 h), ns ▸ elapsed, rest⟩
  · obtain ⟨ns, active, elapsed, rest⟩ := felStep_leaves (s := s) (due := false) (State.fel_notAbove notAbove)
    exact ⟨_, execFel_steps here, fun h => absurd h (Int.not_lt.2 notAbove), fun _ => ⟨ns, active⟩, ns ▸ elapsed, rest⟩

end Sys2Proof.Machine

/-!
Triggers, fetches and the winder (07_loop_engine.md R293–R297, R308, R309, R318–R325): what a trigger during a frame and a checked fetch come
to, and what each command of the triggers and of the winder does at a plane that runs.
-/
namespace Sys2Proof.Machine

/-! ### A trigger during a frame (R297) -/

/-- Settles O35: of the two branches of a trigger, the running frame picks the overrun. -/
theorem triggerDuringAFrameIsAnOverrun : Obligations.TriggerDuringAFrameIsAnOverrun :=
  fun _ _ _ running => if_pos running

/-! ### Fetches (R308, R309) -/

section
variable {t : State}

theorem State.fetch_of_none_left (l : Nat) (none : t.rd (Reg.lnEcc l) = 0) : t.fetch l = t := if_pos (.inl none)

theorem State.ne_zero_of_rdN_mod {k n d : Nat} (h : t.rdN k % n = d) (hd : d ≠ 0) : t.rd k ≠ 0 := by
  rintro zero
  rw [State.rdN, zero, Int.toNat_zero, Nat.zero_mod] at h
  exact hd h.symm

/-- A single-bit error during a run is taken off what the fetches find, and counted. -/
theorem State.fetch_corrects {l : Nat} (inRun : t.rd (Reg.lnSlot l) ≠ 0) (digit : t.rdN (Reg.lnEcc l) % 3 = 1) :
    t.fetch l = (t.wr (Reg.lnEcc l) (t.rd (Reg.lnEcc l) / 3)).inc32 Reg.ECC_CORRECTED := by
  unfold State.fetch
  rw [if_neg (not_or.2 ⟨State.ne_zero_of_rdN_mod digit (by decide), inRun⟩), digit]
  rfl

/-- An uncorrectable error during a run is taken off what the fetches find, and ends the run. -/
theorem State.fetch_ends {l j : Nat} (running : t.rd (Reg.lnSlot l) = (j : Int) + 1) (digit : t.rdN (Reg.lnEcc l) % 3 = 2) :
    t.fetch l = (t.wr (Reg.lnEcc l) (t.rd (Reg.lnEcc l) / 3)).slotEcc j := by
  have slot : t.rdN (Reg.lnSlot l) - 1 = j := by unfold State.rdN; omega
  unfold State.fetch
  rw [if_neg (not_or.2 ⟨State.ne_zero_of_rdN_mod digit (by decide), by omega⟩), digit, slot]
  rfl

theorem execSlotStart_due {j : Fin 128} (ecc : List (Fin 3)) (runs : t.ppRuns = true) (due : t.slotDue j = true) :
    execSlotStart j ecc t = .next (((t.slotBegin j).wr (Reg.lnEcc (j / 64)) (eccDigits ecc : Nat)).fetch (j / 64)).settle :=
  State.ppDo_of_runs runs (if_pos due)

end

/-- Settles O36: the lowest digit of what the fetches find decides what a fetch does, and the run of a due slot begins with one. -/
theorem fetchesAreChecked : Obligations.FetchesAreChecked := by
  intro l j t
  refine ⟨State.fetch_of_none_left l, ?corrected, ?uncorrectable, fun ecc runs due => execSlotStart_due ecc runs due⟩
  case corrected => exact fun running digit => State.fetch_corrects (by omega) digit
  case uncorrectable =>
    intro u v running digit taken ended
    rw [State.fetch_ends running digit, ← taken, ended]
    rfl

/-! ### Writes of a slot and of a profile (R298, R318, R322, R323) -/

/-- A write to a slot: RESTART restarts it, and every lane takes what the commit changed. -/
theorem State.hook_slot (s t : State) {j : Nat} (h : j < 128) (sub : Nat) (new : Int) : s.hook t (0x3800 + j) sub new =
    (if odKey (0x3800 + j) sub = Reg.SLOT_CTRL j ∧ bitsOf new (Bit.SLOT_CTRL_RESTART j).lo 1 = 1 then t.slotRestart j else t).loopAccept s := by
  have other : ∀ {i b : Nat}, i < 0x3800 → b < 256 → odKey (0x3800 + j) sub ≠ odKey i b := fun hi => odKey_ne_of_lt (by omega)
  unfold State.hook
  rw [if_neg (by omega)]
  unfold State.hookHigh
  dsimp only
  rw [if_neg (by omega), if_neg (by omega), if_neg (other (by decide) (by decide)),
    if_neg (not_or.2 ⟨other (by decide) (by decide), other (by decide) (by decide)⟩), if_neg (other (by decide) (by decide)),
    if_neg (by omega), if_neg (by omega), if_neg (other (by decide) (by decide)), if_neg (by omega), if_neg (by omega), if_neg (by omega),
    if_neg (by omega), if_pos (by omega), Nat.add_sub_cancel_left]

/-- A write to a profile: TARGET starts a move, and PRESET takes the profile's start signal. -/
theorem State.hook_profile (s t : State) {w : Nat} (h : w < 32) (sub : Nat) (new : Int) : s.hook t (0x38C0 + w) sub new =
    if odKey (0x38C0 + w) sub = Reg.TARGET w then (t.wr (Reg.TARGET w) (s.rd (Reg.TARGET w))).windTarget w new
    else if odKey (0x38C0 + w) sub = Reg.W_CTRL w ∧ bitsOf new 0 1 = 1 then t.windStart w else t := by
  have other : ∀ {i b : Nat}, i < 0x3800 → b < 256 → odKey (0x38C0 + w) sub ≠ odKey i b := fun hi => odKey_ne_of_lt (by omega)
  unfold State.hook
  rw [if_neg (by omega)]
  unfold State.hookHigh
  dsimp only
  rw [if_neg (by omega), if_neg (by omega), if_neg (other (by decide) (by decide)),
    if_neg (not_or.2 ⟨other (by decide) (by decide), other (by decide) (by decide)⟩), if_neg (other (by decide) (by decide)),
    if_neg (by omega), if_neg (by omega), if_neg (other (by decide) (by decide)), if_neg (by omega), if_neg (by omega), if_neg (by omega),
    if_neg (by omega), if_neg (by omega), if_neg (by omega), if_pos (by omega), Nat.add_sub_cancel_left]

/-- A 1 is written to the control of a profile as it is. -/
theorem decoded_preset : ∀ w : Fin 32, decoded (0x38C0 + w) 1 (rawOf (0x38C0 + w) 1 1).2 = 1 := by decide

section
variable {t : State} (running : t.procRuns = true)
include running

theorem execSlotRestart_accepted {level : Fin 4} {j : Fin 128} {u : State} {raw : Nat}
    (ok : t.accepts level (0x3800 + j) 1 (withBits (t.rd (Reg.SLOT_CTRL j)) 2 1 1) = true)
    (e : raw = (rawOf (0x3800 + j) 1 (withBits (t.rd (Reg.SLOT_CTRL j)) 2 1 1)).2) (written : u = t.written (0x3800 + j) 1 raw)
    (restart : bitsOf (decoded (0x3800 + j) 1 raw) (Bit.SLOT_CTRL_RESTART j).lo 1 = 1) :
    execSlotRestart level j t = .next (((u.slotRestart j).loopAccept t).served (0x3800 + j)).settle := by
  subst e written
  refine State.hostWrite_effect running ok ?_
  rw [State.hook_slot _ _ j.isLt, if_pos ⟨rfl, restart⟩]

theorem execPreset_accepted {level : Fin 4} {w : Fin 32} {u : State} {raw : Nat} (ok : t.accepts level (0x38C0 + w) 1 1 = true)
    (e : raw = (rawOf (0x38C0 + w) 1 1).2) (written : u = t.written (0x38C0 + w) 1 raw) :
    execPreset level w t = .next ((u.windStart w).served (0x38C0 + w)).settle := by
  subst e written
  refine State.hostWrite_effect running ok ?_
  rw [State.hook_profile _ _ w.isLt, if_neg (odKey_ne_sameObject (by decide) _), decoded_preset, if_pos ⟨rfl, rfl⟩]

theorem execProfileTargetWrite_accepted {level : Fin 4} {w : Fin 32} {target : BitVec 32} {u : State} {raw : Nat}
    (ok : t.accepts level (0x38C0 + w) 5 target.toInt = true) (e : raw = (rawOf (0x38C0 + w) 5 target.toInt).2)
    (written : u = t.written (0x38C0 + w) 5 raw) :
    execProfileTargetWrite level w target t =
      .next (((u.wr (Reg.TARGET w) (t.rd (Reg.TARGET w))).windTarget w (decoded (0x38C0 + w) 5 raw)).served (0x38C0 + w)).settle := by
  subst e written
  refine State.hostWrite_effect running ok ?_
  rw [State.hook_profile _ _ w.isLt, if_pos rfl]

end

/-! ### Triggers (R293, R297) -/

section
variable {t : State} (runs : t.ppRuns = true)
include runs

theorem execLaneTrigger_timer {l : Fin 2} {u : State} (enabled : t.on (Reg.ltOn l) = true) (timer : t.rd (Reg.ltTrig l) = 0)
    (ticked : u = t.toTick (10 + l) (t.rdN (Reg.ltFrameNs l))) :
    execLaneTrigger l t = .next (u.laneTrigger l ((u.timebase / u.rdN (Reg.ltFrameNs l) : Nat) : Int)).settle := by
  subst ticked
  refine State.ppDo_of_runs runs ?_
  rw [if_neg (by simp [enabled]), if_pos timer]

theorem execLaneTrigger_scan {l : Fin 2} (enabled : t.on (Reg.ltOn l) = true) (notTimer : t.rd (Reg.ltTrig l) ≠ 0)
    (waits : t.on (Reg.lnTrig l) = true) :
    execLaneTrigger l t = .next ((t.wr (Reg.lnTrig l) (t.rd (Reg.lnTrig l) - 1)).laneTrigger l
      (t.rd (Reg.lnRounds l) - t.rd (Reg.lnTrig l) + 1)).settle := by
  refine State.ppDo_of_runs runs ?_
  rw [if_neg (by simp [enabled]), if_neg notTimer, if_pos waits]

theorem execWinderStep_running : execWinderStep t =
    .next (forUnits 4 (fun r v => v.refresh r) (forUnits 4 (fun r v => v.softStep r)
      (forUnits 32 (fun w v => (v.windOne w).windShow w) (t.toTick 4 1000)))).settle :=
  State.ppDo_of_runs runs rfl

end

/-- Settles O47: each command, at a plane that runs, is its effect, settled; the conditions pick the branch of the effect. -/
theorem loopTriggerAndWinderCommandsComplete : Obligations.LoopTriggerAndWinderCommandsComplete := by
  unfold Obligations.LoopTriggerAndWinderCommandsComplete
  refine ⟨?timerTrigger, ?scanTrigger, ?slotStart, ?slotRestart, ?preset, ?profileTargetWrite, ?winderStep⟩
  case timerTrigger => exact fun _ _ _ runs => execLaneTrigger_timer runs
  case scanTrigger => exact fun _ _ runs => execLaneTrigger_scan runs
  case slotStart => exact fun _ ecc _ runs => execSlotStart_due ecc runs
  case slotRestart => exact fun _ _ _ _ _ running => execSlotRestart_accepted running
  case preset => exact fun _ _ _ _ _ running => execPreset_accepted running
  case profileTargetWrite => exact fun _ _ _ _ _ _ running => execProfileTargetWrite_accepted running
  case winderStep => exact fun _ runs => execWinderStep_running runs

end Sys2Proof.Machine

/-!
Conversion, the scan, the window monitors and the thermal sensors (08_sensing_and_thermal.md R335–R370): what each of their commands does at a
plane that runs.
-/
namespace Sys2Proof.Machine

/-! ### A write of a monitor (R349, R354) -/

theorem State.hook_monitor (s t : State) {m sub : Nat} (h : m < 48) (hs : sub < 256) (new : Int) :
    s.hook t (0x3500 + m) sub new = s.monHook t m sub new := by
  have other : ∀ {i b : Nat}, i < 0x3500 → b < 256 → odKey (0x3500 + m) sub ≠ odKey i b := fun hi => odKey_ne_of_lt (by omega)
  unfold State.hook
  rw [if_neg (by omega)]
  unfold State.hookHigh
  dsimp only
  rw [if_neg (by omega), if_neg (by omega), if_neg (other (by decide) (by decide)),
    if_neg (not_or.2 ⟨other (by decide) (by decide), other (by decide) (by decide)⟩), if_neg (odKey_ne_of_lt (by omega) hs).symm,
    if_neg (by omega), if_neg (by omega), if_neg (other (by decide) (by decide)), if_neg (by omega), if_pos (by omega),
    Nat.add_sub_cancel_left]

theorem State.monHook_check (s t : State) (m : Nat) (new : Int) : s.monHook t m 7 new = t.mnCheckStart m new.toNat false := if_pos rfl

/-- A check type, 1 swap or 2 known level, is written to CHECK as it is. -/
theorem decoded_check : ∀ (m : Fin 48) (known : Bool),
    decoded (0x3500 + m) 7 (rawOf (0x3500 + m) 7 (if known then 2 else 1)).2 = if known then 2 else 1 := by decide

/-! ### A write of CMPO_CTRL (R353) -/

/-- Of steps over `0 … n - 1` of which only the one at `k` acts, that one is left. -/
theorem foldl_range_ite {α : Type} {f : α → Nat → α} {p : Nat → Prop} [DecidablePred p] {k : Nat} (only : ∀ i, p i ↔ i = k) (a : α) :
    ∀ n, (List.range n).foldl (fun b i => if p i then f b i else b) a = if k < n then f a k else a
  | 0 => rfl
  | n + 1 => by
    rw [List.range_succ, List.foldl_append, foldl_range_ite only a n, List.foldl_cons, List.foldl_nil]
    rcases Nat.lt_trichotomy k n with before | rfl | after
    · rw [if_pos before, if_neg (mt (only n).1 (Nat.ne_of_gt before)), if_pos (by omega)]
    · rw [if_neg (Nat.lt_irrefl k), if_pos ((only k).2 rfl), if_pos (Nat.lt_succ_self k)]
    · rw [if_neg (Nat.lt_asymm after), if_neg (mt (only n).1 (Nat.ne_of_lt after)), if_neg (by omega)]

theorem State.hook_cmpo (s t : State) {sub : Nat} (hs : sub < 256) (new : Int) : s.hook t 0x3540 sub new =
    ((List.range 8).foldl (fun u i =>
      if odKey 0x3540 sub = Reg.CMPO_CTRL i ∧ bitsOf new (Bit.CMPO_CTRL_CLEAR i).lo 1 = 1 then u.cmpoClear i else u) t).cmpoPins := by
  have other : ∀ {i b : Nat}, i < 0x3540 → b < 256 → odKey 0x3540 sub ≠ odKey i b := odKey_ne_of_lt
  unfold State.hook
  rw [if_neg (by decide)]
  unfold State.hookHigh
  dsimp only
  rw [if_neg (by decide), if_neg (by decide), if_neg (other (by decide) (by decide)),
    if_neg (not_or.2 ⟨other (by decide) (by decide), other (by decide) (by decide)⟩), if_neg (odKey_ne_of_lt (by decide) hs).symm,
    if_neg (by decide), if_neg (by decide), if_neg (other (by decide) (by decide)), if_neg (by decide), if_neg (by decide),
    if_pos rfl]

/-- A write of 1 to CLEAR of a CMPO pin reaches the latch of that pin alone. -/
theorem State.hook_cmpoClear (s t : State) {k : Nat} (h : k < 8) {new : Int} (clear : bitsOf new (Bit.CMPO_CTRL_CLEAR k).lo 1 = 1) :
    s.hook t 0x3540 (9 + k) new = (t.cmpoClear k).cmpoPins := by
  have only (i : Nat) : Reg.CMPO_CTRL k = Reg.CMPO_CTRL i ∧ bitsOf new (Bit.CMPO_CTRL_CLEAR i).lo 1 = 1 ↔ i = k := by
    refine ⟨fun ⟨same, _⟩ => ?_, ?_⟩
    · simp only [Reg.CMPO_CTRL, odKey] at same
      omega
    · rintro rfl
      exact ⟨rfl, clear⟩
  rw [State.hook_cmpo _ _ (by omega), foldl_range_ite only, if_pos h]

/-! ### The commands that write -/

section
variable {t : State} (running : t.procRuns = true)
include running

theorem execCmpoClear_accepted {level : Fin 4} {k : Fin 8} {u : State} {raw : Nat}
    (ok : t.accepts level 0x3540 (9 + k) (withBits (t.rd (Reg.CMPO_CTRL k)) 3 1 1) = true)
    (e : raw = (rawOf 0x3540 (9 + k) (withBits (t.rd (Reg.CMPO_CTRL k)) 3 1 1)).2) (written : u = t.written 0x3540 (9 + k) raw)
    (clear : bitsOf (decoded 0x3540 (9 + k) raw) (Bit.CMPO_CTRL_CLEAR k).lo 1 = 1) :
    execCmpoClear level k t = .next ((u.cmpoClear k).cmpoPins.served 0x3540).settle := by
  subst e written
  exact State.hostWrite_effect running ok (State.hook_cmpoClear _ _ k.isLt clear)

/-- An accepted write of a check type to CHECK starts the check. -/
theorem hostWrite_check_accepted {level : Fin 4} {m : Fin 48} (known : Bool) {u : State} {raw : Nat}
    (ok : t.accepts level (0x3500 + m) 7 (if known then 2 else 1) = true) (e : raw = (rawOf (0x3500 + m) 7 (if known then 2 else 1)).2)
    (written : u = t.written (0x3500 + m) 7 raw) :
    t.hostWrite level (0x3500 + m) 7 (if known then 2 else 1) =
      .next ((u.mnCheckStart m (if known then 2 else 1) false).served (0x3500 + m)).settle := by
  subst e written
  refine State.hostWrite_effect running ok ?_
  rw [State.hook_monitor _ _ m.isLt (by decide), State.monHook_check, decoded_check]
  cases known <;> rfl

end

/-! ### Conversions and the scan (R335–R342) -/

section
variable {t : State} (runs : t.ppRuns = true)
include runs

theorem execConversionResult_running (x : Conversion) (i : Fin 96) (code : Int) :
    execConversionResult x i code t = .next (t.convert x.converter i code (x.entry.map Fin.val)).settle := State.ppDo_of_runs runs rfl

theorem execScanRoundStart_begins (enabled : t.rdN Reg.SCAN_CTRL % 2 = 1) (noRound : t.on Reg.scanRound = false) :
    execScanRoundStart t = .next t.roundBegins.settle := State.ppDo_of_runs runs (if_pos ⟨enabled, noRound⟩)

theorem execScanRoundEnd_ends (published : t.roundDone = true) :
    execScanRoundEnd t = .next ((t.wr Reg.scanRound 0).inc32 Reg.ROUNDS).laneScan.settle := State.ppDo_of_runs runs (if_pos published)

/-! ### Window monitors (R347–R356) -/

theorem execMonitorCrossing_running (m : Fin 48) (uv : Int) : execMonitorCrossing m uv t = .next (t.mnCross m uv).settle :=
  State.ppDo_of_runs runs rfl

theorem execMonitorFilter_held {m : Fin 48} (held : t.mnHeld m = true) : execMonitorFilter m t = .next (t.mnFilter m).settle :=
  State.ppDo_of_runs runs (if_pos held)

omit runs in
theorem State.mnAutoCheck_starts {m : Nat} (known : Bool) (due : t.mnAutoDue m = true) (idle : t.bit (mnChecking m) = false)
    (noOther : ((List.range 48).any fun k => t.on (Reg.mnAuto k)) = false) :
    t.mnAutoCheck m known = ((t.wr (Reg.mnAutoNs m) (t.now + 1)).mark markAuto m 0).mnCheckStart m (if known then 2 else 1) true := by
  unfold State.mnAutoCheck
  rw [if_neg (by simp [due]), if_neg (by simp [idle]), if_neg (by simp [noOther])]

theorem execAutoCheck_starts {m : Fin 48} (known : Bool) (due : t.mnAutoDue m = true) (idle : t.bit (mnChecking m) = false)
    (noOther : ((List.range 48).any fun k => t.on (Reg.mnAuto k)) = false) :
    execAutoCheck m known t =
      .next (((t.wr (Reg.mnAutoNs m) (t.now + 1)).mark markAuto m 0).mnCheckStart m (if known then 2 else 1) true).settle :=
  State.ppDo_of_runs runs (State.mnAutoCheck_starts known due idle noOther)

theorem execCheckEnd_running (m : Fin 48) (result : Fin 3) : execCheckEnd m result t = .next (t.mnCheckEnd m result).settle :=
  State.ppDo_of_runs runs rfl

/-! ### Temperature sensors (R359–R370, R376) -/

theorem execThermalSample_running (x : Fin 13) (v : Int) (good : Bool) :
    execThermalSample x v good t = .next (t.thermSample x v good).settle := by
  unfold execThermalSample
  rw [if_neg (by simp [State.t0Joins_running runs])]
  exact State.ppDo_of_runs runs rfl

end

theorem execThermalSample_joins {t : State} {v : Int} {good : Bool} (joins : t.t0Joins v good = true) :
    execThermalSample 0 v good t = .next (t.dieJoins 474).settle := if_pos ⟨rfl, joins⟩

/-- Settles O48: each command, at a plane that runs, is its effect, settled; the conditions pick the branch of the effect. -/
theorem sensingCommandsComplete : Obligations.SensingCommandsComplete := by
  unfold Obligations.SensingCommandsComplete
  refine ⟨?conversionResult, ?scanRoundStart, ?scanRoundEnd, ?monitorCrossing, ?monitorFilter, ?cmpoClear, ?checkSwap, ?checkKnownLevel,
    ?autoCheck, ?checkEnd, ?thermalSample, ?thermalSampleJoins⟩
  case conversionResult => exact fun c i code entry _ runs => execConversionResult_running runs ⟨c, entry⟩ i code
  case scanRoundStart => exact fun _ runs => execScanRoundStart_begins runs
  case scanRoundEnd => exact fun _ runs => execScanRoundEnd_ends runs
  case monitorCrossing => exact fun m uv _ runs => execMonitorCrossing_running runs m uv
  case monitorFilter => exact fun _ _ runs => execMonitorFilter_held runs
  case cmpoClear => exact fun _ _ _ _ _ running => execCmpoClear_accepted running
  case checkSwap => exact fun _ _ _ _ _ running => hostWrite_check_accepted running false
  case checkKnownLevel => exact fun _ _ _ _ _ running => hostWrite_check_accepted running true
  case autoCheck => exact fun _ known _ runs => execAutoCheck_starts runs known
  case checkEnd => exact fun m result _ runs => execCheckEnd_running runs m result
  case thermalSample => exact fun x v good _ runs => execThermalSample_running runs x v good
  case thermalSampleJoins => exact fun _ _ _ => execThermalSample_joins

end Sys2Proof.Machine

/-!
The reset values (09_sequencing_and_states.md R382; 10_faults_watchdog_resets.md R414): a register that nothing has written reads what its
table states, and the fault sources share one table.
-/
namespace Sys2Proof.Machine

theorem State.rd_reset (k : Nat) : State.reset.rd k = resetValue k := rfl

theorem State.rd_reset_od {idx sub : Nat} (hi : idx < 0x10000) (hs : sub < 256) : State.reset.rd (odKey idx sub) = subReset idx sub := by
  have index : odKey idx sub / 256 = idx := by unfold odKey; omega
  have subIndex : odKey idx sub % 256 = sub := by unfold odKey; omega
  rw [State.rd_reset, resetValue, if_pos (by unfold odKey; omega), index, subIndex]

theorem findObj_source {f : Nat} (h : f < 1024) : findObj (0x4000 + f) = some objSrc := by
  have part : objectsNear (0x4000 + f) = [objSlot, objProg, objLane, objDuty, objWinder] ++ objSrc :: [objReact] := by
    unfold objectsNear
    rw [if_neg (by omega), if_neg (by omega), if_neg (by omega), if_neg (by omega), if_neg (by omega), if_pos (by omega)]
    rfl
  have earlier : ∀ o ∈ [objSlot, objProg, objLane, objDuty, objWinder], o.base + o.count ≤ 0x4000 := by decide
  unfold findObj
  rw [part, List.find?_append, List.find?_eq_none.2, Option.none_or, List.find?_cons_of_pos]
  · have ends : objSrc.base + objSrc.count = 0x4400 := rfl
    have begins : objSrc.base = 0x4000 := rfl
    simp only [Bool.and_eq_true, decide_eq_true_eq]
    omega
  · intro o mem
    have ends := earlier o mem
    simp only [Bool.and_eq_true, decide_eq_true_eq]
    omega

/-- Every source starts with what the table of R414 states, whichever source it is. -/
theorem State.rd_reset_source {f : Nat} (hf : f < 1024) (sub : Nat) {row : SubRow} (hs : sub < 256) (hrow : objSrc.find sub = some row)
    (same : row.step = 0) : State.reset.rd (odKey (0x4000 + f) sub) = row.reset := by
  rw [State.rd_reset_od (by omega) hs, subReset, findObj_source hf]
  dsimp only
  rw [hrow]
  dsimp only
  rw [same, Int.zero_mul, Int.add_zero]

theorem State.rd_reset_srcCtrl (f : Fin 1024) : State.reset.rd (Reg.SRC_CTRL f) = 0x10018 :=
  State.rd_reset_source f.isLt 1 (by decide) rfl rfl

/-- The first raise of a source counts: it starts with its reaction and its latch enabled. -/
theorem State.reset_srcCtrl_fields (f : Fin 1024) : State.reset.fld (Bit.SRC_CTRL_COUNT_N f) = 1 ∧
    State.reset.bit (Bit.SRC_CTRL_REACT_EN f) = true ∧ State.reset.bit (Bit.SRC_CTRL_LATCH f) = true := by
  unfold State.bit State.fld
  rw [State.rd_reset_srcCtrl]
  exact ⟨(by decide : bitsOf 0x10018 16 8 = 1), decide_eq_true (by decide : bitsOf 0x10018 4 1 ≠ 0),
    decide_eq_true (by decide : bitsOf 0x10018 3 1 ≠ 0)⟩

/-- Settles O7: the state after a cold reset lists no register, so each reads what its table states; the sources share one table. -/
theorem resetValuesAreTheSpecs : Obligations.ResetValuesAreTheSpecs := by
  unfold Obligations.ResetValuesAreTheSpecs
  refine ⟨by decide, by decide, by decide, fun f => ?source, by decide, by decide, by decide, by decide, by decide, by decide, by decide,
    rfl, rfl, rfl, rfl⟩
  case source =>
    obtain ⟨count, react, latch⟩ := State.reset_srcCtrl_fields f
    exact ⟨count, react, latch, State.rd_reset_source f.isLt 2 (by decide) rfl rfl, State.rd_reset_source f.isLt 3 (by decide) rfl rfl,
      State.rd_reset_source f.isLt 4 (by decide) rfl rfl⟩

end Sys2Proof.Machine

/-!
The judgement of a write of STATE_CMD (09_sequencing_and_states.md R379; 12_dictionary.md R502, R503): what each check of R502 comes to.
-/
namespace Sys2Proof.Machine

/-- The row of STATE_CMD in the table of R382. -/
def stateCmdRow : SubRow := ⟨1, 1, "STATE_CMD", .u8, .wo, 0, [(0, 6)], none, 0, 0, []⟩

theorem findRow_stateCmd : findRow 0x1010 1 = .ok stateCmdRow := rfl

theorem tyDecode_u8 {v : Nat} (h : v < 256) : tyDecode .u8 v = v := by
  simp [tyDecode, tySigned, tyBytes, Nat.mod_eq_of_lt h]

theorem stateCmdRow_inRange (old : Int) (v : Nat) : stateCmdRow.inRange old v = decide (v ≤ 6) := by
  have range : (decide ((0 : Int) ≤ v) && decide ((v : Int) ≤ 6)) = decide (v ≤ 6) := by
    rw [Bool.eq_iff_iff]
    simp only [Bool.and_eq_true, decide_eq_true_eq]
    omega
  simp only [SubRow.inRange, stateCmdRow, List.isEmpty_cons, List.any_cons, List.any_nil, List.all_nil, Bool.false_or, Bool.or_false,
    Bool.and_true, range]

theorem offTable_stateCmd (v : Nat) : offTable 0x1010 1 v = decide (v = 2) := by
  rw [Bool.eq_iff_iff]
  simpa [offTable] using Int.ofNat_inj (n := 2)

section
variable (t : State)

/-- A session of level 1 may write STATE_CMD whatever the value. -/
theorem State.writeLevel_stateCmd (old new : Int) : t.writeLevel false 0x1010 1 stateCmdRow old new = 1 := rfl

/-- Of the rules on the present state only STARTING forbids a write of STATE_CMD. -/
theorem State.stateRefuses_stateCmd (normal : t.bit updRecovery = false) (u : State) (old new : Int) :
    t.stateRefuses u 0x1010 1 stateCmdRow old new = decide (t.rdN Reg.STATE = 2) := by
  have power : t.refusedLow u 0x1010 1 new = decide (t.rdN Reg.STATE = 2) := rfl
  have noUnit : t.enablesFailed u 0x1010 = false := rfl
  have anyState : stateCmdRow.needsConfigured old new = false := rfl
  unfold State.stateRefuses
  rw [if_pos (by decide), power, noUnit, anyState, normal]
  simp

theorem State.ownCheck_stateCmd {v : Nat} (h : v ≠ 2) : t.ownCheck 0x1010 1 v = 0 := by
  unfold State.ownCheck
  rw [if_pos rfl, if_neg (by omega)]

theorem State.checksOn_stateCmd : t.checksOn 0x1010 1 = [] := rfl

/-- The checks of R502 in their order: the value first, then the present state; level, length and consistency turn nothing away. -/
theorem State.writeAbort_stateCmd {level v : Nat} (hv : v < 256) (normal : t.bit updRecovery = false) (allowed : 1 ≤ level) :
    t.writeAbort level false 0x1010 1 1 v = if v = 2 ∨ 6 < v then 0x0401 else if t.rdN Reg.STATE = 2 then 0x0501 else 0 := by
  have value : tyDecode stateCmdRow.ty v = v := tyDecode_u8 hv
  have turnedAway : (!decide (v ≤ 6) || decide (v = 2)) = true ↔ v = 2 ∨ 6 < v := by
    simp only [Bool.or_eq_true, Bool.not_eq_true', decide_eq_false_iff_not, decide_eq_true_eq]
    omega
  unfold State.writeAbort
  rw [findRow_stateCmd]
  dsimp only
  rw [value, if_neg (by decide), t.writeLevel_stateCmd, if_neg (by omega), if_neg (by decide), stateCmdRow_inRange, offTable_stateCmd,
    t.stateRefuses_stateCmd normal]
  by_cases bad : v = 2 ∨ 6 < v
  · rw [if_pos bad, if_pos (turnedAway.2 bad)]
  · have notStarting : v ≠ 2 := fun e => bad (.inl e)
    rw [if_neg bad, if_neg (mt turnedAway.1 bad), t.ownCheck_stateCmd notStarting, State.checksOn_stateCmd]
    simp

end

/-- Settles O28: the three clauses are the three branches of the judgement. -/
theorem stateCommandIsJudged : Obligations.StateCommandIsJudged := by
  intro level v t normal allowed
  have judged := t.writeAbort_stateCmd v.isLt normal allowed
  have starts : v = 2 ↔ v.toNat = 2 := BitVec.toNat_inj.symm
  have good (other : v ≠ 2) (range : v.toNat ≤ 6) : ¬(v.toNat = 2 ∨ 6 < v.toNat) := not_or.2 ⟨mt starts.2 other, by omega⟩
  refine ⟨fun bad => ?value, fun other range starting => ?state, fun other range running => ?accepted⟩
  case value => exact judged.trans (if_pos (bad.imp_left starts.1))
  case state => rw [judged, if_neg (good other range), if_pos starting]
  case accepted => rw [judged, if_neg (good other range), if_neg running]

end Sys2Proof.Machine

/-!
The power states, the nodes, the loss shut-down and margins (09_sequencing_and_states.md R379–R403): what each of their commands does at a
plane that runs. The writes of STATE_CMD, of a node's control, of RESUME and of a margin are read once for what they come to; every other
command is its effect on the branch that its conditions pick.
-/
namespace Sys2Proof.Machine

/-! ### A write of STATE_CMD (R379, R380) -/

theorem State.hook_stateCmd (s t : State) (new : Int) : s.hook t 0x1010 1 new =
    if new ≤ 1 then forUnits 64 (fun a v => v.wr (Reg.bcastStored a) (v.rd (Reg.bcastRx a))) (t.stateCmd new.toNat)
    else t.stateCmd new.toNat := rfl

/-- A power state is written to STATE_CMD as it is. -/
theorem decoded_stateCmd : ∀ v : Fin 7, decoded 0x1010 1 (rawOf 0x1010 1 (v : Nat)).2 = (v : Nat) := by decide

section
variable {t u : State} {level : Fin 4} {raw : Nat} (running : t.procRuns = true)
include running

/-- A command to OFF (0) or STANDBY (1) also stores the receive table of the broadcasts (14_images_and_security.md R625). -/
theorem State.hostState_down {v : Fin 7} (down : v ≤ 1) (ok : t.accepts level 0x1010 1 (v : Nat) = true)
    (e : raw = (rawOf 0x1010 1 (v : Nat)).2) (written : u = t.written 0x1010 1 raw) :
    t.hostState level (v : Nat) =
      .next ((forUnits 64 (fun a x => x.wr (Reg.bcastStored a) (x.rd (Reg.bcastRx a))) (u.stateCmd v)).served 0x1010).settle := by
  subst e written
  refine State.hostWrite_effect running ok ?_
  rw [State.hook_stateCmd, decoded_stateCmd, if_pos (by omega), Int.toNat_natCast]

/-- A command to CONFIGURED, RUN, ECONOMY or PARK (3–6) only changes the power state. -/
theorem State.hostState_up {v : Fin 7} (up : 1 < v) (ok : t.accepts level 0x1010 1 (v : Nat) = true)
    (e : raw = (rawOf 0x1010 1 (v : Nat)).2) (written : u = t.written 0x1010 1 raw) :
    t.hostState level (v : Nat) = .next ((u.stateCmd v).served 0x1010).settle := by
  subst e written
  refine State.hostWrite_effect running ok ?_
  rw [State.hook_stateCmd, decoded_stateCmd, if_neg (by omega), Int.toNat_natCast]

end

/-! ### A write of NODE_CTRL (R385, R395) -/

theorem State.hook_node (s t : State) {k sub : Nat} (h : k < 64) (hs : sub < 256) (new : Int) :
    s.hook t (0x3400 + k) sub new = t.nodeHook k sub new := by
  have other : ∀ {i b : Nat}, i < 0x3400 → b < 256 → odKey (0x3400 + k) sub ≠ odKey i b := fun hi => odKey_ne_of_lt (by omega)
  unfold State.hook
  rw [if_neg (by omega)]
  unfold State.hookHigh
  dsimp only
  rw [if_neg (by omega), if_neg (by omega), if_neg (other (by decide) (by decide)),
    if_neg (not_or.2 ⟨other (by decide) (by decide), other (by decide) (by decide)⟩), if_neg (odKey_ne_of_lt (by omega) hs).symm,
    if_pos (by omega), Nat.add_sub_cancel_left]

theorem State.nodeHook_clear (t : State) (k : Nat) {new : Int} (clear : bitsOf new 10 1 = 1) :
    t.nodeHook k 1 new = (t.nodeEnter k 0).wr Reg.seqDue 1 := by
  rw [State.nodeHook, if_pos ⟨rfl, clear⟩]

theorem State.nodeHook_noClear (t : State) (k : Nat) {new : Int} (noClear : bitsOf new 10 1 = 0) :
    t.nodeHook k 1 new = t.wr Reg.seqDue 1 := by
  rw [State.nodeHook, if_neg (by omega)]

/-! ### Writes of RESUME and of a margin (R400, R403) -/

theorem State.hook_resume (s t : State) (new : Int) : s.hook t 0x3441 8 new = t.lossResume := rfl

/-- The margin is put in force from its value before the write. -/
theorem State.hook_margin (s t : State) (new : Int) : ∀ r : Fin 4, s.hook t 0x3440 (r + 1) new =
    ((t.wr (Reg.MARGIN r) (s.rd (Reg.MARGIN r))).mark markMargin r 0).setMargin r new
  | 0 | 1 | 2 | 3 => rfl

section
variable {t u : State} {level : Fin 4} {raw : Nat} (running : t.procRuns = true)
include running

theorem execNodeHostOff_accepted {k : Fin 64} {off : Bool}
    (ok : t.accepts level (0x3400 + k) 1 (withBits (t.rd (Reg.NODE_CTRL k)) 11 1 (if off then 1 else 0)) = true)
    (e : raw = (rawOf (0x3400 + k) 1 (withBits (t.rd (Reg.NODE_CTRL k)) 11 1 (if off then 1 else 0))).2)
    (written : u = t.written (0x3400 + k) 1 raw) (noClear : bitsOf (decoded (0x3400 + k) 1 raw) 10 1 = 0) :
    execNodeHostOff level k off t = .next ((u.wr Reg.seqDue 1).served (0x3400 + k)).settle := by
  subst e written
  exact State.hostWrite_effect running ok ((State.hook_node _ _ k.isLt (by decide) _).trans (State.nodeHook_noClear _ _ noClear))

theorem execNodeClear_accepted {k : Fin 64} (ok : t.accepts level (0x3400 + k) 1 (withBits (t.rd (Reg.NODE_CTRL k)) 10 1 1) = true)
    (e : raw = (rawOf (0x3400 + k) 1 (withBits (t.rd (Reg.NODE_CTRL k)) 10 1 1)).2) (written : u = t.written (0x3400 + k) 1 raw)
    (clear : bitsOf (decoded (0x3400 + k) 1 raw) 10 1 = 1) :
    execNodeClear level k t = .next (((u.nodeEnter k 0).wr Reg.seqDue 1).served (0x3400 + k)).settle := by
  subst e written
  exact State.hostWrite_effect running ok ((State.hook_node _ _ k.isLt (by decide) _).trans (State.nodeHook_clear _ _ clear))

theorem execResume_accepted (ok : t.accepts level 0x3441 8 1 = true) (e : raw = (rawOf 0x3441 8 1).2)
    (written : u = t.written 0x3441 8 raw) :
    execResume level t = .next (u.lossResume.served 0x3441).settle := by
  subst e written
  exact State.hostWrite_effect running ok (State.hook_resume _ _ _)

theorem execMarginWrite_accepted {r : Fin 4} {m : BitVec 16} (ok : t.accepts level 0x3440 (r + 1) m.toInt = true)
    (e : raw = (rawOf 0x3440 (r + 1) m.toInt).2) (written : u = t.written 0x3440 (r + 1) raw) :
    execMarginWrite level r m t = .next ((((u.wr (Reg.MARGIN r) (t.rd (Reg.MARGIN r))).mark markMargin r 0).setMargin r
      (decoded 0x3440 (r + 1) raw)).served 0x3440).settle := by
  subst e written
  exact State.hostWrite_effect running ok (State.hook_margin _ _ _ r)

end

section
variable {t : State} (runs : t.ppRuns = true)
include runs

/-! ### Turning on (R387, R389–R391) -/

theorem execNodeOnDelayExpiry_asserts {k : Fin 64} (delayOn : t.nodeSt k = 2)
    (lapsed : t.nodeSince k (t.rd (Reg.ON_DELAY_US k) * 1000) = true) : execNodeOnDelayExpiry k t = .next (t.nodeAssert k).settle :=
  State.ppDo_of_runs runs (if_pos ⟨delayOn, lapsed⟩)

omit runs in
theorem State.nodeRise_qualifies {k : Nat} (good : t.nodeGood k = true) (inTime : t.pgOver k = false) :
    t.nodeRise k = ((t.nodeEnter k 4).wr (Reg.ndOkNs k) t.now).ftFollow k := by
  rw [State.nodeRise, if_neg (by simp [good]), if_neg (by simp [inTime])]

theorem execNodePowerGood_qualifies {k : Fin 64} {high : Bool} {heldNs : Nat} {u : State} (pin : u = t.pgPin k high heldNs)
    (rampUp : u.nodeSt k = 3) (good : u.nodeGood k = true) (inTime : u.pgOver k = false) :
    execNodePowerGood k ⟨high, heldNs⟩ t = .next (((u.nodeEnter k 4).wr (Reg.ndOkNs k) u.now).ftFollow k).settle := by
  subst pin
  exact State.ppDo_of_runs runs ((if_pos rampUp).trans (State.nodeRise_qualifies good inTime))

theorem execNodeQualified_up {k : Fin 64} (qualify : t.nodeSt k = 4) (qualified : t.nodeQualified k = true) :
    execNodeQualified k t = .next (t.nodeEnter k 5).settle :=
  State.ppDo_of_runs runs (if_pos ⟨qualify, qualified⟩)

theorem execPgTimeout_faults {k : Fin 64} (rampUp : t.nodeSt k = 3) (lapsed : t.pgOver k = true) :
    execPgTimeout k t = .next (t.nodeFault k 1).settle :=
  State.ppDo_of_runs runs (if_pos ⟨rampUp, lapsed⟩)

/-! ### Turning off (R388) -/

theorem execNodeOffDelayExpiry_rampsDown {k : Fin 64} (delayOff : t.nodeSt k = 6)
    (lapsed : t.nodeSince k (t.rd (Reg.OFF_DELAY_US k) * 1000) = true) :
    execNodeOffDelayExpiry k t = .next ((t.nodeWithdraw k true).nodeEnter k 7).settle :=
  State.ppDo_of_runs runs (if_pos ⟨delayOff, lapsed⟩)

theorem execNodeRampDownDone_off {k : Fin 64} {high : Bool} {heldNs : Nat} {u : State} (pin : u = t.pgPin k high heldNs)
    (rampDown : u.nodeSt k = 7) (complete : u.nodeDone k = true) :
    execNodeRampDownDone k ⟨high, heldNs⟩ t = .next (u.nodeEnter k 0).settle := by
  subst pin
  exact State.ppDo_of_runs runs (if_pos ⟨rampDown, complete⟩)

theorem execOffTimeout_faults {k : Fin 64} (rampDown : t.nodeSt k = 7)
    (lapsed : t.nodeSince k (t.rd (Reg.OFF_TIMEOUT_MS k) * 1000000) = true) : execOffTimeout k t = .next (t.nodeFault k 3).settle :=
  State.ppDo_of_runs runs (if_pos ⟨rampDown, lapsed⟩)

/-! ### The fault timer and the loss shut-down (R390, R393, R398) -/

theorem execNodeFaultCondition_follows {k : Fin 64} {high : Bool} {heldNs : Nat} {u : State} (pin : u = t.pgPin k high heldNs)
    (timed : u.nodeSt k = 4 ∨ u.nodeSt k = 5) : execNodeFaultCondition k ⟨high, heldNs⟩ t = .next (u.ftFollow k).settle := by
  subst pin
  exact State.ppDo_of_runs runs (if_pos timed)

theorem execNodeFaultTimerExpiry_faults {k : Fin 64} (timed : t.nodeSt k = 4 ∨ t.nodeSt k = 5) (lapsed : t.ftOver k = true) :
    execNodeFaultTimerExpiry k t = .next (t.nodeFault k 2).settle :=
  State.ppDo_of_runs runs (if_pos ⟨timed, lapsed⟩)

theorem execLossShutdown_starts {trigger : Fin 3} (due : t.lossDue trigger = true) :
    execLossShutdown trigger t = .next (t.lossStart trigger).settle :=
  State.ppDo_of_runs runs (if_pos due)

end

/-- Settles O49: each command, at a plane that runs, is its effect, settled; the conditions pick the branch of the effect. -/
theorem sequencerCommandsComplete : Obligations.SequencerCommandsComplete := by
  unfold Obligations.SequencerCommandsComplete
  refine ⟨?stateCmdOff, ?stateCmdStandby, ?stateCmdConfigured, ?stateCmdRun, ?stateCmdEconomy, ?stateCmdPark, ?nodeHostOff,
    ?nodeOnDelayExpiry, ?nodePowerGood, ?nodeQualified, ?pgTimeout, ?nodeOffDelayExpiry, ?nodeRampDownDone, ?offTimeout,
    ?nodeFaultCondition, ?nodeFaultTimerExpiry, ?nodeClear, ?lossShutdown, ?resume, ?marginWrite⟩
  case stateCmdOff => exact fun _ _ _ _ running => State.hostState_down (v := 0) running (by decide)
  case stateCmdStandby => exact fun _ _ _ _ running => State.hostState_down (v := 1) running (by decide)
  case stateCmdConfigured => exact fun _ _ _ _ running => State.hostState_up (v := 3) running (by decide)
  case stateCmdRun => exact fun _ _ _ _ running => State.hostState_up (v := 4) running (by decide)
  case stateCmdEconomy => exact fun _ _ _ _ running => State.hostState_up (v := 5) running (by decide)
  case stateCmdPark => exact fun _ _ _ _ running => State.hostState_up (v := 6) running (by decide)
  case nodeHostOff => exact fun _ _ _ _ _ _ running => execNodeHostOff_accepted running
  case nodeOnDelayExpiry => exact fun _ _ runs => execNodeOnDelayExpiry_asserts runs
  case nodePowerGood => exact fun _ _ _ _ _ runs => execNodePowerGood_qualifies runs
  case nodeQualified => exact fun _ _ runs => execNodeQualified_up runs
  case pgTimeout => exact fun _ _ runs => execPgTimeout_faults runs
  case nodeOffDelayExpiry => exact fun _ _ runs => execNodeOffDelayExpiry_rampsDown runs
  case nodeRampDownDone => exact fun _ _ _ _ _ runs => execNodeRampDownDone_off runs
  case offTimeout => exact fun _ _ runs => execOffTimeout_faults runs
  case nodeFaultCondition => exact fun _ _ _ _ _ runs => execNodeFaultCondition_follows runs
  case nodeFaultTimerExpiry => exact fun _ _ runs => execNodeFaultTimerExpiry_faults runs
  case nodeClear => exact fun _ _ _ _ _ running => execNodeClear_accepted running
  case lossShutdown => exact fun _ _ runs => execLossShutdown_starts runs
  case resume => exact fun _ _ _ _ running => execResume_accepted running
  case marginWrite => exact fun _ _ _ _ _ _ running => execMarginWrite_accepted running

end Sys2Proof.Machine

/-!
A raise (10_faults_watchdog_resets.md R410–R416, R447): what it counts and stamps. Whatever else follows in the same instant (the step to
severe, the notices, the capture, the pit log) writes other registers.
-/
namespace Sys2Proof.Machine

/-- What a raise records of source `f` (R413, R416), and the timebase: RAISES, LAST_RAISE_NS, LAST_FORCED. -/
def State.raiseRecord (s : State) (f : Nat) : Int × Int × Bool × Nat :=
  (s.rd (Reg.RAISES f), s.rd (Reg.LAST_RAISE_NS f), s.bit (flag (Reg.SRC_STATUS f) 2), s.timebase)

section
open State
variable (s : State) {f : Nat}

/-! ### Writes that leave the record as it is -/

theorem State.raiseRecord_wr {k : Nat} (raises : Reg.RAISES f ≠ k) (stamp : Reg.LAST_RAISE_NS f ≠ k) (status : Reg.SRC_STATUS f ≠ k) (x : Int) :
    (s.wr k x).raiseRecord f = s.raiseRecord f := by
  unfold State.raiseRecord
  rw [State.rd_wr_other raises, State.rd_wr_other stamp, State.bit_wr_other s x (b := flag (Reg.SRC_STATUS f) 2) status, State.wr_timebase]

/-- A register of another object: the sources have the objects 0x4000 to 0x43FF. -/
theorem State.raiseRecord_wr_elsewhere (hf : f < 1024) {k : Nat} (elsewhere : k < 0x400000 ∨ 0x440000 ≤ k) (x : Int) :
    (s.wr k x).raiseRecord f = s.raiseRecord f :=
  have apart {sub : Nat} (hs : sub < 256) : odKey (0x4000 + f) sub ≠ k := by unfold odKey; omega
  s.raiseRecord_wr (apart (by decide)) (apart (by decide)) (apart (by decide)) x

/-- Another sub-index of the source's own object. -/
theorem State.raiseRecord_wr_sub {sub : Nat} (other : sub ∉ [3, 5, 7]) (x : Int) :
    (s.wr (odKey (0x4000 + f) sub) x).raiseRecord f = s.raiseRecord f :=
  have apart {i : Nat} (listed : i ∈ [3, 5, 7]) : odKey (0x4000 + f) i ≠ odKey (0x4000 + f) sub :=
    odKey_ne_sameObject (fun same : i = sub => other (same ▸ listed)) _
  s.raiseRecord_wr (apart (by decide)) (apart (by decide)) (apart (by decide)) x

/-- SEVERE and the window's bit of the status. -/
theorem State.raiseRecord_setFld_status {i : Nat} (other : 2 ≠ i) (x : Nat) :
    (s.setFld (flag (Reg.SRC_STATUS f) i) x).raiseRecord f = s.raiseRecord f := by
  have raises : Reg.RAISES f ≠ (flag (Reg.SRC_STATUS f) i).key := odKey_ne_sameObject (by decide) _
  have stamp : Reg.LAST_RAISE_NS f ≠ (flag (Reg.SRC_STATUS f) i).key := odKey_ne_sameObject (by decide) _
  unfold State.raiseRecord
  rw [State.rd_setFld_other _ _ _ _ raises, State.rd_setFld_other _ _ _ _ stamp, State.bit_setFld_flag_other _ _ _ other,
    State.setFld_timebase]

theorem State.raiseRecord_setBit_status {i : Nat} (other : 2 ≠ i) (x : Bool) :
    (s.setBit (flag (Reg.SRC_STATUS f) i) x).raiseRecord f = s.raiseRecord f :=
  s.raiseRecord_setFld_status other _

theorem State.raiseRecord_mark (k u : Nat) (v : Int) : (s.mark k u v).raiseRecord f = s.raiseRecord f := rfl

theorem State.raiseRecord_srcIdle : (s.srcIdle f).raiseRecord f = s.raiseRecord f :=
  calc (s.srcIdle f).raiseRecord f
    _ = ((s.setFld (flag (Reg.SRC_STATUS f) 0) 0).setFld (flag (Reg.SRC_STATUS f) 1) 0).raiseRecord f := raiseRecord_wr_sub _ (by decide) _
    _ = (s.setFld (flag (Reg.SRC_STATUS f) 0) 0).raiseRecord f := raiseRecord_setFld_status _ (by decide) _
    _ = s.raiseRecord f := raiseRecord_setFld_status _ (by decide) _

theorem State.raiseRecord_srcUnclear (was : Nat) : (s.srcUnclear f was).raiseRecord f = s.raiseRecord f :=
  (raiseRecord_setBit_status _ (by decide) _).trans
    ((raiseRecord_setBit_status _ (by decide) _).trans (raiseRecord_wr_sub _ (by decide) _))

variable (hf : f < 1024)
include hf

/-! ### What follows a raise in its instant -/

theorem State.raiseRecord_takeBlock : (s.takeBlock 19).raiseRecord f = s.raiseRecord f := by
  unfold State.takeBlock State.fed State.setUsed
  simp (disch := decide) only [raiseRecord_wr_elsewhere _ hf]

theorem State.raiseRecord_dropBlock : (s.dropBlock 19).raiseRecord f = s.raiseRecord f := by
  have counted : ((s.inc32 (Reg.DROPS 19)).wr (Reg.galFed 19) 0).raiseRecord f = s.raiseRecord f := by
    unfold State.inc32 State.add
    simp (disch := decide) only [raiseRecord_wr_elsewhere _ hf]
  unfold State.dropBlock
  split <;> exact counted

theorem State.raiseRecord_dropRecord (n : Nat) : (s.dropRecord 19 n).raiseRecord f = s.raiseRecord f := by
  unfold State.dropRecord
  dsimp only
  split
  · exact raiseRecord_wr_elsewhere _ hf (by decide) _
  · exact (raiseRecord_wr_elsewhere _ hf (by decide) _).trans (s.raiseRecord_dropBlock hf)

theorem State.raiseRecord_notice (e : Event) : (s.notice e).raiseRecord f = s.raiseRecord f := by
  unfold State.notice
  split
  · split
    · rfl
    · split
      · exact s.raiseRecord_takeBlock hf
      · exact s.raiseRecord_dropRecord hf 16
  · exact s.raiseRecord_dropRecord hf 16

theorem State.raiseRecord_stage (off bits : Nat) (d : Int) : (s.stage off bits d).raiseRecord f = s.raiseRecord f := by
  unfold State.stage
  extract_lets v t
  have saturated : t.raiseRecord f = s.raiseRecord f := raiseRecord_wr_elsewhere _ hf (k := Reg.PL_STATUS) (by decide) _
  split
  · rfl
  · split
    · rfl
    · exact saturated

theorem State.raiseRecord_capFreeze : s.capFreeze.raiseRecord f = s.raiseRecord f := by
  unfold State.capFreeze
  extract_lets held trig t
  show t.raiseRecord f = s.raiseRecord f
  unfold t
  simp (disch := decide) only [raiseRecord_wr_elsewhere _ hf]

theorem State.raiseRecord_capTrigger (cause : Nat) : (s.capTrigger cause).raiseRecord f = s.raiseRecord f := by
  unfold State.capTrigger
  extract_lets t
  have recorded : t.raiseRecord f = s.raiseRecord f := by
    unfold t
    rw [raiseRecord_mark]
    simp (disch := decide) only [raiseRecord_wr_elsewhere _ hf]
  split
  · rfl
  · split
    · exact raiseRecord_wr_elsewhere _ hf (by decide) _
    · split
      · split
        · exact (raiseRecord_capFreeze _ hf).trans recorded
        · exact recorded
      · rfl

theorem State.raiseRecord_severe : (s.severe f).raiseRecord f = s.raiseRecord f := by
  unfold State.severe
  extract_lets e applies s1 s2 s3 s4
  have recorded : s1.raiseRecord f = s.raiseRecord f :=
    (raiseRecord_wr_sub _ (by decide) _).trans
      ((raiseRecord_wr_sub _ (by decide) _).trans (raiseRecord_setFld_status _ (by decide) _))
  have noticed : s2.raiseRecord f = s.raiseRecord f := (raiseRecord_notice _ hf _).trans recorded
  have captured : s3.raiseRecord f = s.raiseRecord f := by
    unfold s3 State.when
    split
    · exact (raiseRecord_capTrigger _ hf _).trans noticed
    · exact noticed
  have reacted : s4.raiseRecord f = s.raiseRecord f := by
    unfold s4 State.when
    split
    · exact (raiseRecord_wr_elsewhere s3 hf (k := Reg.REACT_COUNT) (by decide) _).trans captured
    · exact captured
  split
  · exact reacted
  · exact (raiseRecord_srcIdle _).trans reacted

/-! ### The raise -/

omit hf in
/-- The count, the stamp and LAST_FORCED as a raise writes them. -/
theorem State.raiseRecord_stamped (time : Int) (forced : Bool) :
    (((s.inc32 (Reg.RAISES f)).wr (Reg.LAST_RAISE_NS f) time).setBit (flag (Reg.SRC_STATUS f) 2) forced).raiseRecord f =
      (satU 32 (s.rd (Reg.RAISES f) + 1), time, forced, s.timebase) := by
  have apart {i j : Nat} (h : i ≠ j) : odKey (0x4000 + f) i ≠ odKey (0x4000 + f) j := odKey_ne_sameObject h _
  have bit : decide ((if forced then 1 else 0) % 2 ≠ 0) = forced := by cases forced <;> rfl
  unfold State.raiseRecord State.setBit State.inc32 State.add
  rw [State.bit_setFld_flag_self, bit, State.rd_setFld_other _ _ _ _ (apart (by decide)), State.rd_setFld_other _ _ _ _ (apart (by decide)),
    State.rd_wr_other (apart (by decide)), State.rd_wr_self, State.rd_wr_self]
  rfl

/-- What a counted raise records, whether or not it makes the source severe. -/
theorem State.raiseRecord_raiseCount (forced : Bool) : (s.raiseCount f forced).raiseRecord f =
    (satU 32 (s.rd (Reg.RAISES f) + 1), s.now, forced || s.markedNow markForced f, s.timebase) := by
  unfold State.raiseCount
  extract_lets runs c s0 s1 s2 s3 s4
  have window : s0.raiseRecord f = s.raiseRecord f := by
    unfold s0
    split
    · rfl
    · exact (raiseRecord_wr_elsewhere _ hf (.inr (by unfold Reg.srcWinNs intKey; omega)) _).trans
        (raiseRecord_setFld_status _ (by decide) _)
  have marks : s1.markedNow markForced f = s.markedNow markForced f := by
    unfold s1 s0
    split <;> rfl
  have counted : (s0.wr (Reg.COUNT f) c).raiseRecord f = s.raiseRecord f := (raiseRecord_wr_sub _ (by decide) _).trans window
  have raises : (s0.wr (Reg.COUNT f) c).rd (Reg.RAISES f) = s.rd (Reg.RAISES f) := congrArg (·.1) counted
  have timebase : (s0.wr (Reg.COUNT f) c).timebase = s.timebase := congrArg (·.2.2.2) counted
  have stamped : s2.raiseRecord f = (satU 32 (s.rd (Reg.RAISES f) + 1), s.now, forced || s.markedNow markForced f, s.timebase) := by
    rw [← marks, ← raises, ← timebase]
    exact raiseRecord_stamped _ _ _
  have noted : s4.raiseRecord f = s2.raiseRecord f := by
    unfold s4
    split
    · exact raiseRecord_notice s2 hf _
    · exact (raiseRecord_stage _ hf _ _ _).trans (raiseRecord_notice s2 hf _)
  split
  · exact (raiseRecord_severe _ hf).trans (noted.trans stamped)
  · exact noted.trans stamped

/-- A raise at a power plane that runs: a CLEAR of the same edge changes nothing of its record. -/
theorem State.raiseRecord_raiseAs (runs : s.ppRuns = true) (forced : Bool) : (s.raiseAs f forced).raiseRecord f =
    (satU 32 (s.rd (Reg.RAISES f) + 1), s.now, forced || s.markedNow markForced f, s.timebase) := by
  unfold State.raiseAs
  rw [if_neg (by simp [runs])]
  split
  · next was _ =>
    have raises : (s.srcUnclear f was.toNat).rd (Reg.RAISES f) = s.rd (Reg.RAISES f) := congrArg (·.1) (s.raiseRecord_srcUnclear _)
    rw [raiseRecord_srcIdle, raiseRecord_raiseCount _ hf, raises]
    rfl
  · exact s.raiseRecord_raiseCount hf forced

end

theorem State.raiseAs_of_held {s : State} (held : s.ppRuns = false) (f : Nat) (forced : Bool) : s.raiseAs f forced = s :=
  if_pos (by simp [held])

/-- Settles O22: the record of a raise by its parts, and no raise while the collector is held in reset. -/
theorem raiseCountsAndStamps : Obligations.RaiseCountsAndStamps := by
  intro f forced s
  refine ⟨fun runs => ?_, fun held => State.raiseAs_of_held held f forced⟩
  have recorded := s.raiseRecord_raiseAs f.isLt runs forced
  simp only [State.raiseRecord, Prod.mk.injEq] at recorded
  exact recorded

end Sys2Proof.Machine

/-!
The fault collector's commands (10_faults_watchdog_resets.md R410, R412, R416): what each does where its plane runs.
-/
namespace Sys2Proof.Machine

theorem State.hook_source (s t : State) {f : Nat} (h : f < 1024) (new : Int) : s.hook t (0x4000 + f) 1 new = s.srcHook t f new := by
  have other : ∀ {i b : Nat}, i < 0x4000 → b < 256 → odKey (0x4000 + f) 1 ≠ odKey i b := fun hi => odKey_ne_of_lt (by omega)
  unfold State.hook
  rw [if_neg (by omega)]
  unfold State.hookHigh
  dsimp only
  rw [if_neg (by omega), if_neg (by omega), if_neg (other (by decide) (by decide)),
    if_neg (not_or.2 ⟨other (by decide) (by decide), other (by decide) (by decide)⟩), if_neg (other (by decide) (by decide)),
    if_neg (by omega), if_neg (by omega), if_neg (other (by decide) (by decide)), if_neg (by omega), if_neg (by omega), if_neg (by omega),
    if_neg (by omega), if_neg (by omega), if_neg (by omega), if_neg (by omega), if_pos (by omega), if_pos rfl, Nat.add_sub_cancel_left]

theorem State.srcHook_clear (s t : State) (f : Nat) {new : Int} (clear : bitsOf new 2 1 = 1) (noForce : bitsOf new 1 1 = 0) :
    s.srcHook t f new = (t.mark markReaction f (s.fld (Bit.SRC_CTRL_REACTION f))).srcClear f := by
  have notForced : bitsOf new 1 1 ≠ 1 := by omega
  unfold State.srcHook
  dsimp only
  rw [if_neg notForced, if_pos clear]

theorem State.srcHook_force {s t u : State} {f : Nat} {new : Int} (noClear : bitsOf new 2 1 = 0) (force : bitsOf new 1 1 = 1)
    (marked : u = t.mark markReaction f (s.fld (Bit.SRC_CTRL_REACTION f))) :
    s.srcHook t f new = { u with raiseQ := u.raiseQ ++ [1024 + f] } := by
  have notCleared : bitsOf new 2 1 ≠ 1 := by omega
  unfold State.srcHook
  dsimp only
  rw [if_pos force, if_neg notCleared, marked]

section
variable {t u : State}

theorem execWindowExpiry_over {f : Fin 1024} (runs : t.ppRuns = true) (lapsed : t.windowOver f = true) :
    execWindowExpiry f t = .next ((t.wr (Reg.COUNT f) 0).setFld (flag (Reg.SRC_STATUS f) 1) 0).settle :=
  State.ppDo_of_runs runs (if_pos lapsed)

variable {level : Fin 4} {f : Fin 1024} {raw : Nat} (running : t.procRuns = true)
include running

theorem execSourceClear_accepted (ok : t.accepts level (0x4000 + f) 1 (withBits (t.rd (Reg.SRC_CTRL f)) 2 1 1) = true)
    (e : raw = (rawOf (0x4000 + f) 1 (withBits (t.rd (Reg.SRC_CTRL f)) 2 1 1)).2) (written : u = t.written (0x4000 + f) 1 raw)
    (clear : bitsOf (decoded (0x4000 + f) 1 raw) 2 1 = 1) (noForce : bitsOf (decoded (0x4000 + f) 1 raw) 1 1 = 0) :
    execSourceClear level f t =
      .next (((u.mark markReaction f (t.fld (Bit.SRC_CTRL_REACTION f))).srcClear f).served (0x4000 + f)).settle := by
  subst e written
  exact State.hostWrite_effect running ok ((State.hook_source _ _ f.isLt _).trans (State.srcHook_clear _ _ _ clear noForce))

theorem execSourceForce_accepted {v : State} (ok : t.accepts level (0x4000 + f) 1 (withBits (t.rd (Reg.SRC_CTRL f)) 1 1 1) = true)
    (e : raw = (rawOf (0x4000 + f) 1 (withBits (t.rd (Reg.SRC_CTRL f)) 1 1 1)).2) (written : u = t.written (0x4000 + f) 1 raw)
    (noClear : bitsOf (decoded (0x4000 + f) 1 raw) 2 1 = 0) (force : bitsOf (decoded (0x4000 + f) 1 raw) 1 1 = 1)
    (marked : v = u.mark markReaction f (t.fld (Bit.SRC_CTRL_REACTION f))) :
    execSourceForce level f t = .next (({ v with raiseQ := v.raiseQ ++ [1024 + f.val] } : State).served (0x4000 + f)).settle := by
  subst e written
  exact State.hostWrite_effect running ok ((State.hook_source _ _ f.isLt _).trans (State.srcHook_force noClear force marked))

end

/-- Settles O50: each command, where its plane runs, is its effect, settled; a write acts by what its bits ask for. -/
theorem collectorCommandsComplete : Obligations.CollectorCommandsComplete := by
  unfold Obligations.CollectorCommandsComplete
  refine ⟨?windowExpiry, ?sourceClear, ?sourceForce⟩
  case windowExpiry => exact fun _ _ => execWindowExpiry_over
  case sourceClear => exact fun _ _ _ _ _ running => execSourceClear_accepted running
  case sourceForce => exact fun _ _ _ _ _ _ running => execSourceForce_accepted running

end Sys2Proof.Machine

/-!
What follows a command (10_faults_watchdog_resets.md R419, R434), and the state right after a cold reset (R440).
-/
namespace Sys2Proof.Machine

/-- Settles O10: each hypothesis is one of the things that `settled` asks for. -/
theorem settledEffectIsTheOutcome : Obligations.SettledEffectIsTheOutcome := by
  intro u noRaise noReaction noStep noReset noStart noOperation linksCalm
  have calm : u.calm = true := by simp [State.calm, noRaise, noReaction, noStep]
  have settled : u.settled = true := by simp [State.settled, calm, noReset, noStart, noOperation, linksCalm]
  exact State.settle_settled settled

/-- Settles O6: the empty stores are canonical. -/
theorem resetIsCanonical : Obligations.ResetIsCanonical := by
  unfold Obligations.ResetIsCanonical State.wf
  exact ⟨rfl, rfl, rfl, Nat.two_pow_pos 64⟩

end Sys2Proof.Machine

/-!
The watchdog and the deputy (10_faults_watchdog_resets.md R422–R431; 01_architecture.md R28): what each command does while the watchdog runs,
and of a cause that comes on the edge on which another has begun a processor reset (R434).
-/
namespace Sys2Proof.Machine

/-! ### A command to the watchdog, and a cause of a processor reset -/

section
variable {s : State}

theorem State.wdDo_of_runs (f : State → State) (powered : s.on Reg.corePowered = true) (proc : s.on Reg.procReset = false)
    (pp : s.on Reg.ppReset = false) : s.wdDo f = .next (f s).settle := by
  rw [State.wdDo_eq, if_pos (by simp [powered, proc, pp])]

theorem State.causeDo_of_runs (f : State → State) (powered : s.on Reg.corePowered = true) (pp : s.on Reg.ppReset = false)
    (proc : s.on Reg.procReset = false) : s.causeDo f = .next (f s).settle := by
  rw [State.causeDo_eq, if_pos (by simp [powered, pp, proc])]

/-- A cause that comes on the edge on which another has begun the reset acts too. -/
theorem State.causeDo_of_procBegun (f : State → State) (begun : s.procBegun = true) : s.causeDo f = .next (f s).settle := by
  simp only [State.procBegun, Bool.and_eq_true, Bool.not_eq_true'] at begun
  obtain ⟨⟨⟨powered, pp⟩, -⟩, marked⟩ := begun
  rw [State.causeDo_eq, if_pos (by simp [powered, pp, marked])]

theorem State.orJoins_of_procBegun {f : State → State} (begun : s.procBegun = true) (requests : (f s.watchBack).on Reg.procReqd = true)
    (g : State → State) (run : Result) : s.orJoins f g run = .next (g s).settle :=
  if_pos (by simp [begun, requests])

end

/-! ### The service (R428) -/

section
variable {t : State} {key : BitVec 32} {e : Int}

theorem State.wdAccepts_iff : t.wdAccepts key e = true ↔ key = 0x0000D1A6 ∧ t.wdPeriod ≤ 2 * e := by
  simp [State.wdAccepts]

section
variable (decided : e = t.wdSvcTick) (noWrite : t.nowMark markWdPeriod 0 = none)
include decided noWrite

theorem State.wdService_late (late : t.wdPeriod ≤ e) : t.wdService key e = t := by
  unfold State.wdService
  rw [if_pos decided, noWrite, if_pos late]

theorem State.wdService_refused (inTime : e < t.wdPeriod) (bad : key ≠ 0x0000D1A6 ∨ 2 * e < t.wdPeriod) :
    t.wdService key e = t.wdViolation := by
  have refused : ¬t.wdAccepts key e = true := by
    rw [State.wdAccepts_iff]
    exact fun ⟨right, opened⟩ => bad.elim (· right) (by omega)
  unfold State.wdService
  rw [if_pos decided, noWrite, if_neg (by omega), if_neg refused]

theorem State.wdService_accepted (inTime : e < t.wdPeriod) (right : key = 0x0000D1A6) (opened : t.wdPeriod ≤ 2 * e) :
    t.wdService key e = t.wdServe e := by
  unfold State.wdService
  rw [if_pos decided, noWrite, if_neg (by omega), if_pos (State.wdAccepts_iff.2 ⟨right, opened⟩)]

end

/-- On the tick of the write of the period the service is judged with what stood before that write (R447). -/
theorem State.wdService_onWrite {period at0 : Int} {u : State} (decided : e = t.wdSvcTick) (write : t.nowMark markWdPeriod 0 = some period)
    (stamp : t.nowMark markWdAt 0 = some at0) (before : u = t.wdUnwrite period at0) :
    t.wdService key e =
      if key = 0x0000D1A6 ∧ u.wdPeriod ≤ 2 * u.wdSvcTick ∧ u.wdSvcTick < u.wdPeriod then (u.wdServe u.wdSvcTick).wdViolation
      else t.wdViolation := by
  subst before
  unfold State.wdService
  rw [if_pos decided, write, stamp]
  simp only [Bool.and_eq_true, State.wdAccepts_iff, decide_eq_true_eq, and_assoc]

end

/-! ### The period (R429) -/

section
variable {t : State} {v : BitVec 32}

/-- The one write of the period; what it replaces is noted for a service of the same tick. -/
theorem State.wdNewPeriod_first {u : State} (unwritten : t.on Reg.wdPeriodWritten = false) (unlocked : t.bit wdLocked = false)
    (least : 8 ≤ v.toNat) (most : v.toNat ≤ 512)
    (noted : u = (t.mark markWdPeriod 0 (t.rd Reg.WD_PERIOD_MS)).mark markWdAt 0 (t.rd Reg.wdNs)) :
    t.wdNewPeriod v = ((u.wr Reg.WD_PERIOD_MS v.toNat).wr Reg.wdNs u.now).wr Reg.wdPeriodWritten 1 := by
  subst noted
  unfold State.wdNewPeriod
  rw [if_neg]
  rintro (written | locked | low | high)
  · simp [unwritten] at written
  · simp [unlocked] at locked
  · omega
  · omega

/-- The count is at 0 on the tick from which it counts. -/
theorem State.wdTicks_of_restart (restart : t.rd Reg.wdNs = t.now) : t.wdTicks = 0 := by
  unfold State.wdTicks State.wdAge
  rw [restart, Int.sub_self]
  rfl

theorem State.wdNewPeriod_refused (bad : t.on Reg.wdPeriodWritten = true ∨ t.bit wdLocked = true ∨ v.toNat < 8 ∨ 512 < v.toNat) :
    t.wdNewPeriod v = t.wdViolation :=
  if_pos bad

end

/-! ### Heartbeats (R424) -/

section
variable {t : State} {halted : Bool} (ready : t.on Reg.planeReady = true) (counts : (halted && t.authSilent) = false)
include ready counts

theorem State.heartMissed_third (two : t.rd Reg.hbMisses = 2) : t.heartMissed true halted = t.confBreak.heartLost := by
  unfold State.heartMissed
  rw [if_neg (by simp [ready, counts]), if_pos rfl, two]
  rfl

theorem State.heartMissed_first : t.heartMissed false halted = t.confBreak.wr Reg.hbMisses 1 := by
  unfold State.heartMissed
  rw [if_neg (by simp [ready, counts])]
  rfl

end

/-! ### The commands -/

section
variable {t : State}

theorem execWatchdogExpiry_procBegun (begun : t.procBegun = true) (elapsed : t.watchBack.wdPeriod ≤ t.watchBack.wdTicks) :
    execWatchdogExpiry t = .next t.wdExpires.settle := by
  rw [execWatchdogExpiry, State.causeDo_of_procBegun _ begun, if_pos elapsed]

theorem execHeartbeatMissed_procBegun {again halted : Bool} (begun : t.procBegun = true)
    (requests : (t.watchBack.heartMissed again halted).on Reg.procReqd = true) :
    execHeartbeatMissed again halted t = .next t.heartLost.settle :=
  State.orJoins_of_procBegun begun requests _ _

theorem execHeartbeatMissed_running (again halted : Bool) (running : t.procRuns = true) :
    execHeartbeatMissed again halted t = .next (t.heartMissed again halted).settle := by
  rw [execHeartbeatMissed, State.orJoins_awake (State.procReset_off running), State.procDo_of_runs running rfl]

theorem execConfigCheck_running {i : BitVec 16} {u : State} (running : t.procRuns = true) (ready : t.on Reg.planeReady = true)
    (due : u = t.toAfter (t.rd Reg.cfgNs) 100000000) :
    execConfigCheck i t = .next ((u.wr Reg.cfgNs (u.now + 1)).cfgCheck i.toNat).settle := by
  subst due
  exact State.procDo_of_runs running (if_pos ready)

theorem execHoldTimeout_due (runs : t.ppRuns = true) (held : t.on Reg.holdActive = true) (once : t.on Reg.holdTimedOut = false)
    (lapsed : t.since (t.rd Reg.holdNs) 200000000 = true) :
    execHoldTimeout t = .next (((t.wr Reg.holdTimedOut 1).raise 225).advance 5).settle :=
  State.ppDo_of_runs runs (if_pos (by simp [held, once, lapsed]))

variable (powered : t.on Reg.corePowered = true) (proc : t.on Reg.procReset = false) (pp : t.on Reg.ppReset = false)
include powered proc pp

theorem execWatchdogExpiry_elapsed (elapsed : t.wdPeriod ≤ t.wdTicks) : execWatchdogExpiry t = .next t.wdExpires.settle := by
  rw [execWatchdogExpiry, State.causeDo_of_runs _ powered pp proc, State.watchBack_awake proc, if_pos elapsed]

theorem execWdtSvc_runs (key : BitVec 32) (e : Int) : execWdtSvc key e t = .next (t.wdService key e).settle := by
  rw [execWdtSvc, State.orJoins_awake proc, State.wdDo_of_runs _ powered proc pp]

theorem execWdtPeriod_runs (v : BitVec 32) : execWdtPeriod v t = .next (t.wdNewPeriod v).settle := by
  rw [execWdtPeriod, State.orJoins_awake proc, State.wdDo_of_runs _ powered proc pp]

theorem execLockstepMismatch_runs : execLockstepMismatch t = .next ((t.raise 228).wantReset 7).settle :=
  State.causeDo_of_runs _ powered pp proc

theorem execForeignWrite_runs : execForeignWrite t = .next ((t.inc16 Reg.WD_FOREIGN).raise 229).settle :=
  State.wdDo_of_runs _ powered proc pp

end

/-- Settles O23: while the watchdog runs, the effect of a foreign write, settled. -/
theorem foreignWriteIsCountedAndRaised : Obligations.ForeignWriteIsCountedAndRaised :=
  fun _ => execForeignWrite_runs

/-- Settles O24: the four branches of the judgement of a service. -/
theorem watchdogServiceIsDecided : Obligations.WatchdogServiceIsDecided := by
  intro key e t powered proc pp decided
  have judged := execWdtSvc_runs powered proc pp key e
  refine ⟨fun noWrite => ⟨fun late => ?late, fun inTime bad => ?refused, fun inTime right opened => ?accepted⟩, ?onWrite⟩
  case late => exact judged.trans (by rw [State.wdService_late decided noWrite late])
  case refused => exact judged.trans (by rw [State.wdService_refused decided noWrite inTime bad]; rfl)
  case accepted => exact judged.trans (by rw [State.wdService_accepted decided noWrite inTime right opened]; rfl)
  case onWrite =>
    intro period at0 d u write stamp before tick
    subst tick
    exact judged.trans (by rw [State.wdService_onWrite decided write stamp before]; rfl)

/-- Settles O25: the first good write sets the period and starts the count; any other is a violation. -/
theorem watchdogPeriodIsSetOnce : Obligations.WatchdogPeriodIsSetOnce := by
  intro v t powered proc pp
  have judged := execWdtPeriod_runs powered proc pp v
  refine ⟨fun unwritten unlocked least most => ?first, fun bad => ?refused⟩
  case refused => exact judged.trans (by rw [State.wdNewPeriod_refused bad]; rfl)
  case first =>
    rw [State.wdNewPeriod_first unwritten unlocked least most rfl] at judged
    refine ⟨_, judged, ?period, ?stamp, State.wdTicks_of_restart ?stamp, State.rd_wr_self _ _ _, ?rest⟩
    case period => rw [State.rd_wr_other (by decide), State.rd_wr_other (by decide), State.rd_wr_self]
    case stamp =>
      rw [State.rd_wr_other (by decide), State.rd_wr_self]
      rfl
    case rest =>
      show onlyChanges t (((t.wr Reg.WD_PERIOD_MS v.toNat).wr Reg.wdNs t.now).wr Reg.wdPeriodWritten 1) _
      exact onlyChanges_wr _ (by decide) (onlyChanges_wr _ (by decide) (onlyChanges_wr _ (by decide) (onlyChanges_refl t _)))

/-- Settles O51: each command is its effect, settled; the conditions pick the branch of the effect. -/
theorem watchdogCommandsComplete : Obligations.WatchdogCommandsComplete := by
  unfold Obligations.WatchdogCommandsComplete
  refine ⟨?expiry, ?expiryJoins, ?serviceAccepted, ?serviceRefused, ?period, ?lockstep, ?foreignWrite, ?heartbeatThird, ?heartbeatFirst,
    ?heartbeatJoins, ?configCheck, ?holdTimeout⟩
  case expiry => exact fun _ powered pp proc => execWatchdogExpiry_elapsed powered proc pp
  case expiryJoins => exact fun _ => execWatchdogExpiry_procBegun
  case serviceAccepted =>
    intro t powered proc pp noWrite opened inTime
    exact (execWdtSvc_runs powered proc pp _ _).trans (by rw [State.wdService_accepted rfl noWrite inTime rfl opened])
  case serviceRefused =>
    intro key t powered proc pp noWrite bad inTime
    exact (execWdtSvc_runs powered proc pp _ _).trans (by rw [State.wdService_refused rfl noWrite inTime bad])
  case period =>
    intro v u t powered proc pp unwritten unlocked range noted
    obtain ⟨least, most⟩ := range
    exact (execWdtPeriod_runs powered proc pp v).trans (by rw [State.wdNewPeriod_first unwritten unlocked least most noted])
  case lockstep => exact fun _ powered pp proc => execLockstepMismatch_runs powered proc pp
  case foreignWrite => exact fun _ => execForeignWrite_runs
  case heartbeatThird =>
    intro halted t running ready counts two
    exact (execHeartbeatMissed_running true halted running).trans (by rw [State.heartMissed_third ready counts two])
  case heartbeatFirst =>
    intro halted t running ready counts
    exact (execHeartbeatMissed_running false halted running).trans (by rw [State.heartMissed_first ready counts])
  case heartbeatJoins => exact fun _ _ => execHeartbeatMissed_procBegun
  case configCheck => exact fun _ _ _ => execConfigCheck_running
  case holdTimeout => exact fun _ => execHoldTimeout_due

end Sys2Proof.Machine

/-!
The resets, the supplies that reset and the root clock (10_faults_watchdog_resets.md R433–R441; 01_architecture.md R24, R32, R33;
08_sensing_and_thermal.md R368; 17_electrical.md R689): how a write of RESET_CMD is judged, and what each command does.
-/
namespace Sys2Proof.Machine

/-! ### The judgement of a write of RESET_CMD (R435; 12_dictionary.md R502, R503) -/

/-- The row of RESET_CMD in the table of R441. -/
def resetCmdRow : SubRow := ⟨1, 1, "RESET_CMD", .u16, .wo, 2, [(0x0C1D, 0x0C1D)], none, 0, 0, []⟩

theorem findRow_resetCmd : findRow 0x1F19 1 = .ok resetCmdRow := rfl

theorem tyDecode_u16 {v : Nat} (h : v < 65536) : tyDecode .u16 v = v := by
  simp [tyDecode, tySigned, tyBytes, Nat.mod_eq_of_lt h]

theorem resetCmdRow_inRange (old : Int) (v : Nat) : resetCmdRow.inRange old v = decide (v = 0x0C1D) := by
  have range : (decide ((0x0C1D : Int) ≤ v) && decide ((v : Int) ≤ 0x0C1D)) = decide (v = 0x0C1D) := by
    rw [Bool.eq_iff_iff]
    simp only [Bool.and_eq_true, decide_eq_true_eq]
    omega
  simp only [SubRow.inRange, resetCmdRow, List.isEmpty_cons, List.any_cons, List.any_nil, List.all_nil, Bool.false_or, Bool.or_false,
    Bool.and_true, range]

theorem offTable_resetCmd (new : Int) : offTable 0x1F19 1 new = false := by
  simp [offTable, odKey]

section
variable (t : State)

/-- RESET_CMD needs a session of level 2 whatever the value. -/
theorem State.writeLevel_resetCmd (old new : Int) : t.writeLevel false 0x1F19 1 resetCmdRow old new = 2 := rfl

/-- Of the rules on the present state only STARTING forbids a write of RESET_CMD. -/
theorem State.stateRefuses_resetCmd (normal : t.bit updRecovery = false) (u : State) (old new : Int) :
    t.stateRefuses u 0x1F19 1 resetCmdRow old new = decide (t.rdN Reg.STATE = 2) := by
  have power : t.refusedLow u 0x1F19 1 new = decide (t.rdN Reg.STATE = 2) := rfl
  have noUnit : t.enablesFailed u 0x1F19 = false := rfl
  have anyState : resetCmdRow.needsConfigured old new = false := rfl
  unfold State.stateRefuses
  rw [if_pos (by decide), power, noUnit, anyState, normal]
  simp

theorem State.ownCheck_resetCmd (new : Int) : t.ownCheck 0x1F19 1 new = 0 := rfl

theorem State.checksOn_resetCmd : t.checksOn 0x1F19 1 = [] := rfl

/-- The checks of R502 in their order: the level, the value, the present state; length and consistency turn nothing away. -/
theorem State.writeAbort_resetCmd {v : Nat} (hv : v < 65536) (normal : t.bit updRecovery = false) (level : Nat) :
    t.writeAbort level false 0x1F19 1 2 v =
      if level < 2 then 0x0203 else if v ≠ 0x0C1D then 0x0401 else if t.rdN Reg.STATE = 2 then 0x0501 else 0 := by
  have value : tyDecode resetCmdRow.ty v = v := tyDecode_u16 hv
  unfold State.writeAbort
  rw [findRow_resetCmd]
  dsimp only
  rw [value, if_neg (by decide), t.writeLevel_resetCmd, resetCmdRow_inRange, offTable_resetCmd, t.stateRefuses_resetCmd normal,
    t.ownCheck_resetCmd, State.checksOn_resetCmd]
  by_cases low : level < 2
  · rw [if_pos low, if_pos low]
  · by_cases other : v = 0x0C1D
    · rw [if_neg low, if_neg low, if_neg (by decide), if_neg (by simp [other]), if_neg (not_not_intro other)]
      simp
    · rw [if_neg low, if_neg low, if_neg (by decide), if_pos (by simp [other]), if_pos other]

end

/-- Settles O27: the four clauses are the four branches of the judgement. -/
theorem resetCommandIsJudged : Obligations.ResetCommandIsJudged := by
  intro level v t normal
  have judged := t.writeAbort_resetCmd v.isLt normal level
  have magic : v = 0x0C1D ↔ v.toNat = 0x0C1D := BitVec.toNat_inj.symm
  have high (allowed : 2 ≤ level) : ¬(level : Nat) < 2 := Nat.not_lt.2 allowed
  refine ⟨fun low => ?level, fun allowed other => ?value, fun allowed reset starting => ?state, fun allowed reset running => ?accepted⟩
  case level => exact judged.trans (if_pos low)
  case value => rw [judged, if_neg (high allowed), if_pos (mt magic.2 other)]
  case state => rw [judged, if_neg (high allowed), if_neg (not_not_intro (magic.1 reset)), if_pos starting]
  case accepted => rw [judged, if_neg (high allowed), if_neg (not_not_intro (magic.1 reset)), if_neg running]

/-! ### Writes of RESET_CMD and of CLK_RETURN (R435; 01_architecture.md R33) -/

theorem State.hook_resetCmd (s t : State) (new : Int) : s.hook t 0x1F19 1 new = t.wantReset 5 := rfl

theorem State.hook_clkReturn (s t : State) (new : Int) : s.hook t 0x1F20 2 new = t.setFld (flag Reg.CLK_STATUS 1) 0 := rfl

section
variable {t u : State} {level : Fin 4} {raw : Nat} (running : t.procRuns = true)
include running

theorem execResetCmd_accepted (ok : t.accepts level 0x1F19 1 0x0C1D = true) (e : raw = (rawOf 0x1F19 1 0x0C1D).2)
    (written : u = t.written 0x1F19 1 raw) : execResetCmd level t = .next ((u.wantReset 5).served 0x1F19).settle := by
  subst e written
  exact (State.orJoins_awake (State.procReset_off running) _ _ _).trans (State.hostWrite_effect running ok (State.hook_resetCmd _ _ _))

theorem execClkReturn_accepted (ok : t.accepts level 0x1F20 2 1 = true) (e : raw = (rawOf 0x1F20 2 1).2)
    (written : u = t.written 0x1F20 2 raw) :
    execClkReturn level t = .next ((u.setFld (flag Reg.CLK_STATUS 1) 0).served 0x1F20).settle := by
  subst e written
  exact State.hostWrite_effect running ok (State.hook_clkReturn _ _ _)

end

section
variable {t : State}

/-! ### The ends of the resets (R425, R433, R436) -/

theorem execProcResetEnd_lapsed (zeroOk : Bool) (proc : t.on Reg.procReset = true) (pp : t.on Reg.ppReset = false)
    (powered : t.on Reg.corePowered = true) (lapsed : t.since (t.rd Reg.procNs) 10000 = true) :
    execProcResetEnd zeroOk t =
      .next (if zeroOk then t.procEnd else (t.procEnd.setFld (flag Reg.SH_STATUS 0) 1).raise 75).settle :=
  if_pos (by simp [proc, pp, powered, lapsed])

theorem execPlaneReady_booted {okA okB : Bool} {i : BitVec 16} (powered : t.on Reg.corePowered = true) (proc : t.on Reg.procReset = false)
    (pp : t.on Reg.ppReset = false) (notReady : t.on Reg.planeReady = false) (nvm : t.on Reg.nvmResetDue = false)
    (started : t.rdN Reg.STATE ≠ 2) :
    execPlaneReady okA okB i t = .next (t.becomeReady (fun b => if b = 0 then okA else okB) i.toNat).settle :=
  if_pos (by simp [powered, proc, pp, notReady, nvm, started])

theorem execPpResetEnd_cool (pp : t.on Reg.ppReset = true) (cool : t.on Reg.dieHold = false) (powered : t.on Reg.corePowered = true) :
    execPpResetEnd t = .next t.ppEnd.settle :=
  if_pos (by simp [pp, cool, powered])

/-! ### The cold resets (R440; 01_architecture.md R24; 17_electrical.md R689) -/

theorem execPowerOnReset_powered (powered : t.on Reg.corePowered = true)
    (kept : ((t.wr Reg.wakeWithPower 0).coldReset 1 false none).bit (flag Reg.SUP_STATUS 5) = true) :
    execPowerOnReset t = .next ((t.wr Reg.wakeWithPower 0).coldReset 1 false none).settle := by
  unfold execPowerOnReset
  dsimp only
  rw [if_pos powered, if_pos kept]
  rfl

theorem execResetN_long {lowNs seconds : Nat} (long : 10000 < lowNs) (powered : t.on Reg.corePowered = true) :
    execResetN lowNs seconds t = .next (t.coldReset 2 true none).settle := by
  unfold execResetN State.resetPin
  rw [if_neg (by omega), if_neg (by omega), if_pos powered]
  rfl

theorem execCoreSupplyUndervoltage_powered (powered : t.on Reg.corePowered = true) :
    execCoreSupplyUndervoltage t = .next (t.coldReset 0x0A (t.on Reg.wakeWithPower) none).settle :=
  if_pos powered

theorem execVsupPowerOn_fromOff {seconds : Nat} (off : t.on Reg.corePowered = false)
    (noWake : (t.wr Reg.wakeWithPower 1).on Reg.wakePend = false) (kept : (t.wr Reg.wakeWithPower 1).on Reg.alwaysOn = true)
    (state : (t.wr Reg.wakeWithPower 1).rd Reg.STATE = 0) :
    execVsupPowerOn seconds t = .next ((t.wr Reg.wakeWithPower 1).coldReset 1 true (some (7, seconds))).settle := by
  unfold execVsupPowerOn
  dsimp only
  rw [if_neg (by simp [off]), if_neg (by simp [noWake]), if_neg (by simp [noWake, kept, state]), if_pos state]
  rfl

/-! ### The root clock and the die (01_architecture.md R32, R33; 08_sensing_and_thermal.md R368) -/

theorem execRootClockLoss_powered (powered : t.on Reg.corePowered = true) :
    execRootClockLoss t = .next (((t.setFld (flag Reg.CLK_STATUS 0) 0).setFld (flag Reg.CLK_STATUS 1) 1).raise 224).settle :=
  State.coreDo_of_powered _ powered

theorem execRootClockReturn_powered (powered : t.on Reg.corePowered = true) :
    execRootClockReturn t = .next (t.setFld (flag Reg.CLK_STATUS 0) 1).settle :=
  State.coreDo_of_powered _ powered

theorem execDieComparator_trips (powered : t.on Reg.corePowered = true) (pp : t.on Reg.ppReset = false) :
    execDieComparator t = .next (((t.raise 500).wr Reg.dieHold 1).wantPpReset 500 true).settle := by
  unfold execDieComparator
  rw [if_neg (by simp [powered]), if_neg (by simp [pp])]
  rfl

theorem execDieComparator_joins (powered : t.on Reg.corePowered = true) (pp : t.on Reg.ppReset = true) :
    execDieComparator t = .next ((t.wr Reg.dieHold 1).dieJoins 500) := by
  unfold execDieComparator
  rw [if_neg (by simp [powered]), if_pos pp]

end

/-- Settles O52: each command is its effect, settled; the conditions pick the branch of the effect. -/
theorem resetCommandsComplete : Obligations.ResetCommandsComplete := by
  unfold Obligations.ResetCommandsComplete
  refine ⟨?resetCmd, ?procResetEnd, ?procResetEndNotZero, ?planeReady, ?ppResetEnd, ?powerOnReset, ?resetN, ?coreSupplyUndervoltage,
    ?vsupPowerOn, ?rootClockLoss, ?clkReturn, ?rootClockReturn, ?dieComparator, ?dieComparatorJoins, ?dieComparatorRelease⟩
  case resetCmd => exact fun _ _ _ _ running => execResetCmd_accepted running
  case procResetEnd => exact fun _ => execProcResetEnd_lapsed true
  case procResetEndNotZero => exact fun _ => execProcResetEnd_lapsed false
  case planeReady => exact fun _ _ _ _ => execPlaneReady_booted
  case ppResetEnd => exact fun _ => execPpResetEnd_cool
  case powerOnReset => exact fun _ => execPowerOnReset_powered
  case resetN => exact fun _ _ _ => execResetN_long
  case coreSupplyUndervoltage => exact fun _ => execCoreSupplyUndervoltage_powered
  case vsupPowerOn => exact fun _ _ => execVsupPowerOn_fromOff
  case rootClockLoss => exact fun _ => execRootClockLoss_powered
  case clkReturn => exact fun _ _ _ _ running => execClkReturn_accepted running
  case rootClockReturn => exact fun _ => execRootClockReturn_powered
  case dieComparator => exact fun _ => execDieComparator_trips
  case dieComparatorJoins => exact fun _ => execDieComparator_joins
  case dieComparatorRelease => exact fun _ => rfl

end Sys2Proof.Machine

/-!
The register store as a function of what its registers read (12_dictionary.md R489, R490): a canonical store lists a register once and at
another value than its reset value, so that registers which read the same are listed the same.
-/
namespace Sys2Proof.Machine

theorem storeCanon_cons {k : Nat} {v : Int} {l : List (Nat × Int)} :
    storeCanon ((k, v) :: l) = true ↔ storeAbove k l = true ∧ v ≠ resetValue k ∧ storeCanon l = true := by
  simp only [storeCanon, Bool.and_eq_true, decide_eq_true_eq, and_assoc]

theorem storeFind_head (k : Nat) (v : Int) (l : List (Nat × Int)) : storeFind k ((k, v) :: l) = some v := if_pos rfl

theorem storeFind_tail {i k : Nat} (h : k ≠ i) (v : Int) (l : List (Nat × Int)) : storeFind i ((k, v) :: l) = storeFind i l := if_neg h

/-- A canonical store lists nothing up to a bound of its keys. -/
theorem storeFind_of_above {i k : Nat} {l : List (Nat × Int)} (canon : storeCanon l = true) (above : storeAbove k l = true) (le : i ≤ k) :
    storeFind i l = none := by
  induction l generalizing k with
  | nil => rfl
  | cons p t ih =>
    obtain ⟨j, v⟩ := p
    obtain ⟨aboveHead, -, tail⟩ := storeCanon_cons.1 canon
    have lt : k < j := of_decide_eq_true above
    rw [storeFind_tail (by omega)]
    exact ih tail aboveHead (by omega)

/-- A canonical store lists no register at its reset value. -/
theorem ne_resetValue_of_listed {k : Nat} {v : Int} {l : List (Nat × Int)} (canon : storeCanon l = true) (listed : storeFind k l = some v) :
    v ≠ resetValue k := by
  induction l with
  | nil => cases listed
  | cons p t ih =>
    obtain ⟨j, w⟩ := p
    obtain ⟨-, head, tail⟩ := storeCanon_cons.1 canon
    by_cases here : j = k
    · subst here
      rw [storeFind_head] at listed
      cases listed
      exact head
    · exact ih tail ((storeFind_tail here w t).symm.trans listed)

/-- Two canonical stores that begin with different keys differ at the lower one. -/
theorem storeFind_ne_of_lt {j k : Nat} {v w : Int} {t u : List (Nat × Int)} (canon : storeCanon ((k, w) :: u) = true) (lt : j < k) :
    storeFind j ((j, v) :: t) ≠ storeFind j ((k, w) :: u) := by
  obtain ⟨above, -, tail⟩ := storeCanon_cons.1 canon
  rw [storeFind_head, storeFind_tail (by omega), storeFind_of_above tail above (by omega)]
  exact Option.some_ne_none v

/-- A canonical store is determined by what it lists under each key. -/
theorem storeCanon_ext {l m : List (Nat × Int)} (hl : storeCanon l = true) (hm : storeCanon m = true)
    (same : ∀ k, storeFind k l = storeFind k m) : l = m := by
  induction l generalizing m with
  | nil =>
    cases m with
    | nil => rfl
    | cons q u => cases (same q.1).trans (storeFind_head q.1 q.2 u)
  | cons p t ih =>
    obtain ⟨j, v⟩ := p
    cases m with
    | nil => cases (same j).symm.trans (storeFind_head j v t)
    | cons q u =>
      obtain ⟨k, w⟩ := q
      rcases Nat.lt_trichotomy j k with lt | rfl | gt
      · exact absurd (same j) (storeFind_ne_of_lt hm lt)
      · obtain ⟨aboveT, -, canonT⟩ := storeCanon_cons.1 hl
        obtain ⟨aboveU, -, canonU⟩ := storeCanon_cons.1 hm
        have heads : some v = some w := by rw [← storeFind_head j v t, same j, storeFind_head]
        have tails (i : Nat) : storeFind i t = storeFind i u := by
          by_cases here : j = i
          · subst here
            rw [storeFind_of_above canonT aboveT (Nat.le_refl _), storeFind_of_above canonU aboveU (Nat.le_refl _)]
          · rw [← storeFind_tail here v t, same i, storeFind_tail here]
        rw [Option.some.inj heads, ih canonT canonU tails]
      · exact absurd (same k).symm (storeFind_ne_of_lt hl gt)

/-- A register reads as what the store lists, else as its reset value. -/
theorem State.rd_eq_getD (s : State) (k : Nat) : s.rd k = (storeFind k s.regs).getD (resetValue k) := by
  unfold State.rd
  cases storeFind k s.regs <;> rfl

/-- Canonical stores list a register alike where it reads the same in both. -/
theorem storeFind_eq_of_rd {s t : State} {k : Nat} (hs : storeCanon s.regs = true) (ht : storeCanon t.regs = true)
    (same : s.rd k = t.rd k) : storeFind k s.regs = storeFind k t.regs := by
  rw [State.rd_eq_getD, State.rd_eq_getD] at same
  cases inS : storeFind k s.regs with
  | none =>
    cases inT : storeFind k t.regs with
    | none => rfl
    | some w => exact absurd (by simpa [inS, inT] using same.symm) (ne_resetValue_of_listed ht inT)
  | some v =>
    cases inT : storeFind k t.regs with
    | none => exact absurd (by simpa [inS, inT] using same) (ne_resetValue_of_listed hs inS)
    | some w => simpa [inS, inT] using same

/-- Settles O9: equal reads are equal listings, and a canonical store is its listings. -/
theorem equalReadsMeanEqualStores : Obligations.EqualReadsMeanEqualStores := by
  intro s t ⟨canonS, _⟩ ⟨canonT, _⟩ same
  exact storeCanon_ext canonS canonT fun k => storeFind_eq_of_rd canonS canonT (same k)

end Sys2Proof.Machine

/-!
The judgement of a write (12_dictionary.md R502–R504), and what a write command does that the judgement turns away (R504, R535;
05_ring_and_holdup.md R251; 09_sequencing_and_states.md R379; 14_images_and_security.md R598).
-/
namespace Sys2Proof.Machine

/-! ### The first checks of R502 -/

section
variable {s : State} {level idx sub len raw : Nat} {near : Bool}

theorem State.writeAbort_of_notImplemented {e : Nat} (missing : findRow idx sub = .error e) :
    s.writeAbort level near idx sub len raw = e := by
  unfold State.writeAbort
  rw [missing]

variable {row : SubRow} (found : findRow idx sub = .ok row)
include found

theorem State.writeAbort_of_readOnly (mode : row.acc = .ro ∨ row.acc = .const) : s.writeAbort level near idx sub len raw = 0x0303 := by
  unfold State.writeAbort
  rw [found]
  exact if_pos (mode.imp_right .inl)

variable (notRo : row.acc ≠ .ro) (notConst : row.acc ≠ .const) (notDomain : row.ty ≠ .domain) (notString : row.ty ≠ .string)
include notRo notConst notDomain notString

theorem State.writeAbort_of_level
    (low : level < s.writeLevel near idx sub row (s.rd (odKey idx sub)) (tyDecode row.ty raw)) :
    s.writeAbort level near idx sub len raw = 0x0203 := by
  unfold State.writeAbort
  rw [found]
  exact (if_neg (by simp [notRo, notConst, notDomain, notString])).trans (if_pos low)

theorem State.writeAbort_of_length
    (allowed : s.writeLevel near idx sub row (s.rd (odKey idx sub)) (tyDecode row.ty raw) ≤ level) (length : len ≠ tyBytes row.ty) :
    s.writeAbort level near idx sub len raw = 0x0304 := by
  unfold State.writeAbort
  rw [found]
  exact (if_neg (by simp [notRo, notConst, notDomain, notString])).trans ((if_neg (Nat.not_lt.2 allowed)).trans (if_pos length))

end

/-- Settles O30: the first four checks of the judgement, each where those before it pass. -/
theorem writeChecksInOrder : Obligations.WriteChecksInOrder := by
  intro s level idx sub len raw
  exact ⟨fun _ => State.writeAbort_of_notImplemented, fun _ => State.writeAbort_of_readOnly, fun _ => State.writeAbort_of_level,
    fun _ => State.writeAbort_of_length⟩

/-! ### A write that the checks turn away (R504) -/

/-- The registers that tell of a write turned away: the counters of aborts, of state aborts and of rejected state commands. -/
abbrev rejectCounters : List Nat := [Reg.Cnt_ABORTS, Reg.STATE_ABORTS, Reg.STATE_REJECTS]

section
variable {s : State} {idx sub : Nat}

/-- All that a write with an abort code can do. -/
theorem State.write_rejected {abort : Nat} (rejected : abort ≠ 0) (raw : Nat) :
    s.write abort idx sub raw = s ∨ s.write abort idx sub raw = s.inc32 Reg.STATE_REJECTS ∨
      (∃ p : Fin 2, odKey idx sub = Reg.RP_CMD p ∧ s.write abort idx sub raw = s.closeBeaten p) ∨
      (odKey idx sub = Reg.UPD_CMD ∧ s.write abort idx sub raw = s.imgFails (s.headerFault (s.blob Reg.CARD_HEADER) true)) := by
  unfold State.write
  rw [if_neg rejected]
  split
  next => exact .inr (.inl rfl)
  next =>
    split
    next close =>
      obtain ⟨-, -, port, key⟩ := close
      have below : idx - 0x2200 < 2 := by omega
      exact .inr (.inr (.inl ⟨⟨idx - 0x2200, below⟩, key, rfl⟩))
    next =>
      split
      next install => exact .inr (.inr (.inr ⟨install.1, rfl⟩))
      next => exact .inl rfl

/-- A write with an abort code counts it, whatever else it does. -/
theorem onlyChanges_hostSet {a : State} {ks : List Nat} {level : Nat} {near : Bool} {v : Int} (aborts : Reg.Cnt_ABORTS ∈ ks)
    (stateAborts : Reg.STATE_ABORTS ∈ ks)
    (h : onlyChanges a (s.write (s.writeAbort level near idx sub (rawOf idx sub v).1 (rawOf idx sub v).2) idx sub (rawOf idx sub v).2) ks) :
    onlyChanges a (s.hostSet level near idx sub v) ks :=
  have counted := onlyChanges_when h (onlyChanges_wr _ aborts h)
  onlyChanges_when counted (onlyChanges_wr _ stateAborts counted)

theorem State.closeBeaten_of_unmarked {p : Nat} (unmarked : s.markedNow markReactOpen p = false) : s.closeBeaten p = s :=
  if_neg (by simp [unmarked])

theorem onlyChanges_closeBeaten (s : State) {p : Nat} {ks : List Nat} (listed : (rpState p).key ∈ ks) :
    onlyChanges s (s.closeBeaten p) ks := by
  unfold State.closeBeaten
  split
  · exact onlyChanges_setFld _ (show (rpCause p).key ∈ ks from listed) (onlyChanges_setFld _ listed (onlyChanges_refl s ks))
  · exact onlyChanges_refl s ks

theorem onlyChanges_stateReject (s : State) {ks : List Nat} (listed : Reg.STATE_REJECTS ∈ ks) :
    onlyChanges s (s.inc32 Reg.STATE_REJECTS) ks := onlyChanges_wr _ listed (onlyChanges_refl s ks)

theorem rpCmd_injective {p q : Fin 2} (e : Reg.RP_CMD p = Reg.RP_CMD q) : p = q := by
  unfold Reg.RP_CMD odKey at e
  omega

theorem rpCmd_ne_updCmd (p : Fin 2) : Reg.RP_CMD p ≠ Reg.UPD_CMD := by
  unfold Reg.RP_CMD Reg.UPD_CMD odKey
  omega

/-- A rejected write that is neither to a ring port's RP_CMD nor to UPD_CMD counts, and no more. -/
theorem onlyChanges_write_rejected {abort : Nat} (rejected : abort ≠ 0) (raw : Nat) (notPort : ∀ p : Fin 2, odKey idx sub ≠ Reg.RP_CMD p)
    (notUpd : odKey idx sub ≠ Reg.UPD_CMD) : onlyChanges s (s.write abort idx sub raw) rejectCounters := by
  obtain nothing | counted | ⟨p, key, _⟩ | ⟨key, _⟩ := State.write_rejected (s := s) (idx := idx) (sub := sub) rejected raw
  · rw [nothing]; exact onlyChanges_refl s _
  · rw [counted]; exact onlyChanges_stateReject s (by decide)
  · exact absurd key (notPort p)
  · exact absurd key notUpd

/-- A rejected close of ring port `p` can beat the close that comes with a reaction (R251). -/
theorem onlyChanges_write_rpCmd {abort : Nat} (rejected : abort ≠ 0) (raw : Nat) {p : Fin 2} (port : odKey idx sub = Reg.RP_CMD p)
    {ks : List Nat} (counts : Reg.STATE_REJECTS ∈ ks) (beaten : onlyChanges s (s.closeBeaten p) ks) :
    onlyChanges s (s.write abort idx sub raw) ks := by
  obtain nothing | counted | ⟨q, key, close⟩ | ⟨key, _⟩ := State.write_rejected (s := s) (idx := idx) (sub := sub) rejected raw
  · rw [nothing]; exact onlyChanges_refl s _
  · rw [counted]; exact onlyChanges_stateReject s counts
  · rw [close, ← rpCmd_injective (port.symm.trans key)]; exact beaten
  · exact absurd (port.symm.trans key) (rpCmd_ne_updCmd p)

/-- A rejected command of UPD_CMD can report the fault of the card's header (R598, log entry 116). -/
theorem onlyChanges_write_updCmd {abort : Nat} (rejected : abort ≠ 0) (raw : Nat) (upd : odKey idx sub = Reg.UPD_CMD) :
    onlyChanges s (s.write abort idx sub raw) rejectCounters ∨
      onlyChanges (s.imgFails (s.headerFault (s.blob Reg.CARD_HEADER) true)) (s.write abort idx sub raw) rejectCounters := by
  obtain nothing | counted | ⟨p, key, _⟩ | ⟨_, install⟩ := State.write_rejected (s := s) (idx := idx) (sub := sub) rejected raw
  · rw [nothing]; exact .inl (onlyChanges_refl s _)
  · rw [counted]; exact .inl (onlyChanges_stateReject s (by decide))
  · exact absurd (key.symm.trans upd) (rpCmd_ne_updCmd p)
  · rw [install]; exact .inr (onlyChanges_refl _ _)

end

/-- Settles O29: of what a rejected write can do (`State.write_rejected`), the key that it names leaves only the clause's own. -/
theorem refusedWriteHasNoSideEffect : Obligations.RefusedWriteHasNoSideEffect := by
  intro level idx sub v t runs refused
  have rejected : t.writeAbort level false idx sub (rawOf idx sub v).1 (rawOf idx sub v).2 ≠ 0 := of_decide_eq_false refused
  refine ⟨t.hostSet level false idx sub v, State.procDo_of_runs runs rfl, fun notEast notWest notUpd => ?elsewhere,
    fun p port => ⟨fun unmarked => ?unbeaten, ?beaten⟩, fun upd => ?install⟩
  case elsewhere =>
    have notPort : ∀ p : Fin 2, odKey idx sub ≠ Reg.RP_CMD p := Fin.forall_fin_two.2 ⟨notEast, notWest⟩
    exact onlyChanges_hostSet (by decide) (by decide) (onlyChanges_write_rejected rejected _ notPort notUpd)
  case unbeaten =>
    have stays : onlyChanges t (t.closeBeaten p) rejectCounters := by
      rw [State.closeBeaten_of_unmarked unmarked]
      exact onlyChanges_refl t _
    exact onlyChanges_hostSet (by decide) (by decide) (onlyChanges_write_rpCmd rejected _ port (by decide) stays)
  case beaten =>
    have listed {k : Nat} (h : k ∈ rejectCounters) : k ∈ (rpState p).key :: rejectCounters := List.mem_cons_of_mem _ h
    exact onlyChanges_hostSet (listed (by decide)) (listed (by decide))
      (onlyChanges_write_rpCmd rejected _ port (listed (by decide)) (onlyChanges_closeBeaten t List.mem_cons_self))
  case install =>
    exact (onlyChanges_write_updCmd rejected _ upd).imp (onlyChanges_hostSet (by decide) (by decide))
      (onlyChanges_hostSet (by decide) (by decide))

end Sys2Proof.Machine

/-!
Every command answers a next state (00_scope.md; 10_faults_watchdog_resets.md): a command is a plane's gate around an effect, and both of a
gate's branches answer one.
-/
namespace Sys2Proof.Machine

/-- The outcome is a next state. -/
def Answers (r : Result) : Prop := ∃ t, r = .next t

namespace Answers

variable {s : State} {f g : State → State} {r r' : Result}

theorem next : Answers (.next s) := ⟨s, rfl⟩

theorem done : Answers s.done := ⟨s.settle, rfl⟩

theorem ite {c : Prop} [Decidable c] (h : Answers r) (h' : Answers r') : Answers (if c then r else r') := by
  split <;> assumption

theorem ppDo : Answers (s.ppDo f) := ⟨_, s.ppDo_eq f⟩

theorem procDo : Answers (s.procDo f) := ⟨_, s.procDo_eq f⟩

theorem wdDo : Answers (s.wdDo f) := ⟨_, s.wdDo_eq f⟩

theorem coreDo : Answers (s.coreDo f) := ⟨_, s.coreDo_eq f⟩

theorem causeDo : Answers (s.causeDo f) := ⟨_, s.causeDo_eq f⟩

theorem orJoins (h : Answers r) : Answers (s.orJoins f g r) := .ite .done h

theorem hostWrite {level idx sub : Nat} {v : Int} : Answers (s.hostWrite level idx sub v) := .procDo

end Answers

/-! ### The commands with a condition of their own -/

section
variable {s : State}

theorem execWdtSvc_answers {key e} : Answers (execWdtSvc key e s) := .orJoins .wdDo

theorem execWdtPeriod_answers {v} : Answers (execWdtPeriod v s) := .orJoins .wdDo

theorem execHeartbeatMissed_answers {again halted} : Answers (execHeartbeatMissed again halted s) := .orJoins .procDo

theorem execResetCmd_answers {level} : Answers (execResetCmd level s) := .orJoins .hostWrite

theorem execProcResetEnd_answers {zeroOk} : Answers (execProcResetEnd zeroOk s) := .ite .done .next

theorem execPlaneReady_answers {okA okB mismatch} : Answers (execPlaneReady okA okB mismatch s) := .ite .done .next

theorem execPowerOnReset_answers : Answers (execPowerOnReset s) := .done

theorem execResetN_answers {lowNs seconds} : Answers (execResetN lowNs seconds s) := .ite .next (.ite .done .done)

theorem execCoreSupplyUndervoltage_answers : Answers (execCoreSupplyUndervoltage s) := .ite .done .next

theorem execPpResetEnd_answers : Answers (execPpResetEnd s) := .ite .done .next

theorem execThermalSample_answers {x v good} : Answers (execThermalSample x v good s) := .ite .done .ppDo

theorem execDieComparator_answers : Answers (execDieComparator s) := .ite .next (.ite .next .done)

theorem execCreditRequest_answers {g data} : Answers (execCreditRequest g data s) := .ite .done .ppDo

theorem execCaptureFrame_answers {node scan} : Answers (execCaptureFrame node scan s) := .ite .done (.ite .done .next)

theorem execNvmOperationDone_answers {ok owner} : Answers (execNvmOperationDone ok owner s) := .ite .done .next

theorem execWake_answers {k x} : Answers (execWake k x s) := .ite .next (.ite (.ite .done .next) (.ite .next (.ite .done .done)))

theorem execWakePendingStart_answers {seconds} : Answers (execWakePendingStart seconds s) := .ite .next .done

theorem execSupplyDip_answers {k} : Answers (execSupplyDip k s) := .ite .done .next

theorem execIoSupplyLoss_answers {k} : Answers (execIoSupplyLoss k s) := .ite .done .next

theorem execIoSupplyReturn_answers {k} : Answers (execIoSupplyReturn k s) := .ite .done .next

theorem execVkeepLow_answers : Answers (execVkeepLow s) := .done

theorem execVsupPowerOn_answers {seconds} : Answers (execVsupPowerOn seconds s) := .ite .done (.ite .next (.ite .done .done))

theorem execDieComparatorRelease_answers : Answers (execDieComparatorRelease s) := .next

theorem execVkeepReturn_answers : Answers (execVkeepReturn s) := .done

end

/-! ### A step -/

/-- A command answers a next state: by its gate, or on each branch of its own condition. -/
theorem exec_answers (i : Instr) (s : State) : Answers (exec i s) := by
  cases i
  case holdTimeout | railTrigger | onTimeEnd | frequencyLockTrim | onTimeClamp | vselCodeTaken | phaseShed | phaseAdd | shedRotation
      | burstEntry | burstRefresh | burstExit | pileIn | pileInRearm | overshootTruncation | brakingEnd | offsetDecayEnd
      | valleyLimit | hiccupEntry | softRetry | fastShortCircuit | phaseZeroCrossing | slowOverload | degradeHoldExpiry | limitExit
      | phaseOpenDetect | phaseSenseRange | leadExpiry | channelSample | offDecayExpiry | inrushTimeout | gateDriveFault
      | directShort | currentLimitReached | faultTimerExpiry | retryTimerExpiry | retryClear | tallyEvaluation | limitWindowEdge
      | borrowNoAnswer | borrowBackoffEnd | leaseHalf | leaseEnd | loanReturnDue | reservationEnd | roundStart | roundJudge
      | positionLost | portDown | positionReturn | testPulseSend | testPulseReceived | pilotMiss | prechargeQualified
      | prechargeTimeout | feedSet | ifwConditionClear | peerForget | holdEntry | holdExit | storageExhausted | chargeEntry
      | cvEntry | chargeDone | storeOvp | chargeNodeLow | propPhaseCage | storageSample | laneTrigger | slotStart | nop | endRun
      | raise | ldi | mov | rds | rdp | wra | wtg | add | sub | addi | mul | neg | abs | min | max | clmp | shl | shr | lpf | clra
      | lda | mac | msu | acca | shra | sata | aclp | skp | fel | winderStep | conversionResult | scanRoundStart | scanRoundEnd
      | monitorCrossing | monitorFilter | autoCheck | checkEnd | nodeOnDelayExpiry | nodePowerGood | nodeQualified | pgTimeout
      | nodeOffDelayExpiry | nodeRampDownDone | offTimeout | nodeFaultCondition | nodeFaultTimerExpiry | lossShutdown | windowExpiry
      | streamSample | wihanReceive | syncSend | syncReceive | syncLoss | electionTimeout | shareSend | shareReceive
      | shareTrimUpdate | memberLoss | memberRejoin | announceReceive | withdrawReceive | faultReceive | shareLoadWindow
      | wihanInLoss | crystalTimeout | startHaltRetry | configuredEntry | lampUnitDone | lampTimeout | supplyHoldRelease
      | currentLimitRelease | wihanInReturn => apply Answers.ppDo
  case configCheck | loanRequestReceived | loanRenewReceived | loanReturnReceived | loanResponseReceived | ifwBroadcast
      | ifwBroadcastRepeat | ifwBroadcastReceive | blockRelease | producerWaitTimeout | scrub | captureTrigger | captureFreeze
      | liveRefresh | epochPeriod | epochCommit | epochFail | pduReceive | read | write | bundle | describe | domainRead
      | domainStart | domainData | domainEnd | domainTransferTimeout | assign | notice | streamSend | saveComplete | frameReceive
      | bufferToGallery | beaconLoss | beaconReceived | ethLinkLoss | asSyncReceive | asSyncLoss | canFrameReceive
      | canReassemblyTimeout | canBusOff | canRecover | readStatus | writePdu | readPdu | spiUnknownCmd | spiCsRise | twPointerWrite
      | inFifo | outFifo | twControllerTimeout | inBandRequest | inBandAnswer | arbitrationLoss | busClear | cardDetect
      | cardRemoval | imgOffer | imgData | imgEnd | imgQuery | imgOfferTimeout | trialConfirm | trialTimeout | sessionOpen
      | sessionProve | sessionClose | sessionOpenLapse | sessionIdle | lock | rma | debugEnter | scanEnter | debugPortRequest
      | debugWindowExpiry | ethLinkUp | canBusError | twStop | twStatusRead | relayResponseReceived => apply Answers.procDo
  case rootClockLoss | pilotOutChange | pilotQualified | directionalTrip | backupOutwardTrip | inwardTrip | switchFailed
      | pilotStuck | pilotStuckClear | pitLogTick | twStretchTimeout | rootClockReturn => apply Answers.coreDo
  case watchdogExpiry | lockstepMismatch => apply Answers.causeDo
  case foreignWrite => apply Answers.wdDo
  case clkReturn | phaseCageReq | cmdOn | cmdOff | ctxCageReq | bindingCommit | tallyDisable | portEnable | rescan | rpCmdClose
      | rpCmdOpen | slotRestart | preset | profileTargetWrite | cmpoClear | checkSwap | checkKnownLevel | nodeHostOff | nodeClear
      | resume | marginWrite | sourceClear | sourceForce | arm | trigHost | plCmd | cfgSave | cfgDefaults | updCmdInstall
      | updCmdActivate | updCmdAbortTrial | updCmdEraseInactive | updCmdRelay | domainEpochWrite | revoke | stateCmdOff
      | stateCmdStandby | stateCmdConfigured | stateCmdRun | stateCmdEconomy | stateCmdPark => apply Answers.hostWrite
  case wdtSvc => exact execWdtSvc_answers
  case wdtPeriod => exact execWdtPeriod_answers
  case heartbeatMissed => exact execHeartbeatMissed_answers
  case resetCmd => exact execResetCmd_answers
  case procResetEnd => exact execProcResetEnd_answers
  case planeReady => exact execPlaneReady_answers
  case powerOnReset => exact execPowerOnReset_answers
  case resetN => exact execResetN_answers
  case coreSupplyUndervoltage => exact execCoreSupplyUndervoltage_answers
  case ppResetEnd => exact execPpResetEnd_answers
  case thermalSample => exact execThermalSample_answers
  case dieComparator => exact execDieComparator_answers
  case creditRequest => exact execCreditRequest_answers
  case captureFrame => exact execCaptureFrame_answers
  case nvmOperationDone => exact execNvmOperationDone_answers
  case wake => exact execWake_answers
  case wakePendingStart => exact execWakePendingStart_answers
  case supplyDip => exact execSupplyDip_answers
  case ioSupplyLoss => exact execIoSupplyLoss_answers
  case ioSupplyReturn => exact execIoSupplyReturn_answers
  case vkeepLow => exact execVkeepLow_answers
  case vsupPowerOn => exact execVsupPowerOn_answers
  case dieComparatorRelease => exact execDieComparatorRelease_answers
  case vkeepReturn => exact execVkeepReturn_answers

/-- Settles O3: a step is the clock edge or the front command, and each answers a next state. -/
theorem everyStepGoesOn : Obligations.EveryStepGoesOn := by
  intro s
  unfold goesOn step
  split
  next => exact ⟨s.idle, rfl⟩
  next c rest _ => exact exec_answers c { s with pending := rest }

/-- Settles O4: what a step keeps of the state without its front command is the queue. -/
theorem stepTakesTheFrontCommand : Obligations.StepTakesTheFrontCommand := fun _ _ e => (step_kept e).queue

/-- Settles O1: a step is defined so. -/
theorem frontCommandRuns : Obligations.FrontCommandRuns := fun _ _ => rfl

end Sys2Proof.Machine

/-!
The commands of the dictionary and of Dengon (12_dictionary.md R489–R535): what each does at a plane that runs. A request's row carries the
request with its tag judged, and goes through `State.request`; a write command is its hook on the register written.
-/
namespace Sys2Proof.Machine

/-! ### A request that a processor reset cuts short (R515) -/

/-- A watchdog expiry cuts a request short only once its period is over; a lockstep mismatch does so at any time. -/
theorem State.cutting_cut {s u : State} {n : Nat} {lost : Bool} (cause : lost = true ∨ s.wdPeriod ≤ s.wdTicks)
    (began : u = (s.wr Reg.cutAfter ((n + 1 : Nat) : Int)).wrB Reg.cutCause lost) (f : State → State) :
    s.cutting (some (n, lost)) f = (f u).wr Reg.cutAfter 0 := by
  have notEarly : ¬(lost = false ∧ s.wdTicks < s.wdPeriod) := by
    rintro ⟨watchdog, early⟩
    cases cause with
    | inl mismatch => simp [watchdog] at mismatch
    | inr elapsed => omega
  subst began
  exact if_neg notEarly

/-! ### A PDU from another device (R521, R525) -/

/-- A PDU to address 63 from another address than the part's own is taken. -/
theorem State.heardFrom_all {s : State} {src : Nat} (other : src ≠ s.ownAddr ∨ s.ownAddr = 0) (f : State → State) :
    s.heardFrom src true f = f (s.inc32 Reg.RX_PDUS) := by
  have noClash : ¬(src = s.ownAddr ∧ s.ownAddr ≠ 0) := by tauto
  exact (if_neg noClash).trans (if_neg (by simp))

/-! ### A write of CFG_CMD (R494, R590) -/

theorem State.hook_cfgCmd (s t : State) (new : Int) : s.hook t 0x1011 1 new = if new = 1 then t.cfgSave else t.cfgDefaults := rfl

theorem decoded_cfgCmd_save : decoded 0x1011 1 (rawOf 0x1011 1 1).2 = 1 := by decide

theorem decoded_cfgCmd_defaults : decoded 0x1011 1 (rawOf 0x1011 1 2).2 = 2 := by decide

section
variable {t : State} (runs : t.procRuns = true)
include runs

theorem execPduReceive_running {port : Fin 9} (bytes : List (BitVec 8)) (portRuns : t.portRuns port = true) (port_ne : port ≠ 0) :
    execPduReceive port bytes t = .next (t.pduReceive port bytes).settle :=
  State.procDo_of_runs runs (if_pos (by simp [portRuns, port_ne]))

theorem execBundle_whole (src : Fin 63) (port : Fin 9) (level : Fin 4) (tid : BitVec 16)
    (entries : List (BitVec 16 × BitVec 8 × List (BitVec 8))) :
    execBundle src port level tid ⟨entries, none⟩ t = .next (t.request src port level tid.toNat 3
      (leBytes 1 entries.length ++ leBytes 3 0 ++ entries.flatMap fun e => objectBytes e.1 e.2.1 e.2.2.length ++ e.2.2)).settle :=
  State.procDo_of_runs runs rfl

theorem execBundle_cut (src : Fin 63) (port : Fin 9) (level : Fin 4) (tid : BitVec 16)
    (entries : List (BitVec 16 × BitVec 8 × List (BitVec 8))) {n : Fin 64} {lost : Bool} {u : State}
    (cause : lost = true ∨ t.wdPeriod ≤ t.wdTicks) (began : u = (t.wr Reg.cutAfter ((n.val + 1 : Nat) : Int)).wrB Reg.cutCause lost) :
    execBundle src port level tid ⟨entries, some (n, lost)⟩ t = .next ((u.request src port level tid.toNat 3
      (leBytes 1 entries.length ++ leBytes 3 0 ++ entries.flatMap fun e => objectBytes e.1 e.2.1 e.2.2.length ++ e.2.2)).wr
        Reg.cutAfter 0).settle :=
  State.procDo_of_runs runs (State.cutting_cut cause began _)

theorem execDomainEnd_cut (src : Fin 63) (port : Fin 9) (level : Fin 4) (tid : BitVec 16) (crc : BitVec 32) {lost : Bool} {u : State}
    (cause : lost = true ∨ t.wdPeriod ≤ t.wdTicks) (began : u = (t.wr Reg.cutAfter 1).wrB Reg.cutCause lost) :
    execDomainEnd src port level tid ⟨crc, some lost⟩ t =
      .next ((u.request src port level tid.toNat 8 (leBytes 4 crc.toNat)).wr Reg.cutAfter 0).settle :=
  State.procDo_of_runs runs (State.cutting_cut cause began _)

theorem execDomainTransferTimeout_ends {src : Fin 63} {x : Transfer}
    (stale : t.transfers.find? (fun y => decide (y.src = src.val) && t.transferStale y) = some x) :
    execDomainTransferTimeout src t = .next (t.transferEnds x).settle :=
  State.procDo_of_runs runs (by rw [stale]; rfl)

theorem execAssign_up (src : Fin 63) (port : Fin 9) (tid : BitVec 16) (unit : BitVec 64) (addr : BitVec 8) (up : t.dengonUp = true) :
    execAssign src port tid unit addr t = .next (t.heardFrom src true fun u =>
      u.serve ⟨src, port, 0, tid.toNat, 9, true, true, none⟩ (leBytes 8 unit.toNat ++ [addr] ++ leBytes 3 0) 0).settle :=
  State.procDo_of_runs runs (if_pos up)

theorem execAssign_taken {src : Fin 63} (port : Fin 9) (tid : BitVec 16) (unit : BitVec 64) (addr : BitVec 8) (up : t.dengonUp = true)
    (other : (src : Nat) ≠ t.ownAddr ∨ t.ownAddr = 0) :
    execAssign src port tid unit addr t = .next ((t.inc32 Reg.RX_PDUS).serve ⟨src, port, 0, tid.toNat, 9, true, true, none⟩
      (leBytes 8 unit.toNat ++ [addr] ++ leBytes 3 0) 0).settle :=
  State.procDo_of_runs runs ((if_pos up).trans (State.heardFrom_all other _))

theorem execNotice_due (due : t.noticeDue = true) : execNotice t = .next t.sendNotice.settle :=
  State.procDo_of_runs runs (if_pos due)

theorem execCfgSave_accepted {level : Fin 4} {u : State} {raw : Nat} (ok : t.accepts level 0x1011 1 1 = true)
    (e : raw = (rawOf 0x1011 1 1).2) (written : u = t.written 0x1011 1 raw) :
    execCfgSave level t = .next (u.cfgSave.served 0x1011).settle := by
  subst e written
  exact State.hostWrite_effect runs ok ((State.hook_cfgCmd _ _ _).trans (if_pos decoded_cfgCmd_save))

theorem execCfgDefaults_accepted {level : Fin 4} {u : State} {raw : Nat} (ok : t.accepts level 0x1011 1 2 = true)
    (e : raw = (rawOf 0x1011 1 2).2) (written : u = t.written 0x1011 1 raw) :
    execCfgDefaults level t = .next (u.cfgDefaults.served 0x1011).settle := by
  subst e written
  refine State.hostWrite_effect runs ok ?_
  rw [State.hook_cfgCmd, decoded_cfgCmd_defaults]
  exact if_neg (by decide)

theorem execSaveComplete_done (done : t.on Reg.saveLeft = false) : execSaveComplete t = .next t.saveDone.settle :=
  State.procDo_of_runs runs (if_neg (by simp [done]))

theorem execCanReassemblyTimeout_stale {k : Fin 2} {id : BitVec 29} (stale : t.canStale k id.toNat = true) :
    execCanReassemblyTimeout k id t = .next ((t.setCanPart k id.toNat none).inc32 Reg.CAN_REASM_FAILS).settle :=
  State.procDo_of_runs runs (if_pos stale)

end

/-- Settles O55: each command, at a plane that runs, is its effect, settled; the conditions pick the branch of the effect. -/
theorem dengonCommandsComplete : Obligations.DengonCommandsComplete := by
  unfold Obligations.DengonCommandsComplete
  refine ⟨?pduReceive, ?read, ?write, ?bundle, ?bundleCut, ?describe, ?domainRead, ?domainStart, ?domainData, ?domainEnd, ?domainEndCut,
    ?domainTransferTimeout, ?assign, ?assignTaken, ?notice, ?streamSend, ?cfgSave, ?saveComplete, ?cfgDefaults, ?canFrameReceive,
    ?canReassemblyTimeout⟩
  case pduReceive => exact fun _ bytes _ runs => execPduReceive_running runs bytes
  case read =>
    exact fun src port level tid idx sub t runs _ => (State.procDo_of_runs runs rfl : execRead src port level tid idx sub t = _)
  case write =>
    exact fun src port level tid idx sub value t runs _ =>
      (State.procDo_of_runs runs rfl : execWrite src port level tid idx sub value t = _)
  case bundle => exact fun src port level tid entries _ runs _ => execBundle_whole runs src port level tid entries
  case bundleCut => exact fun src port level tid entries _ _ _ _ runs _ => execBundle_cut runs src port level tid entries
  case describe =>
    exact fun src port level tid idx sub t runs _ => (State.procDo_of_runs runs rfl : execDescribe src port level tid idx sub t = _)
  case domainRead =>
    exact fun src port level tid idx sub offset count t runs _ =>
      (State.procDo_of_runs runs rfl : execDomainRead src port level tid idx sub offset count t = _)
  case domainStart =>
    exact fun src port level tid idx sub total t runs _ =>
      (State.procDo_of_runs runs rfl : execDomainStart src port level tid idx sub total t = _)
  case domainData =>
    exact fun src port level tid offset data t runs _ =>
      (State.procDo_of_runs runs rfl : execDomainData src port level tid offset data t = _)
  case domainEnd =>
    exact fun src port level tid crc t runs _ => (State.procDo_of_runs runs rfl : execDomainEnd src port level tid ⟨crc, none⟩ t = _)
  case domainEndCut => exact fun src port level tid crc _ _ _ runs _ => execDomainEnd_cut runs src port level tid crc
  case domainTransferTimeout => exact fun _ _ _ runs => execDomainTransferTimeout_ends runs
  case assign => exact fun src port tid unit addr _ runs => execAssign_up runs src port tid unit addr
  case assignTaken => exact fun _ port tid unit addr _ runs => execAssign_taken runs port tid unit addr
  case notice => exact fun _ runs => execNotice_due runs
  case streamSend => exact fun t runs => (State.procDo_of_runs runs rfl : execStreamSend t = _)
  case cfgSave => exact fun _ _ _ _ runs => execCfgSave_accepted runs
  case saveComplete => exact fun _ runs => execSaveComplete_done runs
  case cfgDefaults => exact fun _ _ _ _ runs => execCfgDefaults_accepted runs
  case canFrameReceive => exact fun k id data t runs => (State.procDo_of_runs runs rfl : execCanFrameReceive k id data t = _)
  case canReassemblyTimeout => exact fun _ _ _ runs => execCanReassemblyTimeout_stale runs

end Sys2Proof.Machine

/-!
The commands of the network links (13_links.md R537–R550): what each does at a plane that runs. The conditions that a rule puts on the port
pick the branch of the effect.
-/
namespace Sys2Proof.Machine

section
variable {t : State} (runs : t.procRuns = true)
include runs

theorem execBufferToGallery_port {c : Fin 9} (port : c ≠ 0) : execBufferToGallery c t = .next (t.bufferOut c).settle :=
  State.procDo_of_runs runs (if_neg port)

/-! ### 10BASE-T1S (R540) -/

theorem execBeaconLoss_falls (port : t.portRuns 1 = true) (plca : t.bit (flag Reg.T1S_CTRL 1) = true)
    (follower : t.on Reg.PLCA_NODE_ID = true) (once : t.on Reg.beaconOut = false) (silent : t.since (t.rd Reg.beaconNs) 1000000 = true) :
    execBeaconLoss t = .next (((t.setFld t1sActive 0).wr Reg.beaconOut 1).raise 233).settle :=
  State.procDo_of_runs runs (if_pos (by simp [port, plca, follower, once, silent]))

/-- A loss already taken, and BEACONs that still come, change nothing. -/
theorem execBeaconLoss_stays (kept : t.on Reg.beaconOut = true ∨ t.since (t.rd Reg.beaconNs) 1000000 = false) :
    execBeaconLoss t = .next t.settle := by
  refine State.procDo_of_runs runs (if_neg ?_)
  cases kept with
  | inl taken => simp [taken]
  | inr heard => simp [heard]

theorem execBeaconReceived_sets (port : t.portRuns 1 = true) (plca : t.bit (flag Reg.T1S_CTRL 1) = true) :
    execBeaconReceived t = .next (((t.setFld t1sActive 1).wr Reg.beaconNs t.now).wr Reg.beaconOut 0).settle :=
  State.procDo_of_runs runs (if_pos (by simp [port, plca]))

/-! ### Ethernet (R542–R545) -/

theorem execEthLinkLoss_clears (port : t.portRuns 2 = true) (link : t.bit ethLink = true) :
    execEthLinkLoss t = .next ((t.setFld ethLink 0).raise 234).settle :=
  State.procDo_of_runs runs (if_pos (by simp [port, link]))

/-- With SPEED at auto the speed of the in-band status is taken. -/
theorem execEthLinkUp_auto (speed : Fin 3) (port : t.portRuns 2 = true) (auto : t.fld Bit.ETH_CTRL_SPEED = 0) :
    execEthLinkUp speed t = .next ((t.setFld ethLink 1).setFld ethSpeed (speed + 1)).settle :=
  State.procDo_of_runs runs ((if_pos port).trans (congrArg ((t.setFld ethLink 1).setFld ethSpeed) (if_pos auto)))

theorem execAsSyncLoss_unlocks (port : t.portRuns 2 = true) (enabled : t.bit Bit.ETH_CTRL_AS_EN = true) (once : t.on Reg.asOut = false)
    (silent : t.since (t.rd Reg.asNs) 3000000000 = true) :
    execAsSyncLoss t = .next ((((t.setFld ethLocked 0).wr Reg.asGoodRun 0).wr Reg.asOut 1).raise 237).settle :=
  State.procDo_of_runs runs (if_pos (by simp [port, enabled, once, silent]))

/-! ### CAN FD (R547, R549) -/

section
variable {k : Fin 2} (port : t.portRuns (3 + k) = true)
include port

theorem execCanBusOff_enters (active : t.fld (canState k) ≠ 2) :
    execCanBusOff k t = .next (((t.setFld (canState k) 2).inc32 (Reg.BUS_OFFS k)).raise (235 + k)).settle :=
  State.procDo_of_runs runs (if_pos (by simp [port, active]))

theorem execCanRecover_returns (auto : t.bit (flag (Reg.CAN_CTRL k) 1) = true) (busOff : t.fld (canState k) = 2) :
    execCanRecover k t = .next (((t.setFld (canState k) 0).wr (Reg.TEC k) 0).wr (Reg.REC k) 0).settle :=
  State.procDo_of_runs runs (if_pos (by simp [port, auto, busOff]))

theorem execCanBusError_counts (tec rec : Fin 256) (active : t.fld (canState k) ≠ 2) :
    execCanBusError k tec rec t = .next (((t.wr (Reg.TEC k) (tec : Nat)).wr (Reg.REC k) (rec : Nat)).setFld (canState k)
      (if 127 < tec.val ∨ 127 < rec.val then 1 else 0)).settle :=
  State.procDo_of_runs runs (if_pos (by simp [port, active]))

end

end

/-- Settles O34: the two branches of a loss, of which 1 ms since the last BEACON is the present instant, and that of a BEACON. -/
theorem beaconLossFallsBack : Obligations.BeaconLossFallsBack := by
  intro t runs port plca
  refine ⟨fun follower once silent => ?loss, fun kept => ?stays, execBeaconReceived_sets runs port plca⟩
  case loss => exact execBeaconLoss_falls runs port plca follower once (decide_eq_true silent)
  case stays => exact execBeaconLoss_stays runs (kept.imp_right fun heard => decide_eq_false (Int.not_le.2 heard))

/-- Settles O56: each command, at a plane that runs, is its effect, settled; the conditions pick the branch of the effect. -/
theorem networkLinkCommandsComplete : Obligations.NetworkLinkCommandsComplete := by
  unfold Obligations.NetworkLinkCommandsComplete
  refine ⟨?frameReceive, ?bufferToGallery, ?beaconLoss, ?beaconReceived, ?ethLinkLoss, ?ethLinkUp, ?asSyncReceive, ?asSyncLoss,
    ?canBusOff, ?canRecover, ?canBusError⟩
  case frameReceive =>
    exact fun c id bytes fcsOk t runs => (State.procDo_of_runs runs rfl : execFrameReceive c id bytes fcsOk t = _)
  case bufferToGallery => exact fun _ _ runs => execBufferToGallery_port runs
  case beaconLoss => exact fun _ runs => execBeaconLoss_falls runs
  case beaconReceived => exact fun _ runs => execBeaconReceived_sets runs
  case ethLinkLoss => exact fun _ runs => execEthLinkLoss_clears runs
  case ethLinkUp => exact fun speed _ runs => execEthLinkUp_auto runs speed
  case asSyncReceive => exact fun late trip t runs => (State.procDo_of_runs runs rfl : execAsSyncReceive ⟨late, trip⟩ t = _)
  case asSyncLoss => exact fun _ runs => execAsSyncLoss_unlocks runs
  case canBusOff => exact fun _ _ runs => execCanBusOff_enters runs
  case canRecover => exact fun _ _ runs => execCanRecover_returns runs
  case canBusError => exact fun _ tec rec _ runs port => execCanBusError_counts runs port tec rec

end Sys2Proof.Machine

/-!
The commands of the host SPI and the two-wire ports (13_links.md R552–R569): what each does at a plane that runs.
-/
namespace Sys2Proof.Machine

section
variable {t : State} (runs : t.procRuns = true)
include runs

/-! ### Host SPI (R553) -/

theorem execSpiUnknownCmd_counts {cmd : BitVec 8} (n : Nat) (notStatus : cmd ≠ 0x0F) (notWrite : cmd ≠ 0x51) (notRead : cmd ≠ 0xA3)
    (selected : t.spiFall.1 = true) :
    execSpiUnknownCmd cmd n t =
      .next ((t.spiFall.2.drive 0 (leBytes 1 (t.spiFall.2.fs0 0) ++ List.replicate n 0xFF)).inc32 Reg.SPI_ERRORS).settle :=
  State.procDo_of_runs runs ((if_neg (not_or.2 ⟨notStatus, not_or.2 ⟨notWrite, notRead⟩⟩)).trans (if_pos selected))

variable {k : Fin 3}

/-! ### A target (R560–R563, R565) -/

theorem execTwPointerWrite_points (v : BitVec 8) (free : t.twFree k = true) (heeds : t.on (Reg.twIgnore k) = false) :
    execTwPointerWrite k v t = .next (t.twPoint k v.toNat).settle :=
  State.procDo_of_runs runs (if_pos (by simp [free, heeds]))

theorem execInFifo_takes (bytes : List (BitVec 8)) (free : t.twFree k = true) : execInFifo k bytes t = .next (t.twWrite k bytes).settle :=
  State.procDo_of_runs runs (if_pos free)

theorem execOutFifo_reads (n : Nat) (free : t.twFree k = true) (heeds : t.on (Reg.twIgnore k) = false) :
    execOutFifo k n t = .next ((t.twStart k).twRead k n).settle :=
  State.procDo_of_runs runs (if_pos (by simp [free, heeds]))

theorem execTwStatusRead_reads (n : Nat) (free : t.twFree k = true) (heeds : t.on (Reg.twIgnore k) = false) :
    execTwStatusRead k n t = .next ((t.twStart k).twStatus k n).settle :=
  State.procDo_of_runs runs (if_pos (by simp [free, heeds]))

theorem execTwStop_target (e : BusEvent) (free : t.twFree k = true) : execTwStop ⟨k, e⟩ t = .next (t.twSees k e).settle :=
  State.procDo_of_runs runs (if_pos free)

theorem execTwStop_controller (e : BusEvent) (notFree : t.twFree k = false) (controller : t.twMaster k = true) :
    execTwStop ⟨k, e⟩ t = .next (t.twMasterSees k e).settle :=
  State.procDo_of_runs runs ((if_neg (by simp [notFree])).trans (if_pos controller))

theorem execTwStretchTimeout_lapsed (powered : t.on Reg.corePowered = true) (elapsed : t.twStretchOver k = true)
    (noWake : t.twWakeOver = false) : execTwStretchTimeout k t = .next (t.twTimeout k).settle := by
  unfold execTwStretchTimeout
  rw [State.coreDo_of_powered _ powered, if_neg (by simp [noWake]), if_pos (by simp [runs, elapsed])]

omit runs in
theorem execTwStretchTimeout_wake (powered : t.on Reg.corePowered = true) (elapsed : t.twWakeOver = true) :
    execTwStretchTimeout 0 t = .next ((t.wr Reg.twWakeNs 0).twTimeout 0).settle := by
  unfold execTwStretchTimeout
  rw [State.coreDo_of_powered _ powered, if_pos ⟨rfl, elapsed⟩]

section
variable (target : t.twTarget k = true)
include target

theorem execInBandRequest_requests (enabled : t.bit (Bit.TW_CTRL_IBR_EN k) = true) (noRequest : t.on (Reg.twIbr k) = false)
    (wanted : t.on (Reg.twIbrWant k) = true) (idle : t.on (Reg.twBus k) = false) (due : t.rd (Reg.twIbrNs k) ≤ t.now) :
    execInBandRequest k t = .next (((t.wr (Reg.twIbr k) 1).wr (Reg.twIbrWant k) 0).wr (Reg.twIbrNs k) t.now).settle :=
  State.procDo_of_runs runs ((if_neg (by simp [target, enabled])).trans ((if_neg (by simp [noRequest])).trans
    (if_pos (by simp [wanted, idle, due]))))

theorem execInBandRequest_releases (enabled : t.bit (Bit.TW_CTRL_IBR_EN k) = true) (request : t.on (Reg.twIbr k) = true)
    (unanswered : t.since (t.rd (Reg.twIbrNs k)) 100000 = true) :
    execInBandRequest k t = .next (((t.wr (Reg.twIbr k) 0).wr (Reg.twIbrWant k) 1).wr (Reg.twIbrNs k) (t.now + 1000000)).settle :=
  State.procDo_of_runs runs ((if_neg (by simp [target, enabled])).trans ((if_pos request).trans (if_pos unanswered)))

variable (answer : BitVec 8) (status pdu : List (BitVec 8)) (request : t.on (Reg.twIbr k) = true)
include request

theorem execInBandAnswer_own (own : answer.toNat = 2 * t.rdN (Reg.TW_ADDR k)) :
    execInBandAnswer k answer status pdu t =
      .next (((t.drive (1 + k) (leBytes 1 (2 * t.rdN (Reg.TW_ADDR k)))).wr (Reg.twIbr k) 0).inc32 (Reg.IBR_COUNT k)).settle :=
  State.procDo_of_runs runs ((if_pos target).trans ((if_neg (by simp [request])).trans (if_pos own)))

theorem execInBandAnswer_other (other : answer.toNat ≠ 2 * t.rdN (Reg.TW_ADDR k)) :
    execInBandAnswer k answer status pdu t = .next (((t.wr (Reg.twIbr k) 0).wr (Reg.twIbrWant k) 1).wr (Reg.twBus k) 1).settle :=
  State.procDo_of_runs runs ((if_pos target).trans ((if_neg (by simp [request])).trans (if_neg other)))

end

/-! ### A controller (R564, R568, R569) -/

section
variable (controller : t.twMaster k = true)
include controller

theorem execTwControllerTimeout_grouped (grouped : t.grouped = true) :
    execTwControllerTimeout k t = .next (((((t.wr (Reg.twBus k) 0).wr (Reg.twXfer k) 0).wr (Reg.twClear k) 2).inc32
      (Reg.TIMEOUTS k)).raise (238 + k)).settle :=
  State.procDo_of_runs runs (if_pos (by simp [controller, grouped]))

theorem execArbitrationLoss_loses (own : Bool) :
    execArbitrationLoss k own t = .next (((t.inc32 (Reg.ARB_LOSSES k)).twLoss k).when own fun u => u.wr (Reg.twServe k) 1).settle :=
  State.procDo_of_runs runs (if_pos controller)

theorem execBusClear_waiting (freed : Bool) (waits : t.on (Reg.twClear k) = true) :
    execBusClear k freed t = .next (t.busClear k freed).settle :=
  State.procDo_of_runs runs ((if_neg (by simp [controller])).trans (if_pos waits))

end

end

/-- Settles O57: each command, at a plane that runs, is its effect, settled; the conditions pick the branch of the effect. -/
theorem localLinkCommandsComplete : Obligations.LocalLinkCommandsComplete := by
  unfold Obligations.LocalLinkCommandsComplete
  refine ⟨?readStatus, ?writePdu, ?readPdu, ?spiUnknownCmd, ?spiCsRise, ?twPointerWrite, ?inFifo, ?outFifo, ?twStatusRead, ?twStopTarget,
    ?twStopController, ?twStretchTimeout, ?twStretchTimeoutWake, ?twControllerTimeout, ?inBandRequest, ?inBandRequestReleases,
    ?inBandAnswerOwn, ?inBandAnswerOther, ?arbitrationLossOwn, ?arbitrationLoss, ?busClear⟩
  case readStatus => exact fun n t runs => (State.procDo_of_runs runs rfl : execReadStatus n t = _)
  case writePdu => exact fun bytes t runs => (State.procDo_of_runs runs rfl : execWritePdu bytes t = _)
  case readPdu => exact fun n t runs => (State.procDo_of_runs runs rfl : execReadPdu n t = _)
  case spiUnknownCmd => exact fun _ n _ runs => execSpiUnknownCmd_counts runs n
  case spiCsRise => exact fun t runs => (State.procDo_of_runs runs rfl : execSpiCsRise t = _)
  case twPointerWrite => exact fun _ v _ runs => execTwPointerWrite_points runs v
  case inFifo => exact fun _ bytes _ runs => execInFifo_takes runs bytes
  case outFifo => exact fun _ n _ runs => execOutFifo_reads runs n
  case twStatusRead => exact fun _ n _ runs => execTwStatusRead_reads runs n
  case twStopTarget => exact fun _ e _ runs => execTwStop_target runs e
  case twStopController => exact fun _ e _ runs => execTwStop_controller runs e
  case twStretchTimeout => exact fun _ _ powered runs => execTwStretchTimeout_lapsed runs powered
  case twStretchTimeoutWake => exact fun _ => execTwStretchTimeout_wake
  case twControllerTimeout => exact fun _ _ runs => execTwControllerTimeout_grouped runs
  case inBandRequest => exact fun _ _ runs => execInBandRequest_requests runs
  case inBandRequestReleases => exact fun _ _ runs => execInBandRequest_releases runs
  case inBandAnswerOwn => exact fun _ answer status pdu _ runs target => execInBandAnswer_own runs target answer status pdu
  case inBandAnswerOther => exact fun _ answer status pdu _ runs target => execInBandAnswer_other runs target answer status pdu
  case arbitrationLossOwn => exact fun _ _ runs controller => execArbitrationLoss_loses runs controller true
  case arbitrationLoss => exact fun _ _ runs controller => execArbitrationLoss_loses runs controller false
  case busClear => exact fun _ freed _ runs controller => execBusClear_waiting runs controller freed

end Sys2Proof.Machine

/-!
The commands of the share link (13_links.md R572–R584): what each does at a power plane that runs.
-/
namespace Sys2Proof.Machine

section
variable {t : State} (runs : t.ppRuns = true) (up : t.wsUp = true)
include runs up

/-! ### SYNC (R575, R576) -/

theorem execSyncReceive_up (addr : Fin 64) (hops : Fin 16) (tMaster : BitVec 64) (corr : BitVec 32) :
    execSyncReceive addr hops tMaster corr t =
      .next ((t.wsCount 12).syncReceive addr hops (tMaster.toNat : Nat) (corr.toNat : Nat)).settle :=
  State.ppDo_of_runs runs (if_pos up)

theorem execSyncLoss_silent (silent : t.syncSilent = true) : execSyncLoss t = .next t.syncLost.settle :=
  State.ppDo_of_runs runs (if_pos (by simp [up, silent]))

theorem execElectionTimeout_silent (silent : t.lowSilent = true) : execElectionTimeout t = .next (t.wr Reg.wsSending 1).settle :=
  State.ppDo_of_runs runs (if_pos (by simp [up, silent]))

/-! ### Messages of another member (R578, R579) -/

section
variable {addr : Fin 64} (group : Fin 16) (other : addr.val ≠ t.ownAddr)
include other

theorem execAnnounceReceive_taken (ann : Fin 256) (stepMa tGate : BitVec 32) :
    execAnnounceReceive addr group ann stepMa tGate t =
      .next ((t.wsCount 10).announceReceive addr group ann (stepMa.toNat : Nat) tGate.toNat).settle :=
  State.ppDo_of_runs runs (if_pos (by simp [up, other]))

theorem execWithdrawReceive_taken (ann : Fin 256) :
    execWithdrawReceive addr group ann t = .next ((t.wsCount 2).withdrawReceive addr group ann).settle :=
  State.ppDo_of_runs runs (if_pos (by simp [up, other]))

theorem execFaultReceive_taken (kind : Fin 16) :
    execFaultReceive addr group kind t = .next ((t.wsCount 2).faultReceive addr group kind).settle :=
  State.ppDo_of_runs runs (if_pos (by simp [up, other]))

end

/-! ### The load and the input (R581, R582) -/

theorem execShareLoadWindow_counted {symbols : Nat} (counted : t.rd Reg.wsSymbols = (symbols : Nat)) :
    execShareLoadWindow symbols t = .next ((t.toTick 8 10000).loadWindow).settle :=
  State.ppDo_of_runs runs (if_pos (by simp [up, counted]))

theorem execWihanInLoss_first (once : t.on Reg.wsInLost = false) :
    execWihanInLoss t = .next (((t.setFld wsInOk 0).wr Reg.wsInLost 1).raise 241).settle :=
  State.ppDo_of_runs runs (if_pos (by simp [up, once]))

theorem execWihanInReturn_up : execWihanInReturn t = .next ((t.setFld wsInOk 1).wr Reg.wsInLost 0).settle :=
  State.ppDo_of_runs runs (if_pos up)

end

/-- Settles O58: each command, at a plane that runs, is its effect, settled; the conditions pick the branch of the effect. -/
theorem shareLinkCommandsComplete : Obligations.ShareLinkCommandsComplete := by
  unfold Obligations.ShareLinkCommandsComplete
  refine ⟨?wihanReceive, ?syncSend, ?syncReceive, ?syncLoss, ?electionTimeout, ?shareSend, ?announceReceive, ?withdrawReceive,
    ?faultReceive, ?shareLoadWindow, ?wihanInLoss, ?wihanInReturn⟩
  case wihanReceive => exact fun bytes bad t runs => (State.ppDo_of_runs runs rfl : execWihanReceive bytes bad t = _)
  case syncSend => exact fun t runs => (State.ppDo_of_runs runs rfl : execSyncSend t = _)
  case syncReceive => exact fun addr hops tMaster corr _ runs up => execSyncReceive_up runs up addr hops tMaster corr
  case syncLoss => exact fun _ => execSyncLoss_silent
  case electionTimeout => exact fun _ => execElectionTimeout_silent
  case shareSend => exact fun t runs => (State.ppDo_of_runs runs rfl : execShareSend t = _)
  case announceReceive => exact fun _ group ann stepMa tGate _ runs up other => execAnnounceReceive_taken runs up group other ann stepMa tGate
  case withdrawReceive => exact fun _ group ann _ runs up other => execWithdrawReceive_taken runs up group other ann
  case faultReceive => exact fun _ group kind _ runs up other => execFaultReceive_taken runs up group other kind
  case shareLoadWindow => exact fun _ _ runs up => execShareLoadWindow_counted runs up
  case wihanInLoss => exact fun _ => execWihanInLoss_first
  case wihanInReturn => exact fun _ => execWihanInReturn_up

end Sys2Proof.Machine

/-!
The commands of images, installs, trials and the card (14_images_and_security.md R590–R619): what each does at a plane that runs. A command of
UPD_CMD is a write, and its value decides its effect.
-/
namespace Sys2Proof.Machine

/-! ### Writes of UPD_CMD and of DOMAIN_EPOCH (R604–R619) -/

theorem State.hook_updCmd (s t : State) (new : Int) :
    s.hook t 0x6000 1 new = if new = 5 then t.relayStart else t.updCmd new.toNat := rfl

/-- A command is written to UPD_CMD as it is. -/
theorem decoded_updCmd : ∀ v : Fin 6, decoded 0x6000 1 (rawOf 0x6000 1 (v : Nat)).2 = (v : Nat) := by decide

theorem State.hook_domainEpoch (s t : State) (new : Int) : s.hook t 0x6000 9 new = t.epochEval := rfl

section
variable {t u : State} {level : Fin 4} {raw : Nat} (running : t.procRuns = true)
include running

/-- An accepted command of UPD_CMD other than that of the relay. -/
theorem State.hostUpd_accepted {v : Fin 6} (notRelay : v < 5) (ok : t.accepts level 0x6000 1 (v : Nat) = true)
    (e : raw = (rawOf 0x6000 1 (v : Nat)).2) (written : u = t.written 0x6000 1 raw) :
    t.hostWrite level 0x6000 1 (v : Nat) = .next ((u.updCmd v).served 0x6000).settle := by
  subst e written
  refine State.hostWrite_effect running ok ?_
  rw [State.hook_updCmd, decoded_updCmd, if_neg (by omega), Int.toNat_natCast]

theorem execUpdCmdAbortTrial_accepted {b : Nat} (ok : t.accepts level 0x6000 1 3 = true) (e : raw = (rawOf 0x6000 1 3).2)
    (written : u = t.written 0x6000 1 raw) (trial : u.trialBank = some b) :
    execUpdCmdAbortTrial level t = .next ((u.bootEntry b 6 4).served 0x6000).settle := by
  have aborts : u.updCmd 3 = u.bootEntry b 6 4 := by
    unfold State.updCmd
    rw [trial]
    rfl
  rw [← aborts]
  exact State.hostUpd_accepted (v := 3) running (by decide) ok e written

theorem execUpdCmdRelay_accepted (ok : t.accepts level 0x6000 1 5 = true) (e : raw = (rawOf 0x6000 1 5).2)
    (written : u = t.written 0x6000 1 raw) : execUpdCmdRelay level t = .next (u.relayStart.served 0x6000).settle := by
  subst e written
  exact State.hostWrite_effect running ok ((State.hook_updCmd _ _ _).trans (if_pos (decoded_updCmd 5)))

theorem execDomainEpochWrite_accepted {v : BitVec 16} (ok : t.accepts level 0x6000 9 (v.toNat : Nat) = true)
    (e : raw = (rawOf 0x6000 9 (v.toNat : Nat)).2) (written : u = t.written 0x6000 9 raw) :
    execDomainEpochWrite level v t = .next (u.epochEval.served 0x6000).settle := by
  subst e written
  exact State.hostWrite_effect running ok (State.hook_domainEpoch _ _ _)

end

/-! ### Offers, operations, trials and the relay (R593, R607, R608, R614, R615) -/

section
variable {t : State}

theorem execNvmOperationDone_powered (ok : Bool) (owner : Fin 6) (powered : t.on Reg.corePowered = true) :
    execNvmOperationDone ok owner t = .next (t.nvmDone ok owner).settle :=
  if_pos powered

variable (runs : t.procRuns = true)
include runs

theorem execImgOfferTimeout_lapsed (lapsed : t.offerLapsed = true) : execImgOfferTimeout t = .next t.instEnd.settle :=
  State.procDo_of_runs runs (if_pos lapsed)

theorem execTrialConfirm_confirms (held : t.confirmOk = true) (once : t.bootWaits 2 = false)
    (inTime : (t.bootWaits 3 && t.markedNow markTrialOut 0) = false) :
    execTrialConfirm t = .next (t.bootEntry t.activeBank 4 2).settle :=
  State.procDo_of_runs runs ((if_neg (by simp [held, once])).trans (if_neg (by simp [inTime])))

theorem execTrialTimeout_lapsed {b : Nat} (trial : t.trialBank = some b) (lapsed : 300 ≤ t.trialS) (unconfirmed : t.bootWaits 2 = false)
    (once : t.bootWaits 3 = false) :
    execTrialTimeout t =
      .next ((((t.mark markTrialOut 0 0).wr Reg.TRIAL_S t.trialS).wr Reg.trialNs 0).bootEntry b 6 3).settle := by
  refine State.procDo_of_runs runs ?_
  rw [trial]
  exact if_neg (by simp [lapsed, unconfirmed, once])

theorem execRelayResponseReceived_awaited (abort : BitVec 16) (body : List (BitVec 8)) (relays : t.relaying = true)
    (awaited : t.asks.any t.relayAwaits = true) :
    execRelayResponseReceived abort body t =
      .next ({ t with asks := t.asks.filter fun a => !t.relayAwaits a }.relayResponse abort.toNat body).settle :=
  State.procDo_of_runs runs (if_pos (by rw [relays, awaited]; rfl))

end

/-- Settles O59: each command, at a plane that runs, is its effect, settled; the conditions pick the branch of the effect. -/
theorem imageCommandsComplete : Obligations.ImageCommandsComplete := by
  unfold Obligations.ImageCommandsComplete
  refine ⟨?cardDetect, ?cardRemoval, ?updCmdInstall, ?updCmdActivate, ?updCmdAbortTrial, ?updCmdEraseInactive, ?updCmdRelay, ?imgOffer,
    ?imgData, ?imgEnd, ?imgQuery, ?imgOfferTimeout, ?nvmOperationDone, ?trialConfirm, ?trialTimeout, ?domainEpochWrite,
    ?relayResponseReceived⟩
  case cardDetect =>
    exact fun signature dword1 dword2 dword3 qe content t runs =>
      (State.procDo_of_runs runs rfl : execCardDetect signature ⟨dword1, dword2, dword3, qe⟩ content t = _)
  case cardRemoval => exact fun t runs => (State.procDo_of_runs runs rfl : execCardRemoval t = _)
  case updCmdInstall => exact fun _ _ _ _ runs => State.hostUpd_accepted (v := 1) runs (by decide)
  case updCmdActivate => exact fun _ _ _ _ runs => State.hostUpd_accepted (v := 2) runs (by decide)
  case updCmdAbortTrial => exact fun _ _ _ _ _ runs => execUpdCmdAbortTrial_accepted runs
  case updCmdEraseInactive => exact fun _ _ _ _ runs => State.hostUpd_accepted (v := 4) runs (by decide)
  case updCmdRelay => exact fun _ _ _ _ runs => execUpdCmdRelay_accepted runs
  case imgOffer =>
    exact fun src port level tid header t runs _ => (State.procDo_of_runs runs rfl : execImgOffer src port level tid header t = _)
  case imgData =>
    exact fun src port level tid offset data t runs _ =>
      (State.procDo_of_runs runs rfl : execImgData src port level tid offset data t = _)
  case imgEnd => exact fun src port level tid t runs _ => (State.procDo_of_runs runs rfl : execImgEnd src port level tid t = _)
  case imgQuery => exact fun src port level tid t runs _ => (State.procDo_of_runs runs rfl : execImgQuery src port level tid t = _)
  case imgOfferTimeout => exact fun _ runs => execImgOfferTimeout_lapsed runs
  case nvmOperationDone => exact fun ok owner _ => execNvmOperationDone_powered ok owner
  case trialConfirm => exact fun _ runs => execTrialConfirm_confirms runs
  case trialTimeout => exact fun _ _ runs => execTrialTimeout_lapsed runs
  case domainEpochWrite => exact fun _ _ _ _ _ runs => execDomainEpochWrite_accepted runs
  case relayResponseReceived => exact fun abort body _ runs => execRelayResponseReceived_awaited runs abort body

end Sys2Proof.Machine

/-!
The commands of sessions, keys and debug states (14_images_and_security.md R622–R631): what each does at a plane that runs.
-/
namespace Sys2Proof.Machine

theorem State.hook_revoke (s t : State) (new : Int) :
    s.hook t 0x6100 8 new = t.setFld (flag Reg.KEY_MAP (12 + new.toNat)) 1 := rfl

/-- A write of DEBUG_CMD that the checks pass is its command. -/
theorem State.debugWrite_accepted {s : State} {level : Nat} {near : Bool} {v : Int}
    (ok : s.writeAbort level near 0x6100 12 (rawOf 0x6100 12 v).1 (rawOf 0x6100 12 v).2 = 0) (passes : Bool) :
    s.debugWrite level near v passes = s.debugCmd v passes :=
  if_pos ok

section
variable {t : State} (runs : t.procRuns = true)
include runs

/-! ### Sessions (R622–R624) -/

section
variable (src : Fin 63) (port : Fin 9) (tid : BitVec 16) (up : t.dengonUp = true)
include up

theorem execSessionProve_passes :
    execSessionProve src port tid true t = .next (t.heardFrom src false fun u =>
      if u.authSilent then u else u.serve ⟨src, port, 0, tid.toNat, 0x31, false, false, none⟩ [] 1).settle :=
  State.procDo_of_runs runs (if_neg (by simp [up]))

theorem execSessionProve_fails :
    execSessionProve src port tid false t =
      .next (t.heardFrom src false fun u => if u.authSilent then u else u.proveFails).settle :=
  State.procDo_of_runs runs (if_neg (by simp [up]))

end

/-! ### Keys and debug entry (R627–R631) -/

theorem execRevoke_accepted {level k : Fin 4} {u : State} {raw : Nat} (ok : t.accepts level 0x6100 8 (k.val : Nat) = true)
    (e : raw = (rawOf 0x6100 8 (k.val : Nat)).2) (written : u = t.written 0x6100 8 raw) :
    execRevoke level k t = .next ((u.setFld (flag Reg.KEY_MAP (12 + (decoded 0x6100 8 raw).toNat)) 1).served 0x6100).settle := by
  subst e written
  exact State.hostWrite_effect runs ok (State.hook_revoke _ _ _)

theorem execLock_accepted {level : Fin 4} {near : Bool}
    (ok : t.writeAbort level near 0x6100 12 (rawOf 0x6100 12 3).1 (rawOf 0x6100 12 3).2 = 0) :
    execLock level near t = .next (t.debugCmd 3 true).settle :=
  State.procDo_of_runs runs (State.debugWrite_accepted ok true)

theorem execRma_accepted {level : Fin 4} (ok : t.writeAbort level false 0x6100 12 (rawOf 0x6100 12 4).1 (rawOf 0x6100 12 4).2 = 0) :
    execRma level t = .next (t.debugCmd 4 true).settle :=
  State.procDo_of_runs runs (State.debugWrite_accepted ok true)

theorem execDebugEnter_accepted {level : Fin 4} {near : Bool} (passes : Bool)
    (ok : t.writeAbort level near 0x6100 12 (rawOf 0x6100 12 1).1 (rawOf 0x6100 12 1).2 = 0) :
    execDebugEnter level near passes t = .next (t.debugCmd 1 passes).settle :=
  State.procDo_of_runs runs (State.debugWrite_accepted ok passes)

theorem execScanEnter_accepted {level : Fin 4} {near : Bool} (passes : Bool)
    (ok : t.writeAbort level near 0x6100 12 (rawOf 0x6100 12 2).1 (rawOf 0x6100 12 2).2 = 0) :
    execScanEnter level near passes t = .next (t.debugCmd 2 passes).settle :=
  State.procDo_of_runs runs (State.debugWrite_accepted ok passes)

theorem execDebugWindowExpiry_closes (closed : t.windowOpen = false) : execDebugWindowExpiry t = .next (t.wr Reg.dbgWindow 0).settle :=
  State.procDo_of_runs runs (if_neg (by simp [closed]))

end

/-- Settles O60: each command, at a plane that runs, is its effect, settled; the conditions pick the branch of the effect. -/
theorem securityCommandsComplete : Obligations.SecurityCommandsComplete := by
  unfold Obligations.SecurityCommandsComplete
  refine ⟨?sessionOpen, ?sessionProvePasses, ?sessionProveFails, ?sessionClose, ?sessionOpenLapse, ?sessionIdle, ?revoke, ?lock, ?rma,
    ?debugEnter, ?scanEnter, ?debugPortRequest, ?debugWindowExpiry⟩
  case sessionOpen =>
    exact fun src port tid want nonce t runs _ => (State.procDo_of_runs runs rfl : execSessionOpen src port tid want nonce t = _)
  case sessionProvePasses => exact fun src port tid _ runs up _ => execSessionProve_passes runs src port tid up
  case sessionProveFails => exact fun src port tid _ runs up _ => execSessionProve_fails runs src port tid up
  case sessionClose => exact fun src port tid t runs _ => (State.procDo_of_runs runs rfl : execSessionClose src port tid t = _)
  case sessionOpenLapse => exact fun src t runs => (State.procDo_of_runs runs rfl : execSessionOpenLapse src t = _)
  case sessionIdle => exact fun src t runs => (State.procDo_of_runs runs rfl : execSessionIdle src t = _)
  case revoke => exact fun _ _ _ _ _ runs => execRevoke_accepted runs
  case lock => exact fun _ _ _ runs => execLock_accepted runs
  case rma => exact fun _ _ runs => execRma_accepted runs
  case debugEnter => exact fun _ _ passes _ runs => execDebugEnter_accepted runs passes
  case scanEnter => exact fun _ _ passes _ runs => execScanEnter_accepted runs passes
  case debugPortRequest => exact fun ok t runs => (State.procDo_of_runs runs rfl : execDebugPortRequest ok t = _)
  case debugWindowExpiry => exact fun _ runs => execDebugWindowExpiry_closes runs

end Sys2Proof.Machine

/-!
The commands of the start, the lamp check, the wakes and the supplies (15_start_bist_standby.md R636–R662; 16_balls_and_supplies.md
R674–R677): what each does where the part that takes it has power and runs.
-/
namespace Sys2Proof.Machine

section
variable {t : State} (runs : t.ppRuns = true)
include runs

/-! ### The start and the lamp check (R636–R651, R674) -/

/-- A start whose tests find nothing ends in CONFIGURED. -/
theorem execConfiguredEntry_clean {fails : List (Fin 27 × Fin 4096 × BitVec 32 × BitVec 16)} (starting : t.rd Reg.STATE = 2)
    (supplied : t.on Reg.startHeld = false) (notHalted : t.on Reg.startHalted = false) (awake : t.on Reg.procReset = false)
    (clean : fails = []) :
    execConfiguredEntry fails t = .next (t.configure (t.recordClean && !t.on Reg.startFromPp) []).settle := by
  subst clean
  exact State.ppDo_of_runs runs (if_neg (by simp [starting, supplied, notHalted, awake]))

theorem execStartHaltRetry_retries (halted : t.on Reg.startHalted = true) (again : t.rd Reg.haltRun < 3)
    (lapsed : t.since (t.rd Reg.haltNs) 1000000000 = true) :
    execStartHaltRetry t = .next ((t.wr Reg.startHalted 0).wr Reg.startNs t.now).settle :=
  State.ppDo_of_runs runs (if_pos ⟨halted, again, lapsed⟩)

theorem execCrystalTimeout_backup (starting : t.rd Reg.STATE = 2) (once : t.bit (flag Reg.CLK_STATUS 1) = false)
    (lapsed : t.since (t.rd Reg.startNs) 20000000 = true) :
    execCrystalTimeout t = .next (((t.setFld (flag Reg.CLK_STATUS 0) 0).setFld (flag Reg.CLK_STATUS 1) 1).raise 224).settle :=
  State.ppDo_of_runs runs (if_pos ⟨starting, once, lapsed⟩)

/-- A unit that passes its test, with its duration as the timebase has it. -/
theorem execLampUnitDone_passes (coverage : BitVec 16) (tests : t.rd Reg.lampPhase = 1) (unit : t.rdN Reg.lampUnit ≤ 25) :
    execLampUnitDone coverage ((t.now - t.rd Reg.lampUnitNs) / 1000) [] t =
      .next (((t.setFld ⟨Reg.FAILED_MASK, t.rdN Reg.lampUnit, 1⟩ 0).lampEntry (t.rdN Reg.lampUnit) 0 coverage.toNat
        ((t.now - t.rd Reg.lampUnitNs) / 1000)).lampBudget).settle := by
  refine State.ppDo_of_runs runs (if_neg ?_)
  rintro (idle | noUnit | ⟨last, _⟩ | other)
  · exact idle tests
  · omega
  · omega
  · exact other rfl

theorem execSupplyHoldRelease_starts (held : t.on Reg.startHeld = true) (cold : t.on Reg.startFromPp = false) :
    execSupplyHoldRelease t =
      .next (((t.setFld (flag Reg.SUP_STATUS 0) 1).setFld (flag Reg.SUP_STATUS 1) 1).wr Reg.startHeld 0).settle :=
  State.ppDo_of_runs runs ((if_pos held).trans (if_neg (by simp [cold])))

end

section
variable {t : State}

/-! ### Wakes (R653, R654) -/

theorem execWake_starts {k : Fin 5} {x : WakeEvent} (standby : t.rd Reg.STATE = 1) (armed : t.wakeArmed (k.val + 1) = true)
    (seen : t.wakeSeen (k.val + 1) x = true) (off : t.on Reg.corePowered = false) (kept : t.on Reg.alwaysOn = true)
    (supplied : t.on Reg.wakeWithPower = true) :
    execWake k x t = .next (t.coldReset 1 true (some (k.val + 1, x.seconds))).settle := by
  unfold execWake
  dsimp only
  rw [if_neg (by simp [standby, armed, seen]), if_neg (by simp [off]), if_neg (by simp [kept]), if_pos supplied]
  rfl

theorem execWakePendingStart_waits (seconds : Nat) (off : t.on Reg.corePowered = false) (waits : t.on Reg.wakePend = true) :
    execWakePendingStart seconds t = .next ((t.wr Reg.STBY_S (satU 32 seconds)).wr Reg.wakeWithPower 1).settle :=
  if_neg (by simp [off, waits])

/-! ### Supplies (16_balls_and_supplies.md R675–R677) -/

theorem execVkeepReturn_eq (t : State) : execVkeepReturn t = .next (t.setFld (flag Reg.SUP_STATUS 5) 1).settle := rfl

variable (powered : t.on Reg.corePowered = true)
include powered

/-- Outside a start and a power-plane reset a dip asks for one. -/
theorem execSupplyDip_resets {k : Fin 3} {u : State} (dipped : u = t.setFld (flag Reg.SUP_STATUS (if k.val = 2 then 4 else k.val)) 0)
    (notCold : u.coldNow = false) (pp : u.on Reg.ppReset = false) :
    execSupplyDip k t = .next (((((u.noteBefore [Reg.SUP_RESETS, Reg.SUP_LAST]).mark markSupply 0 0).wr Reg.SUP_LAST
      ((k.val + 1 : Nat) : Int)).inc16 Reg.SUP_RESETS).wr Reg.ppReqd 1).settle := by
  subst dipped
  unfold execSupplyDip
  dsimp only
  rw [if_pos powered, if_neg (by simp [notCold]), if_neg (by simp [pp])]
  rfl

/-- VDDIO_RG stops its port. -/
theorem execIoSupplyLoss_rg (present : t.on (Reg.ioStopped 1) = false) :
    execIoSupplyLoss 1 t = .next (forAll (portsOfSupply 1) (fun c v => v.portReset c)
      (((t.setFld (flag Reg.SUP_STATUS 3) 0).wr (Reg.ioStopped 1) 1).inc16 Reg.IO_LOSSES)).settle := by
  unfold execIoSupplyLoss
  dsimp only
  rw [if_pos (by simp [powered, present]), if_neg (by simp)]
  rfl

theorem execIoSupplyReturn_rg (stopped : t.on (Reg.ioStopped 1) = true) :
    execIoSupplyReturn 1 t = .next ((t.setFld (flag Reg.SUP_STATUS 3) 1).wr (Reg.ioStopped 1) 0).settle := by
  unfold execIoSupplyReturn
  dsimp only
  rw [if_pos (by simp [powered, stopped]), if_neg (by simp)]
  rfl

theorem execVkeepLow_supplied (supplied : t.on Reg.wakeWithPower = true) :
    execVkeepLow t = .next (t.setFld (flag Reg.SUP_STATUS 5) 0).settle := by
  unfold execVkeepLow
  dsimp only
  rw [if_pos (by simp [powered, supplied])]
  rfl

end

/-- Settles O53: each command, where it is taken, is its effect, settled; the conditions pick the branch of the effect. -/
theorem startAndStandbyCommandsComplete : Obligations.StartAndStandbyCommandsComplete := by
  unfold Obligations.StartAndStandbyCommandsComplete
  refine ⟨?configuredEntry, ?startHaltRetry, ?crystalTimeout, ?lampUnitDone, ?lampTimeout, ?wake, ?wakePendingStart, ?supplyDip,
    ?supplyHoldRelease, ?ioSupplyLoss, ?ioSupplyReturn, ?vkeepLow, ?vkeepReturn⟩
  case configuredEntry => exact fun _ _ runs => execConfiguredEntry_clean runs
  case startHaltRetry => exact fun _ runs => execStartHaltRetry_retries runs
  case crystalTimeout => exact fun _ runs => execCrystalTimeout_backup runs
  case lampUnitDone => exact fun coverage _ runs => execLampUnitDone_passes runs coverage
  case lampTimeout => exact fun t runs => (State.ppDo_of_runs runs rfl : execLampTimeout t = _)
  case wake => exact fun _ _ _ _ _ _ _ => execWake_starts
  case wakePendingStart => exact fun seconds _ => execWakePendingStart_waits seconds
  case supplyDip => exact fun _ _ _ powered => execSupplyDip_resets powered
  case supplyHoldRelease => exact fun _ runs => execSupplyHoldRelease_starts runs
  case ioSupplyLoss => exact fun _ => execIoSupplyLoss_rg
  case ioSupplyReturn => exact fun _ => execIoSupplyReturn_rg
  case vkeepLow => exact fun _ => execVkeepLow_supplied
  case vkeepReturn => exact execVkeepReturn_eq

end Sys2Proof.Machine
